-- ==== Sys2Proof/Word.lean ====
section
/-! DEFINITION. The word types of the CSG-6416 model: what the spec reads, writes and masks as bits.
Quantities the spec adds and compares (voltages, currents, counts, times) are Nat and Int. -/

namespace Sys2Proof

/-- A byte of a frame, a file or the MRAM (R6: little-endian fields). -/
abbrev Byte := BitVec 8

end Sys2Proof
end

