-- ==== Sys2Proof/Syntax.lean ====
section
/-! DEFINITION. The commands of the CSG-6416: one constructor of `Instr` for each row of the table of
operations and events, with the row's operands. A host write carries the port it comes in by and the value
written; an event at a pin, at a converter or on a line carries the instance it names and what the device
samples there; the tick and the epoch carry their samples (`TickInputs`, `EpochInputs`). -/

namespace Sys2Proof

/-- The port a host access comes in by (R35, R432): EtherCAT or SPI. -/
inductive Port where
  | ecat | spi
  deriving DecidableEq, Repr

/-- A sequencer instruction with its fields (R186 to R197). -/
inductive SeqInstr where
  | nop
  | enable (wait : Bool) (tmo : BitVec 8) (mask : BitVec 16)
  | disable (wait : Bool) (tmo : BitVec 8) (mask : BitVec 16)
  | waitTime (ticks : Bool) (n : BitVec 27)
  | waitStride (lock : Bool) (skip : BitVec 8) (unit : BitVec 12)
  | check (continue_ : Bool) (pol : Bool) (pset : Fin 32) (kind : BitVec 4) (operand : BitVec 16)
  | jump (cond : BitVec 2) (count : BitVec 8) (target : BitVec 8)
  | gait (tmo : BitVec 8) (target : BitVec 6)
  | setout (mask : BitVec 8) (value : BitVec 8)
  | mark (entry : Bool) (log : Bool) (gs : BitVec 6) (id : BitVec 16)
  | slew (rail : Fin 16) (wait : Bool) (code : BitVec 13)
  | seqEnd
  deriving DecidableEq, Repr

/-- An edge at STRIDE_IN or SYNC0 (R36, R37): its sense, its instant in 10 ns relative to the last management tick (negative
where the transition lies before it), and a pulse too short to count. -/
inductive StrideEdge where
  | strideIn (rising : Bool) (instant : Int)
  | sync0 (instant : Int)
  | glitch
  deriving DecidableEq, Repr

/-- The events that take a rail out of burst (R97): IOUT at a tick, VOUT at a beat in mV, `MODE` 0, a new target, a fault of the burst
phase. -/
inductive BurstExit where
  | load
  | undershoot (vout : Nat)
  | mode
  | target
  | fault
  deriving DecidableEq, Repr

/-- Samples that the management tick takes in step 2, and quantities that the beat-level hardware has
accumulated over the tick (R34). A list gives its instances in ascending order; an instance it does not list
reads 0. Voltages are in mV, currents in mA, temperatures in 0.1 °C, powers in mW. `vsys`, `ibus` and
`power` are VSYS, IBUS and the total output power at the beats that no other command has given, as runs of equal value: (mV or mW,
beats), oldest first (R58, R69, R73); `cflyRun` is the worst flying-capacitor deviation at the beats in RUN (R72); `phaseOver` gives, for each
phase, runs of beats with its mean current above 10,000 mA or not. `loss` is the modelled loss but for the LDOs (R499); `dies` are
the twelve die sensors (R498). `crystalRun`: the good crystal cycles in a row up to the tick (R370); `wakeHigh`: the backup-clock edges in a row at which WAKE_N has
been high (R372). `oscCycles` are cycles of the 1 MHz oscillator (R341), `backupEdges` edges of the backup clock in the tick (R359). `revLimited` and `auxLoop`: the charger stands at its reverse current limit, the AUXIN loop holds
its current (R259, R267); `vinLow`, `auxLow`: the longest run of beats of the tick below 15,500 mV,
`harvestLow` of AUXIN below 9,500 mV, `vinMax` and `auxMax` the highest comparator samples (R247, R254); `pack`: runs of beats of pack
current in mA, VBAT in mV, beats (R262); `cvLoop`: the voltage loop controls (R255),
`cvClamp`: the CV target clamps a point (R293); `packid`: PACKID in mV (R264). `pIn`: the mean power
drawn at VSYS (R466); `vbakMax`: the highest VBAK of the tick (R376); `eccCorr`: corrected ECC errors of reads; `nvFail`: bit n, a record of KIND n
is not written from this tick up to the next (R383); `uploadTaken`: the master has taken the last byte of a log upload (R447). -/
structure TickInputs where
  en : Bool := true
  gpIn : BitVec 8 := 0
  gaitHigh : Bool := false
  alarmHigh : Bool := true
  vsys : List (Nat × Nat) := []
  ibus : List (Nat × Nat) := []
  pIn : Nat := 0
  ibusI : Int := 0
  cflyDev : Nat := 0
  cflyRun : Nat := 0
  fdTrim : Bool := false
  power : List (Nat × Nat) := []
  vout : List Nat := []
  iout : List Int := []
  pout : List Nat := []
  phaseI : List Int := []
  phaseOver : List (List (Bool × Nat)) := []
  ilim : BitVec 8 := 0
  neglim : BitVec 8 := 0
  xbLimited : BitVec 4 := 0
  xbPk : BitVec 4 := 0
  ldoIn : List Nat := []
  ldoI : List Int := []
  ldoLimited : BitVec 4 := 0
  ldoDropLow : BitVec 4 := 0
  supV : List Nat := []
  supMin : List Nat := []
  supMax : List Nat := []
  supI : List Int := []
  vin : Nat := 0
  auxin : Nat := 0
  vbat : Nat := 0
  ibat : Int := 0
  revIout : Nat := 0
  revLimited : Bool := false
  auxLoop : Bool := false
  vinLow : Nat := 0
  vinMax : Nat := 0
  auxLow : Nat := 0
  auxMax : Nat := 0
  harvestLow : Nat := 0
  pack : List (Int × Nat × Nat) := []
  cvLoop : Bool := false
  cvClamp : Bool := false
  packid : Nat := 0
  ntcOhm : List Nat := []
  loss : Nat := 0
  dies : List Int := []
  vbak : Nat := 0
  vbakMax : Nat := 3300
  backupEdges : Nat := 0
  crystalRun : Nat := 256
  wakeHigh : Nat := 0
  oscCycles : Nat := 1000
  uploadTaken : Bool := false
  eccCorr : Nat := 0
  nvFail : BitVec 17 := 0
  deriving DecidableEq, Repr

/-- What the estimator's converters deliver for an epoch (R279): runs of samples of CSP − CSN in nV and of BAT in µV, each with how many
samples read so. -/
structure EpochInputs where
  shunt : List (Int × Nat) := []
  bat : List (Nat × Nat) := []
  deriving DecidableEq, Repr

/-- What the stages of boot find (R405, R409, R477): eight samples of the straps (TMODE, ADDR2 to ADDR0), the tests that
fail and those with a finding, corrected ECC errors of its reads, the MRAM words (numbered from 0) with an uncorrectable one, the self-test's time in beats, and the edges of the backup clock
since they were last given. -/
structure BootInputs where
  straps : List (BitVec 4) := []
  failed : BitVec 10 := 0
  findings : BitVec 10 := 0
  eccCorr : Nat := 0
  eccBad : List Nat := []
  duration : Nat := 0
  edges : Nat := 0
  deriving DecidableEq, Repr

/-- The payload of a fast frame (R315), with its sequence number. -/
structure FastFrame where
  seq : BitVec 16
  beat : BitVec 64
  devState : BitVec 8
  pairState : BitVec 8
  secondary : Bool
  pfw : Bool
  shadowDone : Bool
  seqState : BitVec 8
  gaitState : BitVec 8
  prog : BitVec 8
  pc : BitVec 16
  railStates : BitVec 64
  carry : BitVec 16
  release : BitVec 16
  announce : BitVec 16
  good : BitVec 24
  faultMap : BitVec 24
  unack : BitVec 8
  faultState : BitVec 8
  heldCnt : BitVec 16
  quietCnt : BitVec 32
  lastSrc : BitVec 16
  stridePhase : BitVec 16
  strideCount : BitVec 32
  cfgCrc : BitVec 32
  hbRequest : BitVec 16
  hbGrant : BitVec 16
  deriving DecidableEq, Repr

/-- The payload of a slow frame (R316), with its sequence number. -/
structure SlowFrame where
  seq : BitVec 16
  serial : BitVec 32
  roleReq : BitVec 8
  role : BitVec 8
  pairState : BitVec 8
  cfgCrc : BitVec 32
  seqImageCrc : BitVec 32
  stridePeriod : BitVec 32
  strideState : BitVec 8
  retryCnt : BitVec 8
  lockout : BitVec 8
  held : List (BitVec 32)
  targets : List (BitVec 16)
  deriving DecidableEq, Repr

/-- A segment of the bulk image (R330). -/
structure BulkSegment where
  seq : BitVec 16
  index : BitVec 16
  count : BitVec 16
  data : List Byte
  deriving DecidableEq, Repr

/-- A condition of a supervisor channel, in the order of its level bits (R150). -/
inductive SupCond where
  | ovWarn | uvWarn | ocWarn | ov | uv | oc
  deriving DecidableEq, Repr

/-- A source of VSYS (R247). -/
inductive PathSource where
  | none | vin | auxin | bat
  deriving DecidableEq, Repr

/-- A SyncManager as the master has set it (R423): its start address and length, mailbox or three-buffer mode, enabled or not. -/
structure SmReg where
  start : BitVec 16 := 0
  length : BitVec 16 := 0
  mailbox : Bool := false
  enabled : Bool := true
  deriving DecidableEq, Repr

/-- An FMMU as the master has set it (R420): logical address and length, the address in the process RAM, for reads, for writes. -/
structure FmmuReg where
  logical : BitVec 32 := 0
  length : BitVec 16 := 0
  physical : BitVec 16 := 0
  reads : Bool := false
  writes : Bool := false
  deriving DecidableEq, Repr

/-- What the master has set when it asks for a state: SM0 to SM3 (SM4 to SM7 stay disabled and take no setting, R423) and the FMMUs. -/
structure SmConfig where
  sm0 : SmReg := { start := 0x1000, length := 512, mailbox := true }
  sm1 : SmReg := { start := 0x1200, length := 512, mailbox := true }
  sm2 : SmReg := { start := 0x1400 }
  sm3 : SmReg := { start := 0x2000 }
  fmmus : List FmmuReg := []
  deriving DecidableEq, Repr

/-- The DC registers that the master has set (R427): the cycle times of SYNC0 and SYNC1 and the pulse length, in ns. -/
structure DcConfig where
  sync0 : BitVec 32 := 0
  sync1 : BitVec 32 := 0
  pulse : BitVec 32 := 0
  deriving DecidableEq, Repr

/-- An SDO request that changes no entry (R425): the object list, an object's description, an entry's description; and the reads of R443
and R444, for which the table has no row of their own (assumption 149): the start of an upload, of one entry or by complete access, and
the next segment of one, with its toggle. -/
inductive SdoInfoReq where
  | list
  | object (index : BitVec 16)
  | entry (index : BitVec 16) (sub : BitVec 8)
  | upload (index : BitVec 16) (sub : BitVec 8) (complete : Bool)
  | segment (toggle : Bool)
  deriving DecidableEq, Repr

/-- A file name of R426; `other` is any name the table does not list. -/
inductive FoeFile where
  | seqImg | cfgImg | logBin | other
  deriving DecidableEq, Repr

/-- A frame of the SPI port: the bytes that the host clocks in on SPI_SDI, first to last (R432, R434); `dc` is the distributed-clock time
at the tick at which a write in it takes effect (R54, R368). -/
structure SpiFrame where
  bytes : List Byte
  dc : BitVec 64 := 0
  deriving DecidableEq, Repr

/-- The commands of the block, one constructor for each row of the table of operations and events. -/
inductive Instr where
  /-- HOST_WRITE (R35). -/
  | hostWrite (port : Port) (index : BitVec 16) (sub : BitVec 8) (data : List Byte) (dc : BitVec 64)
  /-- MANAGEMENT_TICK (R34). -/
  | managementTick (inp : TickInputs)
  /-- ESTIMATOR_EPOCH (R280). -/
  | estimatorEpoch (inp : EpochInputs)
  /-- STATE_REQ_ACTIVE (R21). -/
  | stateReqActive (port : Port)
  /-- STATE_REQ_DOZE (R29). -/
  | stateReqDoze (port : Port)
  /-- STATE_REQ_STANDBY (R25). -/
  | stateReqStandby (port : Port)
  /-- AUTOSTART (R408). -/
  | autostart
  /-- ENTER_STANDBY (R21). -/
  | enterStandby
  /-- EN_LOW (R24). -/
  | enLow
  /-- VSYS_UV (R21), with VSYS in mV. -/
  | vsysUv (vsys : Nat)
  /-- BACKUP_START (R21), with VSYS, VBAK and VBAT in mV. -/
  | backupStart (vsys : Nat) (vbak : Nat) (vbat : Nat)
  /-- FALL_TO_OFF (R361), with VSYS, VBAK and VBAT in mV. -/
  | fallToOff (vsys : Nat) (vbak : Nat) (vbat : Nat)
  /-- BOOT_BEGIN (R404): VSYS in mV and the backup-clock edges at which it has been good with EN high. -/
  | bootBegin (vsys : Nat) (edges : Nat) (inp : BootInputs)
  /-- END_OF_BOOT (R408). -/
  | endOfBoot
  /-- SYSRST_N_ASSERT (R26). -/
  | sysrstNAssert
  /-- SYSRST_N_RELEASE (R26). -/
  | sysrstNRelease (inp : BootInputs)
  /-- CLK_XTAL_LOST (R32). -/
  | clkXtalLost
  /-- STRIDE_EDGE (R39). -/
  | strideEdge (e : StrideEdge)
  /-- STRIDE_MISSING_EDGE (R39). -/
  | strideMissingEdge
  /-- STRIDE_HOLD_LONG (R43). -/
  | strideHoldLong
  /-- STRIDE_START (R44). -/
  | strideStart
  /-- TIME_CAPTURE (R55). -/
  | timeCapture (port : Port) (v : BitVec 8) (dc : BitVec 64)
  /-- CFG_COMMIT (R47). -/
  | cfgCommit (port : Port) (v : BitVec 32)
  /-- CFG_DISCARD (R46). -/
  | cfgDiscard (port : Port) (v : BitVec 8)
  /-- FD_SURGE (R59), with the beat samples of VSYS since the last given. -/
  | fdSurge (vsys : List (Nat × Nat))
  /-- FD_SURGE_LONG (R59). -/
  | fdSurgeLong
  /-- VSYS_PFW (R60), with the beat samples of VSYS. -/
  | vsysPfw (vsys : List (Nat × Nat))
  /-- PFW_CLEAR (R60), with the beat samples of VSYS. -/
  | pfwClear (vsys : List (Nat × Nat))
  /-- FD_RATIO_MODE (R65). -/
  | fdRatioMode (port : Port) (v : BitVec 8)
  /-- FD_RISING_CHANGE (R66), with the beat samples of VSYS. -/
  | fdRisingChange (vsys : List (Nat × Nat))
  /-- FD_FALLING_CHANGE (R66), with the beat samples of VSYS. -/
  | fdFallingChange (vsys : List (Nat × Nat))
  /-- FD_FORCED_CHANGE (R66), with the beat samples of VSYS. -/
  | fdForcedChange (vsys : List (Nat × Nat))
  /-- FD_SWAP_DONE (R68). -/
  | fdSwapDone
  /-- FD_BALANCE_DONE (R69), with the worst deviation in %. -/
  | fdBalanceDone (dev : Nat)
  /-- FD_CFLY_IMBAL (R71), with the worst deviation in % and its consecutive switching cycles. -/
  | fdCflyImbal (dev : Nat) (cycles : Nat)
  /-- FD_SOFTSTART_DONE (R69), with the beat samples of IBUS since the last given. -/
  | fdSoftstartDone (ibus : List (Nat × Nat))
  /-- FD_START (R69). -/
  | fdStart
  /-- FD_OFF_DELAY (R69). -/
  | fdOffDelay
  /-- FD_STOPPED (R69), with the beat samples of IBUS. -/
  | fdStopped (ibus : List (Nat × Nat))
  /-- FD_VSYS_OV (R71), with the beat samples of VSYS. -/
  | fdVsysOv (vsys : List (Nat × Nat))
  /-- FD_IBUS_OV (R71), with the beat samples of IBUS. -/
  | fdIbusOv (ibus : List (Nat × Nat))
  /-- FD_IBUS_UV (R71), with the beat samples of IBUS. -/
  | fdIbusUv (ibus : List (Nat × Nat))
  /-- FD_OC (R71), with the consecutive cycles at the limit. -/
  | fdOc (cycles : Nat)
  /-- FD_GATE (R71). -/
  | fdGate
  /-- BUDGET_PEAK (R74), with the beat samples of P since the last given. -/
  | budgetPeak (power : List (Nat × Nat))
  /-- BUDGET_OVER (R76). -/
  | budgetOver
  /-- RAIL_ENABLE (R92). -/
  | railEnable (port : Port) (n : Fin 16)
  /-- RAIL_DISABLE (R92). -/
  | railDisable (port : Port) (n : Fin 16)
  /-- RAIL_SOFTSTART_DONE (R91), with VOUT in mV. -/
  | railSoftstartDone (n : Fin 16) (vout : Nat)
  /-- RAIL_SS (R91). -/
  | railSs (n : Fin 16)
  /-- RAIL_SLEW_DONE (R91). -/
  | railSlewDone (n : Fin 16)
  /-- RAIL_RAMPDOWN_DONE (R91), with VOUT in mV. -/
  | railRampdownDone (n : Fin 16) (vout : Nat)
  /-- RAIL_DISCHARGED (R94), with the mean of VOUT over the tick that ends, in mV. -/
  | railDischarged (n : Fin 16) (vout : Nat)
  /-- RAIL_DIS_SLOW (R94). -/
  | railDisSlow (n : Fin 16)
  /-- PHASE_SHED (R95). -/
  | phaseShed (n : Fin 8)
  /-- FAST_ADD (R95), with a phase of the rail and its mean current over the beat in mA. -/
  | fastAdd (n : Fin 8) (p : Fin 8) (i : Int)
  /-- BURST_ENTRY (R96). -/
  | burstEntry (n : Fin 8)
  /-- BURST_START (R98), with VOUT in mV. -/
  | burstStart (n : Fin 8) (vout : Nat)
  /-- BURST_SLOT (R98). -/
  | burstSlot (n : Fin 8)
  /-- BURST_END (R96), with VOUT in mV. -/
  | burstEnd (n : Fin 8) (vout : Nat)
  /-- BURST_EXIT (R97). -/
  | burstExit (n : Fin 8) (cause : BurstExit)
  /-- QW_OPEN (R100), with the edges of each phase and channel inside the window (R105, R130). -/
  | qwOpen (k : Fin 8) (edges : List Nat) (xbEdges : List Nat)
  /-- QW_CLOSE (R101). -/
  | qwClose
  /-- PH_OC (R106), with the consecutive cycles at the peak limit, or a mean current in mA and its consecutive beats. -/
  | phOc (p : Fin 8) (cycles : Nat) (i : Int) (beats : Nat)
  /-- PH_OVL (R106), with runs of beats above 10,000 mA or not since the last given. -/
  | phOvl (p : Fin 8) (runs : List (Bool × Nat))
  /-- PH_NEG (R106), with the consecutive cycles at the negative limit. -/
  | phNeg (p : Fin 8) (cycles : Nat)
  /-- PH_TSD (R106), with the temperature in 0.1 °C. -/
  | phTsd (p : Fin 8) (temp : Int)
  /-- PH_SW (R106), with the consecutive cycles. -/
  | phSw (p : Fin 8) (cycles : Nat)
  /-- PH_DRV (R106). -/
  | phDrv (p : Fin 8)
  /-- PH_IMBAL (R106), with the difference from the mean of the ACTIVE phases in mA and its consecutive cycles. -/
  | phImbal (p : Fin 8) (diff : Int) (cycles : Nat)
  /-- RAIL_PH_LOST (R106). -/
  | railPhLost (n : Fin 8)
  /-- RAIL_REVERSE (R115), with the sum of the currents in mA and its consecutive beats. -/
  | railReverse (n : Fin 16) (sum : Int) (beats : Nat)
  /-- REMOUNT_SHADOW_END (R111), with the difference of the duties in 0.1 % of the period. -/
  | remountShadowEnd (p : Fin 8) (dutyDiff : Nat)
  /-- REMOUNT_RAMP_END (R111). -/
  | remountRampEnd (p : Fin 8)
  /-- PHASE_TAKE_OUT (R113). -/
  | phaseTakeOut (port : Port) (p : Fin 8)
  /-- PHASE_RETURN (R113). -/
  | phaseReturn (port : Port) (p : Fin 8)
  /-- XB_REGION_CHANGE (R127), with IBUS in mV and the consecutive beats of the condition. -/
  | xbRegionChange (c : Fin 4) (ibus : Nat) (beats : Nat)
  /-- XB_SKIP_ENTRY (R128). -/
  | xbSkipEntry (c : Fin 4)
  /-- XB_CL (R129). -/
  | xbCl (c : Fin 4)
  /-- XB_PK (R132), with the consecutive cycles at the peak. -/
  | xbPk (c : Fin 4) (cycles : Nat)
  /-- XB_TSD (R132), with the temperature in 0.1 °C. -/
  | xbTsd (c : Fin 4) (temp : Int)
  /-- XB_SW (R132), with the consecutive cycles. -/
  | xbSw (c : Fin 4) (cycles : Nat)
  /-- XB_DRV (R132). -/
  | xbDrv (c : Fin 4)
  /-- XB_NEG (R132), with the consecutive cycles. -/
  | xbNeg (c : Fin 4) (cycles : Nat)
  /-- LDO_IN_UV (R138), with LDOINl in mV and its consecutive beats. -/
  | ldoInUv (l : Fin 4) (ldoin : Nat) (beats : Nat)
  /-- LDO_CL (R134). -/
  | ldoCl (l : Fin 4)
  /-- LDO_TSD (R138), with the temperature in 0.1 °C. -/
  | ldoTsd (temp : Int)
  /-- AO_RESTART (R137), with LDOIN0 in mV, the temperature in 0.1 °C and the time for which they have been clear in ms. -/
  | aoRestart (ldoin : Nat) (temp : Int) (ms : Nat)
  /-- SUP_OV_WARN (R150), with the last of `n` consecutive samples: mV, mA for a current. -/
  | supOvWarn (m : Fin 24) (v n : Nat)
  /-- SUP_UV_WARN (R150), with the last of `n` consecutive samples: mV, mA for a current. -/
  | supUvWarn (m : Fin 24) (v n : Nat)
  /-- SUP_OC_WARN (R150), with the last of `n` consecutive samples: mV, mA for a current. -/
  | supOcWarn (m : Fin 16) (i n : Nat)
  /-- SUP_OV (R150), with the last of `n` consecutive samples: mV, mA for a current. -/
  | supOv (m : Fin 24) (v n : Nat)
  /-- SUP_UV (R150), with the last of `n` consecutive samples: mV, mA for a current. -/
  | supUv (m : Fin 24) (v n : Nat)
  /-- SUP_OC (R150), with the last of `n` consecutive samples: mV, mA for a current. -/
  | supOc (m : Fin 16) (i n : Nat)
  /-- SUP_CONDITION_END (R150), with the sample. -/
  | supConditionEnd (m : Fin 24) (cond : SupCond) (v : Nat)
  /-- GOOD_RISE (R154), with the last of `n` consecutive samples. -/
  | goodRise (m : Fin 24) (v n : Nat)
  /-- GOOD_FALL (R154), with the last of `n` consecutive samples. -/
  | goodFall (m : Fin 24) (v n : Nat)
  /-- RH_RUN (R167). -/
  | rhRun (port : Port) (v : BitVec 8)
  /-- RH_COMMISSION (R168). -/
  | rhCommission (port : Port) (v : BitVec 16)
  /-- RH_DUE (R167). -/
  | rhDue (n : Fin 12)
  /-- ARB_GRANT (R159). -/
  | arbGrant
  /-- RH_SETTLE_START (R164). -/
  | rhSettleStart
  /-- RH_SETTLE_DONE (R164). -/
  | rhSettleDone
  /-- RH_POINT_DONE (R164, R165), with the amplitudes of error and output in µV and of the current command in µA, each real and
  imaginary. -/
  | rhPointDone (e : Int × Int) (y : Int × Int) (u : Int × Int)
  /-- RH_POINT_ABANDON (R163). -/
  | rhPointAbandon
  /-- RH_RESULTS (R166). -/
  | rhResults
  /-- SEQ_IMAGE (R181). -/
  | seqImage (port : Port) (data : List Byte)
  /-- SEQ_RUN (R214). -/
  | seqRun (port : Port) (v : BitVec 8)
  /-- SEQ_STOP (R205). -/
  | seqStop (port : Port) (v : BitVec 8)
  /-- NOP (R186). -/
  | nop
  /-- ENABLE (R188). -/
  | enable (w : Bool) (tmo : BitVec 8) (mask : BitVec 16)
  /-- ENABLE_WAIT_DONE (R188). -/
  | enableWaitDone
  /-- ENABLE_WAIT_TMO (R188). -/
  | enableWaitTmo
  /-- DISABLE (R189). -/
  | disable (w : Bool) (tmo : BitVec 8) (mask : BitVec 16)
  /-- DISABLE_WAIT_DONE (R189). -/
  | disableWaitDone
  /-- DISABLE_WAIT_TMO (R189). -/
  | disableWaitTmo
  /-- WAIT_TIME (R190). -/
  | waitTime (ticks : Bool) (n : BitVec 27)
  /-- WAIT_TIME_DONE (R184). -/
  | waitTimeDone
  /-- WAIT_STRIDE (R191). -/
  | waitStride (lock : Bool) (skip : BitVec 8) (unit : BitVec 12)
  /-- WAIT_STRIDE_DONE (R191). -/
  | waitStrideDone
  /-- CHECK (R198). -/
  | check (soft : Bool) (pol : Bool) (pset : Fin 32) (kind : BitVec 4) (operand : BitVec 16)
  /-- CHECK_PASS (R198), with the beats for which a pin that is no output has met the condition. -/
  | checkPass (n : Nat)
  /-- CHECK_CHATTER (R198), with the toggles of a pin that is no output. -/
  | checkChatter (n : Nat)
  /-- CHECK_TIMEOUT (R198). -/
  | checkTimeout
  /-- JUMP (R193). -/
  | jump (cond : BitVec 2) (count : BitVec 8) (target : BitVec 8)
  /-- GAIT (R206). -/
  | gait (tmo : BitVec 8) (target : BitVec 6)
  /-- GAIT_ADVANCE (R206), with the consecutive high samples. -/
  | gaitAdvance (n : Nat)
  /-- GAIT_TMO (R206). -/
  | gaitTmo
  /-- GAIT_HOLD_END (R206). -/
  | gaitHoldEnd
  /-- SETOUT (R195). -/
  | setout (mask : BitVec 8) (value : BitVec 8)
  /-- MARK (R196). -/
  | mark (entry : Bool) (log : Bool) (gs : BitVec 6) (id : BitVec 16)
  /-- SLEW (R197). -/
  | slew (rail : Fin 16) (w : Bool) (code : BitVec 13)
  /-- SLEW_WAIT_DONE (R197). -/
  | slewWaitDone
  /-- END (R183). -/
  | seqEnd
  /-- GAITALRM_DETECT (R209), with the consecutive low samples. -/
  | gaitalrmDetect (n : Nat)
  /-- GAIT_ALRM_CMD (R208). -/
  | gaitAlrmCmd (port : Port) (v : BitVec 8)
  /-- GAITALRM_RELEASE (R208). -/
  | gaitalrmRelease
  /-- FFR_REARM (R213). -/
  | ffrRearm (port : Port) (v : BitVec 8)
  /-- FAULT_ACK (R236). -/
  | faultAck (port : Port) (v : BitVec 8)
  /-- AUTO_ACK (R236). -/
  | autoAck
  /-- RELEASE (R233). -/
  | release
  /-- AUTO_RESTART_ENABLE (R234). -/
  | autoRestartEnable
  /-- RETRY_WIN_EXPIRE (R235). -/
  | retryWinExpire
  /-- FAULT_REARM (R226). -/
  | faultRearm (port : Port) (v : BitVec 8)
  /-- LOCKOUT_CLEAR (R237). -/
  | lockoutClear (port : Port) (v : BitVec 16)
  /-- PATH_SOURCE_VALID (R248). -/
  | pathSourceValid (src : PathSource)
  /-- PATH_SWITCH (R248), with the pin of a source in mV and the consecutive beats for which it has been below 15,500 mV. -/
  | pathSwitch (src : PathSource) (mv : Nat) (beats : Nat)
  /-- PATH_AUX_OV (R247), with AUXIN in mV. -/
  | pathAuxOv (mv : Nat)
  /-- BAT_TAKEOVER (R249), with the lower of unfiltered VSYS and the selected source's pin in mV. -/
  | batTakeover (mv : Nat)
  /-- BAT_DISARM (R249), with the selected source's pin in mV and its consecutive beats at or above the level. -/
  | batDisarm (mv : Nat) (beats : Nat)
  /-- PATH_BAT_CUTOFF (R250). -/
  | pathBatCutoff
  /-- BATTERY_START (R251), by an RTC alarm or by WAKE_N, with VBAT in mV. -/
  | batteryStart (alarm : Bool) (vbat : Nat)
  /-- DETECT_DONE (R256), with the PACKID pin in mV. -/
  | detectDone (packid : Nat)
  /-- PRECHARGE_DONE (R255). -/
  | prechargeDone
  /-- CV_ENTRY (R255). -/
  | cvEntry
  /-- CV_TO_CC (R255). -/
  | cvToCc
  /-- END_OF_CHARGE (R257). -/
  | endOfCharge
  /-- RECHARGE (R255). -/
  | recharge
  /-- CHG_TEMP_REGAIN (R258). -/
  | chgTempRegain
  /-- CHG_TIMER (R261). -/
  | chgTimer
  /-- CHG_PRE_TMO (R261). -/
  | chgPreTmo
  /-- COLLAPSE_CONFIRM (R262), with runs of beats since the last given: pack current in mA, VBAT in mV, beats. -/
  | collapseConfirm (pack : List (Int × Nat × Nat))
  /-- REMOVAL_PROBE_DONE (R262), with runs of beats: pack current in mA, VBAT in mV, beats. -/
  | removalProbeDone (pack : List (Int × Nat × Nat))
  /-- CHG_BAT_SHORT (R263), with runs of beats: pack current in mA, VBAT in mV, beats. -/
  | chgBatShort (pack : List (Int × Nat × Nat))
  /-- CHG_BAT_OV (R263), with runs of beats: pack current in mA, VBAT in mV, beats. -/
  | chgBatOv (pack : List (Int × Nat × Nat))
  /-- CHG_CONV (R268), with the consecutive cycles at the peak limit, an undervoltage of a driver supply, the consecutive cycles in which
  a switch node did not follow its gate. -/
  | chgConv (peak : Nat) (drv : Bool) (sw : Nat)
  /-- CHG_FAULT_READ (R269). -/
  | chgFaultRead (port : Port)
  /-- CHG_DET_RETRY (R270). -/
  | chgDetRetry
  /-- MPPT_SWEEP (R265). -/
  | mpptSweep
  /-- MPPT_STEP (R265). -/
  | mpptStep
  /-- REV_START (R266). -/
  | revStart (port : Port)
  /-- REV_STOP (R267). -/
  | revStop (port : Port)
  /-- REV_OTHER_SOURCE (R267), with AUXIN in mV and its consecutive beats above the level. -/
  | revOtherSource (auxin : Nat) (beats : Nat)
  /-- REV_VBAT_LOW (R267). -/
  | revVbatLow
  /-- CHG_REV_SHORT (R267). -/
  | chgRevShort
  /-- EST_HIBERNATE (R284). -/
  | estHibernate
  /-- EST_WAKE (R284), with the pack current in mA and its consecutive beats of the wake comparator. -/
  | estWake (i : Int) (beats : Nat)
  /-- EST_Z_DUE (R287). -/
  | estZDue
  /-- EST_Z_RUN (R287). -/
  | estZRun (port : Port) (v : BitVec 8)
  /-- EST_Z_POINT_DONE (R290), with the samples of the measuring periods, of voltage in µV and of current in µA. -/
  | estZPointDone (v : List Int) (i : List Int)
  /-- EST_Z_POINT_ABANDON (R293); `cv`: the CV clamp binds. -/
  | estZPointAbandon (cv : Bool)
  /-- EST_RESET (R305). -/
  | estReset (port : Port) (v : BitVec 16)
  /-- EST_CHECKPOINT (R306). -/
  | estCheckpoint
  /-- EST_ADC (R279), with the beats without a sample. -/
  | estAdc (beats : Nat)
  /-- FAST_FRAME_SEND (R315). -/
  | fastFrameSend
  /-- FAST_FRAME_RX (R315). -/
  | fastFrameRx (f : FastFrame)
  /-- SLOW_FRAME_RX (R316). -/
  | slowFrameRx (f : SlowFrame)
  /-- BULK_FRAME_RX (R330). -/
  | bulkFrameRx (f : BulkSegment)
  /-- LINK_ALIGN (R317). -/
  | linkAlign
  /-- PAIR_LINK_LOST (R317). -/
  | pairLinkLost
  /-- TAKEOVER_ARM (R323), with the lowest FBn in mV over the last `beats` beats. -/
  | takeoverArm (n : Fin 16) (fb : Nat) (beats : Nat)
  /-- TAKEOVER_EVIDENCE (R323), with the highest FBn in mV over the last `beats` beat samples. -/
  | takeoverEvidence (n : Fin 16) (fb : Nat) (beats : Nat)
  /-- ANNOUNCED_STOP (R322). -/
  | announcedStop (n : Fin 16)
  /-- PAIR_HANDBACK (R326). -/
  | pairHandback (port : Port) (v : BitVec 16)
  /-- JOIN_WAIT_EXPIRE (R329). -/
  | joinWaitExpire
  /-- PAIR_CMD (R334). -/
  | pairCmd (port : Port) (v : BitVec 8)
  /-- WDG_CHECKIN (R346). -/
  | wdgCheckin (port : Port) (t : Fin 16) (tag : BitVec 32)
  /-- WDG_PERIOD_END (R347). -/
  | wdgPeriodEnd (inp : BootInputs)
  /-- WDG_CLK (R342): `n` cycles of the other clock without an edge of the one in use. -/
  | wdgClk (n : Nat) (inp : BootInputs)
  /-- WDG_RST_PULSE_END (R348). -/
  | wdgRstPulseEnd
  /-- WDG_START_DELAY_END (R351). -/
  | wdgStartDelayEnd
  /-- WDG_KEY (R352). -/
  | wdgKey (port : Port) (v : BitVec 16)
  /-- WDG_LOCK (R353). -/
  | wdgLock (port : Port) (v : BitVec 8)
  /-- WDG_CMD (R351). -/
  | wdgCmd (port : Port) (v : BitVec 8)
  /-- WDG_CORE_TRIP (R354), with the oscillator's cycles since the last restart. -/
  | wdgCoreTrip (n : Nat) (inp : BootInputs)
  /-- RTC_CAPTURE (R365). -/
  | rtcCapture (port : Port) (v : BitVec 8)
  /-- RTC_SET (R366). -/
  | rtcSet (port : Port) (v : BitVec 64)
  /-- RTC_WRAP (R363). -/
  | rtcWrap
  /-- TRIM_WINDOW (R367). -/
  | trimWindow
  /-- RTC_CAL_RUN (R368). -/
  | rtcCalRun (port : Port) (v : BitVec 32) (dc : Nat)
  /-- RTC_CAL_DONE (R368). -/
  | rtcCalDone (dc : Nat)
  /-- RTC_OSC_FAIL (R370), with the time since the last crystal edge in µs. -/
  | rtcOscFail (us : Nat)
  /-- RTC_ALARM (R371). -/
  | rtcAlarm
  /-- WAKE_N_ASSERT (R372), with the consecutive backup-clock edges at which WAKE_N has been low. -/
  | wakeNAssert (n : Nat)
  /-- PWRON_SET (R373). -/
  | pwronSet (port : Port)
  /-- PWRON_CLEAR (R373). -/
  | pwronClear (port : Port)
  /-- PWRON_HOLD_EXPIRE (R373). -/
  | pwronHoldExpire
  /-- REC_TRIG_CMD (R388). -/
  | recTrigCmd (port : Port) (v : BitVec 8)
  /-- REC_FLUSH (R393). -/
  | recFlush (port : Port) (v : BitVec 8)
  /-- REC_FLUSH_DONE (R393). -/
  | recFlushDone (fail : Bool)
  /-- REC_CLEAR (R394). -/
  | recClear (port : Port) (v : BitVec 16)
  /-- REC_LOG_UPLOAD (R398). -/
  | recLogUpload (port : Port)
  /-- COM_SAVE (R457). -/
  | comSave (port : Port) (v : BitVec 32)
  /-- COM_RESTORE (R458). -/
  | comRestore (port : Port) (v : BitVec 32)
  /-- CFG_SAVE_DONE (R457). -/
  | cfgSaveDone (fail : Bool)
  /-- CFG_IMAGE (R464). -/
  | cfgImage (port : Port) (data : List Byte)
  /-- CFG_LOCK (R446). -/
  | cfgLock (port : Port) (v : BitVec 8)
  /-- CFG_UNLOCK (R446). -/
  | cfgUnlock (port : Port) (v : BitVec 16)
  /-- ST_RETRY (R415). -/
  | stRetry (port : Port) (v : BitVec 16)
  /-- RETRY_BOOT (R415). -/
  | retryBoot (inp : BootInputs)
  /-- AL_STATE_REQUEST (R422). -/
  | alStateRequest (req : BitVec 8) (sm : SmConfig)
  /-- SM_WDG_EXPIRE (R431). -/
  | smWdgExpire
  /-- PORT_LINK_CHANGE (R421). -/
  | portLinkChange (port : Fin 2) (up : Bool)
  /-- DC_ACTIVATE (R427). -/
  | dcActivate (on : Bool) (dc : DcConfig)
  /-- SII_WRITE (R424); without a value the master reads the word (assumption 149). -/
  | siiWrite (word : BitVec 16) (v : Option (BitVec 16))
  /-- MAILBOX_UNSUPPORTED (R420). -/
  | mailboxUnsupported (type_ : BitVec 8)
  /-- SDO_INFO (R425). -/
  | sdoInfo (req : SdoInfoReq)
  /-- FOE_WRITE (R426). -/
  | foeWrite (file : FoeFile) (password : BitVec 32) (data : List Byte)
  /-- FOE_READ (R426). -/
  | foeRead (file : FoeFile) (password : BitVec 32)
  /-- PD_OUTPUT_COMPLETE (R429). -/
  | pdOutputComplete (data : List Byte) (dc : BitVec 64)
  /-- SPI_NOP (R435). -/
  | spiNop (r : SpiFrame)
  /-- SPI_READ (R435). -/
  | spiRead (r : SpiFrame)
  /-- SPI_WRITE (R435). -/
  | spiWrite (r : SpiFrame)
  /-- SPI_READ_ALL (R435). -/
  | spiReadAll (r : SpiFrame)
  /-- SPI_READ_SEG (R438). -/
  | spiReadSeg (r : SpiFrame)
  /-- SPI_WRITE_SEG (R438). -/
  | spiWriteSeg (r : SpiFrame)
  /-- SPI_PI_READ (R439). -/
  | spiPiRead (r : SpiFrame)
  /-- SPI_PI_WRITE (R439). -/
  | spiPiWrite (r : SpiFrame)
  /-- SPI_EMCY_READ (R440). -/
  | spiEmcyRead (r : SpiFrame)
  /-- SPI_REPEAT (R436). -/
  | spiRepeat (r : SpiFrame)
  /-- SEG_READ_TIMEOUT (R438). -/
  | segReadTimeout
  /-- JOB_RELEASE (R451). -/
  | jobRelease (port : Port) (v : BitVec 16)
  /-- ERR_HISTORY_CLEAR (R456). -/
  | errHistoryClear (port : Port) (v : BitVec 8)
  /-- THERM_SHED (R501). -/
  | thermShed
  /-- THERM_SENSOR (R498). -/
  | thermSensor (x : Fin 12)
  /-- ANGLE_TRIGGER (R388). -/
  | angleTrigger (k : Fin 8)
  /-- EST_Z_POINT_START (R287). -/
  | estZPointStart
  /-- BACKUP_SUPPLY_CHANGE (R359), with VSYS, VBAK and VBAT in mV. -/
  | backupSupplyChange (vsys : Nat) (vbak : Nat) (vbat : Nat)
  /-- VDDIO_LOSS (R471), with VDDIO in mV. -/
  | vddioLoss (vddio : Nat)
  /-- ECAT_PREOP_REACHED (R405). -/
  | ecatPreopReached
  /-- TETHER_FRAME_DISCARDED (R314). -/
  | tetherFrameDiscarded
  /-- LINK_SYMBOL_LOSS (R317), with the longest run of K28.5 symbols on the poorer lane in the last 100 beats. -/
  | linkSymbolLoss (symbols : Nat)
  /-- GAITALRM_LINE_HIGH (R209). -/
  | gaitalrmLineHigh
  /-- HARVEST_LOST (R254), with AUXIN in mV and its consecutive beats below 9,500 mV. -/
  | harvestLost (auxin : Nat) (beats : Nat)
  /-- MASTER_UPLOAD_ABORT (R449). -/
  | masterUploadAbort
  /-- LDOIN0_GOOD (R136), with LDOIN0 in mV. -/
  | ldoin0Good (ldoin : Nat)
  deriving DecidableEq, Repr

end Sys2Proof
end

