-- ==== Sys2Proof/Machine/Fixed.lean ====
section
/-! DEFINITION. The exponential of R298 and the logarithm of R281 in fixed point, in units of 2^-32: power
series over integers, truncated at each step (assumption 9: the spec gives the real functions and no width). Angles and the
least-squares fits of R165 and R294 follow. -/

namespace Sys2Proof.Machine.Fixed

/-- One in units of 2^-32. -/
def one : Nat := 2 ^ 32

/-- ln 2 in units of 2^-32. -/
def ln2 : Nat := 2977044472

/-- Terms of the series of e^(-r) for 0 ≤ r < ln 2, from the term of order `k` on; `t` is the last term. -/
def expTerms (r : Int) : Nat → Int → Int → Int
  | 0, _, _ => 0
  | n + 1, k, t => let u := -(t * r) / ((one : Int) * k); u + expTerms r n (k + 1) u

/-- e^(-num/den) in units of 2^-32; 0 where the exponent passes 40. -/
def expNeg (num den : Nat) : Nat :=
  if den = 0 then 0
  else
    let x := num * one / den
    let k := x / ln2
    if k ≥ 64 then 0
    else ((one : Int) + expTerms (x % ln2 : Nat) 14 1 one).toNat / 2 ^ k

/-- Terms z^(2i+1)/(2i+1) of the inverse hyperbolic tangent; `p` is the last power of z. -/
def atanhTerms (z : Int) : Nat → Int → Int → Int
  | 0, _, _ => 0
  | n + 1, k, p => p / k + atanhTerms z n (k + 2) (p * z / one * z / one)

/-- Halvings or doublings that bring num/den into 1 to 2, at most `n`: the exponent and the scaled pair. -/
def scale : Nat → Int → Nat → Nat → Int × Nat × Nat
  | 0, e, a, b => (e, a, b)
  | n + 1, e, a, b =>
    if a ≥ 2 * b then scale n (e + 1) a (2 * b)
    else if a < b then scale n (e - 1) (2 * a) b
    else (e, a, b)

/-- ln (num/den) in units of 2^-32, for positive num and den. -/
def ln (num den : Nat) : Int :=
  let (e, a, b) := scale 64 0 num den
  let z : Int := ((a : Int) - b) * one / ((a : Int) + b)
  e * ln2 + 2 * atanhTerms z 20 1 z

/-! ## Roots and angles -/

/-- The largest r with r² ≤ n, from bit `b` down. -/
def sqrtBits (n : Nat) : Nat → Nat → Nat
  | 0, r => r
  | b + 1, r => if (r + 2 ^ b) * (r + 2 ^ b) ≤ n then sqrtBits n b (r + 2 ^ b) else sqrtBits n b r

/-- The square root of a number below 2^128, truncated. -/
def sqrt (n : Nat) : Nat := sqrtBits n 64 0

/-- arctan 2^-i in 10^-6 degrees. -/
def atanTable : List Int :=
  [45000000, 26565051, 14036243, 7125016, 3576334, 1789911, 895174, 447614, 223811, 111906, 55953, 27976, 13988, 6994, 3497,
   1749, 874, 437, 219, 109]

/-- A vector with x > 0 turned onto the real axis step by step: its angle in 10^-6 degrees. -/
def turn : List Int → Int → Int → Int → Int → Int
  | [], _, _, _, z => z
  | a :: t, d, x, y, z =>
    if 0 < y then turn t (2 * d) (x + y / d) (y - x / d) (z + a) else turn t (2 * d) (x - y / d) (y + x / d) (z - a)

/-- The angle of a complex number in 10^-6 degrees, above −180° to 180°. -/
def angle (re im : Int) : Int :=
  if re = 0 ∧ im = 0 then 0
  else if re = 0 then (if 0 < im then 90000000 else -90000000)
  else
    let a := turn atanTable 1 (|re| * one) (im * one) 0
    if 0 < re then a else if 0 ≤ im then 180000000 - a else -180000000 - a

/-- Terms of the series of the sine after the one of order `k`, `t`; `x` is the angle, all in units of 2^-32. -/
def sinTerms (x : Int) : Nat → Nat → Int → Int
  | 0, _, _ => 0
  | n + 1, k, t => let u := -(t * x / one * x / one) / ((k + 1) * (k + 2) : Nat); u + sinTerms x n (k + 2) u

/-- The sine of an angle from 0 to π/2, in units of 2^-32. -/
def sinAcute (x : Nat) : Int := x + sinTerms x 9 1 x

/-- sin (2π num/den) in units of 2^-32. -/
def sin (num den : Nat) : Int :=
  let halfPi := 6746518852
  let r := 4 * (num % den)
  let x := r % den * halfPi / den
  match r / den with
  | 0 => sinAcute x
  | 1 => sinAcute (halfPi - x)
  | 2 => -sinAcute x
  | _ => -sinAcute (halfPi - x)

/-! ## Least squares (assumption 26) -/

/-- A point of a grid with the cost of a fit there. -/
abbrev Trial := Nat × Nat × Nat

/-- A trial. -/
def trial (cost : Nat → Nat → Nat) (a b : Nat) : Trial := (a, b, cost a b)

/-- The better of two trials, the first where they are equal. -/
def better (p q : Trial) : Trial := if q.2.2 < p.2.2 then q else p

/-- The best of a trial and its eight neighbours at a distance. -/
def nearBest (cost : Nat → Nat → Nat) (d : Nat) (p : Trial) : Trial :=
  [(p.1 + d, p.2.1), (p.1 - d, p.2.1), (p.1, p.2.1 + d), (p.1, p.2.1 - d), (p.1 + d, p.2.1 + d), (p.1 + d, p.2.1 - d),
   (p.1 - d, p.2.1 + d), (p.1 - d, p.2.1 - d)].foldl (fun q x => better q (trial cost x.1 x.2)) p

/-- Moves to the best neighbour at a distance, at most `n`. -/
def descend (cost : Nat → Nat → Nat) (d : Nat) : Nat → Trial → Trial
  | 0, p => p
  | n + 1, p => let q := nearBest cost d p; if q.2.2 < p.2.2 then descend cost d n q else p

/-- The pair of least cost, sought from a start at distances 2^(k−1) down to 1. -/
def search (cost : Nat → Nat → Nat) : Nat → Trial → Trial
  | 0, p => p
  | k + 1, p => search cost k (descend cost (2 ^ k) 8 p)

end Sys2Proof.Machine.Fixed
end

