-- ==== Sys2Proof/Config.lean ====
section
/-! DEFINITION. What one device fixes and the values the spec leaves open. A free value has no body: a proof
about it holds whatever it is. -/

namespace Sys2Proof.Config

/-- What a counter entry reads when it counts past the largest value of its type; the spec states no result.
The argument is the entry's key. FREE VALUE (assumption 11). -/
opaque cntAfterMax : Nat → Nat

/-- What an entry reads where the spec states no result for it: a value outside its type, a division by zero. The
arguments are the entry's key and the exact value, or the operand of the division. FREE VALUE (assumption 23). -/
opaque unstated : Nat → Int → Nat

/-- The device's number, set at manufacture. FREE VALUE (assumption 12). -/
opaque serialNumber : BitVec 32

/-- `ID.SERIAL`, 0x1018:04 (R1, R455): different on every device, and never 0. -/
def serial : BitVec 32 := if serialNumber = 0 then 1 else serialNumber

/-- The firmware release m and the build b of R455. FREE VALUES (assumption 12). -/
opaque swRelease : Nat
opaque swBuild : Nat

/-- The decimal digits of a number as text, at most `fuel` of them, without leading zeros. -/
def digits : Nat → Nat → List Byte
  | 0, _ => []
  | fuel + 1, n => (if n < 10 then [] else digits fuel (n / 10)) ++ [BitVec.ofNat 8 (48 + n % 10)]

/-- `COM.SW_VER`, 0x100A (R455): the text "2.m.b", m and b of 1 to 5 digits. -/
def swVersion : List Byte := [0x32, 0x2E] ++ digits 5 (swRelease % 100000) ++ [0x2E] ++ digits 5 (swBuild % 100000)

/-- A word of the SII image that the spec does not give (R424). FREE VALUE (assumption 27). -/
opaque siiWord : Nat → BitVec 16

/-- Beats until an SPI read's answer is known (R436): the spec bounds it by 20 µs and gives no value. The argument counts
frames. FREE VALUE (assumption 31). -/
opaque spiDelay : Nat → Nat

/-- The `ST.DETAIL` code of a failed test, which is "test-specific" (R410); the argument is the test's number.
FREE VALUE (assumption 13). -/
opaque testDetail : Nat → BitVec 32

/-- A threshold of R483 in mV, which the spec bounds on both sides; the argument numbers it in the order of the table. FREE VALUE
(assumption 118), taken within the bounds by `Machine.thresholdMv`. -/
opaque threshold : Nat → Nat

end Sys2Proof.Config
end

