-- ==== Sys2Proof/Machine/State.lean ====
section
/-! DEFINITION. The state of the CSG-6416 as plain data: the live object dictionary, the last publication,
and the engines behind the dictionary that the spec describes (time bases, stride clock, staging, power
states, divider, rails, phases, windows, supervisors, rail health, sequencer, GAIT lines, fault collector,
charger, estimator, pair link, watchdog, backup domain, recorder, MRAM, host ports, jobs), and the queue of
the commands that wait. -/

namespace Sys2Proof.Machine

/-! ## The dictionary's types -/

/-- The type column of a dictionary table (R5). `str` and `domain` values live outside the number table. -/
inductive ValType where
  | u8 | u16 | u32 | u64 | i16 | i32 | str | domain
  deriving DecidableEq, Repr

/-- The Access column (R7). -/
inductive Access where
  | ro | wo | rw | w1c | rwp | rwl
  deriving DecidableEq, Repr

/-- The Persist column (R10); `b` marks an entry that the text keeps in the backup domain. -/
inductive Persist where
  | v | s | f | b
  deriving DecidableEq, Repr

/-- The range a Meaning column gives a writable entry. -/
inductive ValueRule where
  | any
  | range (lo hi : Int)
  | zeroOr (lo hi : Int)
  | oneOf (vs : List Nat)
  deriving DecidableEq, Repr

/-- One line of a dictionary table: `n` entries from `idx`:`sub`, `di` indices or `ds` subindices apart. -/
structure EntryRow where
  idx : Nat
  sub : Nat
  n : Nat
  di : Nat
  ds : Nat
  ty : ValType
  acc : Access
  per : Persist
  dflt : Nat
  rule : ValueRule
  deriving DecidableEq, Repr

/-- A sparse table of numbers by key: keys strictly rising, and no value equal to what an unlisted key reads
as (its Default for the dictionary). -/
abbrev Dict := List (Nat × Nat)

/-- The sources of the fault collector: R221 and the Sources tables of the later chapters. -/
inductive SrcKind where
  | clkXtalLost | strideHold | strideHoldLong | fdVsysOv | fdSurgeLong | vsysPfw | fdIbusOv
  | fdIbusUv | fdOc | fdCflyImbal | fdGate | fdStart | budgetPeak | budgetShed | budgetOver | phOc
  | phOvl | phNeg | phTsd | phSw | phDrv | phImbal | phTwarn | railPhLost | railSs | railDisSlow
  | railReverse | qwDrop | qwBreach | xbPk | xbCl | xbTsd | xbSw | xbDrv | xbNeg | xbTwarn | ldoInUv
  | ldoCl | ldoTsd | ldoTwarn | ldoDrop | supOvWarn | supUvWarn | supOcWarn | supOv | supUv | supOc
  | supChatter | rhAgeWarn | rhAgeFlt | rhAbandon | seqStepFail | seqPdFail | seqUserFail
  | seqCheckSoft | gaitAlrmIn | chgTimer | chgPreTmo | chgBatShort | chgBatOv | chgConv
  | chgBatMissing | chgBatRemoved | chgPackChanged | chgTemp | chgRevShort | pathSwitch
  | pathBatCutoff | pathAuxOv | estUnanchored | estDisagree | estStale | estPackLost | estSocLow
  | estSohLow | estRsRise | estZAbandon | estAdc | estNtc | pairLinkLost | pairTakeover
  | pairRoleConflict | pairCfgMismatch | pairRemountFail | pairDiverge | pairStrideSkew
  | pairPeerDown | wdgExpire | wdgEarly | wdgDouble | wdgClk | wdgKey | wdgCore | thermWarn
  | thermThrottle | thermShed | thermTsd | thermSensor | thermPdiss | bkVbakLow | rtcOscFail
  | rtcAlarm | rtcInvalid | recDrop | recLogFull | nvEccCorr | nvDamaged | nvWrite | nvCopyLost
  | stFail | stFinding | cfgReject | cfgDefault | fcRetryOut
  deriving DecidableEq, Repr

/-! ## Named states -/

/-- Device power states (R20, R28). -/
inductive DevState where
  | off | backup | standby | doze | active | stall | lockout
  deriving DecidableEq, Repr

/-- Rail states (R91). -/
inductive RailState where
  | off | enabling | softstart | on | slewing | rampdown | discharge | fault | ready
  deriving DecidableEq, Repr

/-- Phase states (R110). -/
inductive PhaseState where
  | unused | idle | active | shed | shadow | ramp | fault | disabled
  deriving DecidableEq, Repr

/-- Divider states (R69). -/
inductive FdState where
  | off | balance | softstart | run | swap | stopping | fault
  deriving DecidableEq, Repr

/-- Sequencer states (R183). -/
inductive SeqState where
  | idle | powerUp | powerDown | user | halted
  deriving DecidableEq, Repr

/-- Stride-clock states (R38). -/
inductive StrideState where
  | free | acquiring | locked | holdover
  deriving DecidableEq, Repr

/-! ## Time -/

/-- The beat counter and the boundaries counted from it (R30, R31). `done`: the work that the device does by itself in the present
beat has been done. -/
structure Clock where
  beat : Nat
  lastTick : Nat
  epochs : Nat
  done : Bool
  deriving DecidableEq, Repr

/-- The stride clock of R36 to R43. `period` is P in 10 ns / 65,536; `corr` is 4,096 c; `elapsed` is the time
since the stride's unit 0 in 10 ns / 2^28, in which unit a whole stride lasts `period * (4096 + corr)`. `lastEdge` is a captured
instant in 10 ns of the beat counter. `prev` is the last stride unit whose events an earlier beat of this stride has taken, −1 before
the first; `acted` lists the events of the present beat that have been taken already, by unit and dictionary index (R41); `outset`: the
number of the stride in which time stood before it went on to the tick boundary, in which a host write completed (R35, R47). -/
structure StrideClock where
  source : Nat
  period : Nat
  measured : Bool
  corr : Int
  elapsed : Nat
  div : Nat
  lastEdge : Option Int
  prev : Int
  acted : List (Nat × Nat)
  outset : Nat
  missed : Nat
  badRun : Nat
  intervals : List Nat
  holdLong : Bool
  everLocked : Bool
  deriving DecidableEq, Repr

/-- Where a commit or an image comes into use (R47, R464). -/
inductive DueAt where
  | tick
  | stride (n : Nat)
  deriving DecidableEq, Repr

/-- The staging set, its pending commit, the direct stride-scheduled writes in their order (target stride, key, value), the
recomputed `CFG.CRC` that the next tick shows, and a verified image (R44 to R48, R182, R464). -/
structure Staging where
  set : Dict
  commit : Option DueAt
  direct : List (Nat × Nat × Nat)
  crcNext : Option Nat
  seqImage : Option (List Byte)
  image : Option (DueAt × List (Nat × Nat) × Option (List Byte))
  crcDue : Bool
  deriving DecidableEq, Repr

/-! ## Power -/

/-- A boot under way (R404 to R408): its cause, what stages 1 to 3 found, and the sources to raise at its end. -/
structure Boot where
  cause : Nat
  failed : Bool
  failMram : Bool
  found : List (SrcKind × Nat)
  deriving DecidableEq, Repr

/-- Requests that the power states hold between ticks (R21 to R26, R407, R415). `stopped`: the management core has stopped (R354). -/
structure Power where
  boot : Option Boot
  held : Bool
  autostartDue : Bool
  retryAt : Option Nat
  offPending : Option Nat
  mramFailed : Bool
  alarmWake : Bool
  coreTripped : Bool
  stopped : Bool
  since : Nat
  req : Option Nat
  deriving DecidableEq, Repr

/-- Levels at the pins as the device last sampled or drives them (R33, R195, R208, R372, R427, R471). -/
structure Pins where
  en : Bool
  wake : Bool
  wakeSeen : Bool
  vddioGood : Bool
  gpMask : BitVec 8
  gpOut : BitVec 8
  gpIn : BitVec 8
  gaitHigh : Bool
  alarmHigh : Bool
  quiet : Bool
  sync : Bool
  link : BitVec 2
  deriving DecidableEq, Repr

/-! ## Power conversion -/

/-- The front divider behind its entries (R58 to R72): the last 8 beat samples of VSYS, newest first, and the consecutive beats that
meet each condition on filtered VSYS or IBUS; IBUS at its last sample and over the tick so far (mV, mV beats, beats); `ranTick`: RUN at some beat of the tick;
the ratio to change to and the beat from which that change may start; the end of a change's last slew once it has swapped; IBUS
at entry into SOFTSTART; the beat at which the present state was entered. -/
structure Divider where
  hist : List Nat
  surging : Bool
  surgeTicks : Nat
  surgeRaised : Bool
  pfw : Bool
  pfwBeats : Nat
  clearBeats : Nat
  vsysOver : Bool
  riseBeats : Nat
  fallBeats : Nat
  forceBeats : Nat
  ibusOvBeats : Nat
  ibusUvBeats : Nat
  ibusNow : Nat
  ibusSum : Nat
  ibusBeats : Nat
  trimming : Bool
  ranTick : Bool
  changeTo : Option Nat
  changeAt : Nat
  slewEnd : Option Nat
  rampFrom : Nat
  lastChange : Option Nat
  entered : Nat
  offTicks : Nat
  pendingMode : Bool
  deriving DecidableEq, Repr

/-- The budget limiter behind its entries (R73 to R76): E in nJ, P above `BUDGET.PEAK` at the last beat and above `BUDGET.CONT` at
some beat of the tick, P over the tick so far (mW beats, beats). -/
structure Budget where
  e : Nat
  full : Bool
  above : Bool
  overCont : Bool
  pSum : Nat
  pBeats : Nat
  forced : Bool
  noneLeft : Nat
  overRaised : Bool
  deriving DecidableEq, Repr

/-- A rail's control state behind its record (R86 to R99, R115): `burstPhase`: the phase that burst entry left (R96); `vPrev`, `iPrev`: VOUT
and IOUT of the tick before the last (R104). -/
structure RailEngine where
  vsetUse : Nat
  refFrom : Nat
  refBeat : Nat
  rateNum : Nat
  rateDen : Nat
  target : Nat
  oldTarget : Nat
  entered : Nat
  discharged : Bool
  raised : Bool
  pairMode : Nat
  lUse : Nat
  coutUse : Nat
  bwUse : Nat
  fswUse : Nat
  shedCount : Nat
  lowCount : Nat
  bursting : Bool
  burstPending : Bool
  burstHeld : Bool
  burstShed : BitVec 8
  burstPhase : Nat
  vPrev : Nat
  iPrev : Nat
  reversed : Bool
  clCount : Nat
  limited : Bool
  deriving DecidableEq, Repr

/-- A phase's control state behind its record (R82, R106, R107, R110 to R113): its rail, the shadow stages run without agreement, the
beat at which its present shadow stage or ramp began and the time in 10 ns for which windows have stretched its cycles, a source
released while the rail regulates, `PH_TSD` standing, the beats at or below 10,000 mA since the overload timer last fell. -/
structure PhaseEngine where
  rail : Nat
  passes : Nat
  since : Nat
  held : Nat
  released : Bool
  hot : Bool
  under : Nat
  deriving DecidableEq, Repr

/-- The quiet windows (R100 to R105): which window is open, when it closes, the end of the last one, the phases that its mask names and the
buck-boost channels that follow it, the phases found exempt from it, whether `QW_BREACH` has been raised for the last
window, a window whose breach is to be raised. -/
structure QuietWindows where
  openK : Option (Fin 8)
  closeAt : Nat
  lastClose : Option Nat
  still : BitVec 8
  stillXb : BitVec 4
  exempt : BitVec 8
  breached : Bool
  breachDue : Option (Fin 8)
  deriving DecidableEq, Repr

/-- A buck-boost channel behind its record (R127 to R132): `XB_TWARN` and `XB_TSD` standing, the region that the ratio asks for and for
how many beats it has. -/
structure XbEngine where
  skipping : Bool
  lowCount : Nat
  warned : Bool
  hot : Bool
  regTo : Nat
  regBeats : Nat
  deriving DecidableEq, Repr

/-- The always-on L0 (R136, R137): the cause code that turned it off and the beat from which that cause has been clear; with it the LDO
bank's standing conditions. -/
structure AlwaysOn where
  blockedBy : Option Nat
  clearedAt : Option Nat
  ldoWarned : Bool
  ldoHot : Bool
  dropped : BitVec 4
  deriving DecidableEq, Repr

/-! ## Supervision and rail health -/

/-- A supervisor channel behind its record (R149, R150, R153 to R155, R171): standing conditions by level bit; the toggles of the last
60,000 ticks by tick, newest first; the beat of the rail's last entry into ON; the beat from which each level (6: the good level) has
stood as it does; the beat at which one of them last changed, with the levels and their beats before it; whether the channel has
monitored in this tick. -/
structure SupEngine where
  standing : BitVec 6
  toggles : List (Nat × Nat)
  tickToggles : Nat
  chattering : Bool
  onBeat : Nat
  since : Vector Nat 7
  leftBeat : Nat
  left : List (Option Nat × Nat)
  monitored : Bool
  deriving DecidableEq, Repr

/-- The three complex amplitudes of a point (R165), real and imaginary: the error and the output in µV, the current command in µA. -/
structure RhPoint where
  eRe : Int
  eIm : Int
  yRe : Int
  yIm : Int
  uRe : Int
  uIm : Int
  deriving DecidableEq, Repr

/-- A perturbation run of the rail health engine (R158 to R168) with its complete points: whether commissioning asked for it, the beats
at which the present settling or measuring and the present point began, the time of the point's measuring that is blanked in 10 ns and the last span of
time in which a window holds the injection (R162), VOUT and IOUT over its ticks (mV, mA, ticks). -/
structure RhRun where
  rail : Nat
  points : List RhPoint
  tries : Nat
  started : Bool
  job : Option Nat
  commission : Bool
  since : Nat
  began : Nat
  blank : Nat
  heldFrom : Nat
  heldUntil : Nat
  vSum : Nat
  iSum : Nat
  ticks : Nat
  deriving DecidableEq, Repr

/-- The commissioning job (R168): the rails still to do, the rails written, the runs so far of the first rail and
the sums of their results. -/
structure RhCommission where
  mask : Nat
  written : Nat
  runs : Nat
  sumFc : Nat
  sumPm : Int
  sumCout : Nat
  sumEsr : Nat
  job : Nat
  deriving DecidableEq, Repr

/-- The perturbation arbiter (R159): who waits since which tick. -/
structure Arbiter where
  rhSince : Option Nat
  estSince : Option Nat
  deriving DecidableEq, Repr

/-- The rail health engine behind its entries. `counts` holds the eight confirmation counts of each rail,
`lastEnd` the epoch at which the last run of each rail ended, `abandoned` the rails whose `RH_ABANDON` waits for the tick (R170). -/
structure RhEngine where
  run : Option RhRun
  queued : Option (Nat × Nat)
  commissions : List RhCommission
  counts : Vector (Vector Nat 8) 12
  lastEnd : Vector Nat 12
  due : BitVec 12
  abandoned : BitVec 12
  deriving DecidableEq, Repr

/-! ## Sequencer and GAIT lines -/

/-- The sequencer behind its entries (R183 to R210). `chatRail`: the channel, pin or rail that toggled last in the waiting CHECK;
`stable`: the beats for which its condition has held, counted up to beat `stableAt`. `stridesLeft`: the strides that must start before the stride unit of a
WAIT_STRIDE counts (R191). -/
structure SeqEngine where
  image : List Byte
  waiting : Option SeqInstr
  startBeat : Nat
  lastStart : Option Nat
  nextPc : Nat
  offAfter : Option Nat
  stopAfter : Bool
  cause : Nat
  atEnd : Bool
  job : Option Nat
  chatRail : Nat
  stable : Nat
  stableAt : Option Nat
  stridesLeft : Nat
  deriving DecidableEq, Repr

/-- The two GAIT lines (R206 to R210): own release, own alarm with the beats of its first and of its latest cause, the detection. -/
structure GaitLines where
  en : Bool
  released : Bool
  pullAt : Option Nat
  alarm : Bool
  alarmFrom : Nat
  alarmSince : Nat
  detected : Bool
  deriving DecidableEq, Repr

/-! ## Fault collector -/

/-- A held source (R231): its number, the highest class, whether its condition stands, the beat in which it was last taken. -/
structure HeldSource where
  src : Nat
  cls : Nat
  active : Bool
  taken : Nat
  deriving DecidableEq, Repr

/-- A queued emergency message (R239, R440). -/
structure Emcy where
  code : Nat
  errReg : Nat
  src : Nat
  eff : Nat
  raised : Nat
  flags : Nat
  takenEcat : Bool
  takenSpi : Bool
  deriving DecidableEq, Repr

/-- The fault collector behind its entries (R219 to R241). `evalBeat` and `unackAtStart` hold the snapshot of
FAULT.UNACK that R225 judges the sources of one beat by, `takenNow` the classes taken in that beat; `cleared`: a release of this tick
has emptied the held list; `due`: sources of a step whose turn comes at its end (R223). -/
structure Collector where
  held : List HeldSource
  evalBeat : Nat
  unackAtStart : Nat
  takenNow : Nat
  dozeWake : Bool
  takenHeld : Bool
  emcy : List Emcy
  lastRelease : Option Nat
  lastSevere : Nat
  restart : Nat
  restartDev : Bool
  offCause : Bool
  lockoutDue : Bool
  clearJobs : List Nat
  cleared : Bool
  due : List (SrcKind × Nat)
  lastSrc : Nat
  deriving DecidableEq, Repr

/-! ## Watchdog -/

/-- The watchdog behind its entries (R341 to R354). `stamped`: the last W that stamped a check-in or a key word or began a period;
`lag`: what W stands ahead of the oscillator because of it (assumption 117); `tripped`: the clock monitor has tripped since boot;
`resetDue`: an expiry with action 2 waits for its reset (assumption 114); `lockAsked`: a write of the lock waits for its tick (R353);
`coreIdle`: the µs since the core restarted its own watchdog (R354). -/
structure Watchdog where
  w : Nat
  period : Nat
  winN : Nat
  startBeat : Nat
  early : BitVec 16
  double : BitVec 16
  keyFirst : Option Nat
  pulseEnd : Option Nat
  recordDue : Bool
  stamped : Nat
  lag : Nat
  tripped : Bool
  resetDue : Bool
  lockAsked : Bool
  coreIdle : Nat
  deriving DecidableEq, Repr

/-! ## Backup domain -/

/-- What waits for the next backup-clock edge (R365, R366, R368, R373): a capture, a set to a count of seconds, the start of the
calibration, a set or a clear of the PWRON latch. -/
inductive RtcOp where
  | capture
  | set (secs : Nat)
  | calStart
  | pwron (on : Bool)
  deriving DecidableEq, Repr

/-- The backup domain (R359 to R374, R136, R250, R251, R424): calendar count, trim window, PWRON latch and the
copies a boot leaves there. `crystalGood`: 256 good crystal cycles lie behind; `backupCycles` counts the edges since the
device entered BACKUP; `mainRan`: the main domain has booted since the backup domain started; `supply`: the
source in use by its code; `oscDue`: a failed oscillator waits for its tick; `phase`: millionths of a backup-clock cycle that the
beats have counted, `beatEdges` the edges they brought since the last tick. -/
structure Backup where
  secs : Nat
  sub : Nat
  valid : Bool
  trim : Int
  window : Nat
  internalOsc : Bool
  crystalGood : Bool
  ops : List RtcOp
  latch : Bool
  pwronSrc : Nat
  pwronHold : Nat
  backupCycles : Nat
  alarmDue : Bool
  vbakLow : Bool
  l0On : Bool
  l0Vset : Nat
  l0SsTime : Nat
  l0Ilim : Nat
  auxSys : Bool
  batStart : Bool
  restartLevel : Nat
  cutoff : Bool
  mainRan : Bool
  station : BitVec 16
  supply : Nat
  oscDue : Bool
  phase : Int
  beatEdges : Nat
  deriving DecidableEq, Repr

/-- The calibration job (R368): its job slot, N, d0, and c0 and c1 once latched. -/
structure Calibration where
  job : Nat
  secs : Nat
  d0 : Nat
  c0 : Option Nat
  c1 : Option Nat
  deriving DecidableEq, Repr

/-! ## Recorder and MRAM -/

/-- An event noted by a recorder slot (R390). -/
structure NotedEvent where
  beat : Nat
  strideCount : Nat
  phase : Nat
  stamp : Nat
  detail : Nat
  merged : Nat
  deriving DecidableEq, Repr

/-- A log record in the SRAM buffer: its sequence number and its bytes without the commit word (R392). -/
structure BufRecord where
  seq : Nat
  bytes : List Byte
  deriving DecidableEq, Repr

/-- A configuration save or restore under way (R457, R458). -/
structure SaveJob where
  job : Nat
  payload : List Byte
  since : Nat
  deriving DecidableEq, Repr

/-- A log upload under way (R398, R447), with the bytes delivered. -/
structure Upload where
  job : Nat
  port : Port
  image : List Byte
  sent : Nat
  deriving DecidableEq, Repr

/-- The recorder and the store behind their entries (R381 to R398). `flushTo`: the records that the running flush has still to commit,
`flushed` those it has committed; `flushDue`: the beats at which faults asked for a flush; `failing`: the kinds of record, as a mask,
whose writes fail from this tick up to the next (R383). -/
structure Recorder where
  noted : List (Nat × NotedEvent)
  buf : List BufRecord
  writeAt : Nat
  flushTo : Option Nat
  flushDue : List Nat
  flushed : Nat
  flushJobs : List Nat
  dropRaised : Bool
  eccRaised : Bool
  reserveUsed : Bool
  powerFail : Bool
  save : Option SaveJob
  upload : Option Upload
  ffrDue : Bool
  failing : Nat
  deriving DecidableEq, Repr

/-! ## Host ports -/

/-- What a host write was answered (R425): the port and the abort code, 0 where it was accepted. -/
structure Reply where
  port : Port
  abort : Nat
  deriving DecidableEq, Repr

/-- An SPI answer (R436). -/
structure SpiAnswer where
  cmd : Nat
  tag : Nat
  status : Nat
  data : List Byte
  deriving DecidableEq, Repr

/-- The SPI port (R432 to R438): the pending answer and the beat from which it is known, the last delivered one, a repeat to
send, the answer that the last frame carried and the bytes it clocked out, a segmented write (key, bytes) and a segmented read (key, value, tick of its last segment). -/
structure SpiPort where
  pending : Option SpiAnswer
  knownAt : Nat
  delivered : Option SpiAnswer
  repeatNext : Bool
  lastSent : Option SpiAnswer
  sdoBytes : List Byte
  wseg : Option (Nat × List Byte)
  rseg : Option (Nat × List Byte × Nat)
  deriving DecidableEq, Repr

/-- What the mailbox answered last (R420, R425, R426): a mailbox error, an SDO abort, an FoE error with its text, the packets of an FoE
file, the acknowledgement of an FoE packet, an SDO upload's answer: expedited, normal with the value's whole size, a segment with its
toggle; an object list, an object's highest subindex, an entry's description. -/
inductive MailAnswer where
  | mailboxError (code : Nat)
  | abort (code : Nat)
  | foeError (code : Nat) (text : List Byte)
  | foeAck (packet : Nat)
  | foeData (packets : List (List Byte))
  | expedited (bytes : List Byte)
  | normal (size : Nat) (bytes : List Byte)
  | segment (toggle : Bool) (last : Bool) (bytes : List Byte)
  | objectList (indices : List Nat)
  | objectInfo (index highest : Nat)
  | entryInfo (key : Nat) (row : EntryRow)
  deriving DecidableEq, Repr

/-- A segmented SDO upload under way (R425): the entry, what is still to be delivered, the toggle of the next segment. -/
structure SdoUpload where
  key : Nat
  rest : List Byte
  toggle : Bool
  deriving DecidableEq, Repr

/-- The EtherCAT slave behind its entries (R420 to R431): the error indication, whether the first completion after SAFEOP is
still to come, the mapped values of the last completion, the output image and its publication, the input image, the mailbox, a
segmented upload, the emergencies sent last (R440), the SyncManagers and FMMUs and the DC registers as the master has set them, the PHY
address in use (R421), the SII word read last (R424). -/
structure EcatPort where
  alError : Bool
  ident : Option (BitVec 3)
  pdFirst : Bool
  pdPrev : List (Nat × Nat)
  outImage : List Byte
  outPub : List Byte
  inImage : List Byte
  mailbox : Option MailAnswer
  siiError : Bool
  sdo : Option SdoUpload
  emcySent : List (List Byte)
  sm : SmConfig
  dc : DcConfig
  phyAddr : Nat
  siiData : Option (BitVec 16)
  leftInit : Bool
  spiErrTick : Option Nat
  deriving DecidableEq, Repr

/-! ## Charger, power path and thermal manager -/

/-- `CHG.STATE` (R255). -/
inductive ChgState where
  | off | noSource | detect | precharge | cc | cv | done | suspend | missing | fault | reverse
  deriving DecidableEq, Repr

/-- The power path behind its entries (R247 to R251): qualification counts in ticks, valid sources, the armed BAT path
enabled, the cutoff count, a battery start, VIN and AUXIN over the last 1,000 ticks, newest first; the source left in this beat, whose
path is on until the next (0: none); the VIN (bit 0) and AUXIN (bit 1) paths as diodes while the main domain does not run (R251). -/
structure PowerPath where
  vinQual : Nat
  auxQual : Nat
  harvestQual : Nat
  vinValid : Bool
  auxValid : Bool
  harvestValid : Bool
  batOn : Bool
  cutoffTicks : Nat
  batStarted : Bool
  vinHist : List Nat
  auxHist : List Nat
  leaving : Nat
  diodes : BitVec 2
  deriving DecidableEq, Repr

/-- The charger behind its entries (R254 to R267): whether its state was taken since its last tick, tick counts of the conditions that must hold, the open-circuit
reading, the charge cycle in progress with its timers (2^-32 ms, ms) and its charge (mA ms), the MPPT tracker with the sum of its
period's power in µW; the ticks of a change of input (R254); I_ref, the ticks since the limit fell, collapse beats with the VBAT before
them, beats left of a probe (R262); beats of the short and of the overvoltage level (R263). -/
structure Charger where
  fresh : Bool
  stateTicks : Nat
  vOpen : Nat
  preTicks : Nat
  cvTicks : Nat
  rechgTicks : Nat
  eocTicks : Nat
  regainTicks : Nat
  revLowTicks : Nat
  revShortTicks : Nat
  inCycle : Bool
  accPre : Nat
  absPre : Nat
  accFast : Nat
  absFast : Nat
  chargeAcc : Nat
  probing : Bool
  dir : Int
  pPrev : Int
  pSum : Int
  bound : Bool
  sweepTicks : Nat
  periodTicks : Nat
  harvesting : Bool
  sweeping : Bool
  tempOut : Bool
  swap : Nat
  iRef : Int
  limFell : Nat
  collapse : Nat
  collapseV : Nat
  probeLeft : Nat
  shortBeats : Nat
  ovBeats : Nat
  deriving DecidableEq, Repr

/-- The thermal manager behind its entries (R498 to R503). -/
structure Thermal where
  counts : Vector Nat 12
  shedCount : Nat
  tsdOver : Bool
  pdissOver : Bool
  warned : Bool
  phaseWarned : BitVec 8
  deriving DecidableEq, Repr


/-! ## Battery state estimation -/

/-- A learning candidate (R300): the anchor's SOC in 10^-6 of 0.1 %, its kind and epoch, and a, q_in and q_out
in nC at that anchor. -/
structure Candidate where
  soc : Int
  kind : Nat
  epoch : Nat
  a : Int
  qIn : Nat
  qOut : Nat
  deriving DecidableEq, Repr

/-- An impedance measurement due or under way (R287 to R293); of the point: the beat at which its sine began, its amplitude and the
mean pack current of the tick before in mA, the beat at which an open window began to hold the reference, the samples without weight (their
number and which, newest first), the charger's state and input at the grant. -/
structure Measurement where
  point : Nat
  tries : Nat
  granted : Bool
  started : Bool
  job : Option Nat
  tSum : Int
  tCount : Nat
  t0 : Nat
  amp : Nat
  base : Int
  heldAt : Option Nat
  blank : Nat
  dark : List Nat
  st0 : Nat
  in0 : Nat
  deriving DecidableEq, Repr

/-- The estimator behind its entries (R280 to R306). `a`, `qIn`, `qOut` and `q` are in nC, `fcc` in µAh, `u` in
10^-12 of 0.1 %, `u1` and `u2` in nV; `hist` holds current in nA and voltage in µV of the last epochs counted, newest first, `last` those of the last
epoch of all; `hibI` and `hibV` their sums over `sinceUpdate` epochs of hibernation; a voltage-start anchor that waits for its epoch (R305), `EST_RS_RISE`
that waits for it (R308); the sums and numbers of each NTC's readings in the epoch, the sum of
the perturbation reference over the beats of the tick in µA; a publication due (R282). -/
structure Estimator where
  a : Int
  qIn : Nat
  qOut : Nat
  q : Int
  fcc : Nat
  u : Nat
  anchorAge : Nat
  u1 : Int
  u2 : Int
  hi : Option Candidate
  lo : Option Candidate
  hist : List (Int × Nat)
  last : Option (Int × Nat)
  anchorDue : Bool
  rsDue : Bool
  restCount : Nat
  restSince : Option Nat
  quietCount : Nat
  hibCount : Nat
  wakeDue : Bool
  sinceUpdate : Nat
  measure : Option Measurement
  sinceZ : Nat
  fitted : Bool
  detOpen : Option (Nat × Nat)
  fullDue : Bool
  okRun : Nat
  packGone : Bool
  packBack : Bool
  packChanged : Bool
  adcDue : Bool
  ckptAge : Nat
  lowRaised : Bool
  unanchRaised : Bool
  learnDue : Bool
  perturbed : Bool
  hibI : Int
  hibV : Nat
  lastEpoch : Nat
  ntcFaulty : BitVec 4
  ntcGood : Vector Nat 4
  ntcSum : Vector Int 4
  ntcNum : Vector Nat 4
  pertSum : Int
  pubDue : Bool
  deriving DecidableEq, Repr

/-! ## Redundant pair -/

/-- A symbol of a lane (R313): K28.5 idle, K27.7 and K29.7 around a frame, a byte. -/
inductive Symbol where
  | idle
  | start
  | stop
  | data (b : Byte)
  deriving DecidableEq, Repr

/-- A frame on the two lanes (R313). -/
structure LaneFrame where
  lane0 : List Symbol
  lane1 : List Symbol
  deriving DecidableEq, Repr

/-- The pair link and carriage behind their entries (R315 to R336): the run of consecutive good frames, the sequence numbers, the
frames sent at the last sampling beat and `CFG.CRC` of the last slow one; rails armed, the stops that the last frame used from a healthy
link announces (R323), when each side took carriage, the partner's carriage as last
seen over an UP link (own beat, partner's beat, mask); a conflict of roles raised since the link rose; announced stops (rail, cause, beat at which the
stop starts, 0 before its frame); the joiner's bulk, whether the transmission under way has counted as failed, its buffer, the newest frame
applied to its image of the partner, prediction and counts; sources due at the next tick. -/
structure Pair where
  roleFixed : Bool
  goodRun : Nat
  lastGood : Option Nat
  rxSeq : Option Nat
  txFast : Nat
  txSlow : Nat
  txBulk : Nat
  txBeat : Option Nat
  sent : List LaneFrame
  slowCrc : Option Nat
  peer : Option FastFrame
  peerSlow : Option SlowFrame
  armed : BitVec 16
  stopSeen : BitVec 16
  tookAt : Vector Nat 16
  peerTookAt : Vector Nat 16
  seenCarry : Option (Nat × Nat × BitVec 16)
  release : BitVec 16
  announce : BitVec 16
  stops : List (Nat × Nat × Nat)
  hbRequest : BitVec 16
  hbGrant : BitVec 16
  bothCarry : Vector Nat 16
  bothReady : Vector Nat 16
  agree : Nat
  restarts : Nat
  predicted : Option (BitVec 64)
  shadowDone : Bool
  bulkIn : List Byte
  bulkNext : Nat
  bulkTries : Nat
  bulkSkip : Bool
  bulkDue : Bool
  bulkOut : List (List Byte)
  buffered : List FastFrame
  mirror : Option FastFrame
  cfgMiss : Nat
  diverge : Nat
  skew : Nat
  noRetry : Bool
  rejoin : Bool
  joinFrom : Nat
  coldFrames : Nat
  peerDown : Bool
  conflict : Bool
  due : List SrcKind
  deriving DecidableEq, Repr

/-! ## Telemetry -/

/-- The energies of R466 at full resolution: drawn at VSYS and delivered, in mW beats since boot. -/
structure Telemetry where
  eIn : Nat
  eOut : Nat
  deriving DecidableEq, Repr

/-! ## The machine -/

/-- What stops the machine. No command of the table does: the spec gives each an effect, and a command whose
condition does not hold leaves the state as it is. The type has no constructor, so no fault can be answered (safe). -/
inductive Fault where
  deriving DecidableEq, Repr

/-- What the model answers where it has no meaning for a command. -/
inductive Refusal where
  /-- Raised only by a dispatch arm whose command has no meaning yet; safe, because nothing then follows. -/
  | notModelled (mnemonic : String)
  deriving DecidableEq, Repr

/-- The block: the live dictionary `od`, the last publication `pub` (step 10 of R34), the w1c bits set since it
(`fresh`, R8), the engines, the MRAM with its words (numbered from 0) whose ECC finds an error it cannot correct (`ecc`, R381), and the
queue of waiting commands. -/
structure State where
  od : Dict
  pub : Dict
  fresh : Dict
  clock : Clock
  stride : StrideClock
  staging : Staging
  power : Power
  pins : Pins
  divider : Divider
  budget : Budget
  rails : Vector RailEngine 16
  phases : Vector PhaseEngine 8
  qw : QuietWindows
  xb : Vector XbEngine 4
  ao : AlwaysOn
  sup : Vector SupEngine 24
  rh : RhEngine
  arb : Arbiter
  seq : SeqEngine
  gait : GaitLines
  fc : Collector
  wdg : Watchdog
  bk : Backup
  cal : Option Calibration
  log : Recorder
  reply : Option Reply
  spi : SpiPort
  ecat : EcatPort
  jobEnded : Vector Nat 32
  path : PowerPath
  chg : Charger
  therm : Thermal
  est : Estimator
  pair : Pair
  tlm : Telemetry
  mram : List Host.Cell
  ecc : List Nat
  pending : List Instr
  deriving DecidableEq, Repr

/-! ## Reset

The machine right after reset: OFF, no supply present, every register at its Default, every engine at rest. -/

def Clock.reset : Clock := ⟨0, 0, 0, false⟩

def StrideClock.reset : StrideClock :=
  { source := 3, period := 0, measured := false, corr := 0, elapsed := 0, div := 0, lastEdge := none, prev := -1, acted := [], outset := 0, missed := 0,
    badRun := 0, intervals := [], holdLong := false, everLocked := false }

def Staging.reset : Staging :=
  { set := [], commit := none, direct := [], crcNext := none, seqImage := none, image := none, crcDue := false }

def Power.reset : Power :=
  { boot := none, held := false, autostartDue := false, retryAt := none,
    offPending := none, mramFailed := false, alarmWake := false, coreTripped := false, stopped := false, since := 0, req := none }

def Pins.reset : Pins :=
  { en := false, wake := false, wakeSeen := false, vddioGood := true, gpMask := 0, gpOut := 0, gpIn := 0, gaitHigh := false,
    alarmHigh := false, quiet := false, sync := false, link := 0 }

def Divider.reset : Divider :=
  { hist := [], surging := false, surgeTicks := 0, surgeRaised := false, pfw := false, pfwBeats := 0, clearBeats := 0,
    vsysOver := false, riseBeats := 0, fallBeats := 0, forceBeats := 0, ibusOvBeats := 0, ibusUvBeats := 0, ibusNow := 0, ibusSum := 0,
    ibusBeats := 0, trimming := false, ranTick := false, changeTo := none, changeAt := 0, slewEnd := none, rampFrom := 0,
    lastChange := none, entered := 0, offTicks := 0, pendingMode := false }

def Budget.reset : Budget := { e := 0, full := false, above := false, overCont := false, pSum := 0, pBeats := 0, forced := false, noneLeft := 0, overRaised := false }

def RailEngine.reset : RailEngine :=
  { vsetUse := 0, refFrom := 0, refBeat := 0, rateNum := 0, rateDen := 1, target := 0, oldTarget := 0, entered := 0, discharged := true,
    raised := false, pairMode := 0, lUse := 0, coutUse := 0, bwUse := 0, fswUse := 0, shedCount := 0,
    lowCount := 0, bursting := false, burstPending := false, burstHeld := false, burstShed := 0, burstPhase := 0, vPrev := 0, iPrev := 0, reversed := false, clCount := 0,
    limited := false }

def PhaseEngine.reset : PhaseEngine := { rail := 0xFF, passes := 0, since := 0, held := 0, released := false, hot := false, under := 0 }

def QuietWindows.reset : QuietWindows :=
  { openK := none, closeAt := 0, lastClose := none, still := 0, stillXb := 0, exempt := 0, breached := false, breachDue := none }

def XbEngine.reset : XbEngine :=
  { skipping := false, lowCount := 0, warned := false, hot := false, regTo := 0, regBeats := 0 }

def AlwaysOn.reset : AlwaysOn := { blockedBy := none, clearedAt := none, ldoWarned := false, ldoHot := false, dropped := 0 }

def SupEngine.reset : SupEngine :=
  { standing := 0, toggles := [], tickToggles := 0, chattering := false, onBeat := 0, since := Vector.replicate 7 0, leftBeat := 0,
    left := [], monitored := false }

def Arbiter.reset : Arbiter := { rhSince := none, estSince := none }

def RhEngine.reset : RhEngine :=
  { run := none, queued := none, commissions := [], counts := Vector.replicate 12 (Vector.replicate 8 0),
    lastEnd := Vector.replicate 12 0, due := 0, abandoned := 0 }

def SeqEngine.reset : SeqEngine :=
  { image := [], waiting := none, startBeat := 0, lastStart := none, nextPc := 0, offAfter := none,
    stopAfter := false, cause := 0, atEnd := false, job := none, chatRail := 0, stable := 0, stableAt := none, stridesLeft := 0 }

def GaitLines.reset : GaitLines :=
  { en := false, released := false, pullAt := none, alarm := false, alarmFrom := 0, alarmSince := 0, detected := false }

def Collector.reset : Collector :=
  { held := [], evalBeat := 0, unackAtStart := 0, takenNow := 0, dozeWake := false,
    takenHeld := false, emcy := [], lastRelease := none,
    lastSevere := 0, restart := 0, restartDev := false, offCause := false, lockoutDue := false, clearJobs := [], cleared := false, due := [], lastSrc := 0 }

def Watchdog.reset : Watchdog :=
  { w := 0, period := 0, winN := 0, startBeat := 0, early := 0, double := 0, keyFirst := none, pulseEnd := none, stamped := 0, lag := 0, tripped := false, resetDue := false,
    lockAsked := false, coreIdle := 0,
    recordDue := false }

def Backup.reset : Backup :=
  { secs := 0, sub := 0, valid := false, trim := 0, window := 0, internalOsc := false, crystalGood := true, ops := [],
    supply := 0, oscDue := false, phase := 0, beatEdges := 0, latch := false, pwronSrc := 0, pwronHold := 0, backupCycles := 0, alarmDue := false, vbakLow := false, l0On := false,
    l0Vset := 0, l0SsTime := 0, l0Ilim := 0, auxSys := false, batStart := false, restartLevel := 0, cutoff := false, mainRan := false,
    station := 0 }

def Recorder.reset : Recorder :=
  { noted := [], buf := [], writeAt := 0, flushTo := none, flushDue := [], flushed := 0, flushJobs := [],
    dropRaised := false, eccRaised := false, reserveUsed := false, powerFail := false,
    save := none, upload := none, ffrDue := false, failing := 0 }

def SpiPort.reset : SpiPort :=
  { pending := none, knownAt := 0, delivered := none, repeatNext := false, lastSent := none, sdoBytes := [], wseg := none, rseg := none }

def EcatPort.reset : EcatPort :=
  { alError := false, ident := none, pdFirst := false, pdPrev := [], outImage := [], outPub := [], inImage := [], mailbox := none,
    siiError := false, sdo := none, emcySent := [], sm := {}, dc := {}, phyAddr := 0, siiData := none, leftInit := false, spiErrTick := none }

def PowerPath.reset : PowerPath :=
  { vinQual := 0, auxQual := 0, harvestQual := 0, vinValid := false, auxValid := false, harvestValid := false,
    batOn := false, cutoffTicks := 0, batStarted := false, vinHist := [], auxHist := [],
    leaving := 0, diodes := 0 }

def Charger.reset : Charger :=
  { fresh := false, stateTicks := 0, vOpen := 0, preTicks := 0, cvTicks := 0, rechgTicks := 0, eocTicks := 0,
    regainTicks := 0, revLowTicks := 0, revShortTicks := 0, inCycle := false, accPre := 0, absPre := 0,
    accFast := 0, absFast := 0, chargeAcc := 0, probing := false, dir := 1, pPrev := 0, pSum := 0, bound := false,
    sweepTicks := 0, periodTicks := 0, harvesting := false, sweeping := false, tempOut := false,
    swap := 0, iRef := 0, limFell := 0, collapse := 0, collapseV := 0, probeLeft := 0, shortBeats := 0, ovBeats := 0 }

def Thermal.reset : Thermal :=
  { counts := Vector.replicate 12 0, shedCount := 0, tsdOver := false, pdissOver := false, warned := false,
    phaseWarned := 0 }

def Estimator.reset : Estimator :=
  { a := 0, qIn := 0, qOut := 0, q := 0, fcc := 0, u := 300 * 10 ^ 12, anchorAge := 0, u1 := 0, u2 := 0, hi := none,
    lo := none, hist := [], last := none, anchorDue := false, rsDue := false, restCount := 0, restSince := none, quietCount := 0, hibCount := 0, wakeDue := false,
    sinceUpdate := 0, measure := none, sinceZ := 0, fitted := false, detOpen := none,
    fullDue := false, okRun := 0, packGone := false, packBack := false, packChanged := false, adcDue := false, ckptAge := 0,
    lowRaised := false, unanchRaised := false, learnDue := false, perturbed := false, hibI := 0, hibV := 0, lastEpoch := 0, ntcFaulty := 0,
    ntcGood := Vector.replicate 4 0, ntcSum := Vector.replicate 4 0, ntcNum := Vector.replicate 4 0, pertSum := 0, pubDue := false }

def Pair.reset : Pair :=
  { roleFixed := false, goodRun := 0, lastGood := none, rxSeq := none, txFast := 0, txSlow := 0, txBulk := 0, txBeat := none,
    sent := [], peer := none, peerSlow := none, armed := 0, tookAt := Vector.replicate 16 0,
    peerTookAt := Vector.replicate 16 0, seenCarry := none, release := 0, announce := 0, stops := [], hbRequest := 0, hbGrant := 0, slowCrc := none, stopSeen := 0, bulkSkip := false, mirror := none,
    bothCarry := Vector.replicate 16 0, bothReady := Vector.replicate 16 0, agree := 0, restarts := 0,
    predicted := none, shadowDone := false, bulkIn := [], bulkNext := 0, bulkTries := 0, bulkDue := false,
    bulkOut := [],
    buffered := [], cfgMiss := 0, diverge := 0, skew := 0, noRetry := false, rejoin := false, joinFrom := 0, coldFrames := 0,
    peerDown := false, conflict := false, due := [] }

/-- The machine right after reset (R20, R361): OFF with no supply. `od` lists `DEV.STATE` = 0x00 (its Default is
the value after boot); every other entry reads its Default, and the MRAM lists nothing. -/
def State.reset : State :=
  { od := [(0x200010, 0)], pub := [], fresh := [], clock := Clock.reset, stride := StrideClock.reset,
    staging := Staging.reset, power := Power.reset, pins := Pins.reset, divider := Divider.reset,
    budget := Budget.reset, rails := Vector.replicate 16 RailEngine.reset,
    phases := Vector.replicate 8 PhaseEngine.reset, qw := QuietWindows.reset,
    xb := Vector.replicate 4 XbEngine.reset, ao := AlwaysOn.reset, sup := Vector.replicate 24 SupEngine.reset,
    rh := RhEngine.reset, arb := Arbiter.reset, seq := SeqEngine.reset, gait := GaitLines.reset,
    fc := Collector.reset, wdg := Watchdog.reset, bk := Backup.reset, cal := none, log := Recorder.reset,
    reply := none, spi := SpiPort.reset, ecat := EcatPort.reset, jobEnded := Vector.replicate 32 0,
    path := PowerPath.reset, chg := Charger.reset, therm := Thermal.reset, est := Estimator.reset,
    pair := Pair.reset, tlm := ⟨0, 0⟩, mram := [], ecc := [], pending := [] }

end Sys2Proof.Machine
end

