-- ==== Sys2Proof/Machine/Codes.lean ====
section
/-! DEFINITION. The codes by which the dictionary shows named states (R28, R38, R69, R91, R110, R183). A code
that names no state reads as the first of its list; no command writes one. -/

namespace Sys2Proof.Machine

/-- `DEV.STATE` (R28). -/
def DevState.code : DevState → Nat
  | .off => 0 | .backup => 1 | .standby => 2 | .doze => 3 | .active => 4 | .stall => 5 | .lockout => 6

def DevState.ofCode : Nat → DevState
  | 1 => .backup | 2 => .standby | 3 => .doze | 4 => .active | 5 => .stall | 6 => .lockout | _ => .off

/-- `RAIL[n].STATE` (R91). -/
def RailState.code : RailState → Nat
  | .off => 0 | .enabling => 1 | .softstart => 2 | .on => 3 | .slewing => 4 | .rampdown => 5
  | .discharge => 6 | .fault => 7 | .ready => 8

def RailState.ofCode : Nat → RailState
  | 1 => .enabling | 2 => .softstart | 3 => .on | 4 => .slewing | 5 => .rampdown
  | 6 => .discharge | 7 => .fault | 8 => .ready | _ => .off

/-- `PHASE[p].STATE` (R110). -/
def PhaseState.code : PhaseState → Nat
  | .unused => 0 | .idle => 1 | .active => 2 | .shed => 3 | .shadow => 4 | .ramp => 5 | .fault => 6
  | .disabled => 7

def PhaseState.ofCode : Nat → PhaseState
  | 1 => .idle | 2 => .active | 3 => .shed | 4 => .shadow | 5 => .ramp | 6 => .fault | 7 => .disabled
  | _ => .unused

/-- `FD.STATE` (R69). -/
def FdState.code : FdState → Nat
  | .off => 0 | .balance => 1 | .softstart => 2 | .run => 3 | .swap => 4 | .stopping => 5 | .fault => 6

def FdState.ofCode : Nat → FdState
  | 1 => .balance | 2 => .softstart | 3 => .run | 4 => .swap | 5 => .stopping | 6 => .fault | _ => .off

/-- `SEQ.STATE` (R183). -/
def SeqState.code : SeqState → Nat
  | .idle => 0 | .powerUp => 1 | .powerDown => 2 | .user => 3 | .halted => 4

def SeqState.ofCode : Nat → SeqState
  | 1 => .powerUp | 2 => .powerDown | 3 => .user | 4 => .halted | _ => .idle

/-- `STRIDE.STATE` (R38). -/
def StrideState.code : StrideState → Nat
  | .free => 0 | .acquiring => 1 | .locked => 2 | .holdover => 3

def StrideState.ofCode : Nat → StrideState
  | 1 => .acquiring | 2 => .locked | 3 => .holdover | _ => .free

/-- `CHG.STATE` (R255). -/
def ChgState.code : ChgState → Nat
  | .off => 0 | .noSource => 1 | .detect => 2 | .precharge => 3 | .cc => 4 | .cv => 5 | .done => 6 | .suspend => 7
  | .missing => 8 | .fault => 9 | .reverse => 10

def ChgState.ofCode : Nat → ChgState
  | 1 => .noSource | 2 => .detect | 3 => .precharge | 4 => .cc | 5 => .cv | 6 => .done | 7 => .suspend
  | 8 => .missing | 9 => .fault | 10 => .reverse | _ => .off

theorem DevState.ofCode_code (x : DevState) : DevState.ofCode x.code = x := by cases x <;> rfl
theorem RailState.ofCode_code (x : RailState) : RailState.ofCode x.code = x := by cases x <;> rfl
theorem PhaseState.ofCode_code (x : PhaseState) : PhaseState.ofCode x.code = x := by cases x <;> rfl
theorem FdState.ofCode_code (x : FdState) : FdState.ofCode x.code = x := by cases x <;> rfl
theorem SeqState.ofCode_code (x : SeqState) : SeqState.ofCode x.code = x := by cases x <;> rfl
theorem StrideState.ofCode_code (x : StrideState) : StrideState.ofCode x.code = x := by cases x <;> rfl
theorem ChgState.ofCode_code (x : ChgState) : ChgState.ofCode x.code = x := by cases x <;> rfl

end Sys2Proof.Machine
end

