-- ==== Sys2Proof/Machine/Keys.lean ====
section
/-! DEFINITION. The names of the dictionary entries: each is the key (index * 256 + subindex) that the
spec's table gives it; an array or record entry takes its instance number. -/

namespace Sys2Proof.Machine.K

@[simp] def devState : Nat := 0x200010
@[simp] def devStateReq : Nat := 0x200011
@[simp] def devStateCause : Nat := 0x200012
@[simp] def devAutostart : Nat := 0x200013
@[simp] def strideSource : Nat := 0x220001
@[simp] def strideEdge : Nat := 0x220002
@[simp] def strideDiv : Nat := 0x220003
@[simp] def strideNominal : Nat := 0x220004
@[simp] def strideTol : Nat := 0x220005
@[simp] def strideLockN : Nat := 0x220006
@[simp] def strideMissN : Nat := 0x220007
@[simp] def strideLoopK : Nat := 0x220008
@[simp] def strideOffset : Nat := 0x220009
@[simp] def strideHoldWarn : Nat := 0x22000A
@[simp] def strideState : Nat := 0x220010
@[simp] def stridePeriod : Nat := 0x220011
@[simp] def strideCount : Nat := 0x220012
@[simp] def stridePhase : Nat := 0x220013
@[simp] def stridePhaseErr : Nat := 0x220014
@[simp] def strideStatus : Nat := 0x220015
@[simp] def strideRejectCnt : Nat := 0x220016
@[simp] def strideMissCnt : Nat := 0x220017
@[simp] def strideHoldStrides : Nat := 0x220018
@[simp] def timeCapture : Nat := 0x220020
@[simp] def timeCapBeat : Nat := 0x220021
@[simp] def timeCapStrideCount : Nat := 0x220022
@[simp] def timeCapStridePhase : Nat := 0x220023
@[simp] def timeCapDc : Nat := 0x220024
@[simp] def timeCapEpoch : Nat := 0x220025
@[simp] def timeClkSrc : Nat := 0x220026
@[simp] def timeClkSwitchCnt : Nat := 0x220027
@[simp] def xingFlushed : Nat := 0x220030
@[simp] def xingMerged (n : Nat) : Nat := 0x220031 + n * 0x1
@[simp] def cfgStageState : Nat := 0x200020
@[simp] def cfgStageCount : Nat := 0x200021
@[simp] def cfgCommit : Nat := 0x200022
@[simp] def cfgDiscard : Nat := 0x200023
@[simp] def cfgCrc : Nat := 0x200024
@[simp] def cfgCommitAt : Nat := 0x200025
@[simp] def fdRatioMode : Nat := 0x230001
@[simp] def fdFsw : Nat := 0x230002
@[simp] def fdIbusClamp : Nat := 0x230003
@[simp] def fdDwell : Nat := 0x230004
@[simp] def fdHoldTicks : Nat := 0x230005
@[simp] def fdSlew : Nat := 0x230006
@[simp] def fdSsTime : Nat := 0x230007
@[simp] def fdOffDelay : Nat := 0x230008
@[simp] def fdPfwLevel : Nat := 0x230009
@[simp] def fdQuietHold : Nat := 0x23000A
@[simp] def fdCflyTol : Nat := 0x23000B
@[simp] def fdUp2 : Nat := 0x23000C
@[simp] def fdUp3 : Nat := 0x23000D
@[simp] def fdUp4 : Nat := 0x23000E
@[simp] def fdDn2 : Nat := 0x23000F
@[simp] def fdDn3 : Nat := 0x230010
@[simp] def fdDn4 : Nat := 0x230011
@[simp] def fdState : Nat := 0x230018
@[simp] def fdRatio : Nat := 0x230019
@[simp] def fdIbusGood : Nat := 0x23001A
@[simp] def fdTrim : Nat := 0x23001B
@[simp] def fdVsys : Nat := 0x23001C
@[simp] def fdVsysPeak : Nat := 0x23001D
@[simp] def fdIbus : Nat := 0x23001E
@[simp] def fdIbusI : Nat := 0x23001F
@[simp] def fdCflyDev : Nat := 0x230020
@[simp] def fdRatioCnt : Nat := 0x230021
@[simp] def fdForcedCnt : Nat := 0x230022
@[simp] def fdSurgeCnt : Nat := 0x230023
@[simp] def fdStatus : Nat := 0x230024
@[simp] def budgetCont : Nat := 0x234001
@[simp] def budgetPeak : Nat := 0x234002
@[simp] def budgetPeakTime : Nat := 0x234003
@[simp] def budgetMargin : Nat := 0x234004
@[simp] def budgetPTotal : Nat := 0x234010
@[simp] def budgetPRails : Nat := 0x234011
@[simp] def budgetPChg : Nat := 0x234012
@[simp] def budgetBucket : Nat := 0x234013
@[simp] def budgetChgAllow : Nat := 0x234014
@[simp] def budgetChgIAllow : Nat := 0x234015
@[simp] def budgetShedMask : Nat := 0x234016
@[simp] def budgetPeakCnt : Nat := 0x234017
@[simp] def budgetStatus : Nat := 0x234018
@[simp] def budgetPrio (n : Nat) : Nat := 0x236001 + n * 0x1
@[simp] def phaseRail (n : Nat) : Nat := 0x240001 + n * 0x1000
@[simp] def phaseIpk (n : Nat) : Nat := 0x240002 + n * 0x1000
@[simp] def phaseIvalley (n : Nat) : Nat := 0x240003 + n * 0x1000
@[simp] def phaseTWarn (n : Nat) : Nat := 0x240004 + n * 0x1000
@[simp] def phaseTSd (n : Nat) : Nat := 0x240005 + n * 0x1000
@[simp] def phaseAutoRemount (n : Nat) : Nat := 0x240006 + n * 0x1000
@[simp] def phaseCmd (n : Nat) : Nat := 0x240007 + n * 0x1000
@[simp] def phaseState (n : Nat) : Nat := 0x240010 + n * 0x1000
@[simp] def phaseI (n : Nat) : Nat := 0x240011 + n * 0x1000
@[simp] def phaseTemp (n : Nat) : Nat := 0x240012 + n * 0x1000
@[simp] def phaseAngle (n : Nat) : Nat := 0x240013 + n * 0x1000
@[simp] def phaseOvlBeats (n : Nat) : Nat := 0x240014 + n * 0x1000
@[simp] def phaseFaultCause (n : Nat) : Nat := 0x240015 + n * 0x1000
@[simp] def phaseRemountCnt (n : Nat) : Nat := 0x240016 + n * 0x1000
@[simp] def phaseFaultCnt (n : Nat) : Nat := 0x240017 + n * 0x1000
@[simp] def phaseStatus (n : Nat) : Nat := 0x240018 + n * 0x1000
@[simp] def phaseQwBreachCnt (n : Nat) : Nat := 0x240019 + n * 0x1000
@[simp] def railVset (n : Nat) : Nat := 0x250001 + n * 0x1000
@[simp] def railSlew (n : Nat) : Nat := 0x250002 + n * 0x1000
@[simp] def railSsTime (n : Nat) : Nat := 0x250003 + n * 0x1000
@[simp] def railDisMode (n : Nat) : Nat := 0x250004 + n * 0x1000
@[simp] def railDisTh (n : Nat) : Nat := 0x250005 + n * 0x1000
@[simp] def railDisTime (n : Nat) : Nat := 0x250006 + n * 0x1000
@[simp] def railPairMode (n : Nat) : Nat := 0x250007 + n * 0x1000
@[simp] def railDroop (n : Nat) : Nat := 0x250008 + n * 0x1000
@[simp] def railCmd (n : Nat) : Nat := 0x250009 + n * 0x1000
@[simp] def railFsw (n : Nat) : Nat := 0x250010 + n * 0x1000
@[simp] def railLNh (n : Nat) : Nat := 0x250011 + n * 0x1000
@[simp] def railCoutUf (n : Nat) : Nat := 0x250012 + n * 0x1000
@[simp] def railBw (n : Nat) : Nat := 0x250013 + n * 0x1000
@[simp] def railMode (n : Nat) : Nat := 0x250014 + n * 0x1000
@[simp] def railBurstI (n : Nat) : Nat := 0x250015 + n * 0x1000
@[simp] def railBurstBand (n : Nat) : Nat := 0x250016 + n * 0x1000
@[simp] def railBurstPlace (n : Nat) : Nat := 0x250017 + n * 0x1000
@[simp] def railBurstOfs (n : Nat) : Nat := 0x250018 + n * 0x1000
@[simp] def railShedEn (n : Nat) : Nat := 0x250019 + n * 0x1000
@[simp] def railShedI (n : Nat) : Nat := 0x25001A + n * 0x1000
@[simp] def railAddI (n : Nat) : Nat := 0x25001B + n * 0x1000
@[simp] def railMinPh (n : Nat) : Nat := 0x25001C + n * 0x1000
@[simp] def railShedTicks (n : Nat) : Nat := 0x25001D + n * 0x1000
@[simp] def railState (n : Nat) : Nat := 0x250020 + n * 0x1000
@[simp] def railVout (n : Nat) : Nat := 0x250021 + n * 0x1000
@[simp] def railIout (n : Nat) : Nat := 0x250022 + n * 0x1000
@[simp] def railPout (n : Nat) : Nat := 0x250023 + n * 0x1000
@[simp] def railVrefNow (n : Nat) : Nat := 0x250024 + n * 0x1000
@[simp] def railPhActive (n : Nat) : Nat := 0x250025 + n * 0x1000
@[simp] def railCause (n : Nat) : Nat := 0x250026 + n * 0x1000
@[simp] def railStatus (n : Nat) : Nat := 0x250027 + n * 0x1000
@[simp] def railSubmode (n : Nat) : Nat := 0x250028 + n * 0x1000
@[simp] def railOrgate (n : Nat) : Nat := 0x250029 + n * 0x1000
@[simp] def railBurstUnplacedCnt (n : Nat) : Nat := 0x25002A + n * 0x1000
@[simp] def paQuietPol : Nat := 0x248001
@[simp] def paBurstBase : Nat := 0x248002
@[simp] def paBurstPitch : Nat := 0x248003
@[simp] def paImbalTol : Nat := 0x248004
@[simp] def paQwStatus : Nat := 0x248010
@[simp] def paQwDropCnt : Nat := 0x248011
@[simp] def paQwOpenCnt : Nat := 0x248012
@[simp] def qwCtrl (n : Nat) : Nat := 0x249001 + n * 0x1
@[simp] def qwPos (n : Nat) : Nat := 0x249101 + n * 0x1
@[simp] def qwPeriod (n : Nat) : Nat := 0x249201 + n * 0x1
@[simp] def xbFsw (n : Nat) : Nat := 0x260001 + n * 0x1000
@[simp] def xbLNh (n : Nat) : Nat := 0x260002 + n * 0x1000
@[simp] def xbCoutUf (n : Nat) : Nat := 0x260003 + n * 0x1000
@[simp] def xbBw (n : Nat) : Nat := 0x260004 + n * 0x1000
@[simp] def xbMode (n : Nat) : Nat := 0x260005 + n * 0x1000
@[simp] def xbSkipI (n : Nat) : Nat := 0x260006 + n * 0x1000
@[simp] def xbIlim (n : Nat) : Nat := 0x260007 + n * 0x1000
@[simp] def xbPlim (n : Nat) : Nat := 0x260008 + n * 0x1000
@[simp] def xbClTime (n : Nat) : Nat := 0x260009 + n * 0x1000
@[simp] def xbTWarn (n : Nat) : Nat := 0x26000A + n * 0x1000
@[simp] def xbTSd (n : Nat) : Nat := 0x26000B + n * 0x1000
@[simp] def xbQwHold (n : Nat) : Nat := 0x26000C + n * 0x1000
@[simp] def xbRegion (n : Nat) : Nat := 0x260010 + n * 0x1000
@[simp] def xbRegionCnt (n : Nat) : Nat := 0x260011 + n * 0x1000
@[simp] def xbTemp (n : Nat) : Nat := 0x260012 + n * 0x1000
@[simp] def xbILimNow (n : Nat) : Nat := 0x260013 + n * 0x1000
@[simp] def xbFaultCause (n : Nat) : Nat := 0x260014 + n * 0x1000
@[simp] def xbStatus (n : Nat) : Nat := 0x260015 + n * 0x1000
@[simp] def xbQwBreachCnt (n : Nat) : Nat := 0x260016 + n * 0x1000
@[simp] def ldoAlwaysOn : Nat := 0x270001
@[simp] def ldoIlim (n : Nat) : Nat := 0x270002 + n * 0x1000
@[simp] def ldoClTime (n : Nat) : Nat := 0x270003 + n * 0x1000
@[simp] def ldoLdoin (n : Nat) : Nat := 0x270010 + n * 0x1000
@[simp] def ldoPdiss (n : Nat) : Nat := 0x270011 + n * 0x1000
@[simp] def ldoILimNow (n : Nat) : Nat := 0x270012 + n * 0x1000
@[simp] def ldoFaultCause (n : Nat) : Nat := 0x270013 + n * 0x1000
@[simp] def ldoStatus (n : Nat) : Nat := 0x270014 + n * 0x1000
@[simp] def ldoAoOffCnt : Nat := 0x270017
@[simp] def ldoTWarn : Nat := 0x274001
@[simp] def ldoTSd : Nat := 0x274002
@[simp] def ldoTemp : Nat := 0x274010
@[simp] def supEn (n : Nat) : Nat := 0x280001 + n * 0x100
@[simp] def supOvWarn (n : Nat) : Nat := 0x280002 + n * 0x100
@[simp] def supOvFlt (n : Nat) : Nat := 0x280003 + n * 0x100
@[simp] def supUvWarn (n : Nat) : Nat := 0x280004 + n * 0x100
@[simp] def supUvFlt (n : Nat) : Nat := 0x280005 + n * 0x100
@[simp] def supHyst (n : Nat) : Nat := 0x280006 + n * 0x100
@[simp] def supOcWarn (n : Nat) : Nat := 0x280007 + n * 0x100
@[simp] def supOcFlt (n : Nat) : Nat := 0x280008 + n * 0x100
@[simp] def supFltDeglitch (n : Nat) : Nat := 0x280009 + n * 0x100
@[simp] def supWarnDeglitch (n : Nat) : Nat := 0x28000A + n * 0x100
@[simp] def supPgDeglitch (n : Nat) : Nat := 0x28000B + n * 0x100
@[simp] def supUvBlank (n : Nat) : Nat := 0x28000C + n * 0x100
@[simp] def supChatLimit (n : Nat) : Nat := 0x28000D + n * 0x100
@[simp] def supXscale (n : Nat) : Nat := 0x28100E + n * 0x100
@[simp] def supV (n : Nat) : Nat := 0x280010 + n * 0x100
@[simp] def supI (n : Nat) : Nat := 0x280011 + n * 0x100
@[simp] def supGood (n : Nat) : Nat := 0x280012 + n * 0x100
@[simp] def supStatus (n : Nat) : Nat := 0x280013 + n * 0x100
@[simp] def supChatterCnt (n : Nat) : Nat := 0x280014 + n * 0x100
@[simp] def supFltCnt (n : Nat) : Nat := 0x280015 + n * 0x100
@[simp] def supWarnCnt (n : Nat) : Nat := 0x280016 + n * 0x100
@[simp] def supVMin (n : Nat) : Nat := 0x280017 + n * 0x100
@[simp] def supVMax (n : Nat) : Nat := 0x280018 + n * 0x100
@[simp] def supPgoodMask : Nat := 0x284001
@[simp] def supChatWin : Nat := 0x284002
@[simp] def supGoodMap : Nat := 0x284010
@[simp] def supPgood : Nat := 0x284011
@[simp] def rhEn (n : Nat) : Nat := 0x288001 + n * 0x100
@[simp] def rhAmp (n : Nat) : Nat := 0x288002 + n * 0x100
@[simp] def rhFLo (n : Nat) : Nat := 0x288003 + n * 0x100
@[simp] def rhFHi (n : Nat) : Nat := 0x288004 + n * 0x100
@[simp] def rhInterval (n : Nat) : Nat := 0x288005 + n * 0x100
@[simp] def rhPlace (n : Nat) : Nat := 0x288006 + n * 0x100
@[simp] def rhPos (n : Nat) : Nat := 0x288007 + n * 0x100
@[simp] def rhCoutWarn (n : Nat) : Nat := 0x288008 + n * 0x100
@[simp] def rhCoutFlt (n : Nat) : Nat := 0x288009 + n * 0x100
@[simp] def rhEsrWarn (n : Nat) : Nat := 0x28800A + n * 0x100
@[simp] def rhEsrFlt (n : Nat) : Nat := 0x28800B + n * 0x100
@[simp] def rhPmWarn (n : Nat) : Nat := 0x28800C + n * 0x100
@[simp] def rhPmFlt (n : Nat) : Nat := 0x28800D + n * 0x100
@[simp] def rhFcWarn (n : Nat) : Nat := 0x28800E + n * 0x100
@[simp] def rhFcFlt (n : Nat) : Nat := 0x28800F + n * 0x100
@[simp] def rhResultSeq (n : Nat) : Nat := 0x288010 + n * 0x100
@[simp] def rhRunStatus (n : Nat) : Nat := 0x288011 + n * 0x100
@[simp] def rhFc (n : Nat) : Nat := 0x288012 + n * 0x100
@[simp] def rhPm (n : Nat) : Nat := 0x288013 + n * 0x100
@[simp] def rhCout (n : Nat) : Nat := 0x288014 + n * 0x100
@[simp] def rhEsr (n : Nat) : Nat := 0x288015 + n * 0x100
@[simp] def rhFitErr (n : Nat) : Nat := 0x288016 + n * 0x100
@[simp] def rhDevCout (n : Nat) : Nat := 0x288017 + n * 0x100
@[simp] def rhDevEsr (n : Nat) : Nat := 0x288018 + n * 0x100
@[simp] def rhDevPm (n : Nat) : Nat := 0x288019 + n * 0x100
@[simp] def rhDevFc (n : Nat) : Nat := 0x28801A + n * 0x100
@[simp] def rhAgeStatus (n : Nat) : Nat := 0x28801B + n * 0x100
@[simp] def rhBaseFc (n : Nat) : Nat := 0x288020 + n * 0x100
@[simp] def rhBasePm (n : Nat) : Nat := 0x288021 + n * 0x100
@[simp] def rhBaseCout (n : Nat) : Nat := 0x288022 + n * 0x100
@[simp] def rhBaseEsr (n : Nat) : Nat := 0x288023 + n * 0x100
@[simp] def rhBaseVset (n : Nat) : Nat := 0x288024 + n * 0x100
@[simp] def rhBaseValid (n : Nat) : Nat := 0x288025 + n * 0x100
@[simp] def rhCycles : Nat := 0x28C001
@[simp] def rhPoints : Nat := 0x28C002
@[simp] def rhConfirm : Nat := 0x28C003
@[simp] def rhFitMax : Nat := 0x28C004
@[simp] def rhBlankMax : Nat := 0x28C005
@[simp] def rhMaxTries : Nat := 0x28C006
@[simp] def rhBaseRuns : Nat := 0x28C007
@[simp] def rhRun : Nat := 0x28C008
@[simp] def rhCommission : Nat := 0x28C009
@[simp] def rhState : Nat := 0x28C010
@[simp] def rhRail : Nat := 0x28C011
@[simp] def rhArbOwner : Nat := 0x28C012
@[simp] def rhStatus : Nat := 0x28C013
@[simp] def seqState : Nat := 0x290001
@[simp] def seqProg : Nat := 0x290002
@[simp] def seqPc : Nat := 0x290003
@[simp] def seqInstr : Nat := 0x290004
@[simp] def seqGaitState : Nat := 0x290005
@[simp] def seqFlag : Nat := 0x290006
@[simp] def seqLoop : Nat := 0x290007
@[simp] def seqLastMark : Nat := 0x290008
@[simp] def seqFailCause : Nat := 0x290009
@[simp] def seqFailAddr : Nat := 0x29000A
@[simp] def seqFailCnt : Nat := 0x29000B
@[simp] def seqChkToggles : Nat := 0x29000C
@[simp] def seqOnLatch : Nat := 0x29000D
@[simp] def seqStatus : Nat := 0x29000E
@[simp] def seqRun : Nat := 0x290010
@[simp] def seqStop : Nat := 0x290011
@[simp] def seqDefTmo : Nat := 0x290012
@[simp] def seqGpOutMask : Nat := 0x290013
@[simp] def seqImageCrc : Nat := 0x290014
@[simp] def seqImageWords : Nat := 0x290015
@[simp] def seqDir (n : Nat) : Nat := 0x291001 + n * 0x1
@[simp] def seqImage : Nat := 0x291801
@[simp] def seqChkStable (n : Nat) : Nat := 0x292001 + n * 0x1
@[simp] def seqChkTimeout (n : Nat) : Nat := 0x292101 + n * 0x1
@[simp] def seqChkChat (n : Nat) : Nat := 0x292201 + n * 0x1
@[simp] def ffrValid : Nat := 0x293001
@[simp] def ffrKind : Nat := 0x293002
@[simp] def ffrRail : Nat := 0x293003
@[simp] def ffrChan : Nat := 0x293004
@[simp] def ffrCause : Nat := 0x293005
@[simp] def ffrSrc : Nat := 0x293006
@[simp] def ffrAddr : Nat := 0x293007
@[simp] def ffrGait : Nat := 0x293008
@[simp] def ffrChatter : Nat := 0x293009
@[simp] def ffrBeat : Nat := 0x29300A
@[simp] def ffrTime : Nat := 0x29300B
@[simp] def ffrRearm : Nat := 0x293010
@[simp] def gaitEn : Nat := 0x294001
@[simp] def gaitAckN : Nat := 0x294002
@[simp] def gaitHold : Nat := 0x294003
@[simp] def gaitDefTmo : Nat := 0x294004
@[simp] def gaitAlrmOnFail : Nat := 0x294005
@[simp] def gaitAlrmDeglitch : Nat := 0x294006
@[simp] def gaitAlrmMin : Nat := 0x294007
@[simp] def gaitAlrmCmd : Nat := 0x294008
@[simp] def gaitLine : Nat := 0x294010
@[simp] def gaitStepCnt : Nat := 0x294011
@[simp] def gaitAlrmCnt : Nat := 0x294012
@[simp] def gaitLastWait : Nat := 0x294013
@[simp] def gaitStatus : Nat := 0x294014
@[simp] def faultQuiet : Nat := 0x2A0001
@[simp] def faultRetryMax : Nat := 0x2A0002
@[simp] def faultRetryWin : Nat := 0x2A0003
@[simp] def faultAutoOn : Nat := 0x2A0004
@[simp] def faultAutoAck : Nat := 0x2A0005
@[simp] def faultLatchMin : Nat := 0x2A0006
@[simp] def faultEmcyMin : Nat := 0x2A0007
@[simp] def faultRecMin : Nat := 0x2A0008
@[simp] def faultF4Alarm : Nat := 0x2A0009
@[simp] def faultState : Nat := 0x2A0010
@[simp] def faultUnack : Nat := 0x2A0011
@[simp] def faultAck : Nat := 0x2A0012
@[simp] def faultQuietCnt : Nat := 0x2A0013
@[simp] def faultRetryCnt : Nat := 0x2A0014
@[simp] def faultHeldCnt : Nat := 0x2A0015
@[simp] def faultRailHeld : Nat := 0x2A0016
@[simp] def faultPhaseHeld : Nat := 0x2A0017
@[simp] def faultStatus : Nat := 0x2A0018
@[simp] def faultEscCnt : Nat := 0x2A0019
@[simp] def faultEmcyLost : Nat := 0x2A001A
@[simp] def faultLockout : Nat := 0x2A001B
@[simp] def faultLockoutClear : Nat := 0x2A001C
@[simp] def faultRearm : Nat := 0x2A001D
@[simp] def faultCnt (n : Nat) : Nat := 0x2A1001 + n * 0x1
@[simp] def faultFirstValid : Nat := 0x2A2001
@[simp] def faultFirstSrc : Nat := 0x2A2002
@[simp] def faultFirstRaised : Nat := 0x2A2003
@[simp] def faultFirstClass : Nat := 0x2A2004
@[simp] def faultFirstBeat : Nat := 0x2A2005
@[simp] def faultFirstTime : Nat := 0x2A2006
@[simp] def faultFirstOvf : Nat := 0x2A2007
@[simp] def faultFirstOvfCnt : Nat := 0x2A2008
@[simp] def faultGroup (n : Nat) : Nat := 0x2A3001 + n * 0x1
@[simp] def faultXmonRails (n : Nat) : Nat := 0x2A3801 + n * 0x1
@[simp] def faultRemap (n : Nat) : Nat := 0x2A4001 + n * 0x1
@[simp] def faultHeld (n : Nat) : Nat := 0x2A5001 + n * 0x1
@[simp] def chgEn : Nat := 0x2C0001
@[simp] def chgProfile : Nat := 0x2C0002
@[simp] def chgCells : Nat := 0x2C0003
@[simp] def chgCvCell : Nat := 0x2C0004
@[simp] def chgIchg : Nat := 0x2C0005
@[simp] def chgIpre : Nat := 0x2C0006
@[simp] def chgEocPct : Nat := 0x2C0007
@[simp] def chgEocTicks : Nat := 0x2C0008
@[simp] def chgTimer : Nat := 0x2C0009
@[simp] def chgPreTimer : Nat := 0x2C000A
@[simp] def chgRechgCell : Nat := 0x2C000B
@[simp] def chgFsw : Nat := 0x2C000C
@[simp] def chgInputSel : Nat := 0x2C000D
@[simp] def chgDetRetry : Nat := 0x2C000E
@[simp] def chgPackidEn : Nat := 0x2C000F
@[simp] def chgRshunt : Nat := 0x2C0010
@[simp] def chgRdson : Nat := 0x2C0011
@[simp] def chgTChgLo : Nat := 0x2C0012
@[simp] def chgTChgHi : Nat := 0x2C0013
@[simp] def chgRemoveDv : Nat := 0x2C0014
@[simp] def chgState : Nat := 0x2C2001
@[simp] def chgInput : Nat := 0x2C2002
@[simp] def chgVbat : Nat := 0x2C2003
@[simp] def chgIbat : Nat := 0x2C2004
@[simp] def chgILim : Nat := 0x2C2005
@[simp] def chgITherm : Nat := 0x2C2006
@[simp] def chgLimiter : Nat := 0x2C2007
@[simp] def chgVCv : Nat := 0x2C2008
@[simp] def chgFault : Nat := 0x2C2009
@[simp] def chgTimerAcc : Nat := 0x2C200A
@[simp] def chgTimerAbs : Nat := 0x2C200B
@[simp] def chgCycleFlags : Nat := 0x2C200C
@[simp] def chgPackid : Nat := 0x2C200D
@[simp] def chgPackidLast : Nat := 0x2C200E
@[simp] def chgTPackMax : Nat := 0x2C200F
@[simp] def chgTPackMin : Nat := 0x2C2010
@[simp] def chgChargeIn : Nat := 0x2C2011
@[simp] def chgCycleCnt : Nat := 0x2C2012
@[simp] def chgStatus : Nat := 0x2C2013
@[simp] def pathPrio : Nat := 0x2C4001
@[simp] def pathAuxSysEn : Nat := 0x2C4002
@[simp] def pathQual : Nat := 0x2C4003
@[simp] def pathTakeLevel : Nat := 0x2C4004
@[simp] def pathCutoffCell : Nat := 0x2C4005
@[simp] def pathRestartCell : Nat := 0x2C4006
@[simp] def pathCutoffTicks : Nat := 0x2C4007
@[simp] def pathBatStart : Nat := 0x2C4008
@[simp] def pathVinOvp : Nat := 0x2C4009
@[simp] def pathSource : Nat := 0x2C4010
@[simp] def pathVin : Nat := 0x2C4011
@[simp] def pathAuxin : Nat := 0x2C4012
@[simp] def pathGates : Nat := 0x2C4013
@[simp] def pathVTake : Nat := 0x2C4014
@[simp] def pathSwitchCnt : Nat := 0x2C4015
@[simp] def pathStatus : Nat := 0x2C4016
@[simp] def mpptEn : Nat := 0x2C6001
@[simp] def mpptFrac : Nat := 0x2C6002
@[simp] def mpptStep : Nat := 0x2C6003
@[simp] def mpptPeriod : Nat := 0x2C6004
@[simp] def mpptSweep : Nat := 0x2C6005
@[simp] def mpptVmin : Nat := 0x2C6006
@[simp] def revV : Nat := 0x2C6007
@[simp] def revI : Nat := 0x2C6008
@[simp] def revVbatMin : Nat := 0x2C6009
@[simp] def revCmd : Nat := 0x2C600A
@[simp] def mpptVset : Nat := 0x2C6010
@[simp] def mpptVoc : Nat := 0x2C6011
@[simp] def mpptP : Nat := 0x2C6012
@[simp] def revIOut : Nat := 0x2C6013
@[simp] def revStopCause : Nat := 0x2C6014
@[simp] def estDesignCap : Nat := 0x2D0001
@[simp] def estDeadband : Nat := 0x2D0002
@[simp] def estRestI : Nat := 0x2D0003
@[simp] def estRestT : Nat := 0x2D0004
@[simp] def estRestDvdt : Nat := 0x2D0005
@[simp] def estSlopeMin : Nat := 0x2D0006
@[simp] def estFlatW : Nat := 0x2D0007
@[simp] def estSynW : Nat := 0x2D0008
@[simp] def estFullW : Nat := 0x2D0009
@[simp] def estAnchorT : Nat := 0x2D000A
@[simp] def estUnanchLim : Nat := 0x2D000B
@[simp] def estZConfMin : Nat := 0x2D000C
@[simp] def estLearnDsoc : Nat := 0x2D000D
@[simp] def estFbDsoc : Nat := 0x2D000E
@[simp] def estLearnGain : Nat := 0x2D000F
@[simp] def estFbGain : Nat := 0x2D0010
@[simp] def estLearnMaxT : Nat := 0x2D0011
@[simp] def estLearnTLo : Nat := 0x2D0012
@[simp] def estLearnTHi : Nat := 0x2D0013
@[simp] def estLearnMix : Nat := 0x2D0014
@[simp] def estDisTol : Nat := 0x2D0015
@[simp] def estVbMargin : Nat := 0x2D0016
@[simp] def estRsDefault : Nat := 0x2D0017
@[simp] def estHibI : Nat := 0x2D0018
@[simp] def estHibT : Nat := 0x2D0019
@[simp] def estWakeI : Nat := 0x2D001A
@[simp] def estOffI : Nat := 0x2D001B
@[simp] def estCkpt : Nat := 0x2D001C
@[simp] def estNtcEn : Nat := 0x2D001D
@[simp] def estNtcBeta : Nat := 0x2D001E
@[simp] def estNtcRnom : Nat := 0x2D001F
@[simp] def estSocLow : Nat := 0x2D0020
@[simp] def estSohWarn : Nat := 0x2D0021
@[simp] def estRsWarn : Nat := 0x2D0022
@[simp] def estReset : Nat := 0x2D0023
@[simp] def estZInterval : Nat := 0x2D1001
@[simp] def estZAmp : Nat := 0x2D1002
@[simp] def estZPlace : Nat := 0x2D1003
@[simp] def estZPos : Nat := 0x2D1004
@[simp] def estZMaxAge : Nat := 0x2D1005
@[simp] def estZTSpan : Nat := 0x2D1006
@[simp] def estZBlankMax : Nat := 0x2D1007
@[simp] def estZTries : Nat := 0x2D1008
@[simp] def estZRun : Nat := 0x2D1009
@[simp] def estOcv (n : Nat) : Nat := 0x2D5001 + n * 0x1
@[simp] def estState : Nat := 0x2D2001
@[simp] def estSeq : Nat := 0x2D2002
@[simp] def estVbat : Nat := 0x2D2003
@[simp] def estIbat : Nat := 0x2D2004
@[simp] def estTPack : Nat := 0x2D2005
@[simp] def estSoc : Nat := 0x2D2006
@[simp] def estSocCc : Nat := 0x2D2007
@[simp] def estSocV : Nat := 0x2D2008
@[simp] def estSocUnc : Nat := 0x2D2009
@[simp] def estQRem : Nat := 0x2D200A
@[simp] def estFcc : Nat := 0x2D200B
@[simp] def estSoh : Nat := 0x2D200C
@[simp] def estEfc : Nat := 0x2D200D
@[simp] def estTte : Nat := 0x2D200E
@[simp] def estQInTotal : Nat := 0x2D200F
@[simp] def estQOutTotal : Nat := 0x2D2010
@[simp] def estAnchorKind : Nat := 0x2D2011
@[simp] def estAnchorSoc : Nat := 0x2D2012
@[simp] def estAnchorTime : Nat := 0x2D2013
@[simp] def estUnanchH : Nat := 0x2D2014
@[simp] def estDisagree : Nat := 0x2D2015
@[simp] def estStale : Nat := 0x2D2016
@[simp] def estOvrCnt : Nat := 0x2D2017
@[simp] def estStatus : Nat := 0x2D2018
@[simp] def estNtcT (n : Nat) : Nat := 0x2D2801 + n * 0x1
@[simp] def estLearnCnt : Nat := 0x2D3001
@[simp] def estFbCnt : Nat := 0x2D3002
@[simp] def estLearnLast : Nat := 0x2D3003
@[simp] def estLearnFccMeas : Nat := 0x2D3004
@[simp] def estLearnDrop : Nat := 0x2D3005
@[simp] def estCandHi : Nat := 0x2D3006
@[simp] def estCandLo : Nat := 0x2D3007
@[simp] def estZStatus : Nat := 0x2D4001
@[simp] def estZSeq : Nat := 0x2D4002
@[simp] def estRs : Nat := 0x2D4003
@[simp] def estRp1 : Nat := 0x2D4004
@[simp] def estTau1 : Nat := 0x2D4005
@[simp] def estRp2 : Nat := 0x2D4006
@[simp] def estTau2 : Nat := 0x2D4007
@[simp] def estZFitErr : Nat := 0x2D4008
@[simp] def estZConf : Nat := 0x2D4009
@[simp] def estZT : Nat := 0x2D400A
@[simp] def estZAge : Nat := 0x2D400B
@[simp] def estRsBase : Nat := 0x2D400C
@[simp] def estRsRatio : Nat := 0x2D400D
@[simp] def estZRe (n : Nat) : Nat := 0x2D4801 + n * 0x1
@[simp] def estZIm (n : Nat) : Nat := 0x2D4901 + n * 0x1
@[simp] def pairEn : Nat := 0x300001
@[simp] def pairRoleReq : Nat := 0x300002
@[simp] def pairJoinWait : Nat := 0x300003
@[simp] def pairTakeDeglitch : Nat := 0x300004
@[simp] def pairArmTime : Nat := 0x300005
@[simp] def pairShadowFrames : Nat := 0x300006
@[simp] def pairShadowTries : Nat := 0x300007
@[simp] def pairCfgGrace : Nat := 0x300008
@[simp] def pairStrideTol : Nat := 0x300009
@[simp] def pairCmd : Nat := 0x30000A
@[simp] def pairHandback : Nat := 0x30000B
@[simp] def pairState : Nat := 0x300010
@[simp] def pairLink : Nat := 0x300011
@[simp] def pairRole : Nat := 0x300012
@[simp] def pairHealthy : Nat := 0x300013
@[simp] def pairCarry : Nat := 0x300014
@[simp] def pairPeerValid : Nat := 0x300015
@[simp] def pairMissCnt : Nat := 0x300016
@[simp] def pairCrcErrCnt : Nat := 0x300017
@[simp] def pairLostCnt : Nat := 0x300018
@[simp] def pairTakeCnt : Nat := 0x300019
@[simp] def pairRemountCnt : Nat := 0x30001A
@[simp] def pairShadowMismatchCnt : Nat := 0x30001B
@[simp] def pairStrideSkew : Nat := 0x30001C
@[simp] def pairStatus : Nat := 0x30001D
@[simp] def pairTakeTh (n : Nat) : Nat := 0x301001 + n * 0x1
@[simp] def pairPeerState : Nat := 0x302001
@[simp] def pairPeerPairState : Nat := 0x302002
@[simp] def pairPeerSerial : Nat := 0x302003
@[simp] def pairPeerGait : Nat := 0x302004
@[simp] def pairPeerSeqState : Nat := 0x302005
@[simp] def pairPeerCarry : Nat := 0x302006
@[simp] def pairPeerGood : Nat := 0x302007
@[simp] def pairPeerUnack : Nat := 0x302008
@[simp] def pairPeerHeldCnt : Nat := 0x302009
@[simp] def pairPeerCfgCrc : Nat := 0x30200A
@[simp] def pairPeerLastSrc : Nat := 0x30200B
@[simp] def pairPeerRailState : Nat := 0x30200C
@[simp] def wdgEn : Nat := 0x2B0001
@[simp] def wdgClk : Nat := 0x2B0002
@[simp] def wdgPeriod : Nat := 0x2B0003
@[simp] def wdgWinN : Nat := 0x2B0004
@[simp] def wdgTasks : Nat := 0x2B0005
@[simp] def wdgMode : Nat := 0x2B0006
@[simp] def wdgEvidence : Nat := 0x2B0007
@[simp] def wdgAction : Nat := 0x2B0008
@[simp] def wdgRstGp : Nat := 0x2B0009
@[simp] def wdgRstMs : Nat := 0x2B000A
@[simp] def wdgStartDelay : Nat := 0x2B000B
@[simp] def wdgKey : Nat := 0x2B000C
@[simp] def wdgLock : Nat := 0x2B000D
@[simp] def wdgCmd : Nat := 0x2B000E
@[simp] def wdgState : Nat := 0x2B0010
@[simp] def wdgClkNow : Nat := 0x2B0011
@[simp] def wdgNow : Nat := 0x2B0012
@[simp] def wdgPeriodStart : Nat := 0x2B0013
@[simp] def wdgSeen : Nat := 0x2B0014
@[simp] def wdgExpCnt : Nat := 0x2B0015
@[simp] def wdgExpCause : Nat := 0x2B0016
@[simp] def wdgExpMissing : Nat := 0x2B0017
@[simp] def wdgExpEarly : Nat := 0x2B0018
@[simp] def wdgExpDouble : Nat := 0x2B0019
@[simp] def wdgExpW : Nat := 0x2B001A
@[simp] def wdgResetCause : Nat := 0x2B001B
@[simp] def wdgCoreTripCnt : Nat := 0x2B001C
@[simp] def wdgIgnoredCnt : Nat := 0x2B001D
@[simp] def wdgStatus : Nat := 0x2B001E
@[simp] def wdgCheckin (n : Nat) : Nat := 0x2B1001 + n * 0x1
@[simp] def wdgEvTag (n : Nat) : Nat := 0x2B2001 + n * 0x1
@[simp] def wdgEvTime (n : Nat) : Nat := 0x2B2801 + n * 0x1
@[simp] def wdgLastTag (n : Nat) : Nat := 0x2B3001 + n * 0x1
@[simp] def wdgLastTime (n : Nat) : Nat := 0x2B3801 + n * 0x1
@[simp] def rtcCapture : Nat := 0x2E0001
@[simp] def rtcSec : Nat := 0x2E0002
@[simp] def rtcMin : Nat := 0x2E0003
@[simp] def rtcHour : Nat := 0x2E0004
@[simp] def rtcWday : Nat := 0x2E0005
@[simp] def rtcDate : Nat := 0x2E0006
@[simp] def rtcMonth : Nat := 0x2E0007
@[simp] def rtcYear : Nat := 0x2E0008
@[simp] def rtcCent : Nat := 0x2E0009
@[simp] def rtcCapStamp : Nat := 0x2E000A
@[simp] def rtcValid : Nat := 0x2E000B
@[simp] def rtcSet : Nat := 0x2E000C
@[simp] def rtcTrim : Nat := 0x2E000D
@[simp] def rtcAlarm : Nat := 0x2E000E
@[simp] def rtcAlarmMask : Nat := 0x2E000F
@[simp] def rtcStatus : Nat := 0x2E0010
@[simp] def rtcCalRun : Nat := 0x2E0011
@[simp] def rtcCalPpb : Nat := 0x2E0012
@[simp] def rtcCalStatus : Nat := 0x2E0013
@[simp] def bkPwronSrc : Nat := 0x2E2001
@[simp] def bkPwronHold : Nat := 0x2E2002
@[simp] def bkPwronCmd : Nat := 0x2E2003
@[simp] def bkVbakChg : Nat := 0x2E2004
@[simp] def bkVbakWarn : Nat := 0x2E2005
@[simp] def bkSupply : Nat := 0x2E2010
@[simp] def bkVbak : Nat := 0x2E2011
@[simp] def bkPwron : Nat := 0x2E2012
@[simp] def bkStatus : Nat := 0x2E2013
@[simp] def bkSram (n : Nat) : Nat := 0x2E4001 + n * 0x1
@[simp] def recEn : Nat := 0x2F0001
@[simp] def recBufLimit : Nat := 0x2F0002
@[simp] def recTrigCmd : Nat := 0x2F0003
@[simp] def recFlush : Nat := 0x2F0004
@[simp] def recClear : Nat := 0x2F0005
@[simp] def recUpFrom : Nat := 0x2F0006
@[simp] def recLog : Nat := 0x2F0007
@[simp] def recState : Nat := 0x2F0010
@[simp] def recBufUsed : Nat := 0x2F0011
@[simp] def recBufRecords : Nat := 0x2F0012
@[simp] def recLogUsed : Nat := 0x2F0013
@[simp] def recLogRecords : Nat := 0x2F0014
@[simp] def recBaseSeq : Nat := 0x2F0015
@[simp] def recNextSeq : Nat := 0x2F0016
@[simp] def recDropCnt : Nat := 0x2F0017
@[simp] def recRefusedCnt : Nat := 0x2F0018
@[simp] def recMergedCnt : Nat := 0x2F0019
@[simp] def recFlushCnt : Nat := 0x2F001A
@[simp] def recFlushing : Nat := 0x2F001B
@[simp] def recStatus : Nat := 0x2F001C
@[simp] def recTrig (n : Nat) : Nat := 0x2F1001 + n * 0x1
@[simp] def recSel (l i : Nat) : Nat := 0x2F2001 + l * 0x100 + i
@[simp] def nvCfgCopy : Nat := 0x2F4001
@[simp] def nvCfgSeq : Nat := 0x2F4002
@[simp] def nvLearnCopy : Nat := 0x2F4003
@[simp] def nvLearnSeq : Nat := 0x2F4004
@[simp] def nvEccCorrCnt : Nat := 0x2F4005
@[simp] def nvDamagedCnt : Nat := 0x2F4006
@[simp] def nvWriteFailCnt : Nat := 0x2F4007
@[simp] def nvStatus : Nat := 0x2F4008
@[simp] def stResult : Nat := 0x200030
@[simp] def stFindings : Nat := 0x200031
@[simp] def stFirst : Nat := 0x200032
@[simp] def stDetail : Nat := 0x200033
@[simp] def stDuration : Nat := 0x200034
@[simp] def stCfgReject : Nat := 0x200035
@[simp] def stRetry : Nat := 0x200036
@[simp] def stRetryCnt : Nat := 0x200037
@[simp] def stStallCnt : Nat := 0x200038
@[simp] def stBootCnt : Nat := 0x200039
@[simp] def cfgLock : Nat := 0x200026
@[simp] def cfgUnlock : Nat := 0x200027
@[simp] def pdStrobe : Nat := 0x200028
@[simp] def hostAlert : Nat := 0x200040
@[simp] def hostAlertMask : Nat := 0x200041
@[simp] def hostSpiEmcy : Nat := 0x200042
@[simp] def hostSpiFrames : Nat := 0x200043
@[simp] def hostSpiCrcErr : Nat := 0x200044
@[simp] def hostSpiFrameErr : Nat := 0x200045
@[simp] def hostSpiBusyCnt : Nat := 0x200046
@[simp] def hostEmcyPending : Nat := 0x200047
@[simp] def ecatAlState : Nat := 0x200048
@[simp] def ecatAlCode : Nat := 0x200049
@[simp] def ecatLink : Nat := 0x20004A
@[simp] def ecatDcActive : Nat := 0x20004B
@[simp] def ecatSmWdgCnt : Nat := 0x20004C
@[simp] def ecatPhyAddr : Nat := 0x20004D
@[simp] def ecatPdRefusedCnt : Nat := 0x20004E
@[simp] def ecatPdRefusedLast : Nat := 0x20004F
@[simp] def jobLastEcat : Nat := 0x210001
@[simp] def jobLastSpi : Nat := 0x210002
@[simp] def jobInUse : Nat := 0x210003
@[simp] def jobPending : Nat := 0x210004
@[simp] def jobRelease : Nat := 0x210005
@[simp] def jobStatus : Nat := 0x210006
@[simp] def jobReport (n : Nat) : Nat := 0x211001 + n * 0x1
@[simp] def jobOrigin (n : Nat) : Nat := 0x211801 + n * 0x1
@[simp] def comDevType : Nat := 0x100000
@[simp] def comErrReg : Nat := 0x100100
@[simp] def comErrCnt : Nat := 0x100300
@[simp] def comErrHist (n : Nat) : Nat := 0x100301 + n * 0x1
@[simp] def comDevName : Nat := 0x100800
@[simp] def comHwVer : Nat := 0x100900
@[simp] def comSwVer : Nat := 0x100A00
@[simp] def comSave : Nat := 0x101001
@[simp] def comRestore : Nat := 0x101101
@[simp] def idVendor : Nat := 0x101801
@[simp] def idProduct : Nat := 0x101802
@[simp] def idRevision : Nat := 0x101803
@[simp] def idSerial : Nat := 0x101804
@[simp] def tlmTick : Nat := 0x320001
@[simp] def tlmPIn : Nat := 0x320002
@[simp] def tlmEff : Nat := 0x320003
@[simp] def tlmRailsOn : Nat := 0x320004
@[simp] def tlmRailsFault : Nat := 0x320005
@[simp] def tlmEIn : Nat := 0x320006
@[simp] def tlmEOut : Nat := 0x320007
@[simp] def devStrap : Nat := 0x200014
@[simp] def thermThr : Nat := 0x310001
@[simp] def thermWarn : Nat := 0x310002
@[simp] def thermSd : Nat := 0x310003
@[simp] def thermHyst : Nat := 0x310004
@[simp] def thermPMax : Nat := 0x310005
@[simp] def thermIStep : Nat := 0x310006
@[simp] def thermShedTicks : Nat := 0x310007
@[simp] def thermTj : Nat := 0x310010
@[simp] def thermTjMax : Nat := 0x310011
@[simp] def thermHotSensor : Nat := 0x310012
@[simp] def thermPdiss : Nat := 0x310013
@[simp] def thermStage : Nat := 0x310014
@[simp] def thermShedMask : Nat := 0x310015
@[simp] def thermExcluded : Nat := 0x310016
@[simp] def thermStatus : Nat := 0x310017
@[simp] def thermSensor (n : Nat) : Nat := 0x311001 + n * 0x1
@[simp] def cfgImage : Nat := 0x200029
@[simp] def piIn : Nat := 0x600001
@[simp] def piOut : Nat := 0x700001
@[simp] def pdoRxMapN (n : Nat) : Nat := 0x160000 + n * 0x100
@[simp] def pdoRxMapE (l i : Nat) : Nat := 0x160001 + l * 0x100 + i
@[simp] def pdoTxMapN (n : Nat) : Nat := 0x1A0000 + n * 0x100
@[simp] def pdoTxMapE (l i : Nat) : Nat := 0x1A0001 + l * 0x100 + i
@[simp] def pdoRxAssignN : Nat := 0x1C1200
@[simp] def pdoTxAssignN : Nat := 0x1C1300
@[simp] def pdoRxAssign (n : Nat) : Nat := 0x1C1201 + n * 0x1
@[simp] def pdoTxAssign (n : Nat) : Nat := 0x1C1301 + n * 0x1
@[simp] def smType (n : Nat) : Nat := 0x1C0001 + n * 0x1
@[simp] def smOutSync : Nat := 0x1C3201
@[simp] def smOutCycle : Nat := 0x1C3202
@[simp] def smOutShift : Nat := 0x1C3203
@[simp] def smOutModes : Nat := 0x1C3204
@[simp] def smOutMinCycle : Nat := 0x1C3205
@[simp] def smOutCopy : Nat := 0x1C3206
@[simp] def smInSync : Nat := 0x1C3301
@[simp] def smInCycle : Nat := 0x1C3302
@[simp] def smInShift : Nat := 0x1C3303
@[simp] def smInModes : Nat := 0x1C3304
@[simp] def smInMinCycle : Nat := 0x1C3305
@[simp] def smInCopy : Nat := 0x1C3306

end Sys2Proof.Machine.K
end

