-- ==== Sys2Proof/Machine/Table.lean ====
section
/-! DEFINITION. The object dictionary as the spec's tables give it: one row for each line of a table
(a line for an array or a record covers every instance), with its type, access, persistence, Default
and range. Written from the Dictionary tables of spec/ 01 to 19 (R28, R54, R57, R72, R78, R117 to R122,
R140, R142 to R144, R171 to R174, R214 to R217, R242 to R244, R271 to R278, R309 to R312, R339, R340,
R356, R375, R377, R400, R418, R452, R453, R455, R461, R463, R466, R467, R476, R505).
A row that the tables mark V but that the text keeps in the backup domain carries the mark `b`. -/

namespace Sys2Proof.Machine

/-- Dictionary rows of the index page 0x10xx. -/
def rowsCom : List EntryRow := [
  ⟨0x1000, 0x00, 1, 0, 0, .u32, .ro, .f, 0, .any⟩,
  ⟨0x1001, 0x00, 1, 0, 0, .u8, .ro, .v, 0, .any⟩,
  ⟨0x1003, 0x00, 1, 0, 0, .u8, .rw, .v, 0, (.range 0 0)⟩,
  ⟨0x1003, 0x01, 16, 0, 1, .u32, .ro, .v, 0, .any⟩,
  ⟨0x1008, 0x00, 1, 0, 0, .str, .ro, .f, 0, .any⟩,
  ⟨0x1009, 0x00, 1, 0, 0, .str, .ro, .f, 0, .any⟩,
  ⟨0x100A, 0x00, 1, 0, 0, .str, .ro, .f, 0, .any⟩,
  ⟨0x1010, 0x01, 1, 0, 0, .u32, .rw, .v, 1, .any⟩,
  ⟨0x1011, 0x01, 1, 0, 0, .u32, .rw, .v, 1, .any⟩,
  ⟨0x1018, 0x01, 1, 0, 0, .u32, .ro, .f, 2501, .any⟩,
  ⟨0x1018, 0x02, 1, 0, 0, .u32, .ro, .f, 25622, .any⟩,
  ⟨0x1018, 0x03, 1, 0, 0, .u32, .ro, .f, 131072, .any⟩,
  ⟨0x1018, 0x04, 1, 0, 0, .u32, .ro, .f, 0, .any⟩]

/-- Dictionary rows of the index page 0x16xx. -/
def rowsRxMap : List EntryRow := [
  ⟨0x1600, 0x00, 1, 0, 0, .u8, .rwp, .s, 3, (.range 0 32)⟩,
  ⟨0x1601, 0x00, 3, 1, 0, .u8, .rwp, .s, 0, (.range 0 32)⟩,
  ⟨0x1600, 0x01, 1, 0, 1, .u32, .rwp, .s, 0x20002810, .any⟩,
  ⟨0x1600, 0x02, 1, 0, 1, .u32, .rwp, .s, 0x2B100120, .any⟩,
  ⟨0x1600, 0x03, 1, 0, 1, .u32, .rwp, .s, 0x2B100220, .any⟩,
  ⟨0x1600, 0x04, 29, 0, 1, .u32, .rwp, .s, 0, .any⟩,
  ⟨0x1601, 0x01, 32, 0, 1, .u32, .rwp, .s, 0, .any⟩,
  ⟨0x1602, 0x01, 32, 0, 1, .u32, .rwp, .s, 0, .any⟩,
  ⟨0x1603, 0x01, 32, 0, 1, .u32, .rwp, .s, 0, .any⟩]

/-- Dictionary rows of the index page 0x1Axx. -/
def rowsTxMap : List EntryRow := [
  ⟨0x1A00, 0x00, 1, 0, 0, .u8, .rwp, .s, 14, (.range 0 32)⟩,
  ⟨0x1A00, 0x01, 1, 0, 1, .u32, .rwp, .s, 0x32000120, .any⟩,
  ⟨0x1A00, 0x02, 1, 0, 1, .u32, .rwp, .s, 0x20001008, .any⟩,
  ⟨0x1A00, 0x03, 1, 0, 1, .u32, .rwp, .s, 0x2A001008, .any⟩,
  ⟨0x1A00, 0x04, 1, 0, 1, .u32, .rwp, .s, 0x2A001108, .any⟩,
  ⟨0x1A00, 0x05, 1, 0, 1, .u32, .rwp, .s, 0x29000108, .any⟩,
  ⟨0x1A00, 0x06, 1, 0, 1, .u32, .rwp, .s, 0x29000508, .any⟩,
  ⟨0x1A00, 0x07, 1, 0, 1, .u32, .rwp, .s, 0x30001008, .any⟩,
  ⟨0x1A00, 0x08, 1, 0, 1, .u32, .rwp, .s, 0x20004008, .any⟩,
  ⟨0x1A00, 0x09, 1, 0, 1, .u32, .rwp, .s, 0x2A001510, .any⟩,
  ⟨0x1A00, 0x0A, 1, 0, 1, .u32, .rwp, .s, 0x28401020, .any⟩,
  ⟨0x1A00, 0x0B, 1, 0, 1, .u32, .rwp, .s, 0x2A001610, .any⟩,
  ⟨0x1A00, 0x0C, 1, 0, 1, .u32, .rwp, .s, 0x23001C20, .any⟩,
  ⟨0x1A00, 0x0D, 1, 0, 1, .u32, .rwp, .s, 0x23401020, .any⟩,
  ⟨0x1A00, 0x0E, 1, 0, 1, .u32, .rwp, .s, 0x2B001410, .any⟩,
  ⟨0x1A00, 0x0F, 18, 0, 1, .u32, .rwp, .s, 0, .any⟩,
  ⟨0x1A01, 0x00, 1, 0, 0, .u8, .rwp, .s, 16, (.range 0 32)⟩,
  ⟨0x1A01, 0x01, 1, 0, 1, .u32, .rwp, .s, 0x25002110, .any⟩,
  ⟨0x1A01, 0x02, 1, 0, 1, .u32, .rwp, .s, 0x25102110, .any⟩,
  ⟨0x1A01, 0x03, 1, 0, 1, .u32, .rwp, .s, 0x25202110, .any⟩,
  ⟨0x1A01, 0x04, 1, 0, 1, .u32, .rwp, .s, 0x25302110, .any⟩,
  ⟨0x1A01, 0x05, 1, 0, 1, .u32, .rwp, .s, 0x25402110, .any⟩,
  ⟨0x1A01, 0x06, 1, 0, 1, .u32, .rwp, .s, 0x25502110, .any⟩,
  ⟨0x1A01, 0x07, 1, 0, 1, .u32, .rwp, .s, 0x25602110, .any⟩,
  ⟨0x1A01, 0x08, 1, 0, 1, .u32, .rwp, .s, 0x25702110, .any⟩,
  ⟨0x1A01, 0x09, 1, 0, 1, .u32, .rwp, .s, 0x25802110, .any⟩,
  ⟨0x1A01, 0x0A, 1, 0, 1, .u32, .rwp, .s, 0x25902110, .any⟩,
  ⟨0x1A01, 0x0B, 1, 0, 1, .u32, .rwp, .s, 0x25A02110, .any⟩,
  ⟨0x1A01, 0x0C, 1, 0, 1, .u32, .rwp, .s, 0x25B02110, .any⟩,
  ⟨0x1A01, 0x0D, 1, 0, 1, .u32, .rwp, .s, 0x25C02110, .any⟩,
  ⟨0x1A01, 0x0E, 1, 0, 1, .u32, .rwp, .s, 0x25D02110, .any⟩,
  ⟨0x1A01, 0x0F, 1, 0, 1, .u32, .rwp, .s, 0x25E02110, .any⟩,
  ⟨0x1A01, 0x10, 1, 0, 1, .u32, .rwp, .s, 0x25F02110, .any⟩,
  ⟨0x1A01, 0x11, 16, 0, 1, .u32, .rwp, .s, 0, .any⟩,
  ⟨0x1A02, 0x00, 1, 0, 0, .u8, .rwp, .s, 16, (.range 0 32)⟩,
  ⟨0x1A02, 0x01, 1, 0, 1, .u32, .rwp, .s, 0x25002220, .any⟩] ++
  [  ⟨0x1A02, 0x02, 1, 0, 1, .u32, .rwp, .s, 0x25102220, .any⟩,
  ⟨0x1A02, 0x03, 1, 0, 1, .u32, .rwp, .s, 0x25202220, .any⟩,
  ⟨0x1A02, 0x04, 1, 0, 1, .u32, .rwp, .s, 0x25302220, .any⟩,
  ⟨0x1A02, 0x05, 1, 0, 1, .u32, .rwp, .s, 0x25402220, .any⟩,
  ⟨0x1A02, 0x06, 1, 0, 1, .u32, .rwp, .s, 0x25502220, .any⟩,
  ⟨0x1A02, 0x07, 1, 0, 1, .u32, .rwp, .s, 0x25602220, .any⟩,
  ⟨0x1A02, 0x08, 1, 0, 1, .u32, .rwp, .s, 0x25702220, .any⟩,
  ⟨0x1A02, 0x09, 1, 0, 1, .u32, .rwp, .s, 0x25802220, .any⟩,
  ⟨0x1A02, 0x0A, 1, 0, 1, .u32, .rwp, .s, 0x25902220, .any⟩,
  ⟨0x1A02, 0x0B, 1, 0, 1, .u32, .rwp, .s, 0x25A02220, .any⟩,
  ⟨0x1A02, 0x0C, 1, 0, 1, .u32, .rwp, .s, 0x25B02220, .any⟩,
  ⟨0x1A02, 0x0D, 1, 0, 1, .u32, .rwp, .s, 0x25C02220, .any⟩,
  ⟨0x1A02, 0x0E, 1, 0, 1, .u32, .rwp, .s, 0x25D02220, .any⟩,
  ⟨0x1A02, 0x0F, 1, 0, 1, .u32, .rwp, .s, 0x25E02220, .any⟩,
  ⟨0x1A02, 0x10, 1, 0, 1, .u32, .rwp, .s, 0x25F02220, .any⟩,
  ⟨0x1A02, 0x11, 16, 0, 1, .u32, .rwp, .s, 0, .any⟩,
  ⟨0x1A03, 0x00, 1, 0, 0, .u8, .rwp, .s, 7, (.range 0 32)⟩,
  ⟨0x1A03, 0x01, 1, 0, 1, .u32, .rwp, .s, 0x2D200610, .any⟩,
  ⟨0x1A03, 0x02, 1, 0, 1, .u32, .rwp, .s, 0x2C200108, .any⟩,
  ⟨0x1A03, 0x03, 1, 0, 1, .u32, .rwp, .s, 0x2C200320, .any⟩,
  ⟨0x1A03, 0x04, 1, 0, 1, .u32, .rwp, .s, 0x2C200420, .any⟩,
  ⟨0x1A03, 0x05, 1, 0, 1, .u32, .rwp, .s, 0x2C401008, .any⟩,
  ⟨0x1A03, 0x06, 1, 0, 1, .u32, .rwp, .s, 0x2D200E10, .any⟩,
  ⟨0x1A03, 0x07, 1, 0, 1, .u32, .rwp, .s, 0x2D200108, .any⟩,
  ⟨0x1A03, 0x08, 25, 0, 1, .u32, .rwp, .s, 0, .any⟩]

/-- Dictionary rows of the index page 0x1Cxx. -/
def rowsSm : List EntryRow := [
  ⟨0x1C12, 0x00, 1, 0, 0, .u8, .rwp, .s, 1, (.range 0 4)⟩,
  ⟨0x1C13, 0x00, 1, 0, 0, .u8, .rwp, .s, 3, (.range 0 4)⟩,
  ⟨0x1C12, 0x01, 1, 0, 1, .u16, .rwp, .s, 5632, .any⟩,
  ⟨0x1C12, 0x02, 3, 0, 1, .u16, .rwp, .s, 0, .any⟩,
  ⟨0x1C13, 0x01, 1, 0, 1, .u16, .rwp, .s, 6656, .any⟩,
  ⟨0x1C13, 0x02, 1, 0, 1, .u16, .rwp, .s, 6657, .any⟩,
  ⟨0x1C13, 0x03, 1, 0, 1, .u16, .rwp, .s, 6659, .any⟩,
  ⟨0x1C13, 0x04, 1, 0, 1, .u16, .rwp, .s, 0, .any⟩,
  ⟨0x1C00, 0x01, 1, 0, 1, .u8, .ro, .f, 1, .any⟩,
  ⟨0x1C00, 0x02, 1, 0, 1, .u8, .ro, .f, 2, .any⟩,
  ⟨0x1C00, 0x03, 1, 0, 1, .u8, .ro, .f, 3, .any⟩,
  ⟨0x1C00, 0x04, 1, 0, 1, .u8, .ro, .f, 4, .any⟩,
  ⟨0x1C32, 0x01, 1, 0, 0, .u16, .rwp, .s, 0, (.range 0 2)⟩,
  ⟨0x1C32, 0x02, 1, 0, 0, .u32, .ro, .f, 1000000, .any⟩,
  ⟨0x1C32, 0x03, 1, 0, 0, .u32, .ro, .f, 0, .any⟩,
  ⟨0x1C32, 0x04, 1, 0, 0, .u16, .ro, .f, 7, .any⟩,
  ⟨0x1C32, 0x05, 1, 0, 0, .u32, .ro, .f, 10000, .any⟩,
  ⟨0x1C32, 0x06, 1, 0, 0, .u32, .ro, .f, 0, .any⟩,
  ⟨0x1C33, 0x01, 1, 0, 0, .u16, .rwp, .s, 0, (.range 0 2)⟩,
  ⟨0x1C33, 0x02, 1, 0, 0, .u32, .ro, .f, 1000000, .any⟩,
  ⟨0x1C33, 0x03, 1, 0, 0, .u32, .ro, .f, 0, .any⟩,
  ⟨0x1C33, 0x04, 1, 0, 0, .u16, .ro, .f, 7, .any⟩,
  ⟨0x1C33, 0x05, 1, 0, 0, .u32, .ro, .f, 10000, .any⟩,
  ⟨0x1C33, 0x06, 1, 0, 0, .u32, .ro, .f, 0, .any⟩]

/-- Dictionary rows of the index page 0x20xx, part 1. -/
def rowsDevA : List EntryRow := [
  ⟨0x2000, 0x10, 1, 0, 0, .u8, .ro, .v, 2, .any⟩,
  ⟨0x2000, 0x11, 1, 0, 0, .u8, .wo, .v, 0, .any⟩,
  ⟨0x2000, 0x12, 1, 0, 0, .u8, .ro, .v, 0, .any⟩,
  ⟨0x2000, 0x13, 1, 0, 0, .u8, .rwl, .s, 0, (.range 0 1)⟩,
  ⟨0x2000, 0x20, 1, 0, 0, .u8, .ro, .v, 0, .any⟩,
  ⟨0x2000, 0x21, 1, 0, 0, .u16, .ro, .v, 0, .any⟩,
  ⟨0x2000, 0x22, 1, 0, 0, .u32, .wo, .v, 0, .any⟩,
  ⟨0x2000, 0x23, 1, 0, 0, .u8, .wo, .v, 0, .any⟩,
  ⟨0x2000, 0x24, 1, 0, 0, .u32, .ro, .v, 0, .any⟩,
  ⟨0x2000, 0x25, 1, 0, 0, .u32, .ro, .v, 0, .any⟩,
  ⟨0x2000, 0x30, 1, 0, 0, .u32, .ro, .v, 0, .any⟩,
  ⟨0x2000, 0x31, 1, 0, 0, .u32, .ro, .v, 0, .any⟩,
  ⟨0x2000, 0x32, 1, 0, 0, .u8, .ro, .v, 255, .any⟩,
  ⟨0x2000, 0x33, 1, 0, 0, .u32, .ro, .v, 0, .any⟩,
  ⟨0x2000, 0x34, 1, 0, 0, .u16, .ro, .v, 0, .any⟩,
  ⟨0x2000, 0x35, 1, 0, 0, .u8, .ro, .v, 0, .any⟩,
  ⟨0x2000, 0x36, 1, 0, 0, .u16, .wo, .v, 0, .any⟩,
  ⟨0x2000, 0x37, 1, 0, 0, .u16, .ro, .b, 0, .any⟩,
  ⟨0x2000, 0x38, 1, 0, 0, .u16, .ro, .b, 0, .any⟩,
  ⟨0x2000, 0x39, 1, 0, 0, .u32, .ro, .b, 0, .any⟩,
  ⟨0x2000, 0x26, 1, 0, 0, .u8, .rw, .s, 0, (.range 0 1)⟩,
  ⟨0x2000, 0x27, 1, 0, 0, .u16, .wo, .v, 0, .any⟩,
  ⟨0x2000, 0x28, 1, 0, 0, .u16, .rw, .v, 0, .any⟩,
  ⟨0x2000, 0x40, 1, 0, 0, .u8, .w1c, .v, 0, .any⟩,
  ⟨0x2000, 0x41, 1, 0, 0, .u8, .rw, .s, 14, .any⟩,
  ⟨0x2000, 0x42, 1, 0, 0, .u8, .rw, .s, 0, (.range 0 1)⟩,
  ⟨0x2000, 0x43, 1, 0, 0, .u32, .ro, .v, 0, .any⟩,
  ⟨0x2000, 0x44, 1, 0, 0, .u32, .ro, .v, 0, .any⟩,
  ⟨0x2000, 0x45, 1, 0, 0, .u32, .ro, .v, 0, .any⟩,
  ⟨0x2000, 0x46, 1, 0, 0, .u32, .ro, .v, 0, .any⟩,
  ⟨0x2000, 0x47, 1, 0, 0, .u8, .ro, .v, 0, .any⟩,
  ⟨0x2000, 0x48, 1, 0, 0, .u8, .ro, .v, 1, .any⟩,
  ⟨0x2000, 0x49, 1, 0, 0, .u16, .ro, .v, 0, .any⟩,
  ⟨0x2000, 0x4A, 1, 0, 0, .u8, .ro, .v, 0, .any⟩,
  ⟨0x2000, 0x4B, 1, 0, 0, .u8, .ro, .v, 0, .any⟩,
  ⟨0x2000, 0x4C, 1, 0, 0, .u32, .ro, .v, 0, .any⟩,
  ⟨0x2000, 0x4D, 1, 0, 0, .u8, .rwl, .s, 0, (.range 0 30)⟩,
  ⟨0x2000, 0x4E, 1, 0, 0, .u32, .ro, .v, 0, .any⟩,
  ⟨0x2000, 0x4F, 1, 0, 0, .u32, .ro, .v, 0, .any⟩,
  ⟨0x2000, 0x14, 1, 0, 0, .u8, .ro, .v, 0, .any⟩]

/-- Dictionary rows of the index page 0x20xx, part 2. -/
def rowsDevB : List EntryRow := [
  ⟨0x2000, 0x29, 1, 0, 0, .domain, .rwl, .v, 0, .any⟩]

/-- Dictionary rows of the index page 0x21xx. -/
def rowsJob : List EntryRow := [
  ⟨0x2100, 0x01, 1, 0, 0, .u16, .ro, .v, 0, .any⟩,
  ⟨0x2100, 0x02, 1, 0, 0, .u16, .ro, .v, 0, .any⟩,
  ⟨0x2100, 0x03, 1, 0, 0, .u32, .ro, .v, 0, .any⟩,
  ⟨0x2100, 0x04, 1, 0, 0, .u32, .ro, .v, 0, .any⟩,
  ⟨0x2100, 0x05, 1, 0, 0, .u16, .wo, .v, 0, .any⟩,
  ⟨0x2100, 0x06, 1, 0, 0, .u8, .w1c, .v, 0, .any⟩,
  ⟨0x2110, 0x01, 32, 0, 1, .u64, .ro, .v, 0, .any⟩,
  ⟨0x2118, 0x01, 32, 0, 1, .u32, .ro, .v, 0, .any⟩]

/-- Dictionary rows of the index page 0x22xx. -/
def rowsStride : List EntryRow := [
  ⟨0x2200, 0x01, 1, 0, 0, .u8, .rwl, .s, 3, (.range 0 3)⟩,
  ⟨0x2200, 0x02, 1, 0, 0, .u8, .rwl, .s, 0, (.range 0 1)⟩,
  ⟨0x2200, 0x03, 1, 0, 0, .u8, .rwl, .s, 1, (.range 1 255)⟩,
  ⟨0x2200, 0x04, 1, 0, 0, .u32, .rwl, .s, 20000, (.range 1000 60000000)⟩,
  ⟨0x2200, 0x05, 1, 0, 0, .u16, .rwl, .s, 200, (.range 10 2000)⟩,
  ⟨0x2200, 0x06, 1, 0, 0, .u8, .rwl, .s, 4, (.range 2 16)⟩,
  ⟨0x2200, 0x07, 1, 0, 0, .u8, .rwl, .s, 2, (.range 1 16)⟩,
  ⟨0x2200, 0x08, 1, 0, 0, .u8, .rwl, .s, 1, (.range 0 4)⟩,
  ⟨0x2200, 0x09, 1, 0, 0, .u16, .rwl, .s, 0, (.range 0 4095)⟩,
  ⟨0x2200, 0x0A, 1, 0, 0, .u16, .rwl, .s, 64, .any⟩,
  ⟨0x2200, 0x10, 1, 0, 0, .u8, .ro, .v, 0, .any⟩,
  ⟨0x2200, 0x11, 1, 0, 0, .u64, .ro, .v, 0, .any⟩,
  ⟨0x2200, 0x12, 1, 0, 0, .u32, .ro, .v, 0, .any⟩,
  ⟨0x2200, 0x13, 1, 0, 0, .u16, .ro, .v, 0, .any⟩,
  ⟨0x2200, 0x14, 1, 0, 0, .i16, .ro, .v, 0, .any⟩,
  ⟨0x2200, 0x15, 1, 0, 0, .u16, .w1c, .v, 0, .any⟩,
  ⟨0x2200, 0x16, 1, 0, 0, .u32, .ro, .v, 0, .any⟩,
  ⟨0x2200, 0x17, 1, 0, 0, .u32, .ro, .v, 0, .any⟩,
  ⟨0x2200, 0x18, 1, 0, 0, .u32, .ro, .v, 0, .any⟩,
  ⟨0x2200, 0x20, 1, 0, 0, .u8, .wo, .v, 0, .any⟩,
  ⟨0x2200, 0x21, 1, 0, 0, .u64, .ro, .v, 0, .any⟩,
  ⟨0x2200, 0x22, 1, 0, 0, .u32, .ro, .v, 0, .any⟩,
  ⟨0x2200, 0x23, 1, 0, 0, .u16, .ro, .v, 0, .any⟩,
  ⟨0x2200, 0x24, 1, 0, 0, .u64, .ro, .v, 0, .any⟩,
  ⟨0x2200, 0x25, 1, 0, 0, .u32, .ro, .v, 0, .any⟩,
  ⟨0x2200, 0x26, 1, 0, 0, .u8, .ro, .v, 0, .any⟩,
  ⟨0x2200, 0x27, 1, 0, 0, .u16, .ro, .v, 0, .any⟩,
  ⟨0x2200, 0x30, 1, 0, 0, .u8, .w1c, .v, 0, .any⟩,
  ⟨0x2200, 0x31, 8, 0, 1, .u32, .ro, .v, 0, .any⟩]

/-- Dictionary rows of the index page 0x23xx, part 1. -/
def rowsDividerA : List EntryRow := [
  ⟨0x2300, 0x01, 1, 0, 0, .u8, .rwl, .s, 0, (.range 0 4)⟩,
  ⟨0x2300, 0x02, 1, 0, 0, .u16, .rwl, .s, 500, (.range 250 1000)⟩,
  ⟨0x2300, 0x03, 1, 0, 0, .u16, .rwl, .s, 16000, (.range 12000 16000)⟩,
  ⟨0x2300, 0x04, 1, 0, 0, .u16, .rwl, .s, 50, (.range 10 1000)⟩,
  ⟨0x2300, 0x05, 1, 0, 0, .u16, .rwl, .s, 10, (.range 0 1000)⟩,
  ⟨0x2300, 0x06, 1, 0, 0, .u8, .rwl, .s, 10, (.range 1 50)⟩,
  ⟨0x2300, 0x07, 1, 0, 0, .u16, .rwl, .s, 2000, (.range 500 10000)⟩,
  ⟨0x2300, 0x08, 1, 0, 0, .u16, .rwl, .s, 10, (.range 0 60000)⟩,
  ⟨0x2300, 0x09, 1, 0, 0, .u16, .rwl, .s, 15000, (.range 15000 40000)⟩,
  ⟨0x2300, 0x0A, 1, 0, 0, .u8, .rwl, .s, 0, (.range 0 1)⟩,
  ⟨0x2300, 0x0B, 1, 0, 0, .u8, .rwl, .s, 10, (.range 5 20)⟩,
  ⟨0x2300, 0x0C, 1, 0, 0, .u16, .rwl, .s, 17000, .any⟩,
  ⟨0x2300, 0x0D, 1, 0, 0, .u16, .rwl, .s, 31000, .any⟩,
  ⟨0x2300, 0x0E, 1, 0, 0, .u16, .rwl, .s, 44000, .any⟩,
  ⟨0x2300, 0x0F, 1, 0, 0, .u16, .rwl, .s, 16500, .any⟩,
  ⟨0x2300, 0x10, 1, 0, 0, .u16, .rwl, .s, 29000, .any⟩,
  ⟨0x2300, 0x11, 1, 0, 0, .u16, .rwl, .s, 41000, .any⟩,
  ⟨0x2300, 0x18, 1, 0, 0, .u8, .ro, .v, 0, .any⟩,
  ⟨0x2300, 0x19, 1, 0, 0, .u8, .ro, .v, 0, .any⟩,
  ⟨0x2300, 0x1A, 1, 0, 0, .u8, .ro, .v, 0, .any⟩,
  ⟨0x2300, 0x1B, 1, 0, 0, .u8, .ro, .v, 0, .any⟩,
  ⟨0x2300, 0x1C, 1, 0, 0, .u32, .ro, .v, 0, .any⟩,
  ⟨0x2300, 0x1D, 1, 0, 0, .u32, .ro, .v, 0, .any⟩,
  ⟨0x2300, 0x1E, 1, 0, 0, .u16, .ro, .v, 0, .any⟩,
  ⟨0x2300, 0x1F, 1, 0, 0, .u16, .ro, .v, 0, .any⟩,
  ⟨0x2300, 0x20, 1, 0, 0, .u8, .ro, .v, 0, .any⟩,
  ⟨0x2300, 0x21, 1, 0, 0, .u32, .ro, .v, 0, .any⟩,
  ⟨0x2300, 0x22, 1, 0, 0, .u32, .ro, .v, 0, .any⟩,
  ⟨0x2300, 0x23, 1, 0, 0, .u32, .ro, .v, 0, .any⟩,
  ⟨0x2300, 0x24, 1, 0, 0, .u16, .w1c, .v, 0, .any⟩,
  ⟨0x2340, 0x01, 1, 0, 0, .u32, .rwl, .s, 240000, (.range 20000 240000)⟩,
  ⟨0x2340, 0x02, 1, 0, 0, .u32, .rwl, .s, 300000, (.range 20000 300000)⟩,
  ⟨0x2340, 0x03, 1, 0, 0, .u16, .rwl, .s, 10, (.range 1 10)⟩,
  ⟨0x2340, 0x04, 1, 0, 0, .u32, .rwl, .s, 5000, (.range 0 50000)⟩,
  ⟨0x2340, 0x10, 1, 0, 0, .u32, .ro, .v, 0, .any⟩,
  ⟨0x2340, 0x11, 1, 0, 0, .u32, .ro, .v, 0, .any⟩,
  ⟨0x2340, 0x12, 1, 0, 0, .u32, .ro, .v, 0, .any⟩,
  ⟨0x2340, 0x13, 1, 0, 0, .u32, .ro, .v, 0, .any⟩,
  ⟨0x2340, 0x14, 1, 0, 0, .u32, .ro, .v, 0, .any⟩,
  ⟨0x2340, 0x15, 1, 0, 0, .u16, .ro, .v, 0, .any⟩]

/-- Dictionary rows of the index page 0x23xx, part 2. -/
def rowsDividerB : List EntryRow := [
  ⟨0x2340, 0x16, 1, 0, 0, .u16, .ro, .v, 0, .any⟩,
  ⟨0x2340, 0x17, 1, 0, 0, .u32, .ro, .v, 0, .any⟩,
  ⟨0x2340, 0x18, 1, 0, 0, .u16, .w1c, .v, 0, .any⟩,
  ⟨0x2360, 0x01, 16, 0, 1, .u8, .rwl, .s, 0, (.range 0 7)⟩]

/-- Dictionary rows of the index page 0x24xx. -/
def rowsPhase : List EntryRow := [
  ⟨0x2400, 0x01, 8, 16, 0, .u8, .rwl, .s, 255, (.oneOf [0, 1, 2, 3, 4, 5, 6, 7, 255])⟩,
  ⟨0x2400, 0x02, 8, 16, 0, .u16, .rwl, .s, 18000, (.range 8000 20000)⟩,
  ⟨0x2400, 0x03, 8, 16, 0, .i16, .rwl, .s, 59536, (.range (-8000) (-1000))⟩,
  ⟨0x2400, 0x04, 8, 16, 0, .u16, .rwl, .s, 1250, (.range 800 1400)⟩,
  ⟨0x2400, 0x05, 8, 16, 0, .u16, .rwl, .s, 1450, (.range 900 1500)⟩,
  ⟨0x2400, 0x06, 8, 16, 0, .u8, .rwl, .s, 0, (.range 0 1)⟩,
  ⟨0x2400, 0x07, 8, 16, 0, .u8, .wo, .v, 0, .any⟩,
  ⟨0x2400, 0x10, 8, 16, 0, .u8, .ro, .v, 0, .any⟩,
  ⟨0x2400, 0x11, 8, 16, 0, .i16, .ro, .v, 0, .any⟩,
  ⟨0x2400, 0x12, 8, 16, 0, .i16, .ro, .v, 0, .any⟩,
  ⟨0x2400, 0x13, 8, 16, 0, .u16, .ro, .v, 0, .any⟩,
  ⟨0x2400, 0x14, 8, 16, 0, .u16, .ro, .v, 0, .any⟩,
  ⟨0x2400, 0x15, 8, 16, 0, .u8, .ro, .v, 0, .any⟩,
  ⟨0x2400, 0x16, 8, 16, 0, .u32, .ro, .v, 0, .any⟩,
  ⟨0x2400, 0x17, 8, 16, 0, .u32, .ro, .v, 0, .any⟩,
  ⟨0x2400, 0x18, 8, 16, 0, .u16, .w1c, .v, 0, .any⟩,
  ⟨0x2400, 0x19, 8, 16, 0, .u32, .ro, .v, 0, .any⟩,
  ⟨0x2480, 0x01, 1, 0, 0, .u8, .rwl, .s, 0, (.range 0 1)⟩,
  ⟨0x2480, 0x02, 1, 0, 0, .u8, .rwl, .s, 0, (.range 0 1)⟩,
  ⟨0x2480, 0x03, 1, 0, 0, .u32, .rwl, .s, 256, (.range 10 1000000)⟩,
  ⟨0x2480, 0x04, 1, 0, 0, .u8, .rwl, .s, 20, (.range 5 50)⟩,
  ⟨0x2480, 0x10, 1, 0, 0, .u8, .w1c, .v, 0, .any⟩,
  ⟨0x2480, 0x11, 1, 0, 0, .u32, .ro, .v, 0, .any⟩,
  ⟨0x2480, 0x12, 1, 0, 0, .u32, .ro, .v, 0, .any⟩,
  ⟨0x2490, 0x01, 8, 0, 1, .u32, .rw, .s, 0, .any⟩,
  ⟨0x2491, 0x01, 8, 0, 1, .u32, .rw, .s, 0, .any⟩,
  ⟨0x2492, 0x01, 8, 0, 1, .u32, .rw, .s, 1000, (.range 4 1000000)⟩]

/-- Dictionary rows of the index page 0x25xx, part 1. -/
def rowsRailA : List EntryRow := [
  ⟨0x2500, 0x01, 8, 16, 0, .u16, .rw, .s, 0, (.zeroOr 200 2200)⟩,
  ⟨0x2580, 0x01, 4, 16, 0, .u16, .rw, .s, 0, (.zeroOr 400 8000)⟩,
  ⟨0x25C0, 0x01, 4, 16, 0, .u16, .rw, .s, 0, (.zeroOr 240 1440)⟩,
  ⟨0x2500, 0x02, 8, 16, 0, .u16, .rw, .s, 1000, (.range 10 10000)⟩,
  ⟨0x2580, 0x02, 4, 16, 0, .u16, .rw, .s, 1000, (.range 10 10000)⟩,
  ⟨0x25C0, 0x02, 4, 16, 0, .u16, .rw, .s, 1000, (.range 10 1000)⟩,
  ⟨0x2500, 0x03, 8, 16, 0, .u16, .rwl, .s, 1000, (.range 100 50000)⟩,
  ⟨0x2580, 0x03, 4, 16, 0, .u16, .rwl, .s, 1000, (.range 100 50000)⟩,
  ⟨0x25C0, 0x03, 4, 16, 0, .u16, .rwl, .s, 1000, (.range 50 10000)⟩,
  ⟨0x2500, 0x04, 16, 16, 0, .u8, .rwl, .s, 1, (.range 0 2)⟩,
  ⟨0x2500, 0x05, 8, 16, 0, .u16, .rwl, .s, 200, (.range 50 1000)⟩,
  ⟨0x2580, 0x05, 4, 16, 0, .u16, .rwl, .s, 200, (.range 50 1000)⟩,
  ⟨0x25C0, 0x05, 4, 16, 0, .u16, .rwl, .s, 200, (.range 50 500)⟩,
  ⟨0x2500, 0x06, 16, 16, 0, .u16, .rwl, .s, 100, (.range 1 10000)⟩,
  ⟨0x2500, 0x07, 8, 16, 0, .u8, .rwl, .s, 0, (.range 0 2)⟩,
  ⟨0x2580, 0x07, 4, 16, 0, .u8, .rwl, .s, 0, (.range 0 2)⟩,
  ⟨0x25C0, 0x07, 4, 16, 0, .u8, .rwl, .s, 0, (.oneOf [0, 2])⟩,
  ⟨0x2500, 0x08, 8, 16, 0, .u16, .rwl, .s, 0, (.range 0 2000)⟩,
  ⟨0x2580, 0x08, 4, 16, 0, .u16, .rwl, .s, 0, (.range 0 50000)⟩,
  ⟨0x25C0, 0x08, 4, 16, 0, .u16, .rwl, .s, 0, (.range 0 0)⟩,
  ⟨0x2500, 0x09, 16, 16, 0, .u8, .wo, .v, 0, .any⟩,
  ⟨0x2500, 0x10, 8, 16, 0, .u16, .rwl, .s, 2000, (.range 800 4000)⟩,
  ⟨0x2500, 0x11, 8, 16, 0, .u16, .rwl, .s, 470, (.range 100 2200)⟩,
  ⟨0x2500, 0x12, 8, 16, 0, .u16, .rwl, .s, 400, (.range 10 20000)⟩,
  ⟨0x2500, 0x13, 8, 16, 0, .u16, .rwl, .s, 100, (.range 10 400)⟩,
  ⟨0x2500, 0x14, 8, 16, 0, .u8, .rw, .s, 0, (.range 0 1)⟩,
  ⟨0x2500, 0x15, 8, 16, 0, .u16, .rw, .s, 500, (.range 100 5000)⟩,
  ⟨0x2500, 0x16, 8, 16, 0, .u16, .rw, .s, 10, (.range 5 100)⟩,
  ⟨0x2500, 0x17, 8, 16, 0, .u8, .rw, .s, 0, (.range 0 1)⟩,
  ⟨0x2500, 0x18, 8, 16, 0, .u32, .rw, .s, 0, .any⟩,
  ⟨0x2500, 0x19, 8, 16, 0, .u8, .rw, .s, 0, (.range 0 1)⟩,
  ⟨0x2500, 0x1A, 8, 16, 0, .u16, .rw, .s, 2000, (.range 500 8000)⟩,
  ⟨0x2500, 0x1B, 8, 16, 0, .u16, .rw, .s, 6000, (.range 1000 9500)⟩,
  ⟨0x2500, 0x1C, 8, 16, 0, .u8, .rw, .s, 1, (.range 1 8)⟩,
  ⟨0x2500, 0x1D, 8, 16, 0, .u16, .rw, .s, 10, (.range 1 60000)⟩,
  ⟨0x2500, 0x20, 16, 16, 0, .u8, .ro, .v, 0, .any⟩,
  ⟨0x2500, 0x21, 16, 16, 0, .u16, .ro, .v, 0, .any⟩,
  ⟨0x2500, 0x22, 16, 16, 0, .u32, .ro, .v, 0, .any⟩,
  ⟨0x2500, 0x23, 16, 16, 0, .u32, .ro, .v, 0, .any⟩,
  ⟨0x2500, 0x24, 16, 16, 0, .u16, .ro, .v, 0, .any⟩]

/-- Dictionary rows of the index page 0x25xx, part 2. -/
def rowsRailB : List EntryRow := [
  ⟨0x2500, 0x25, 16, 16, 0, .u8, .ro, .v, 0, .any⟩,
  ⟨0x2500, 0x26, 16, 16, 0, .u8, .ro, .v, 0, .any⟩,
  ⟨0x2500, 0x27, 16, 16, 0, .u16, .w1c, .v, 0, .any⟩,
  ⟨0x2500, 0x28, 8, 16, 0, .u8, .ro, .v, 0, .any⟩,
  ⟨0x2500, 0x29, 16, 16, 0, .u8, .ro, .v, 0, .any⟩,
  ⟨0x2500, 0x2A, 8, 16, 0, .u32, .ro, .v, 0, .any⟩]

/-- Dictionary rows of the index page 0x26xx. -/
def rowsXb : List EntryRow := [
  ⟨0x2600, 0x01, 4, 16, 0, .u16, .rwl, .s, 1000, (.range 500 2500)⟩,
  ⟨0x2600, 0x02, 4, 16, 0, .u16, .rwl, .s, 2200, (.range 1000 10000)⟩,
  ⟨0x2600, 0x03, 4, 16, 0, .u16, .rwl, .s, 47, (.range 22 2000)⟩,
  ⟨0x2600, 0x04, 4, 16, 0, .u16, .rwl, .s, 30, (.range 5 100)⟩,
  ⟨0x2600, 0x05, 4, 16, 0, .u8, .rw, .s, 0, (.range 0 1)⟩,
  ⟨0x2600, 0x06, 4, 16, 0, .u16, .rw, .s, 200, (.range 50 1000)⟩,
  ⟨0x2600, 0x07, 4, 16, 0, .u16, .rwl, .s, 2500, (.range 100 2500)⟩,
  ⟨0x2600, 0x08, 4, 16, 0, .u16, .rwl, .s, 20000, (.range 1000 20000)⟩,
  ⟨0x2600, 0x09, 4, 16, 0, .u16, .rwl, .s, 100, (.range 1 10000)⟩,
  ⟨0x2600, 0x0A, 4, 16, 0, .u16, .rwl, .s, 1250, (.range 800 1400)⟩,
  ⟨0x2600, 0x0B, 4, 16, 0, .u16, .rwl, .s, 1450, (.range 900 1500)⟩,
  ⟨0x2600, 0x0C, 4, 16, 0, .u8, .rw, .s, 0, .any⟩,
  ⟨0x2600, 0x10, 4, 16, 0, .u8, .ro, .v, 0, .any⟩,
  ⟨0x2600, 0x11, 4, 16, 0, .u32, .ro, .v, 0, .any⟩,
  ⟨0x2600, 0x12, 4, 16, 0, .i16, .ro, .v, 0, .any⟩,
  ⟨0x2600, 0x13, 4, 16, 0, .u16, .ro, .v, 0, .any⟩,
  ⟨0x2600, 0x14, 4, 16, 0, .u8, .ro, .v, 0, .any⟩,
  ⟨0x2600, 0x15, 4, 16, 0, .u16, .w1c, .v, 0, .any⟩,
  ⟨0x2600, 0x16, 4, 16, 0, .u32, .ro, .v, 0, .any⟩]

/-- Dictionary rows of the index page 0x27xx. -/
def rowsLdo : List EntryRow := [
  ⟨0x2700, 0x01, 1, 16, 0, .u8, .rwl, .s, 0, (.range 0 1)⟩,
  ⟨0x2700, 0x02, 4, 16, 0, .u16, .rwl, .s, 750, (.range 50 750)⟩,
  ⟨0x2700, 0x03, 4, 16, 0, .u16, .rwl, .s, 100, (.range 1 10000)⟩,
  ⟨0x2700, 0x10, 4, 16, 0, .u16, .ro, .v, 0, .any⟩,
  ⟨0x2700, 0x11, 4, 16, 0, .u16, .ro, .v, 0, .any⟩,
  ⟨0x2700, 0x12, 4, 16, 0, .u16, .ro, .v, 0, .any⟩,
  ⟨0x2700, 0x13, 4, 16, 0, .u8, .ro, .v, 0, .any⟩,
  ⟨0x2700, 0x14, 4, 16, 0, .u8, .w1c, .v, 0, .any⟩,
  ⟨0x2700, 0x17, 1, 16, 0, .u32, .ro, .b, 0, .any⟩,
  ⟨0x2740, 0x01, 1, 0, 0, .u16, .rwl, .s, 1250, (.range 800 1400)⟩,
  ⟨0x2740, 0x02, 1, 0, 0, .u16, .rwl, .s, 1450, (.range 900 1500)⟩,
  ⟨0x2740, 0x10, 1, 0, 0, .i16, .ro, .v, 0, .any⟩]

/-- Dictionary rows of the index page 0x28xx, part 1. -/
def rowsSupA : List EntryRow := [
  ⟨0x2800, 0x01, 16, 1, 0, .u8, .rwl, .s, 1, (.range 0 1)⟩,
  ⟨0x2810, 0x01, 8, 1, 0, .u8, .rwl, .s, 0, (.range 0 1)⟩,
  ⟨0x2800, 0x02, 16, 1, 0, .u16, .rw, .s, 50, (.zeroOr 5 300)⟩,
  ⟨0x2810, 0x02, 8, 1, 0, .u16, .rw, .s, 0, .any⟩,
  ⟨0x2800, 0x03, 16, 1, 0, .u16, .rw, .s, 100, (.zeroOr 5 300)⟩,
  ⟨0x2810, 0x03, 8, 1, 0, .u16, .rw, .s, 0, .any⟩,
  ⟨0x2800, 0x04, 16, 1, 0, .u16, .rw, .s, 50, (.zeroOr 5 300)⟩,
  ⟨0x2810, 0x04, 8, 1, 0, .u16, .rw, .s, 0, .any⟩,
  ⟨0x2800, 0x05, 16, 1, 0, .u16, .rw, .s, 100, (.zeroOr 5 300)⟩,
  ⟨0x2810, 0x05, 8, 1, 0, .u16, .rw, .s, 0, .any⟩,
  ⟨0x2800, 0x06, 16, 1, 0, .u16, .rw, .s, 10, (.range 1 100)⟩,
  ⟨0x2810, 0x06, 8, 1, 0, .u16, .rw, .s, 10, (.range 1 1000)⟩,
  ⟨0x2800, 0x07, 16, 1, 0, .u32, .rw, .s, 0, .any⟩,
  ⟨0x2800, 0x08, 16, 1, 0, .u32, .rw, .s, 0, .any⟩,
  ⟨0x2800, 0x09, 24, 1, 0, .u8, .rw, .s, 1, (.range 1 255)⟩,
  ⟨0x2800, 0x0A, 24, 1, 0, .u16, .rw, .s, 100, (.range 1 65535)⟩,
  ⟨0x2800, 0x0B, 24, 1, 0, .u16, .rw, .s, 50, (.range 1 65535)⟩,
  ⟨0x2800, 0x0C, 24, 1, 0, .u16, .rw, .s, 500, .any⟩,
  ⟨0x2800, 0x0D, 24, 1, 0, .u8, .rw, .s, 8, .any⟩,
  ⟨0x2810, 0x0E, 8, 1, 0, .u16, .rwl, .s, 1000, (.range 1000 20000)⟩,
  ⟨0x2800, 0x10, 24, 1, 0, .u16, .ro, .v, 0, .any⟩,
  ⟨0x2800, 0x11, 16, 1, 0, .u32, .ro, .v, 0, .any⟩,
  ⟨0x2800, 0x12, 24, 1, 0, .u8, .ro, .v, 0, .any⟩,
  ⟨0x2800, 0x13, 24, 1, 0, .u16, .w1c, .v, 0, .any⟩,
  ⟨0x2800, 0x14, 24, 1, 0, .u32, .ro, .v, 0, .any⟩,
  ⟨0x2800, 0x15, 24, 1, 0, .u32, .ro, .v, 0, .any⟩,
  ⟨0x2800, 0x16, 24, 1, 0, .u32, .ro, .v, 0, .any⟩,
  ⟨0x2800, 0x17, 24, 1, 0, .u16, .ro, .v, 65535, .any⟩,
  ⟨0x2800, 0x18, 24, 1, 0, .u16, .ro, .v, 0, .any⟩,
  ⟨0x2840, 0x01, 1, 0, 0, .u32, .rwl, .s, 0, (.range 0 16777215)⟩,
  ⟨0x2840, 0x02, 1, 0, 0, .u16, .rw, .s, 1000, (.range 1 60000)⟩,
  ⟨0x2840, 0x10, 1, 0, 0, .u32, .ro, .v, 0, .any⟩,
  ⟨0x2840, 0x11, 1, 0, 0, .u8, .ro, .v, 0, .any⟩,
  ⟨0x2880, 0x01, 12, 1, 0, .u8, .rwl, .s, 0, (.range 0 1)⟩,
  ⟨0x2880, 0x02, 12, 1, 0, .u16, .rw, .s, 50, (.range 20 100)⟩,
  ⟨0x2880, 0x03, 12, 1, 0, .u32, .rw, .s, 10000, (.range 1000 100000)⟩,
  ⟨0x2880, 0x04, 12, 1, 0, .u32, .rw, .s, 250000, .any⟩,
  ⟨0x2880, 0x05, 12, 1, 0, .u32, .rw, .s, 86400, (.range 0 2592000)⟩,
  ⟨0x2880, 0x06, 12, 1, 0, .u8, .rw, .s, 0, (.range 0 1)⟩,
  ⟨0x2880, 0x07, 12, 1, 0, .u16, .rw, .s, 0, (.range 0 4095)⟩]

/-- Dictionary rows of the index page 0x28xx, part 2. -/
def rowsSupB : List EntryRow := [
  ⟨0x2880, 0x08, 12, 1, 0, .u16, .rw, .s, 150, .any⟩,
  ⟨0x2880, 0x09, 12, 1, 0, .u16, .rw, .s, 300, .any⟩,
  ⟨0x2880, 0x0A, 12, 1, 0, .u16, .rw, .s, 500, .any⟩,
  ⟨0x2880, 0x0B, 12, 1, 0, .u16, .rw, .s, 1000, .any⟩,
  ⟨0x2880, 0x0C, 12, 1, 0, .u16, .rw, .s, 100, .any⟩,
  ⟨0x2880, 0x0D, 12, 1, 0, .u16, .rw, .s, 200, .any⟩,
  ⟨0x2880, 0x0E, 12, 1, 0, .u16, .rw, .s, 250, .any⟩,
  ⟨0x2880, 0x0F, 12, 1, 0, .u16, .rw, .s, 500, .any⟩,
  ⟨0x2880, 0x10, 12, 1, 0, .u32, .ro, .v, 0, .any⟩,
  ⟨0x2880, 0x11, 12, 1, 0, .u8, .ro, .v, 0, .any⟩,
  ⟨0x2880, 0x12, 12, 1, 0, .u32, .ro, .v, 0, .any⟩,
  ⟨0x2880, 0x13, 12, 1, 0, .i16, .ro, .v, 0, .any⟩,
  ⟨0x2880, 0x14, 12, 1, 0, .u32, .ro, .v, 0, .any⟩,
  ⟨0x2880, 0x15, 12, 1, 0, .u32, .ro, .v, 0, .any⟩,
  ⟨0x2880, 0x16, 12, 1, 0, .u16, .ro, .v, 0, .any⟩,
  ⟨0x2880, 0x17, 12, 1, 0, .i16, .ro, .v, 0, .any⟩,
  ⟨0x2880, 0x18, 12, 1, 0, .i16, .ro, .v, 0, .any⟩,
  ⟨0x2880, 0x19, 12, 1, 0, .i16, .ro, .v, 0, .any⟩,
  ⟨0x2880, 0x1A, 12, 1, 0, .i16, .ro, .v, 0, .any⟩,
  ⟨0x2880, 0x1B, 12, 1, 0, .u8, .ro, .v, 0, .any⟩,
  ⟨0x2880, 0x20, 12, 1, 0, .u32, .rwl, .s, 0, .any⟩,
  ⟨0x2880, 0x21, 12, 1, 0, .i16, .rwl, .s, 0, .any⟩,
  ⟨0x2880, 0x22, 12, 1, 0, .u32, .rwl, .s, 0, .any⟩,
  ⟨0x2880, 0x23, 12, 1, 0, .u32, .rwl, .s, 0, .any⟩,
  ⟨0x2880, 0x24, 12, 1, 0, .u16, .rwl, .s, 0, .any⟩,
  ⟨0x2880, 0x25, 12, 1, 0, .u8, .rwl, .s, 0, (.range 0 1)⟩,
  ⟨0x28C0, 0x01, 1, 0, 0, .u16, .rw, .s, 64, (.range 16 1024)⟩,
  ⟨0x28C0, 0x02, 1, 0, 0, .u8, .rw, .s, 16, (.range 8 32)⟩,
  ⟨0x28C0, 0x03, 1, 0, 0, .u8, .rw, .s, 3, (.range 1 16)⟩,
  ⟨0x28C0, 0x04, 1, 0, 0, .u16, .rw, .s, 100, (.range 10 500)⟩,
  ⟨0x28C0, 0x05, 1, 0, 0, .u8, .rw, .s, 10, (.range 1 50)⟩,
  ⟨0x28C0, 0x06, 1, 0, 0, .u8, .rw, .s, 8, (.range 1 255)⟩,
  ⟨0x28C0, 0x07, 1, 0, 0, .u8, .rw, .s, 4, (.range 1 16)⟩,
  ⟨0x28C0, 0x08, 1, 0, 0, .u8, .wo, .v, 0, .any⟩,
  ⟨0x28C0, 0x09, 1, 0, 0, .u16, .wo, .v, 0, .any⟩,
  ⟨0x28C0, 0x10, 1, 0, 0, .u8, .ro, .v, 0, .any⟩,
  ⟨0x28C0, 0x11, 1, 0, 0, .u8, .ro, .v, 255, .any⟩,
  ⟨0x28C0, 0x12, 1, 0, 0, .u8, .ro, .v, 0, .any⟩,
  ⟨0x28C0, 0x13, 1, 0, 0, .u8, .w1c, .v, 0, .any⟩]

/-- Dictionary rows of the index page 0x29xx, part 1. -/
def rowsSeqA : List EntryRow := [
  ⟨0x2900, 0x01, 1, 0, 0, .u8, .ro, .v, 0, .any⟩,
  ⟨0x2900, 0x02, 1, 0, 0, .u8, .ro, .v, 255, .any⟩,
  ⟨0x2900, 0x03, 1, 0, 0, .u16, .ro, .v, 0, .any⟩,
  ⟨0x2900, 0x04, 1, 0, 0, .u32, .ro, .v, 0, .any⟩,
  ⟨0x2900, 0x05, 1, 0, 0, .u8, .ro, .v, 0, .any⟩,
  ⟨0x2900, 0x06, 1, 0, 0, .u8, .ro, .v, 0, .any⟩,
  ⟨0x2900, 0x07, 1, 0, 0, .u8, .ro, .v, 0, .any⟩,
  ⟨0x2900, 0x08, 1, 0, 0, .u16, .ro, .v, 0, .any⟩,
  ⟨0x2900, 0x09, 1, 0, 0, .u8, .ro, .v, 0, .any⟩,
  ⟨0x2900, 0x0A, 1, 0, 0, .u16, .ro, .v, 0, .any⟩,
  ⟨0x2900, 0x0B, 1, 0, 0, .u32, .ro, .v, 0, .any⟩,
  ⟨0x2900, 0x0C, 1, 0, 0, .u16, .ro, .v, 0, .any⟩,
  ⟨0x2900, 0x0D, 1, 0, 0, .u8, .ro, .v, 0, .any⟩,
  ⟨0x2900, 0x0E, 1, 0, 0, .u16, .w1c, .v, 0, .any⟩,
  ⟨0x2900, 0x10, 1, 0, 0, .u8, .wo, .v, 0, .any⟩,
  ⟨0x2900, 0x11, 1, 0, 0, .u8, .wo, .v, 0, .any⟩,
  ⟨0x2900, 0x12, 1, 0, 0, .u16, .rw, .s, 1000, (.range 10 60000)⟩,
  ⟨0x2900, 0x13, 1, 0, 0, .u8, .rwl, .s, 0, .any⟩,
  ⟨0x2900, 0x14, 1, 0, 0, .u32, .ro, .s, 0, .any⟩,
  ⟨0x2900, 0x15, 1, 0, 0, .u16, .ro, .s, 0, .any⟩,
  ⟨0x2910, 0x01, 8, 0, 1, .u32, .ro, .s, 0, .any⟩,
  ⟨0x2918, 0x01, 1, 0, 0, .domain, .rwl, .s, 0, .any⟩,
  ⟨0x2920, 0x01, 32, 0, 1, .u32, .rw, .s, 1000, (.range 1 10000000)⟩,
  ⟨0x2921, 0x01, 32, 0, 1, .u32, .rw, .s, 100, (.range 1 3600000)⟩,
  ⟨0x2922, 0x01, 32, 0, 1, .u8, .rw, .s, 8, .any⟩,
  ⟨0x2930, 0x01, 1, 0, 0, .u8, .ro, .v, 0, .any⟩,
  ⟨0x2930, 0x02, 1, 0, 0, .u8, .ro, .v, 0, .any⟩,
  ⟨0x2930, 0x03, 1, 0, 0, .u8, .ro, .v, 255, .any⟩,
  ⟨0x2930, 0x04, 1, 0, 0, .u8, .ro, .v, 255, .any⟩,
  ⟨0x2930, 0x05, 1, 0, 0, .u8, .ro, .v, 0, .any⟩,
  ⟨0x2930, 0x06, 1, 0, 0, .u16, .ro, .v, 0, .any⟩,
  ⟨0x2930, 0x07, 1, 0, 0, .u16, .ro, .v, 0, .any⟩,
  ⟨0x2930, 0x08, 1, 0, 0, .u8, .ro, .v, 0, .any⟩,
  ⟨0x2930, 0x09, 1, 0, 0, .u16, .ro, .v, 0, .any⟩,
  ⟨0x2930, 0x0A, 1, 0, 0, .u64, .ro, .v, 0, .any⟩,
  ⟨0x2930, 0x0B, 1, 0, 0, .u64, .ro, .v, 0, .any⟩,
  ⟨0x2930, 0x10, 1, 0, 0, .u8, .wo, .v, 0, .any⟩,
  ⟨0x2940, 0x01, 1, 0, 0, .u8, .rwl, .s, 0, (.range 0 1)⟩,
  ⟨0x2940, 0x02, 1, 0, 0, .u8, .rwl, .s, 2, (.range 2 16)⟩,
  ⟨0x2940, 0x03, 1, 0, 0, .u8, .rwl, .s, 4, (.range 3 255)⟩]

/-- Dictionary rows of the index page 0x29xx, part 2. -/
def rowsSeqB : List EntryRow := [
  ⟨0x2940, 0x04, 1, 0, 0, .u16, .rwl, .s, 1000, (.range 10 60000)⟩,
  ⟨0x2940, 0x05, 1, 0, 0, .u8, .rwl, .s, 1, (.range 0 1)⟩,
  ⟨0x2940, 0x06, 1, 0, 0, .u8, .rwl, .s, 4, (.range 2 255)⟩,
  ⟨0x2940, 0x07, 1, 0, 0, .u16, .rwl, .s, 10, (.range 1 10000)⟩,
  ⟨0x2940, 0x08, 1, 0, 0, .u8, .wo, .v, 0, .any⟩,
  ⟨0x2940, 0x10, 1, 0, 0, .u8, .ro, .v, 0, .any⟩,
  ⟨0x2940, 0x11, 1, 0, 0, .u32, .ro, .v, 0, .any⟩,
  ⟨0x2940, 0x12, 1, 0, 0, .u32, .ro, .v, 0, .any⟩,
  ⟨0x2940, 0x13, 1, 0, 0, .u32, .ro, .v, 0, .any⟩,
  ⟨0x2940, 0x14, 1, 0, 0, .u8, .w1c, .v, 0, .any⟩]

/-- Dictionary rows of the index page 0x2Axx. -/
def rowsFault : List EntryRow := [
  ⟨0x2A00, 0x01, 1, 0, 0, .u32, .rw, .s, 1000, (.range 10 3600000)⟩,
  ⟨0x2A00, 0x02, 1, 0, 0, .u8, .rw, .s, 3, .any⟩,
  ⟨0x2A00, 0x03, 1, 0, 0, .u32, .rw, .s, 3600, (.range 1 2592000)⟩,
  ⟨0x2A00, 0x04, 1, 0, 0, .u16, .rw, .s, 0, .any⟩,
  ⟨0x2A00, 0x05, 1, 0, 0, .u32, .rw, .s, 0, .any⟩,
  ⟨0x2A00, 0x06, 1, 0, 0, .u8, .rw, .s, 2, (.range 0 5)⟩,
  ⟨0x2A00, 0x07, 1, 0, 0, .u8, .rw, .s, 1, (.range 0 6)⟩,
  ⟨0x2A00, 0x08, 1, 0, 0, .u8, .rw, .s, 2, (.range 0 6)⟩,
  ⟨0x2A00, 0x09, 1, 0, 0, .u8, .rwl, .s, 1, (.range 0 1)⟩,
  ⟨0x2A00, 0x10, 1, 0, 0, .u8, .ro, .v, 0, .any⟩,
  ⟨0x2A00, 0x11, 1, 0, 0, .u8, .ro, .v, 0, .any⟩,
  ⟨0x2A00, 0x12, 1, 0, 0, .u8, .wo, .v, 0, .any⟩,
  ⟨0x2A00, 0x13, 1, 0, 0, .u32, .ro, .v, 0, .any⟩,
  ⟨0x2A00, 0x14, 1, 0, 0, .u8, .ro, .b, 0, .any⟩,
  ⟨0x2A00, 0x15, 1, 0, 0, .u16, .ro, .v, 0, .any⟩,
  ⟨0x2A00, 0x16, 1, 0, 0, .u16, .ro, .v, 0, .any⟩,
  ⟨0x2A00, 0x17, 1, 0, 0, .u8, .ro, .v, 0, .any⟩,
  ⟨0x2A00, 0x18, 1, 0, 0, .u16, .w1c, .v, 0, .any⟩,
  ⟨0x2A00, 0x19, 1, 0, 0, .u32, .ro, .v, 0, .any⟩,
  ⟨0x2A00, 0x1A, 1, 0, 0, .u32, .ro, .v, 0, .any⟩,
  ⟨0x2A00, 0x1B, 1, 0, 0, .u8, .ro, .b, 0, .any⟩,
  ⟨0x2A00, 0x1C, 1, 0, 0, .u16, .wo, .v, 0, .any⟩,
  ⟨0x2A00, 0x1D, 1, 0, 0, .u8, .wo, .v, 0, .any⟩,
  ⟨0x2A10, 0x01, 6, 0, 1, .u32, .ro, .v, 0, .any⟩,
  ⟨0x2A20, 0x01, 1, 0, 0, .u8, .ro, .v, 0, .any⟩,
  ⟨0x2A20, 0x02, 1, 0, 0, .u16, .ro, .v, 0, .any⟩,
  ⟨0x2A20, 0x03, 1, 0, 0, .u8, .ro, .v, 0, .any⟩,
  ⟨0x2A20, 0x04, 1, 0, 0, .u8, .ro, .v, 0, .any⟩,
  ⟨0x2A20, 0x05, 1, 0, 0, .u64, .ro, .v, 0, .any⟩,
  ⟨0x2A20, 0x06, 1, 0, 0, .u64, .ro, .v, 0, .any⟩,
  ⟨0x2A20, 0x07, 1, 0, 0, .u8, .ro, .v, 0, .any⟩,
  ⟨0x2A20, 0x08, 1, 0, 0, .u32, .ro, .v, 0, .any⟩,
  ⟨0x2A30, 0x01, 8, 0, 1, .u16, .rwl, .s, 0, .any⟩,
  ⟨0x2A38, 0x01, 8, 0, 1, .u16, .rwl, .s, 0, .any⟩,
  ⟨0x2A40, 0x01, 32, 0, 1, .u32, .rwl, .s, 0, .any⟩,
  ⟨0x2A50, 0x01, 32, 0, 1, .u32, .ro, .v, 0, .any⟩]

/-- Dictionary rows of the index page 0x2Bxx. -/
def rowsWdg : List EntryRow := [
  ⟨0x2B00, 0x01, 1, 0, 0, .u8, .rwl, .s, 0, (.range 0 1)⟩,
  ⟨0x2B00, 0x02, 1, 0, 0, .u8, .rwl, .s, 0, (.range 0 1)⟩,
  ⟨0x2B00, 0x03, 1, 0, 0, .u32, .rwl, .s, 100000, (.range 1000 60000000)⟩,
  ⟨0x2B00, 0x04, 1, 0, 0, .u8, .rwl, .s, 0, (.range 0 15)⟩,
  ⟨0x2B00, 0x05, 1, 0, 0, .u16, .rwl, .s, 0, .any⟩,
  ⟨0x2B00, 0x06, 1, 0, 0, .u8, .rwl, .s, 0, (.range 0 1)⟩,
  ⟨0x2B00, 0x07, 1, 0, 0, .u8, .rwl, .s, 0, (.range 0 1)⟩,
  ⟨0x2B00, 0x08, 1, 0, 0, .u8, .rwl, .s, 0, (.range 0 2)⟩,
  ⟨0x2B00, 0x09, 1, 0, 0, .u8, .rwl, .s, 255, (.oneOf [0, 1, 2, 3, 4, 5, 6, 7, 255])⟩,
  ⟨0x2B00, 0x0A, 1, 0, 0, .u16, .rwl, .s, 10, (.range 1 1000)⟩,
  ⟨0x2B00, 0x0B, 1, 0, 0, .u32, .rwl, .s, 10000, (.range 0 600000)⟩,
  ⟨0x2B00, 0x0C, 1, 0, 0, .u16, .wo, .v, 0, .any⟩,
  ⟨0x2B00, 0x0D, 1, 0, 0, .u8, .rw, .v, 0, (.range 0 1)⟩,
  ⟨0x2B00, 0x0E, 1, 0, 0, .u8, .wo, .v, 0, .any⟩,
  ⟨0x2B00, 0x10, 1, 0, 0, .u8, .ro, .v, 0, .any⟩,
  ⟨0x2B00, 0x11, 1, 0, 0, .u8, .ro, .v, 0, .any⟩,
  ⟨0x2B00, 0x12, 1, 0, 0, .u64, .ro, .v, 0, .any⟩,
  ⟨0x2B00, 0x13, 1, 0, 0, .u64, .ro, .v, 0, .any⟩,
  ⟨0x2B00, 0x14, 1, 0, 0, .u16, .ro, .v, 0, .any⟩,
  ⟨0x2B00, 0x15, 1, 0, 0, .u32, .ro, .v, 0, .any⟩,
  ⟨0x2B00, 0x16, 1, 0, 0, .u8, .ro, .v, 0, .any⟩,
  ⟨0x2B00, 0x17, 1, 0, 0, .u16, .ro, .v, 0, .any⟩,
  ⟨0x2B00, 0x18, 1, 0, 0, .u16, .ro, .v, 0, .any⟩,
  ⟨0x2B00, 0x19, 1, 0, 0, .u16, .ro, .v, 0, .any⟩,
  ⟨0x2B00, 0x1A, 1, 0, 0, .u64, .ro, .v, 0, .any⟩,
  ⟨0x2B00, 0x1B, 1, 0, 0, .u8, .w1c, .b, 0, .any⟩,
  ⟨0x2B00, 0x1C, 1, 0, 0, .u32, .ro, .b, 0, .any⟩,
  ⟨0x2B00, 0x1D, 1, 0, 0, .u32, .ro, .v, 0, .any⟩,
  ⟨0x2B00, 0x1E, 1, 0, 0, .u8, .w1c, .v, 0, .any⟩,
  ⟨0x2B10, 0x01, 16, 0, 1, .u32, .wo, .v, 0, .any⟩,
  ⟨0x2B20, 0x01, 16, 0, 1, .u32, .ro, .v, 0, .any⟩,
  ⟨0x2B28, 0x01, 16, 0, 1, .u64, .ro, .v, 0, .any⟩,
  ⟨0x2B30, 0x01, 16, 0, 1, .u32, .ro, .v, 0, .any⟩,
  ⟨0x2B38, 0x01, 16, 0, 1, .u64, .ro, .v, 0, .any⟩]

/-- Dictionary rows of the index page 0x2Cxx, part 1. -/
def rowsChgA : List EntryRow := [
  ⟨0x2C00, 0x01, 1, 0, 0, .u8, .rw, .s, 0, (.range 0 1)⟩,
  ⟨0x2C00, 0x02, 1, 0, 0, .u8, .rwl, .s, 0, (.range 0 2)⟩,
  ⟨0x2C00, 0x03, 1, 0, 0, .u8, .rwl, .s, 12, (.range 6 16)⟩,
  ⟨0x2C00, 0x04, 1, 0, 0, .u16, .rw, .s, 0, .any⟩,
  ⟨0x2C00, 0x05, 1, 0, 0, .u16, .rw, .s, 2000, (.range 200 10000)⟩,
  ⟨0x2C00, 0x06, 1, 0, 0, .u16, .rw, .s, 200, (.range 200 2000)⟩,
  ⟨0x2C00, 0x07, 1, 0, 0, .u8, .rw, .s, 10, (.range 5 30)⟩,
  ⟨0x2C00, 0x08, 1, 0, 0, .u16, .rw, .s, 1000, (.range 10 60000)⟩,
  ⟨0x2C00, 0x09, 1, 0, 0, .u16, .rw, .s, 300, (.range 10 1440)⟩,
  ⟨0x2C00, 0x0A, 1, 0, 0, .u16, .rw, .s, 30, (.range 1 240)⟩,
  ⟨0x2C00, 0x0B, 1, 0, 0, .u16, .rw, .s, 0, (.zeroOr 50 300)⟩,
  ⟨0x2C00, 0x0C, 1, 0, 0, .u16, .rwl, .s, 300, (.range 150 600)⟩,
  ⟨0x2C00, 0x0D, 1, 0, 0, .u8, .rw, .s, 0, (.range 0 2)⟩,
  ⟨0x2C00, 0x0E, 1, 0, 0, .u16, .rw, .s, 10, (.range 1 3600)⟩,
  ⟨0x2C00, 0x0F, 1, 0, 0, .u8, .rwl, .s, 0, (.range 0 1)⟩,
  ⟨0x2C00, 0x10, 1, 0, 0, .u16, .rwl, .s, 500, (.range 100 1000)⟩,
  ⟨0x2C00, 0x11, 1, 0, 0, .u16, .rwl, .s, 5000, (.range 1000 20000)⟩,
  ⟨0x2C00, 0x12, 1, 0, 0, .i16, .rw, .s, 0, (.range (-400) 800)⟩,
  ⟨0x2C00, 0x13, 1, 0, 0, .i16, .rw, .s, 450, (.range (-400) 800)⟩,
  ⟨0x2C00, 0x14, 1, 0, 0, .u16, .rw, .s, 1000, (.range 200 5000)⟩,
  ⟨0x2C20, 0x01, 1, 0, 0, .u8, .ro, .v, 0, .any⟩,
  ⟨0x2C20, 0x02, 1, 0, 0, .u8, .ro, .v, 0, .any⟩,
  ⟨0x2C20, 0x03, 1, 0, 0, .u32, .ro, .v, 0, .any⟩,
  ⟨0x2C20, 0x04, 1, 0, 0, .i32, .ro, .v, 0, .any⟩,
  ⟨0x2C20, 0x05, 1, 0, 0, .u16, .ro, .v, 0, .any⟩,
  ⟨0x2C20, 0x06, 1, 0, 0, .u16, .ro, .v, 0, .any⟩,
  ⟨0x2C20, 0x07, 1, 0, 0, .u8, .ro, .v, 0, .any⟩,
  ⟨0x2C20, 0x08, 1, 0, 0, .u32, .ro, .v, 43200, .any⟩,
  ⟨0x2C20, 0x09, 1, 0, 0, .u16, .ro, .v, 0, .any⟩,
  ⟨0x2C20, 0x0A, 1, 0, 0, .u32, .ro, .v, 0, .any⟩,
  ⟨0x2C20, 0x0B, 1, 0, 0, .u32, .ro, .v, 0, .any⟩,
  ⟨0x2C20, 0x0C, 1, 0, 0, .u8, .ro, .v, 0, .any⟩,
  ⟨0x2C20, 0x0D, 1, 0, 0, .u8, .ro, .v, 15, .any⟩,
  ⟨0x2C20, 0x0E, 1, 0, 0, .u8, .ro, .b, 15, .any⟩,
  ⟨0x2C20, 0x0F, 1, 0, 0, .i16, .ro, .v, 0, .any⟩,
  ⟨0x2C20, 0x10, 1, 0, 0, .i16, .ro, .v, 0, .any⟩,
  ⟨0x2C20, 0x11, 1, 0, 0, .u32, .ro, .v, 0, .any⟩,
  ⟨0x2C20, 0x12, 1, 0, 0, .u32, .ro, .v, 0, .any⟩,
  ⟨0x2C20, 0x13, 1, 0, 0, .u16, .w1c, .v, 0, .any⟩,
  ⟨0x2C40, 0x01, 1, 0, 0, .u8, .rwl, .s, 0, (.range 0 1)⟩]

/-- Dictionary rows of the index page 0x2Cxx, part 2. -/
def rowsChgB : List EntryRow := [
  ⟨0x2C40, 0x02, 1, 0, 0, .u8, .rwl, .s, 0, (.range 0 1)⟩,
  ⟨0x2C40, 0x03, 1, 0, 0, .u16, .rw, .s, 100, (.range 10 60000)⟩,
  ⟨0x2C40, 0x04, 1, 0, 0, .u16, .rw, .s, 0, (.zeroOr 16000 64000)⟩,
  ⟨0x2C40, 0x05, 1, 0, 0, .u16, .rw, .s, 0, .any⟩,
  ⟨0x2C40, 0x06, 1, 0, 0, .u16, .rw, .s, 200, (.range 50 500)⟩,
  ⟨0x2C40, 0x07, 1, 0, 0, .u16, .rw, .s, 10, (.range 1 10000)⟩,
  ⟨0x2C40, 0x08, 1, 0, 0, .u8, .rw, .s, 0, (.range 0 1)⟩,
  ⟨0x2C40, 0x09, 1, 0, 0, .u16, .rwl, .s, 0, (.zeroOr 65000 79000)⟩,
  ⟨0x2C40, 0x10, 1, 0, 0, .u8, .ro, .v, 0, .any⟩,
  ⟨0x2C40, 0x11, 1, 0, 0, .u32, .ro, .v, 0, .any⟩,
  ⟨0x2C40, 0x12, 1, 0, 0, .u32, .ro, .v, 0, .any⟩,
  ⟨0x2C40, 0x13, 1, 0, 0, .u8, .ro, .v, 0, .any⟩,
  ⟨0x2C40, 0x14, 1, 0, 0, .u16, .ro, .v, 0, .any⟩,
  ⟨0x2C40, 0x15, 1, 0, 0, .u32, .ro, .v, 0, .any⟩,
  ⟨0x2C40, 0x16, 1, 0, 0, .u8, .w1c, .v, 0, .any⟩,
  ⟨0x2C60, 0x01, 1, 0, 0, .u8, .rw, .s, 1, (.range 0 1)⟩,
  ⟨0x2C60, 0x02, 1, 0, 0, .u8, .rw, .s, 78, (.range 40 95)⟩,
  ⟨0x2C60, 0x03, 1, 0, 0, .u16, .rw, .s, 100, (.range 10 1000)⟩,
  ⟨0x2C60, 0x04, 1, 0, 0, .u16, .rw, .s, 50, (.range 10 10000)⟩,
  ⟨0x2C60, 0x05, 1, 0, 0, .u16, .rw, .s, 600, (.range 10 65000)⟩,
  ⟨0x2C60, 0x06, 1, 0, 0, .u16, .rw, .s, 10000, (.range 10000 60000)⟩,
  ⟨0x2C60, 0x07, 1, 0, 0, .u16, .rw, .s, 28000, (.range 10000 58000)⟩,
  ⟨0x2C60, 0x08, 1, 0, 0, .u16, .rw, .s, 2000, (.range 200 5000)⟩,
  ⟨0x2C60, 0x09, 1, 0, 0, .u16, .rw, .s, 0, (.zeroOr 16000 60000)⟩,
  ⟨0x2C60, 0x0A, 1, 0, 0, .u8, .wo, .v, 0, .any⟩,
  ⟨0x2C60, 0x10, 1, 0, 0, .u16, .ro, .v, 0, .any⟩,
  ⟨0x2C60, 0x11, 1, 0, 0, .u16, .ro, .v, 0, .any⟩,
  ⟨0x2C60, 0x12, 1, 0, 0, .i32, .ro, .v, 0, .any⟩,
  ⟨0x2C60, 0x13, 1, 0, 0, .u16, .ro, .v, 0, .any⟩,
  ⟨0x2C60, 0x14, 1, 0, 0, .u8, .ro, .v, 0, .any⟩]

/-- Dictionary rows of the index page 0x2Dxx, part 1. -/
def rowsEstA : List EntryRow := [
  ⟨0x2D00, 0x01, 1, 0, 0, .u32, .rwl, .s, 20000000, (.range 1000000 1000000000)⟩,
  ⟨0x2D00, 0x02, 1, 0, 0, .u16, .rw, .s, 2, (.range 0 100)⟩,
  ⟨0x2D00, 0x03, 1, 0, 0, .u16, .rw, .s, 20, (.range 1 1000)⟩,
  ⟨0x2D00, 0x04, 1, 0, 0, .u32, .rw, .s, 1800, (.range 60 86400)⟩,
  ⟨0x2D00, 0x05, 1, 0, 0, .u16, .rw, .s, 10, (.range 1 1000)⟩,
  ⟨0x2D00, 0x06, 1, 0, 0, .u16, .rw, .s, 20, (.range 0 500)⟩,
  ⟨0x2D00, 0x07, 1, 0, 0, .u16, .rw, .s, 250, (.range 0 1000)⟩,
  ⟨0x2D00, 0x08, 1, 0, 0, .u16, .rw, .s, 250, (.range 0 1000)⟩,
  ⟨0x2D00, 0x09, 1, 0, 0, .u16, .rw, .s, 1000, (.range 0 1000)⟩,
  ⟨0x2D00, 0x0A, 1, 0, 0, .u32, .rw, .s, 43200, (.range 3600 604800)⟩,
  ⟨0x2D00, 0x0B, 1, 0, 0, .u16, .rw, .s, 72, (.range 1 8760)⟩,
  ⟨0x2D00, 0x0C, 1, 0, 0, .u16, .rw, .s, 700, (.range 0 1000)⟩,
  ⟨0x2D00, 0x0D, 1, 0, 0, .u16, .rw, .s, 800, (.range 500 1000)⟩,
  ⟨0x2D00, 0x0E, 1, 0, 0, .u16, .rw, .s, 400, (.range 200 1000)⟩,
  ⟨0x2D00, 0x0F, 1, 0, 0, .u16, .rw, .s, 500, (.range 1 1000)⟩,
  ⟨0x2D00, 0x10, 1, 0, 0, .u16, .rw, .s, 250, (.range 1 1000)⟩,
  ⟨0x2D00, 0x11, 1, 0, 0, .u32, .rw, .s, 604800, (.range 3600 2592000)⟩,
  ⟨0x2D00, 0x12, 1, 0, 0, .i16, .rw, .s, 100, .any⟩,
  ⟨0x2D00, 0x13, 1, 0, 0, .i16, .rw, .s, 400, .any⟩,
  ⟨0x2D00, 0x14, 1, 0, 0, .u8, .rw, .s, 50, (.range 0 100)⟩,
  ⟨0x2D00, 0x15, 1, 0, 0, .u16, .rw, .s, 100, (.range 20 500)⟩,
  ⟨0x2D00, 0x16, 1, 0, 0, .u16, .rw, .s, 50, (.range 0 500)⟩,
  ⟨0x2D00, 0x17, 1, 0, 0, .u32, .rw, .s, 50000, (.range 1000 1000000)⟩,
  ⟨0x2D00, 0x18, 1, 0, 0, .u16, .rw, .s, 50, (.range 10 1000)⟩,
  ⟨0x2D00, 0x19, 1, 0, 0, .u32, .rw, .s, 600, (.zeroOr 10 86400)⟩,
  ⟨0x2D00, 0x1A, 1, 0, 0, .u16, .rw, .s, 200, (.range 0 5000)⟩,
  ⟨0x2D00, 0x1B, 1, 0, 0, .u16, .rw, .s, 1, (.range 0 1000)⟩,
  ⟨0x2D00, 0x1C, 1, 0, 0, .u32, .rw, .s, 600, (.range 60 86400)⟩,
  ⟨0x2D00, 0x1D, 1, 0, 0, .u8, .rwl, .s, 1, (.range 0 15)⟩,
  ⟨0x2D00, 0x1E, 1, 0, 0, .u16, .rwl, .s, 3435, (.range 2000 6000)⟩,
  ⟨0x2D00, 0x1F, 1, 0, 0, .u32, .rwl, .s, 10000, (.range 1000 100000)⟩,
  ⟨0x2D00, 0x20, 1, 0, 0, .u16, .rw, .s, 100, (.range 0 500)⟩,
  ⟨0x2D00, 0x21, 1, 0, 0, .u16, .rw, .s, 700, (.range 100 1000)⟩,
  ⟨0x2D00, 0x22, 1, 0, 0, .u16, .rw, .s, 2000, (.range 1100 5000)⟩,
  ⟨0x2D00, 0x23, 1, 0, 0, .u16, .wo, .v, 0, .any⟩,
  ⟨0x2D10, 0x01, 1, 0, 0, .u32, .rw, .s, 86400, (.range 0 2592000)⟩,
  ⟨0x2D10, 0x02, 1, 0, 0, .u16, .rw, .s, 500, (.range 100 2000)⟩,
  ⟨0x2D10, 0x03, 1, 0, 0, .u8, .rw, .s, 0, (.range 0 1)⟩,
  ⟨0x2D10, 0x04, 1, 0, 0, .u16, .rw, .s, 0, (.range 0 4095)⟩,
  ⟨0x2D10, 0x05, 1, 0, 0, .u32, .rw, .s, 604800, (.range 3600 7776000)⟩]

/-- Dictionary rows of the index page 0x2Dxx, part 2. -/
def rowsEstB : List EntryRow := [
  ⟨0x2D10, 0x06, 1, 0, 0, .u16, .rw, .s, 100, (.range 20 300)⟩,
  ⟨0x2D10, 0x07, 1, 0, 0, .u8, .rw, .s, 5, (.range 1 50)⟩,
  ⟨0x2D10, 0x08, 1, 0, 0, .u8, .rw, .s, 8, (.range 1 255)⟩,
  ⟨0x2D10, 0x09, 1, 0, 0, .u8, .wo, .v, 0, .any⟩,
  ⟨0x2D50, 0x01, 11, 0, 1, .u16, .rw, .s, 0, .any⟩,
  ⟨0x2D20, 0x01, 1, 0, 0, .u8, .ro, .v, 0, .any⟩,
  ⟨0x2D20, 0x02, 1, 0, 0, .u32, .ro, .v, 0, .any⟩,
  ⟨0x2D20, 0x03, 1, 0, 0, .u32, .ro, .v, 0, .any⟩,
  ⟨0x2D20, 0x04, 1, 0, 0, .i32, .ro, .v, 0, .any⟩,
  ⟨0x2D20, 0x05, 1, 0, 0, .i16, .ro, .v, 0, .any⟩,
  ⟨0x2D20, 0x06, 1, 0, 0, .u16, .ro, .v, 0, .any⟩,
  ⟨0x2D20, 0x07, 1, 0, 0, .i16, .ro, .v, 0, .any⟩,
  ⟨0x2D20, 0x08, 1, 0, 0, .u16, .ro, .v, 0, .any⟩,
  ⟨0x2D20, 0x09, 1, 0, 0, .u16, .ro, .v, 300, .any⟩,
  ⟨0x2D20, 0x0A, 1, 0, 0, .u32, .ro, .v, 0, .any⟩,
  ⟨0x2D20, 0x0B, 1, 0, 0, .u32, .ro, .v, 0, .any⟩,
  ⟨0x2D20, 0x0C, 1, 0, 0, .u16, .ro, .v, 0, .any⟩,
  ⟨0x2D20, 0x0D, 1, 0, 0, .u32, .ro, .v, 0, .any⟩,
  ⟨0x2D20, 0x0E, 1, 0, 0, .u16, .ro, .v, 65535, .any⟩,
  ⟨0x2D20, 0x0F, 1, 0, 0, .u64, .ro, .v, 0, .any⟩,
  ⟨0x2D20, 0x10, 1, 0, 0, .u64, .ro, .v, 0, .any⟩,
  ⟨0x2D20, 0x11, 1, 0, 0, .u8, .ro, .v, 0, .any⟩,
  ⟨0x2D20, 0x12, 1, 0, 0, .u16, .ro, .v, 0, .any⟩,
  ⟨0x2D20, 0x13, 1, 0, 0, .u64, .ro, .v, 0, .any⟩,
  ⟨0x2D20, 0x14, 1, 0, 0, .u16, .ro, .v, 0, .any⟩,
  ⟨0x2D20, 0x15, 1, 0, 0, .u8, .ro, .v, 0, .any⟩,
  ⟨0x2D20, 0x16, 1, 0, 0, .u8, .ro, .v, 0, .any⟩,
  ⟨0x2D20, 0x17, 1, 0, 0, .u32, .ro, .v, 0, .any⟩,
  ⟨0x2D20, 0x18, 1, 0, 0, .u16, .w1c, .v, 0, .any⟩,
  ⟨0x2D28, 0x01, 4, 0, 1, .i16, .ro, .v, 0, .any⟩,
  ⟨0x2D30, 0x01, 1, 0, 0, .u32, .ro, .v, 0, .any⟩,
  ⟨0x2D30, 0x02, 1, 0, 0, .u32, .ro, .v, 0, .any⟩,
  ⟨0x2D30, 0x03, 1, 0, 0, .u8, .ro, .v, 0, .any⟩,
  ⟨0x2D30, 0x04, 1, 0, 0, .u32, .ro, .v, 0, .any⟩,
  ⟨0x2D30, 0x05, 1, 0, 0, .u8, .ro, .v, 0, .any⟩,
  ⟨0x2D30, 0x06, 1, 0, 0, .u16, .ro, .v, 65535, .any⟩,
  ⟨0x2D30, 0x07, 1, 0, 0, .u16, .ro, .v, 65535, .any⟩,
  ⟨0x2D40, 0x01, 1, 0, 0, .u8, .ro, .v, 0, .any⟩,
  ⟨0x2D40, 0x02, 1, 0, 0, .u32, .ro, .v, 0, .any⟩,
  ⟨0x2D40, 0x03, 1, 0, 0, .u32, .ro, .v, 0, .any⟩]

/-- Dictionary rows of the index page 0x2Dxx, part 3. -/
def rowsEstC : List EntryRow := [
  ⟨0x2D40, 0x04, 1, 0, 0, .u32, .ro, .v, 0, .any⟩,
  ⟨0x2D40, 0x05, 1, 0, 0, .u32, .ro, .v, 0, .any⟩,
  ⟨0x2D40, 0x06, 1, 0, 0, .u32, .ro, .v, 0, .any⟩,
  ⟨0x2D40, 0x07, 1, 0, 0, .u32, .ro, .v, 0, .any⟩,
  ⟨0x2D40, 0x08, 1, 0, 0, .u16, .ro, .v, 0, .any⟩,
  ⟨0x2D40, 0x09, 1, 0, 0, .u16, .ro, .v, 0, .any⟩,
  ⟨0x2D40, 0x0A, 1, 0, 0, .i16, .ro, .v, 0, .any⟩,
  ⟨0x2D40, 0x0B, 1, 0, 0, .u32, .ro, .v, 0, .any⟩,
  ⟨0x2D40, 0x0C, 1, 0, 0, .u32, .ro, .v, 0, .any⟩,
  ⟨0x2D40, 0x0D, 1, 0, 0, .u16, .ro, .v, 0, .any⟩,
  ⟨0x2D48, 0x01, 8, 0, 1, .i32, .ro, .v, 0, .any⟩,
  ⟨0x2D49, 0x01, 8, 0, 1, .i32, .ro, .v, 0, .any⟩]

/-- Dictionary rows of the index page 0x2Exx. -/
def rowsRtc : List EntryRow := [
  ⟨0x2E00, 0x01, 1, 0, 0, .u8, .wo, .v, 0, .any⟩,
  ⟨0x2E00, 0x02, 1, 0, 0, .u8, .ro, .v, 0, .any⟩,
  ⟨0x2E00, 0x03, 1, 0, 0, .u8, .ro, .v, 0, .any⟩,
  ⟨0x2E00, 0x04, 1, 0, 0, .u8, .ro, .v, 0, .any⟩,
  ⟨0x2E00, 0x05, 1, 0, 0, .u8, .ro, .v, 6, .any⟩,
  ⟨0x2E00, 0x06, 1, 0, 0, .u8, .ro, .v, 1, .any⟩,
  ⟨0x2E00, 0x07, 1, 0, 0, .u8, .ro, .v, 1, .any⟩,
  ⟨0x2E00, 0x08, 1, 0, 0, .u8, .ro, .v, 0, .any⟩,
  ⟨0x2E00, 0x09, 1, 0, 0, .u8, .ro, .v, 32, .any⟩,
  ⟨0x2E00, 0x0A, 1, 0, 0, .u64, .ro, .v, 0, .any⟩,
  ⟨0x2E00, 0x0B, 1, 0, 0, .u8, .ro, .v, 0, .any⟩,
  ⟨0x2E00, 0x0C, 1, 0, 0, .u64, .wo, .v, 0, .any⟩,
  ⟨0x2E00, 0x0D, 1, 0, 0, .i16, .rw, .s, 0, (.range (-511) 511)⟩,
  ⟨0x2E00, 0x0E, 1, 0, 0, .u64, .rw, .b, 0, .any⟩,
  ⟨0x2E00, 0x0F, 1, 0, 0, .u8, .rw, .b, 0, .any⟩,
  ⟨0x2E00, 0x10, 1, 0, 0, .u8, .w1c, .b, 0, .any⟩,
  ⟨0x2E00, 0x11, 1, 0, 0, .u32, .wo, .v, 0, .any⟩,
  ⟨0x2E00, 0x12, 1, 0, 0, .i32, .ro, .v, 0, .any⟩,
  ⟨0x2E00, 0x13, 1, 0, 0, .u8, .ro, .v, 0, .any⟩,
  ⟨0x2E20, 0x01, 1, 0, 0, .u8, .rwl, .s, 1, (.range 0 7)⟩,
  ⟨0x2E20, 0x02, 1, 0, 0, .u32, .rwl, .s, 0, (.range 0 2592000)⟩,
  ⟨0x2E20, 0x03, 1, 0, 0, .u8, .wo, .v, 0, .any⟩,
  ⟨0x2E20, 0x04, 1, 0, 0, .u8, .rwl, .s, 0, (.range 0 1)⟩,
  ⟨0x2E20, 0x05, 1, 0, 0, .u16, .rwl, .s, 2500, (.range 2000 3300)⟩,
  ⟨0x2E20, 0x10, 1, 0, 0, .u8, .ro, .v, 0, .any⟩,
  ⟨0x2E20, 0x11, 1, 0, 0, .u16, .ro, .v, 0, .any⟩,
  ⟨0x2E20, 0x12, 1, 0, 0, .u8, .ro, .v, 0, .any⟩,
  ⟨0x2E20, 0x13, 1, 0, 0, .u8, .w1c, .v, 0, .any⟩,
  ⟨0x2E40, 0x01, 16, 0, 1, .u32, .rw, .b, 0, .any⟩]

/-- Dictionary rows of the index page 0x2Fxx. -/
def rowsRec : List EntryRow := [
  ⟨0x2F00, 0x01, 1, 0, 0, .u8, .rwl, .s, 1, (.range 0 1)⟩,
  ⟨0x2F00, 0x02, 1, 0, 0, .u16, .rwl, .s, 256, (.range 16 256)⟩,
  ⟨0x2F00, 0x03, 1, 0, 0, .u8, .wo, .v, 0, .any⟩,
  ⟨0x2F00, 0x04, 1, 0, 0, .u8, .wo, .v, 0, .any⟩,
  ⟨0x2F00, 0x05, 1, 0, 0, .u16, .wo, .v, 0, .any⟩,
  ⟨0x2F00, 0x06, 1, 0, 0, .u32, .rw, .v, 0, .any⟩,
  ⟨0x2F00, 0x07, 1, 0, 0, .domain, .ro, .v, 0, .any⟩,
  ⟨0x2F00, 0x10, 1, 0, 0, .u8, .ro, .v, 0, .any⟩,
  ⟨0x2F00, 0x11, 1, 0, 0, .u32, .ro, .v, 0, .any⟩,
  ⟨0x2F00, 0x12, 1, 0, 0, .u16, .ro, .v, 0, .any⟩,
  ⟨0x2F00, 0x13, 1, 0, 0, .u32, .ro, .v, 0, .any⟩,
  ⟨0x2F00, 0x14, 1, 0, 0, .u32, .ro, .v, 0, .any⟩,
  ⟨0x2F00, 0x15, 1, 0, 0, .u32, .ro, .v, 0, .any⟩,
  ⟨0x2F00, 0x16, 1, 0, 0, .u32, .ro, .v, 0, .any⟩,
  ⟨0x2F00, 0x17, 1, 0, 0, .u32, .ro, .v, 0, .any⟩,
  ⟨0x2F00, 0x18, 1, 0, 0, .u32, .ro, .v, 0, .any⟩,
  ⟨0x2F00, 0x19, 1, 0, 0, .u32, .ro, .v, 0, .any⟩,
  ⟨0x2F00, 0x1A, 1, 0, 0, .u32, .ro, .v, 0, .any⟩,
  ⟨0x2F00, 0x1B, 1, 0, 0, .u8, .ro, .v, 0, .any⟩,
  ⟨0x2F00, 0x1C, 1, 0, 0, .u8, .w1c, .v, 0, .any⟩,
  ⟨0x2F10, 0x01, 8, 0, 1, .u32, .rw, .s, 0, .any⟩,
  ⟨0x2F20, 0x01, 32, 0, 1, .u32, .rw, .s, 0, .any⟩,
  ⟨0x2F21, 0x01, 32, 0, 1, .u32, .rw, .s, 0, .any⟩,
  ⟨0x2F22, 0x01, 32, 0, 1, .u32, .rw, .s, 0, .any⟩,
  ⟨0x2F23, 0x01, 32, 0, 1, .u32, .rw, .s, 0, .any⟩,
  ⟨0x2F40, 0x01, 1, 0, 0, .u8, .ro, .v, 0, .any⟩,
  ⟨0x2F40, 0x02, 1, 0, 0, .u32, .ro, .v, 0, .any⟩,
  ⟨0x2F40, 0x03, 1, 0, 0, .u8, .ro, .v, 0, .any⟩,
  ⟨0x2F40, 0x04, 1, 0, 0, .u32, .ro, .v, 0, .any⟩,
  ⟨0x2F40, 0x05, 1, 0, 0, .u32, .ro, .v, 0, .any⟩,
  ⟨0x2F40, 0x06, 1, 0, 0, .u32, .ro, .v, 0, .any⟩,
  ⟨0x2F40, 0x07, 1, 0, 0, .u32, .ro, .v, 0, .any⟩,
  ⟨0x2F40, 0x08, 1, 0, 0, .u8, .w1c, .v, 0, .any⟩]

/-- Dictionary rows of the index page 0x30xx. -/
def rowsPair : List EntryRow := [
  ⟨0x3000, 0x01, 1, 0, 0, .u8, .rwl, .s, 0, (.range 0 1)⟩,
  ⟨0x3000, 0x02, 1, 0, 0, .u8, .rwl, .s, 0, (.range 0 2)⟩,
  ⟨0x3000, 0x03, 1, 0, 0, .u16, .rwl, .s, 200, (.range 0 10000)⟩,
  ⟨0x3000, 0x04, 1, 0, 0, .u8, .rwl, .s, 2, (.range 1 8)⟩,
  ⟨0x3000, 0x05, 1, 0, 0, .u16, .rwl, .s, 1000, (.range 100 65535)⟩,
  ⟨0x3000, 0x06, 1, 0, 0, .u16, .rwl, .s, 1000, (.range 100 60000)⟩,
  ⟨0x3000, 0x07, 1, 0, 0, .u8, .rwl, .s, 8, (.range 1 255)⟩,
  ⟨0x3000, 0x08, 1, 0, 0, .u16, .rw, .s, 1000, (.range 1 60000)⟩,
  ⟨0x3000, 0x09, 1, 0, 0, .u16, .rw, .s, 8, (.range 1 256)⟩,
  ⟨0x3000, 0x0A, 1, 0, 0, .u8, .wo, .v, 0, .any⟩,
  ⟨0x3000, 0x0B, 1, 0, 0, .u16, .wo, .v, 0, .any⟩,
  ⟨0x3000, 0x10, 1, 0, 0, .u8, .ro, .v, 0, .any⟩,
  ⟨0x3000, 0x11, 1, 0, 0, .u8, .ro, .v, 0, .any⟩,
  ⟨0x3000, 0x12, 1, 0, 0, .u8, .ro, .v, 0, .any⟩,
  ⟨0x3000, 0x13, 1, 0, 0, .u8, .ro, .v, 0, .any⟩,
  ⟨0x3000, 0x14, 1, 0, 0, .u16, .ro, .v, 0, .any⟩,
  ⟨0x3000, 0x15, 1, 0, 0, .u8, .ro, .v, 0, .any⟩,
  ⟨0x3000, 0x16, 1, 0, 0, .u32, .ro, .v, 0, .any⟩,
  ⟨0x3000, 0x17, 1, 0, 0, .u32, .ro, .v, 0, .any⟩,
  ⟨0x3000, 0x18, 1, 0, 0, .u32, .ro, .v, 0, .any⟩,
  ⟨0x3000, 0x19, 1, 0, 0, .u32, .ro, .v, 0, .any⟩,
  ⟨0x3000, 0x1A, 1, 0, 0, .u32, .ro, .v, 0, .any⟩,
  ⟨0x3000, 0x1B, 1, 0, 0, .u32, .ro, .v, 0, .any⟩,
  ⟨0x3000, 0x1C, 1, 0, 0, .i16, .ro, .v, 0, .any⟩,
  ⟨0x3000, 0x1D, 1, 0, 0, .u16, .w1c, .v, 0, .any⟩,
  ⟨0x3010, 0x01, 16, 0, 1, .u16, .rwl, .s, 30, (.range 10 200)⟩,
  ⟨0x3020, 0x01, 1, 0, 0, .u8, .ro, .v, 0, .any⟩,
  ⟨0x3020, 0x02, 1, 0, 0, .u8, .ro, .v, 0, .any⟩,
  ⟨0x3020, 0x03, 1, 0, 0, .u32, .ro, .v, 0, .any⟩,
  ⟨0x3020, 0x04, 1, 0, 0, .u8, .ro, .v, 0, .any⟩,
  ⟨0x3020, 0x05, 1, 0, 0, .u8, .ro, .v, 0, .any⟩,
  ⟨0x3020, 0x06, 1, 0, 0, .u16, .ro, .v, 0, .any⟩,
  ⟨0x3020, 0x07, 1, 0, 0, .u32, .ro, .v, 0, .any⟩,
  ⟨0x3020, 0x08, 1, 0, 0, .u8, .ro, .v, 0, .any⟩,
  ⟨0x3020, 0x09, 1, 0, 0, .u16, .ro, .v, 0, .any⟩,
  ⟨0x3020, 0x0A, 1, 0, 0, .u32, .ro, .v, 0, .any⟩,
  ⟨0x3020, 0x0B, 1, 0, 0, .u16, .ro, .v, 0, .any⟩,
  ⟨0x3020, 0x0C, 1, 0, 0, .u64, .ro, .v, 0, .any⟩]

/-- Dictionary rows of the index page 0x31xx. -/
def rowsTherm : List EntryRow := [
  ⟨0x3100, 0x01, 1, 0, 0, .i16, .rwl, .s, 1150, (.range 800 1400)⟩,
  ⟨0x3100, 0x02, 1, 0, 0, .i16, .rwl, .s, 1250, (.range 850 1450)⟩,
  ⟨0x3100, 0x03, 1, 0, 0, .i16, .rwl, .s, 1450, (.range 900 1500)⟩,
  ⟨0x3100, 0x04, 1, 0, 0, .u16, .rwl, .s, 50, (.range 10 200)⟩,
  ⟨0x3100, 0x05, 1, 0, 0, .u32, .rwl, .s, 18000, (.range 5000 18000)⟩,
  ⟨0x3100, 0x06, 1, 0, 0, .u16, .rw, .s, 100, (.range 10 2000)⟩,
  ⟨0x3100, 0x07, 1, 0, 0, .u16, .rw, .s, 1000, (.range 10 60000)⟩,
  ⟨0x3100, 0x10, 1, 0, 0, .i16, .ro, .v, 0, .any⟩,
  ⟨0x3100, 0x11, 1, 0, 0, .i16, .ro, .v, 65136, .any⟩,
  ⟨0x3100, 0x12, 1, 0, 0, .u8, .ro, .v, 0, .any⟩,
  ⟨0x3100, 0x13, 1, 0, 0, .u32, .ro, .v, 0, .any⟩,
  ⟨0x3100, 0x14, 1, 0, 0, .u8, .ro, .v, 0, .any⟩,
  ⟨0x3100, 0x15, 1, 0, 0, .u16, .ro, .v, 0, .any⟩,
  ⟨0x3100, 0x16, 1, 0, 0, .u16, .ro, .v, 0, .any⟩,
  ⟨0x3100, 0x17, 1, 0, 0, .u8, .w1c, .v, 0, .any⟩,
  ⟨0x3110, 0x01, 12, 0, 1, .i16, .ro, .v, 0, .any⟩]

/-- Dictionary rows of the index page 0x32xx. -/
def rowsTlm : List EntryRow := [
  ⟨0x3200, 0x01, 1, 0, 0, .u32, .ro, .v, 0, .any⟩,
  ⟨0x3200, 0x02, 1, 0, 0, .u32, .ro, .v, 0, .any⟩,
  ⟨0x3200, 0x03, 1, 0, 0, .u16, .ro, .v, 0, .any⟩,
  ⟨0x3200, 0x04, 1, 0, 0, .u16, .ro, .v, 0, .any⟩,
  ⟨0x3200, 0x05, 1, 0, 0, .u16, .ro, .v, 0, .any⟩,
  ⟨0x3200, 0x06, 1, 0, 0, .u64, .ro, .v, 0, .any⟩,
  ⟨0x3200, 0x07, 1, 0, 0, .u64, .ro, .v, 0, .any⟩]

/-- Dictionary rows of the index page 0x60xx. -/
def rowsPiIn : List EntryRow := [
  ⟨0x6000, 0x01, 1, 0, 0, .domain, .ro, .v, 0, .any⟩]

/-- Dictionary rows of the index page 0x70xx. -/
def rowsPiOut : List EntryRow := [
  ⟨0x7000, 0x01, 1, 0, 0, .domain, .ro, .v, 0, .any⟩]

/-- The rows that can hold an entry of index `idx`, chosen by its index page. -/
def rowsOf (idx : Nat) : List EntryRow :=
  match idx / 256 with
  | 0x10 => rowsCom
  | 0x16 => rowsRxMap
  | 0x1A => rowsTxMap
  | 0x1C => rowsSm
  | 0x20 => rowsDevA ++ rowsDevB
  | 0x21 => rowsJob
  | 0x22 => rowsStride
  | 0x23 => rowsDividerA ++ rowsDividerB
  | 0x24 => rowsPhase
  | 0x25 => rowsRailA ++ rowsRailB
  | 0x26 => rowsXb
  | 0x27 => rowsLdo
  | 0x28 => rowsSupA ++ rowsSupB
  | 0x29 => rowsSeqA ++ rowsSeqB
  | 0x2A => rowsFault
  | 0x2B => rowsWdg
  | 0x2C => rowsChgA ++ rowsChgB
  | 0x2D => rowsEstA ++ rowsEstB ++ rowsEstC
  | 0x2E => rowsRtc
  | 0x2F => rowsRec
  | 0x30 => rowsPair
  | 0x31 => rowsTherm
  | 0x32 => rowsTlm
  | 0x60 => rowsPiIn
  | 0x70 => rowsPiOut
  | _ => []

/-- The index pages that hold entries, in ascending order. -/
def dictPages : List Nat := [0x10, 0x16, 0x1A, 0x1C, 0x20, 0x21, 0x22, 0x23, 0x24, 0x25, 0x26, 0x27, 0x28, 0x29, 0x2A, 0x2B, 0x2C, 0x2D, 0x2E, 0x2F, 0x30, 0x31, 0x32, 0x60, 0x70]

/-- Whether the row covers the entry at index `idx`, subindex `sub`. -/
def EntryRow.covers (r : EntryRow) (idx sub : Nat) : Bool :=
  if r.di = 0 then
    r.idx == idx && decide (r.sub ≤ sub) &&
      (if r.ds = 0 then r.sub == sub else decide (sub < r.sub + r.n))
  else
    r.sub == sub && decide (r.idx ≤ idx) && (idx - r.idx) % r.di == 0 && decide ((idx - r.idx) / r.di < r.n)

/-- The row of the entry at a key (index * 256 + subindex); none where no entry exists. -/
def entryAt (k : Nat) : Option EntryRow :=
  (rowsOf (k / 256)).find? (fun r => r.covers (k / 256) (k % 256))

/-- Whether any entry has this index (R455: a missing index and a missing subindex are told apart). -/
def indexExists (idx : Nat) : Bool :=
  (rowsOf idx).any (fun r =>
    if r.di = 0 then r.idx == idx
    else decide (r.idx ≤ idx) && (idx - r.idx) % r.di == 0 && decide ((idx - r.idx) / r.di < r.n))

/-- The Default column: what an entry holds where the live dictionary lists nothing for it. -/
def dflt (k : Nat) : Nat :=
  match entryAt k with
  | some r => r.dflt
  | none => 0

end Sys2Proof.Machine
end

