-- ==== Sys2Proof/Machine/Ops.lean ====
section
/-! DEFINITION. The named operations on the state: the dictionary (read, write, flags, counters), time, and the
shapes in which a command's effect becomes an outcome. -/

namespace Sys2Proof.Machine

/-! ## Sparse tables -/

/-- The value listed for a key, or `d` where none is. -/
def lookupD (l : Dict) (k d : Nat) : Nat :=
  match l with
  | [] => d
  | e :: t => if e.1 = k then e.2 else lookupD t k d

/-- A table without a key. -/
def eraseKey (l : Dict) (k : Nat) : Dict :=
  match l with
  | [] => []
  | e :: t => if e.1 = k then eraseKey t k else e :: eraseKey t k

/-- A table with a key listed at its place; the key must not be listed already. -/
def insertKey (l : Dict) (k v : Nat) : Dict :=
  match l with
  | [] => [(k, v)]
  | e :: t => if k < e.1 then (k, v) :: e :: t else e :: insertKey t k v

/-- A table whose unlisted keys read `d`, with `k` set to `v`; `v = d` unlists the key. -/
def setKey (l : Dict) (k v d : Nat) : Dict :=
  if v = d then eraseKey l k else insertKey (eraseKey l k) k v

/-- The canonical form of a table whose unlisted keys read as `d` gives: keys strictly rising, no listed value
equal to what its key reads unlisted. -/
def Dict.wf (d : Nat → Nat) (l : Dict) : Prop :=
  l.Pairwise (fun a b => a.1 < b.1) ∧ ∀ e ∈ l, e.2 ≠ d e.1

/-! ## Numbers -/

/-- Two's complement reading of a field of `w` bits (R6). -/
def toInt (w v : Nat) : Int := if v < 2 ^ (w - 1) then (v : Int) else (v : Int) - 2 ^ w

/-- The field of `w` bits that holds `i` in two's complement (R6). -/
def ofInt (w : Nat) (i : Int) : Nat := (i % (2 ^ w : Int)).toNat

/-- Bit `i` of a number. -/
def bitOf (v i : Nat) : Bool := v.testBit i

/-- A number with bit `i` set or clear. -/
def withBit (v i : Nat) (b : Bool) : Nat :=
  if b then v ||| (1 <<< i) else if v.testBit i then v - (1 <<< i) else v

/-- The bits of `v` that `m` does not name. -/
def clearMask (v m : Nat) : Nat := v ^^^ (v &&& m)

/-- Field of `w` bits at bit `lo`. -/
def field (v lo w : Nat) : Nat := (v >>> lo) % 2 ^ w

/-- Division rounding half up, for a positive divisor. -/
def roundDiv (a b : Int) : Int := (2 * a + b) / (2 * b)

/-- Truncation toward 0 (R280). -/
def truncDiv (a b : Int) : Int := Int.tdiv a b

/-- A value held between two bounds. -/
def clampInt (lo hi x : Int) : Int := max lo (min hi x)

/-- Element `i` of a list of samples; an element not listed reads 0. -/
def nthN (l : List Nat) (i : Nat) : Nat := l.getD i 0
def nthI (l : List Int) (i : Nat) : Int := l.getD i 0

/-- A width of a value type in bits. -/
def ValType.bits : ValType → Nat
  | .u8 => 8 | .u16 => 16 | .u32 => 32 | .u64 => 64 | .i16 => 16 | .i32 => 32 | .str => 0 | .domain => 0

/-- Width in bits of the entry at a key. -/
def bitsOf (k : Nat) : Nat :=
  match entryAt k with
  | some r => r.ty.bits
  | none => 32

/-- A counter of `w` bits after one more event; past its maximum the spec states no value (assumption 11). -/
def countUp (k w v : Nat) : Nat := if v + 1 < 2 ^ w then v + 1 else Config.cntAfterMax k % 2 ^ w

/-- A counter of `w` bits that stops at its maximum (R418). -/
def countSat (w v : Nat) : Nat := if v + 1 < 2 ^ w then v + 1 else 2 ^ w - 1

/-- Little-endian bytes of a number (R6). -/
def leBytes : Nat → Nat → List Byte
  | 0, _ => []
  | n + 1, v => BitVec.ofNat 8 v :: leBytes n (v / 256)

/-- The number that little-endian bytes hold (R6). -/
def leNat : List Byte → Nat
  | [] => 0
  | b :: t => b.toNat + 256 * leNat t

/-! ## The dictionary in a state -/

/-- The live value of an entry. -/
def State.get (s : State) (k : Nat) : Nat := lookupD s.od k (dflt k)

/-- The state with the live value of an entry replaced. -/
def State.put (s : State) (k v : Nat) : State := { s with od := setKey s.od k v (dflt k) }

/-- The live value of a signed entry. -/
def State.getI (s : State) (k : Nat) : Int := toInt (bitsOf k) (s.get k)

/-- The state with a signed entry set. -/
def State.putI (s : State) (k : Nat) (i : Int) : State := s.put k (ofInt (bitsOf k) i)

/-- Whether a value lies within the type of the entry at a key. -/
def fitsType (k : Nat) (v : Int) : Bool :=
  match entryAt k with
  | some r =>
    match r.ty with
    | .i16 | .i32 => decide (-(2 ^ (r.ty.bits - 1) : Int) ≤ v ∧ v < (2 ^ (r.ty.bits - 1) : Int))
    | _ => decide (0 ≤ v ∧ v < (2 ^ r.ty.bits : Int))
  | none => true

/-- A computed value as its entry holds it: a value outside the type leaves an unstated one (assumption 23). -/
def fit (k : Nat) (v : Int) : Nat :=
  if fitsType k v then ofInt (bitsOf k) v else Config.unstated k v % 2 ^ bitsOf k

/-- The state with a computed value shown in an entry. -/
def State.putFit (s : State) (k : Nat) (v : Int) : State := s.put k (fit k v)

/-- Bit `i` of an entry. -/
def State.bit (s : State) (k i : Nat) : Bool := bitOf (s.get k) i

/-- An entry with bit `i` set or clear. -/
def State.putBit (s : State) (k i : Nat) (b : Bool) : State := s.put k (withBit (s.get k) i b)

/-- An entry with the bits of a mask set. -/
def State.setMask (s : State) (k m : Nat) : State := s.put k (s.get k ||| m)

/-- A hardware set of the bits `m` of a w1c entry (R8): the bits set, and they count as set since the last
publication. -/
def State.flag (s : State) (k m : Nat) : State :=
  { s.setMask k m with fresh := setKey s.fresh k (lookupD s.fresh k 0 ||| m) 0 }

/-- A host clear of the bits `m` of a w1c entry in step 1 (R8): a bit set since the last publication stays. -/
def State.clearFlag (s : State) (k m : Nat) : State :=
  s.put k (clearMask (s.get k) (clearMask m (lookupD s.fresh k 0)))

/-- One more event on a counter entry. -/
def State.bump (s : State) (k : Nat) : State := s.put k (countUp k (bitsOf k) (s.get k))

/-- One more event on a counter of the backup domain, which saturates (R418). -/
def State.bumpSat (s : State) (k : Nat) : State := s.put k (countSat (bitsOf k) (s.get k))

/-- `n` more events on a counter entry. -/
def State.bumpBy (s : State) (k : Nat) : Nat → State
  | 0 => s
  | n + 1 => (s.bump k).bumpBy k n

/-- An effect made only where a condition holds. -/
def when (c : Bool) (f : State → State) (s : State) : State := if c then f s else s

/-- An effect repeated for each element of a list, in order. -/
def each {α : Type} (l : List α) (f : α → State → State) (s : State) : State := l.foldl (fun t a => f a t) s

/-- 0 to n − 1. -/
def upto (n : Nat) : List Nat := List.range n

/-- The numbers below `n` that a mask names, in ascending order. -/
def maskList (n m : Nat) : List Nat := (List.range n).filter (fun i => m.testBit i)

/-! ## Named states -/

def State.dev (s : State) : DevState := DevState.ofCode (s.get K.devState)
def State.rail (s : State) (n : Nat) : RailState := RailState.ofCode (s.get (K.railState n))
def State.putRail (s : State) (n : Nat) (x : RailState) : State := s.put (K.railState n) x.code
def State.phase (s : State) (p : Nat) : PhaseState := PhaseState.ofCode (s.get (K.phaseState p))
def State.putPhase (s : State) (p : Nat) (x : PhaseState) : State := s.put (K.phaseState p) x.code
def State.fd (s : State) : FdState := FdState.ofCode (s.get K.fdState)
def State.putFd (s : State) (x : FdState) : State := s.put K.fdState x.code
def State.seqState (s : State) : SeqState := SeqState.ofCode (s.get K.seqState)
def State.strideState (s : State) : StrideState := StrideState.ofCode (s.get K.strideState)

/-- The engine of rail, phase, channel or supervisor `n`; one out of range reads as at reset. -/
def State.railE (s : State) (n : Nat) : RailEngine := s.rails.toArray.getD n RailEngine.reset
def State.phaseE (s : State) (p : Nat) : PhaseEngine := s.phases.toArray.getD p PhaseEngine.reset
def State.supE (s : State) (m : Nat) : SupEngine := s.sup.toArray.getD m SupEngine.reset
def State.xbE (s : State) (c : Nat) : XbEngine := s.xb.toArray.getD c XbEngine.reset

def State.setRailE (s : State) (n : Nat) (e : RailEngine) : State := { s with rails := s.rails.setIfInBounds n e }
def State.setPhaseE (s : State) (p : Nat) (e : PhaseEngine) : State := { s with phases := s.phases.setIfInBounds p e }
def State.setSupE (s : State) (m : Nat) (e : SupEngine) : State := { s with sup := s.sup.setIfInBounds m e }
def State.setXbE (s : State) (c : Nat) (e : XbEngine) : State := { s with xb := s.xb.setIfInBounds c e }

/-! ## Which part of the device runs -/

/-- The device is in a main-domain state (R20): STANDBY, DOZE, ACTIVE, STALL or LOCKOUT. -/
def DevState.main : DevState → Bool
  | .off => false | .backup => false | _ => true

/-- STANDBY, DOZE or ACTIVE. -/
def DevState.live : DevState → Bool
  | .standby => true | .doze => true | .active => true | _ => false

/-- The fast plane runs: a main-domain state, no boot under way and no SYSRST_N (R26, R406). -/
def State.fastUp (s : State) : Bool := s.dev.main && s.power.boot.isNone && !s.power.held

/-- The management core takes ticks and host accesses: the fast plane runs and the core has not stopped (R354). -/
def State.coreUp (s : State) : Bool := s.fastUp && !s.power.stopped

/-! ## Time -/

/-- The beat count of the next tick boundary (R31). -/
def Clock.next (c : Clock) : Nat := 1000 + c.lastTick

/-- The clock at the next tick boundary, the beat-level work of that beat done. -/
def Clock.boundary (c : Clock) : Clock := { c with beat := c.next, done := true }

/-- The clock after the tick at the next boundary (R31). -/
def Clock.ticked (c : Clock) : Clock :=
  { beat := c.next, lastTick := c.next, done := true
    epochs := if c.next % 1000000 = 0 then c.epochs + 1 else c.epochs }

/-- Time base units in a beat: 10 ns / 2^28. -/
def beatUnits : Nat := 100 * 2 ^ 28

/-- `n` beats pass on W (R341) and on the watchdog of the core (R354). Where the oscillator drives W, each tick corrects it by the cycles
counted. -/
def Watchdog.pass (g : Watchdog) (n : Nat) : Watchdog :=
  { g with w := g.w + (n - g.lag), lag := g.lag - n, coreIdle := g.coreIdle + n }

/-- `n` beats pass on the stride clock and on W (R41, R341). -/
def State.passBeats (s : State) (n : Nat) : State :=
  { s with stride := { s.stride with elapsed := s.stride.elapsed + beatUnits * n }, wdg := s.wdg.pass n }

/-- The state with time alone moved on to the next tick boundary. -/
def State.atBoundary (s : State) : State :=
  { s.passBeats (s.clock.next - s.clock.beat) with clock := s.clock.boundary }

/-- `TIME.BEAT`. -/
def State.beat (s : State) : Nat := s.clock.beat

/-- The tick number of the present boundary or of the last one. -/
def State.tick (s : State) : Nat := s.clock.beat / 1000

/-- The time-stamp of R364: VALID in bit 63, seconds in bits 62:15, backup-clock cycles in bits 14:0. -/
def State.stamp (s : State) : Nat :=
  (if s.bk.valid then 2 ^ 63 else 0) + (s.bk.secs % 2 ^ 48) * 2 ^ 15 + s.bk.sub % 2 ^ 15

/-! ## The stride phase (R39 to R41) -/

/-- Length of the present stride in 10 ns / 2^28: P (1 + c), in the units of `StrideClock`. -/
def StrideClock.length (c : StrideClock) : Nat := (c.period * (4096 + c.corr)).toNat

/-- The stride phase, 0 to 4,095. A stride whose last unit has been reached stays there until the next starts. -/
def StrideClock.phase (c : StrideClock) : Nat :=
  if c.length = 0 then 0 else min 4095 (c.elapsed * 4096 / c.length)

/-- A stride event at unit `u` of the entry at `idx` is due in this beat and has not been taken in it (R41). -/
def State.unitDue (s : State) (u idx : Nat) : Bool :=
  decide (s.stride.prev < (u : Int) ∧ u ≤ s.stride.phase) && !s.stride.acted.contains (u, idx)

/-- A stride event of the present beat has been taken. -/
def State.unitTaken (s : State) (u idx : Nat) : State :=
  { s with stride := { s.stride with acted := (u, idx) :: s.stride.acted } }

/-! ## Outcomes -/

/-- The outcome of an event: its effect, which leaves time, the queue of commands and the MRAM alone. -/
def event (f : State → State) (s : State) : Host.Outcome State Fault Refusal :=
  let t := f s
  .next { t with clock := s.clock, pending := s.pending, mram := s.mram }

/-- The outcome of an event that also writes the MRAM. -/
def eventNv (f : State → State) (s : State) : Host.Outcome State Fault Refusal :=
  let t := f s
  .next { t with clock := s.clock, pending := s.pending }

/-- The outcome of a command that resets or moves time itself: a tick, a boot, a fall to BACKUP or OFF. -/
def retimed (c : Clock → Clock) (f : State → State) (s : State) : Host.Outcome State Fault Refusal :=
  let t := f s
  .next { t with clock := c s.clock, pending := s.pending }

/-! ## Abort codes (R7, R437) -/

namespace Abort
@[simp] def readWo : Nat := 0x06010001
@[simp] def writeRo : Nat := 0x06010002
@[simp] def noEntry : Nat := 0x06020000
@[simp] def noSub : Nat := 0x06090011
@[simp] def value : Nat := 0x06090030
@[simp] def mapping : Nat := 0x06040041
@[simp] def length : Nat := 0x06070010
@[simp] def tooLong : Nat := 0x06070012
@[simp] def store : Nat := 0x08000020
@[simp] def noSlot : Nat := 0x08000021
@[simp] def state : Nat := 0x08000022
@[simp] def general : Nat := 0x08000000
end Abort

/-- What a write of one entry does: the abort that refuses it (0: accepted) and the state after it. -/
abbrev Written := Nat × State

/-- A refusal, which changes nothing (R9). -/
def refuse (code : Nat) (s : State) : Written := (code, s)

/-- An acceptance. -/
def accept (s : State) : Written := (0, s)

end Sys2Proof.Machine
end

