-- ==== Sys2Proof/Machine/Calendar.lean ====
section
/-! DEFINITION. The calendar as arithmetic (R362, R363): dates of 2000 to 2399, BCD fields, the bytes that a set and the alarm
carry. -/

namespace Sys2Proof.Machine

/-- A leap year (R362). -/
def leapYear (y : Nat) : Bool := decide (y % 4 = 0 ∧ (y % 100 ≠ 0 ∨ y % 400 = 0))

/-- Days of a month. -/
def monthDays (y m : Nat) : Nat :=
  if m = 2 then (if leapYear y then 29 else 28) else if m = 4 ∨ m = 6 ∨ m = 9 ∨ m = 11 then 30 else 31

/-- Days of a year. -/
def yearDays (y : Nat) : Nat := if leapYear y then 366 else 365

/-- Seconds from 2000-01-01 00:00:00 to the end of 2399: 146,097 days. -/
def calendarSpan : Nat := 146097 * 86400

/-- The year from `y` on that holds day `d` of it, and the day of the year, within `fuel` years. -/
def splitYear : Nat → Nat → Nat → Nat × Nat
  | 0, y, d => (y, d)
  | n + 1, y, d => if d < yearDays y then (y, d) else splitYear n (y + 1) (d - yearDays y)

/-- The month from `m` on that holds day `d` counted from its first, and the date. -/
def splitMonth (y : Nat) : Nat → Nat → Nat → Nat × Nat
  | 0, m, d => (m, d + 1)
  | n + 1, m, d => if d < monthDays y m then (m, d + 1) else splitMonth y n (m + 1) (d - monthDays y m)

/-- The fields of R362. -/
structure Fields where
  sec : Nat
  min : Nat
  hour : Nat
  wday : Nat
  date : Nat
  month : Nat
  year : Nat
  cent : Nat
  deriving DecidableEq, Repr

/-- The fields of a count of seconds; 2000-01-01 was a Saturday. -/
def fieldsOf (secs : Nat) : Fields :=
  let days := secs / 86400
  let (y, d) := splitYear 399 2000 days
  let (m, dt) := splitMonth y 11 1 d
  ⟨secs % 60, secs / 60 % 60, secs / 3600 % 24, (days + 5) % 7 + 1, dt, m, y % 100, y / 100⟩

/-- Days from 2000-01-01 to a date. -/
def daysTo (y m d : Nat) : Nat :=
  ((List.range (y - 2000)).map (fun i => yearDays (2000 + i))).sum +
    ((List.range (m - 1)).map (fun i => monthDays y (i + 1))).sum + (d - 1)

/-- The seconds count of fields (R362). -/
def secondsOf (f : Fields) : Nat :=
  daysTo (f.cent * 100 + f.year) f.month f.date * 86400 + f.hour * 3600 + f.min * 60 + f.sec

/-- BCD of a number below 100, and back. -/
def toBcd (n : Nat) : Nat := n / 10 * 16 + n % 10
def ofBcd (b : Nat) : Nat := b / 16 * 10 + b % 16

/-- Both digits of a byte are BCD. -/
def isBcd (b : Nat) : Bool := decide (b / 16 ≤ 9 ∧ b % 16 ≤ 9)

/-- Byte `k` of a value in the layout of R366. -/
def byteOf (v k : Nat) : Nat := v / 256 ^ k % 256

/-- Byte `k` of R366 lies in the range of its field (R362); byte 3 is a weekday (R371). -/
def byteOk (k b : Nat) : Bool :=
  isBcd b &&
  match k with
  | 0 | 1 => decide (ofBcd b ≤ 59)
  | 2 => decide (ofBcd b ≤ 23)
  | 3 => decide (1 ≤ ofBcd b ∧ ofBcd b ≤ 7)
  | 4 => decide (1 ≤ ofBcd b ∧ ofBcd b ≤ 31)
  | 5 => decide (1 ≤ ofBcd b ∧ ofBcd b ≤ 12)
  | 6 => true
  | _ => decide (20 ≤ ofBcd b ∧ ofBcd b ≤ 23)

/-- The fields that a set carries. -/
def setFields (v : Nat) : Fields :=
  ⟨ofBcd (byteOf v 0), ofBcd (byteOf v 1), ofBcd (byteOf v 2), 0, ofBcd (byteOf v 4), ofBcd (byteOf v 5),
    ofBcd (byteOf v 6), ofBcd (byteOf v 7)⟩

/-- A set names an instant of the calendar (R366). -/
def okSet (v : Nat) : Bool :=
  let f := setFields v
  byteOf v 3 == 0 && ([0, 1, 2, 4, 5, 6, 7].all (fun k => byteOk k (byteOf v k))) &&
    decide (f.date ≤ monthDays (f.cent * 100 + f.year) f.month)

/-- Byte `k` of R366 that the calendar shows. -/
def Fields.byte (f : Fields) (k : Nat) : Nat :=
  toBcd (match k with
    | 0 => f.sec | 1 => f.min | 2 => f.hour | 3 => f.wday | 4 => f.date | 5 => f.month | 6 => f.year | _ => f.cent)

/-- Every byte that the mask compares lies in its range (R371). -/
def okAlarm (alarm mask : Nat) : Bool := (List.range 8).all (fun k => !mask.testBit k || byteOk k (byteOf alarm k))

/-- Every compared byte equals the calendar's (R371); a mask of 0 compares nothing and never matches. -/
def alarmMatches (alarm mask secs : Nat) : Bool :=
  mask % 256 != 0 && (List.range 8).all (fun k => !mask.testBit k || byteOf alarm k == (fieldsOf secs).byte k)

end Sys2Proof.Machine
end

