-- ==== Sys2Proof/Machine/Jobs.lean ====
section
/-! DEFINITION. Jobs (R447 to R451): slots, handles and reports. A slot's report entry is its home; the tick at
which its job ended stands beside it. -/

namespace Sys2Proof.Machine

/-- STATUS of a report (R449). -/
inductive JobStatus where
  | free | pending | done | aborted
  deriving DecidableEq, Repr

def JobStatus.code : JobStatus → Nat
  | .free => 0 | .pending => 1 | .done => 2 | .aborted => 3

/-- A report word (R449): VALID is 1 and RESULT stands only in DONE. -/
def jobReport (handle : Nat) (st : JobStatus) (result : Nat) : Nat :=
  handle * 2 ^ 48 + st.code * 2 ^ 40 +
    (if st = .done then 2 ^ 39 + result % 2 ^ 32 else 0)

/-- HANDLE of a slot. -/
def State.jobHandle (s : State) (i : Nat) : Nat := field (s.get (K.jobReport i)) 48 16

/-- STATUS code of a slot. -/
def State.jobCode (s : State) (i : Nat) : Nat := field (s.get (K.jobReport i)) 40 8

/-- The slot chosen for a new job (R448): the lowest free one; else the one whose job ended earliest. -/
def State.jobChoice (s : State) : Option Nat :=
  match (upto 32).find? (fun i => s.jobCode i = 0) with
  | some i => some i
  | none =>
    ((upto 32).filter (fun i => s.jobCode i ≠ 1)).foldl (fun best i =>
      match best with
      | none => some i
      | some j => if s.jobEnded.toArray.getD i 0 < s.jobEnded.toArray.getD j 0 then some i else some j) none

/-- A slot allotted to a job that the entry `k` starts over a port (R448). -/
def State.jobAllot (s : State) (port : Port) (k : Nat) (i : Nat) : State :=
  let gen := s.jobHandle i / 256
  let gen' := if gen = 255 then 1 else gen + 1
  let handle := gen' * 256 + i
  let reused := s.jobCode i ≠ 0
  ((((s.put (K.jobReport i) (jobReport handle .pending 0)).put (K.jobOrigin i)
    (k * 256 + (match port with | .ecat => 0 | .spi => 1))).put
    (match port with | .ecat => K.jobLastEcat | .spi => K.jobLastSpi) handle).flag K.jobStatus
    (if reused then 5 else 1))

/-- The jobs that STALL accepts (R414): self-test retry, lockout clear, configuration save, log upload. -/
def jobInStall (k : Nat) : Bool := k == K.stRetry || k == K.faultLockoutClear || k == K.comSave || k == K.recLog

/-- A job started by a write of entry `k`: the abort that refuses it in STALL or where every slot is PENDING, else the effect of the
job given its slot. -/
def startJob (port : Port) (k : Nat) (f : Nat → State → State) (s : State) : Written :=
  if s.dev = .stall ∧ jobInStall k = false then refuse Abort.state s
  else
    match s.jobChoice with
    | none => (Abort.noSlot, s.flag K.jobStatus 8)
    | some i => accept (f i (s.jobAllot port k i))

/-- The job in slot `i` of the 32 ends DONE with a result, or ABORTED (R449). It raises the JOB alert (R441). -/
def jobEnd (i : Nat) (st : JobStatus) (result : Nat) (s : State) : State :=
  if i < 32 ∧ s.jobCode i = 1 then
    let t := ((s.put (K.jobReport i) (jobReport (s.jobHandle i) st result)).flag K.jobStatus 2).flag K.hostAlert 2
    { t with jobEnded := t.jobEnded.setIfInBounds i s.tick }
  else s

/-- A job that may not exist ends with a result. -/
def jobEnd? (i : Option Nat) (st : JobStatus) (result : Nat) (s : State) : State :=
  match i with
  | none => s
  | some i => jobEnd i st result s

/-- A handle is released (R451). -/
def jobRelease (h : Nat) (s : State) : Written :=
  let i := h % 256
  let gen := h / 256
  if i > 31 ∨ gen = 0 then refuse Abort.value s
  else if s.jobHandle i / 256 ≠ gen then refuse Abort.state s
  else if s.jobCode i = 1 then refuse Abort.state s
  else accept (s.put (K.jobReport i) (jobReport h .free 0))

/-- A write of a handle to `JOB.RELEASE` frees its slot; handles of no job, of an older generation or of a PENDING
job are refused (R451). -/
abbrev wrJobRelease (v : Nat) (s : State) : Written := jobRelease v s

/-- Whether a save or restore job is under way (R457). -/
def State.saving (s : State) : Bool := s.log.save.isSome

end Sys2Proof.Machine
end

