-- ==== Sys2Proof/Machine/Crc.lean ====
section
/-! DEFINITION. The two checks the device computes: CRC-32 of R48 (configuration, frames, records, images) and
CRC-8 of R433 (SPI frames). -/

namespace Sys2Proof.Machine

/-- One bit of the reflected CRC-32 with polynomial 0x04C11DB7 (0xEDB88320 reflected). -/
def crc32Bit (c : BitVec 32) : BitVec 32 :=
  if c.getLsbD 0 then (c >>> 1) ^^^ 0xEDB88320#32 else c >>> 1

/-- One byte of the CRC-32. -/
def crc32Byte (c : BitVec 32) (b : Byte) : BitVec 32 :=
  crc32Bit (crc32Bit (crc32Bit (crc32Bit (crc32Bit (crc32Bit (crc32Bit (crc32Bit (c ^^^ b.setWidth 32))))))))

/-- CRC-32 over bytes: initial value and final XOR 0xFFFF_FFFF (R48). -/
def crc32 (l : List Byte) : BitVec 32 := l.foldl crc32Byte 0xFFFFFFFF#32 ^^^ 0xFFFFFFFF#32

/-- One bit of the CRC-8 with polynomial 0x2F, most significant bit first. -/
def crc8Bit (c : BitVec 8) : BitVec 8 := if c.getLsbD 7 then (c <<< 1) ^^^ 0x2F#8 else c <<< 1

/-- One byte of the CRC-8. -/
def crc8Byte (c : BitVec 8) (b : Byte) : BitVec 8 :=
  crc8Bit (crc8Bit (crc8Bit (crc8Bit (crc8Bit (crc8Bit (crc8Bit (crc8Bit (c ^^^ b))))))))

/-- CRC-8 over bytes: initial value and final XOR 0xFF (R433). -/
def crc8 (l : List Byte) : BitVec 8 := l.foldl crc8Byte 0xFF#8 ^^^ 0xFF#8

end Sys2Proof.Machine
end

