-- ==== Sys2Proof/Machine/Mram.lean ====
section
/-! DEFINITION. The MRAM (R381 to R386): 1 MiB of bytes held as a sparse list in one canonical form, records
with their commit word, and the places of the partitions. -/

namespace Sys2Proof.Machine

/-! ## Bytes -/

/-- What a byte of MRAM that nothing has written reads as (DESIGN CHOICE, assumption 3). -/
def Mram.blank : Byte := 0

/-- Size of the MRAM in bytes (R381). -/
def Mram.size : Nat := 0x100000

/-- The byte at an address. -/
def Mram.read (m : List Host.Cell) (a : Nat) : Byte :=
  match m with
  | [] => Mram.blank
  | c :: t => if c.1 = a then c.2 else Mram.read t a

/-- A list of cells with an address's byte set, addresses rising; writing the blank value removes the entry. -/
def Mram.write (m : List Host.Cell) (a : Nat) (b : Byte) : List Host.Cell :=
  match m with
  | [] => if b = Mram.blank then [] else [(a, b)]
  | c :: t =>
    if a < c.1 then if b = Mram.blank then c :: t else (a, b) :: c :: t
    else if a = c.1 then if b = Mram.blank then t else (a, b) :: t
    else c :: Mram.write t a b

/-- Bytes written from an address on; none lands beyond the MRAM. -/
def Mram.writeBytes (m : List Host.Cell) (a : Nat) : List Byte → List Host.Cell
  | [] => m
  | b :: t => Mram.writeBytes (if a < Mram.size then Mram.write m a b else m) (a + 1) t

/-- `n` bytes from an address on. -/
def Mram.readBytes (m : List Host.Cell) (a : Nat) : Nat → List Byte
  | 0 => []
  | n + 1 => Mram.read m a :: Mram.readBytes m (a + 1) n

/-- The canonical form: addresses strictly rising and inside the MRAM, no listed byte equal to the blank one. -/
def Mram.wf (m : List Host.Cell) : Bool :=
  match m with
  | [] => true
  | c :: t => decide (c.1 < Mram.size) && decide (c.2 ≠ Mram.blank) &&
      (match t with | [] => true | d :: _ => decide (c.1 < d.1)) && Mram.wf t

/-! ## Partitions (R381) -/

namespace Part
@[simp] def cfgA : Nat := 0x01000
@[simp] def cfgB : Nat := 0x11000
@[simp] def learnA : Nat := 0x21000
@[simp] def learnB : Nat := 0x22000
@[simp] def ckpt : Nat := 0x23000
@[simp] def ffr : Nat := 0x25000
@[simp] def wdg : Nat := 0x25400
@[simp] def logCtl : Nat := 0x30000
@[simp] def log : Nat := 0x30080
@[simp] def logEnd : Nat := 0x100000
end Part

/-! ## Records (R382 to R384) -/

/-- Payload bytes padded to whole words. -/
def padWord (l : List Byte) : List Byte := l ++ List.replicate ((8 - l.length % 8) % 8) 0

/-- A record without its commit word: word 0, the time-stamp, the payload and the CRC word (R382). -/
def recordBody (kind seq stamp : Nat) (payload : List Byte) : List Byte :=
  let head := leBytes 4 seq ++ leBytes 2 payload.length ++ [1#8, BitVec.ofNat 8 kind] ++ leBytes 8 stamp ++
    padWord payload
  head ++ leBytes 4 (crc32 head).toNat ++ leBytes 4 0

/-- The commit word of a record (R382). -/
def commitWord (seq : Nat) : List Byte := leBytes 4 0xC0A75EA1 ++ leBytes 4 seq

/-- A whole record. -/
def recordBytes (kind seq stamp : Nat) (payload : List Byte) : List Byte :=
  recordBody kind seq stamp payload ++ commitWord seq

/-- Bytes a record of payload length `l` takes: head, payload in words, CRC word, commit word. -/
def recordSize (l : Nat) : Nat := 16 + (l + 7) / 8 * 8 + 16

/-- What a read-back finds (R384). -/
inductive Found where
  | torn
  | damaged (seq : Nat) (size : Nat)
  | good (kind : Nat) (version : Nat) (seq : Nat) (stamp : Nat) (payload : List Byte)
  deriving DecidableEq, Repr

/-- The record at an address, within `room` bytes. -/
def readRecord (m : List Host.Cell) (a room : Nat) : Found :=
  let w0 := Mram.readBytes m a 8
  let seq := leNat (w0.take 4)
  let len := leNat ((w0.drop 4).take 2)
  let size := recordSize len
  if room < size then .torn
  else
    let commit := Mram.readBytes m (a + size - 8) 8
    if commit ≠ commitWord seq then .torn
    else
      let body := Mram.readBytes m a (size - 16)
      if leNat (Mram.readBytes m (a + size - 16) 4) = (crc32 body).toNat then
        .good (w0.getD 7 0).toNat (w0.getD 6 0).toNat seq (leNat ((body.drop 8).take 8)) ((body.drop 16).take len)
      else .damaged seq size

/-- The sequence number of a good record. -/
def Found.seq? : Found → Option Nat
  | .good _ _ q _ _ => some q
  | _ => none

def Found.payload : Found → List Byte
  | .good _ _ _ _ p => p
  | _ => []

def Found.stamp : Found → Nat
  | .good _ _ _ t _ => t
  | _ => 0

def Found.isDamaged : Found → Bool
  | .damaged _ _ => true
  | _ => false

/-- A ring of `n` slots of `size` bytes from `base` (R386). -/
structure Ring where
  base : Nat
  size : Nat
  n : Nat
  kind : Nat
  deriving DecidableEq, Repr

def Ring.ckpt : Ring := ⟨Part.ckpt, 128, 64, 3⟩
def Ring.ffr : Ring := ⟨Part.ffr, 512, 2, 4⟩
def Ring.wdg : Ring := ⟨Part.wdg, 512, 2, 5⟩
def Ring.logCtl : Ring := ⟨Part.logCtl, 64, 2, 6⟩
def Ring.cfg : Ring := ⟨Part.cfgA, 0x10000, 2, 1⟩
def Ring.learn : Ring := ⟨Part.learnA, 0x1000, 2, 2⟩

def Ring.slot (r : Ring) (m : List Host.Cell) (i : Nat) : Found := readRecord m (r.base + i * r.size) r.size

/-- The slot of the newest good record of a ring and its sequence number (R385, R386). -/
def Ring.newest (r : Ring) (m : List Host.Cell) : Option (Nat × Nat) :=
  (List.range r.n).foldl (fun best i =>
    match (r.slot m i).seq? with
    | none => best
    | some q => match best with
      | none => some (i, q)
      | some (j, p) => if p < q then some (i, q) else some (j, p)) none

/-- The newest good record of a ring. -/
def Ring.read (r : Ring) (m : List Host.Cell) : Option Found := (r.newest m).map (fun e => r.slot m e.1)

/-- How many slots of a ring hold a damaged record. -/
def Ring.damaged (r : Ring) (m : List Host.Cell) : Nat :=
  ((List.range r.n).filter (fun i => (r.slot m i).isDamaged)).length

/-- The slot and sequence number of the next record: the slot after the newest good one (R385, R386); the first
slot and sequence 1 where there is none. -/
def Ring.next (r : Ring) (m : List Host.Cell) : Nat × Nat :=
  match r.newest m with
  | none => (0, 1)
  | some (i, q) => ((i + 1) % r.n, (q + 1) % 2 ^ 32)

/-! ## Words with an error (R381, R384) -/

/-- The store as reads find it: a word with an uncorrectable ECC error reads as none that was written, so that its record is torn or
damaged as R384 says (DESIGN CHOICE, assumption 119). -/
def Mram.spoiled (m : List Host.Cell) (words : List Nat) : List Host.Cell :=
  words.foldl (fun m w => Mram.writeBytes m (8 * w) ((Mram.readBytes m (8 * w) 8).map (fun b => ~~~b))) m

/-- What the reads of the device find in the MRAM. -/
def State.store (s : State) : List Host.Cell := Mram.spoiled s.mram s.ecc

/-- Bytes are written from an address on: the words they fill are good again. -/
def State.nvWrite (s : State) (a : Nat) (b : List Byte) : State :=
  { s with mram := Mram.writeBytes s.mram a b, ecc := s.ecc.filter (fun w => decide (8 * w < a ∨ a + b.length ≤ 8 * w)) }

/-- An item committed to the MRAM of a state (R383), stamped with the present time, into the next slot of its ring. -/
def State.nvCommit (s : State) (r : Ring) (payload : List Byte) : State :=
  let (i, q) := r.next s.store
  s.nvWrite (r.base + i * r.size) (recordBytes r.kind q s.stamp payload)

end Sys2Proof.Machine
end

