-- ==== Sys2Proof/Machine/Sources.lean ====
section
/-! DEFINITION. The fault sources: TYPE code, default class, EMCY code and whether the source has an own
action, as R221 and the Sources tables of R268, R308, R337, R355, R376, R399, R417 and R504 give them,
and with the Action columns of R71, R106, R132, R138, R152, R170 and R202. -/

namespace Sys2Proof.Machine

/-- What the tables say of a source: TYPE (bits [15:8] of its number, R220, R221), its default class 0 to 5 for
F0 to F5 (R219), its EMCY code (R221, R468), and whether its own action is not "None" (R224, R231). -/
structure SrcInfo where
  type : Nat
  cls : Nat
  emcy : Nat
  hasAction : Bool
  deriving DecidableEq, Repr

/-- The row of a source in the tables. -/
def SrcKind.info : SrcKind → SrcInfo
  | .clkXtalLost => ⟨0x01, 1, 0x5001, false⟩
  | .strideHold => ⟨0x02, 0, 0xFF01, false⟩
  | .strideHoldLong => ⟨0x03, 1, 0xFF02, false⟩
  | .fdVsysOv => ⟨0x10, 3, 0x3110, true⟩
  | .fdSurgeLong => ⟨0x11, 3, 0x3111, true⟩
  | .vsysPfw => ⟨0x12, 1, 0x3120, false⟩
  | .fdIbusOv => ⟨0x13, 3, 0x3210, true⟩
  | .fdIbusUv => ⟨0x14, 3, 0x3220, true⟩
  | .fdOc => ⟨0x15, 3, 0x5030, true⟩
  | .fdCflyImbal => ⟨0x16, 3, 0x5040, true⟩
  | .fdGate => ⟨0x17, 3, 0x5010, true⟩
  | .fdStart => ⟨0x18, 3, 0x5050, true⟩
  | .budgetPeak => ⟨0x19, 0, 0xFF10, false⟩
  | .budgetShed => ⟨0x1A, 2, 0x8020, true⟩
  | .budgetOver => ⟨0x1B, 3, 0x8021, true⟩
  | .phOc => ⟨0x20, 1, 0x5031, true⟩
  | .phOvl => ⟨0x21, 1, 0x5032, true⟩
  | .phNeg => ⟨0x22, 1, 0x5033, true⟩
  | .phTsd => ⟨0x23, 1, 0x4210, true⟩
  | .phSw => ⟨0x24, 1, 0x5020, true⟩
  | .phDrv => ⟨0x25, 1, 0x5011, true⟩
  | .phImbal => ⟨0x26, 1, 0x5034, true⟩
  | .phTwarn => ⟨0x27, 0, 0x4220, false⟩
  | .railPhLost => ⟨0x28, 2, 0x5035, true⟩
  | .railSs => ⟨0x29, 2, 0x3321, true⟩
  | .railDisSlow => ⟨0x2A, 1, 0x3322, false⟩
  | .railReverse => ⟨0x2B, 1, 0x8022, true⟩
  | .qwDrop => ⟨0x2C, 0, 0xFF11, false⟩
  | .qwBreach => ⟨0x2D, 0, 0xFF12, false⟩
  | .xbPk => ⟨0x30, 2, 0x5036, true⟩
  | .xbCl => ⟨0x31, 2, 0x8023, true⟩
  | .xbTsd => ⟨0x32, 2, 0x4211, true⟩
  | .xbSw => ⟨0x33, 2, 0x5021, true⟩
  | .xbDrv => ⟨0x34, 2, 0x5012, true⟩
  | .xbNeg => ⟨0x35, 2, 0x5037, true⟩
  | .xbTwarn => ⟨0x36, 0, 0x4221, false⟩
  | .ldoInUv => ⟨0x38, 2, 0x3230, true⟩
  | .ldoCl => ⟨0x39, 2, 0x8024, true⟩
  | .ldoTsd => ⟨0x3A, 2, 0x4212, true⟩
  | .ldoTwarn => ⟨0x3B, 0, 0x4222, false⟩
  | .ldoDrop => ⟨0x3C, 0, 0xFF13, false⟩
  | .supOvWarn => ⟨0x40, 1, 0x3330, false⟩
  | .supUvWarn => ⟨0x41, 1, 0x3331, false⟩
  | .supOcWarn => ⟨0x42, 1, 0x8030, false⟩
  | .supOv => ⟨0x43, 2, 0x3310, true⟩
  | .supUv => ⟨0x44, 2, 0x3320, true⟩
  | .supOc => ⟨0x45, 2, 0x8031, true⟩
  | .supChatter => ⟨0x46, 1, 0x8032, false⟩
  | .rhAgeWarn => ⟨0x48, 0, 0xFF20, false⟩
  | .rhAgeFlt => ⟨0x49, 1, 0x8040, false⟩
  | .rhAbandon => ⟨0x4A, 0, 0xFF21, false⟩
  | .seqStepFail => ⟨0x50, 2, 0x6010, true⟩
  | .seqPdFail => ⟨0x51, 1, 0x6011, false⟩
  | .seqUserFail => ⟨0x52, 1, 0x6012, true⟩
  | .seqCheckSoft => ⟨0x53, 0, 0xFF30, false⟩
  | .gaitAlrmIn => ⟨0x54, 2, 0x6020, true⟩
  | .chgTimer => ⟨0x60, 2, 0x8050, true⟩
  | .chgPreTmo => ⟨0x61, 2, 0x8051, true⟩
  | .chgBatShort => ⟨0x62, 2, 0x3140, true⟩
  | .chgBatOv => ⟨0x63, 2, 0x3141, true⟩
  | .chgConv => ⟨0x64, 2, 0x5060, true⟩
  | .chgBatMissing => ⟨0x65, 0, 0xFF40, false⟩
  | .chgBatRemoved => ⟨0x66, 1, 0xFF41, true⟩
  | .chgPackChanged => ⟨0x67, 1, 0xFF42, false⟩
  | .chgTemp => ⟨0x68, 0, 0x4230, true⟩
  | .chgRevShort => ⟨0x69, 2, 0x8052, true⟩
  | .pathSwitch => ⟨0x6A, 0, 0xFF43, false⟩
  | .pathBatCutoff => ⟨0x6B, 1, 0x3150, true⟩
  | .pathAuxOv => ⟨0x6C, 0, 0xFF44, true⟩
  | .estUnanchored => ⟨0x70, 1, 0xFF50, false⟩
  | .estDisagree => ⟨0x71, 1, 0xFF51, false⟩
  | .estStale => ⟨0x72, 1, 0xFF52, false⟩
  | .estPackLost => ⟨0x73, 1, 0xFF53, false⟩
  | .estSocLow => ⟨0x74, 0, 0xFF54, false⟩
  | .estSohLow => ⟨0x75, 1, 0xFF55, false⟩
  | .estRsRise => ⟨0x76, 1, 0xFF56, false⟩
  | .estZAbandon => ⟨0x77, 0, 0xFF57, false⟩
  | .estAdc => ⟨0x78, 1, 0x5070, false⟩
  | .estNtc => ⟨0x79, 1, 0x4240, false⟩
  | .pairLinkLost => ⟨0x80, 1, 0xFF60, false⟩
  | .pairTakeover => ⟨0x81, 1, 0xFF61, false⟩
  | .pairRoleConflict => ⟨0x82, 1, 0xFF62, false⟩
  | .pairCfgMismatch => ⟨0x83, 1, 0xFF63, false⟩
  | .pairRemountFail => ⟨0x84, 1, 0xFF64, false⟩
  | .pairDiverge => ⟨0x85, 1, 0xFF65, false⟩
  | .pairStrideSkew => ⟨0x86, 0, 0xFF66, false⟩
  | .pairPeerDown => ⟨0x87, 1, 0xFF67, false⟩
  | .wdgExpire => ⟨0x90, 2, 0x6030, false⟩
  | .wdgEarly => ⟨0x91, 0, 0x6031, false⟩
  | .wdgDouble => ⟨0x92, 0, 0x6032, false⟩
  | .wdgClk => ⟨0x93, 1, 0x5080, false⟩
  | .wdgKey => ⟨0x94, 1, 0x6033, false⟩
  | .wdgCore => ⟨0x95, 2, 0x6040, false⟩
  | .thermWarn => ⟨0xA0, 1, 0x4310, false⟩
  | .thermThrottle => ⟨0xA1, 0, 0x4320, false⟩
  | .thermShed => ⟨0xA2, 2, 0x4330, true⟩
  | .thermTsd => ⟨0xA3, 4, 0x4340, true⟩
  | .thermSensor => ⟨0xA4, 1, 0x4350, false⟩
  | .thermPdiss => ⟨0xA5, 1, 0x4360, false⟩
  | .bkVbakLow => ⟨0xA8, 1, 0x3160, false⟩
  | .rtcOscFail => ⟨0xA9, 1, 0x5090, false⟩
  | .rtcAlarm => ⟨0xAA, 0, 0xFF70, false⟩
  | .rtcInvalid => ⟨0xAB, 1, 0xFF71, false⟩
  | .recDrop => ⟨0xB0, 1, 0xFF80, false⟩
  | .recLogFull => ⟨0xB1, 1, 0xFF81, false⟩
  | .nvEccCorr => ⟨0xB2, 0, 0xFF82, false⟩
  | .nvDamaged => ⟨0xB3, 1, 0x50A0, false⟩
  | .nvWrite => ⟨0xB4, 1, 0x50A1, false⟩
  | .nvCopyLost => ⟨0xB5, 1, 0x50A2, false⟩
  | .stFail => ⟨0xC0, 1, 0x5100, true⟩
  | .stFinding => ⟨0xC1, 1, 0x5101, false⟩
  | .cfgReject => ⟨0xC2, 1, 0x6100, false⟩
  | .cfgDefault => ⟨0xC3, 1, 0x6101, false⟩
  | .fcRetryOut => ⟨0xF0, 5, 0xFFF0, false⟩

def SrcKind.type (k : SrcKind) : Nat := k.info.type
def SrcKind.cls (k : SrcKind) : Nat := k.info.cls
def SrcKind.emcy (k : SrcKind) : Nat := k.info.emcy
def SrcKind.hasAction (k : SrcKind) : Bool := k.info.hasAction

/-- Whether the own action of an instance is not "None": for an external channel the device itself turns nothing off (R152,
DEDUCED, assumption 41). Instance 0xFF stands for all of them (R224). -/
def SrcKind.acts (k : SrcKind) (inst : Nat) : Bool :=
  k.hasAction && !((k == .supOv || k == .supUv) && decide (16 ≤ inst ∧ inst < 24))

def SrcKind.all0 : List SrcKind := [.clkXtalLost, .strideHold, .strideHoldLong, .fdVsysOv, .fdSurgeLong,
  .vsysPfw, .fdIbusOv, .fdIbusUv, .fdOc, .fdCflyImbal, .fdGate, .fdStart, .budgetPeak, .budgetShed, .budgetOver,
  .phOc, .phOvl, .phNeg, .phTsd, .phSw, .phDrv, .phImbal, .phTwarn, .railPhLost, .railSs, .railDisSlow,
  .railReverse, .qwDrop, .qwBreach, .xbPk, .xbCl, .xbTsd, .xbSw, .xbDrv, .xbNeg, .xbTwarn, .ldoInUv, .ldoCl,
  .ldoTsd, .ldoTwarn]

def SrcKind.all1 : List SrcKind := [.ldoDrop, .supOvWarn, .supUvWarn, .supOcWarn, .supOv, .supUv, .supOc,
  .supChatter, .rhAgeWarn, .rhAgeFlt, .rhAbandon, .seqStepFail, .seqPdFail, .seqUserFail, .seqCheckSoft,
  .gaitAlrmIn, .chgTimer, .chgPreTmo, .chgBatShort, .chgBatOv, .chgConv, .chgBatMissing, .chgBatRemoved,
  .chgPackChanged, .chgTemp, .chgRevShort, .pathSwitch, .pathBatCutoff, .pathAuxOv, .estUnanchored,
  .estDisagree, .estStale, .estPackLost, .estSocLow, .estSohLow, .estRsRise, .estZAbandon, .estAdc, .estNtc,
  .pairLinkLost]

def SrcKind.all2 : List SrcKind := [.pairTakeover, .pairRoleConflict, .pairCfgMismatch, .pairRemountFail,
  .pairDiverge, .pairStrideSkew, .pairPeerDown, .wdgExpire, .wdgEarly, .wdgDouble, .wdgClk, .wdgKey, .wdgCore,
  .thermWarn, .thermThrottle, .thermShed, .thermTsd, .thermSensor, .thermPdiss, .bkVbakLow, .rtcOscFail,
  .rtcAlarm, .rtcInvalid, .recDrop, .recLogFull, .nvEccCorr, .nvDamaged, .nvWrite, .nvCopyLost, .stFail,
  .stFinding, .cfgReject, .cfgDefault, .fcRetryOut]

/-- Every kind of source, in ascending TYPE. -/
def SrcKind.all : List SrcKind := SrcKind.all0 ++ SrcKind.all1 ++ SrcKind.all2

/-- The kind a TYPE code names, if any. -/
def SrcKind.ofType (t : Nat) : Option SrcKind := SrcKind.all.find? (fun k => k.type == t)

/-- The source number of a kind and an instance (R220). -/
def SrcKind.number (k : SrcKind) (inst : Nat) : Nat := k.type * 256 + inst % 256

end Sys2Proof.Machine
end

