-- ==== Sys2Proof/Machine/Notes.lean ====
section
/-! DEFINITION. What an event leaves behind in the beat it happens: notes of the recorder's trigger slots (R388,
R390), the first-failure record (R213), emergency messages and the error history (R239 to R241, R456), alerts
(R441) and the device state with its cause (R28). -/

namespace Sys2Proof.Machine

/-! ## Recorder triggers -/

/-- An event the recorder can note: KIND and PARAM match of R388, with the record's detail. -/
inductive Trigger where
  | fault (src : Nat)
  | mark (id : Nat)
  | angle (slot : Nat)
  | period
  | command (mask : Nat)
  | devState
  deriving DecidableEq, Repr

def Trigger.kind : Trigger → Nat
  | .fault _ => 0 | .mark _ => 1 | .angle _ => 2 | .period => 3 | .command _ => 4 | .devState => 5

/-- Bytes 16 and 17 of the record (R391). -/
def Trigger.detail : Trigger → Nat
  | .fault n => n | .mark i => i | _ => 0

/-- Whether slot `k` holding word `w` fires on a trigger at tick `tick` (R388). -/
def Trigger.fires (t : Trigger) (k w tick : Nat) : Bool :=
  bitOf w 31 && field w 28 3 == t.kind &&
  match t with
  | .fault n => field w 0 8 == 0 || field w 0 8 == n / 256
  | .mark i => bitOf w 16 || field w 0 16 == i
  | .angle j => k == j
  | .period => field w 0 24 != 0 && tick % field w 0 24 == 0
  | .command m => m.testBit k
  | .devState => true

/-- An event is noted by slot `k`: the first since the slot's last record stands, later ones merge (R390). -/
def noteSlot (k : Nat) (detail : Nat) (s : State) : State :=
  match s.log.noted.lookup k with
  | some e =>
    let e' := { e with merged := if e.merged < 0xFFFF then e.merged + 1 else 0xFFFF }
    let t := { s with log := { s.log with
      noted := (k, e') :: s.log.noted.filter (fun x => x.1 != k) } }
    (t.bump K.recMergedCnt).flag K.recStatus 0x10
  | none =>
    { s with log := { s.log with
      noted := (k, ⟨s.beat, s.get K.strideCount, s.stride.phase, s.stamp, detail, 0⟩) :: s.log.noted } }

/-- A trigger fires the slots it matches, while the recorder is not OFF (R387, R388). In FULL its record will be refused and
counted (R392). -/
def fireTrigger (t : Trigger) (s : State) : State :=
  if s.get K.recState ≠ 0 then
    each ((upto 8).filter (fun k => t.fires k (s.get (K.recTrig k)) s.tick)) (fun k => noteSlot k t.detail) s
  else s

/-! ## Device state -/

/-- The device enters a state with a cause (R28): the STATE alert sets (R441), triggers of KIND 5 fire (R388). -/
def enterDev (d : DevState) (cause : Nat) (s : State) : State :=
  if s.dev = d then s.put K.devStateCause cause
  else fireTrigger .devState (((s.put K.devState d.code).put K.devStateCause cause).flag K.hostAlert 4)

/-! ## First-failure record -/

/-- The record is filled where it is armed, that is, holds no failure (R213). -/
def fillFfr (kind rail chan cause src addr : Nat) (s : State) : State :=
  if s.get K.ffrValid = 0 then
    let t := (((((((((s.put K.ffrValid 1).put K.ffrKind kind).put K.ffrRail rail).put K.ffrChan chan).put
      K.ffrCause cause).put K.ffrSrc src).put K.ffrAddr addr).put K.ffrGait (s.get K.seqGaitState)).put
      K.ffrChatter (s.get K.seqChkToggles))
    let t := (t.put K.ffrBeat s.beat).put K.ffrTime s.stamp
    { t with log := { t.log with ffrDue := true } }
  else s

/-- The record is emptied and armed (R213). -/
def emptyFfr (s : State) : State :=
  let t := ((((((((((s.put K.ffrValid 0).put K.ffrKind 0).put K.ffrRail 0xFF).put K.ffrChan 0xFF).put
      K.ffrCause 0).put K.ffrSrc 0).put K.ffrAddr 0).put K.ffrGait 0).put K.ffrChatter 0).put K.ffrBeat 0).put
      K.ffrTime 0
  { t with log := { t.log with ffrDue := true } }

/-- The keys of the record's fields, in the order of R216. -/
def ffrKeys : List (Nat × Nat) :=
  [(K.ffrValid, 1), (K.ffrKind, 1), (K.ffrRail, 1), (K.ffrChan, 1), (K.ffrCause, 1), (K.ffrSrc, 2), (K.ffrAddr, 2),
   (K.ffrGait, 1), (K.ffrChatter, 2), (K.ffrBeat, 8), (K.ffrTime, 8)]

/-- Fields of a record's payload: each value little-endian in the width given (assumption 14). -/
def packFields (s : State) : List (Nat × Nat) → List Byte
  | [] => []
  | e :: t => leBytes e.2 (s.get e.1) ++ packFields s t

/-- The state with the fields of a payload restored. -/
def unpackFields (s : State) : List (Nat × Nat) → List Byte → State
  | [], _ => s
  | e :: t, b => unpackFields (s.put e.1 (leNat (b.take e.2))) t (b.drop e.2)

/-! ## Emergencies -/

/-- Whether EtherCAT listens for emergencies (R440): PREOP, SAFEOP or OP. -/
def State.ecatListens (s : State) : Bool := s.get K.ecatAlState ≠ 1

/-- Whether SPI listens for emergencies (R440). -/
def State.spiListens (s : State) : Bool := s.get K.hostSpiEmcy = 1

/-- The queue without the messages that every listening port has taken (R440). -/
def dropTaken (s : State) : State :=
  let q := s.fc.emcy.filter (fun e =>
    !((s.ecatListens || s.spiListens) && (e.takenEcat || !s.ecatListens) && (e.takenSpi || !s.spiListens)))
  ({ s with fc := { s.fc with emcy := q } }).put K.hostEmcyPending q.length

/-- The eight bytes of a message (R239). -/
def Emcy.bytes (e : Emcy) : List Byte :=
  leBytes 2 e.code ++ leBytes 1 e.errReg ++ leBytes 2 e.src ++ leBytes 1 e.eff ++ leBytes 1 e.raised ++ leBytes 1 e.flags

/-- EtherCAT sends what it has not taken as CoE emergencies, oldest first, while it listens (R440). -/
def ecatTakes (s : State) : State :=
  if s.ecatListens then
    let out := (s.fc.emcy.filter (fun e => !e.takenEcat)).map Emcy.bytes
    dropTaken { s with
      fc := { s.fc with emcy := s.fc.emcy.map (fun e => { e with takenEcat := true }) }
      ecat := { s.ecat with emcySent := if out.isEmpty then s.ecat.emcySent else out } }
  else s

/-- The error history takes a code (R456). -/
def pushHistory (code src : Nat) (s : State) : State :=
  let t := each ((upto 15).reverse) (fun i u => u.put (K.comErrHist (i + 1)) (u.get (K.comErrHist i))) s
  (t.put (K.comErrHist 0) (src * 2 ^ 16 + code)).put K.comErrCnt (min 16 (s.get K.comErrCnt + 1))

/-- A message is queued (R239 to R241, R456). -/
def queueEmcy (e : Emcy) (s : State) : State :=
  let s := if e.code = 0 then s else pushHistory e.code e.src s
  if s.fc.emcy.length < 16 then
    let t := { s with fc := { s.fc with emcy := s.fc.emcy ++ [e] } }
    let t := t.put K.hostEmcyPending t.fc.emcy.length
    let t := if t.spiListens then t.flag K.hostAlert 1 else t
    ecatTakes t
  else (s.bump K.faultEmcyLost).flag K.faultStatus 0x40

end Sys2Proof.Machine
end

