-- ==== Sys2Proof/Machine/Rails.lean ====
section
/-! DEFINITION. The shared operations on rails, phases and the front divider: references, entries into and exits
from their states, what a fault reaction turns off, enables with their refusals, and disables. -/

namespace Sys2Proof.Machine

/-! ## Toggles of a running CHECK -/

/-- A change of the signal of channel, pin or rail `m` is offered to the CHECK that waits (R155, R198): it counts after the step's start
beat. -/
def offerToggle (m : Nat) (p : SeqInstr → Bool) (s : State) : State :=
  match s.seq.waiting with
  | some i =>
    if p i && decide (s.seq.startBeat < s.beat) then
      let t := s.bump K.seqChkToggles
      { t with seq := { t.seq with chatRail := m } }
    else s
  | none => s

/-- `FD.IBUS_GOOD` takes a value; a change is a toggle of a CHECK of kind 4 (R70, R198). -/
def setIbusGood (b : Bool) (s : State) : State :=
  if s.get K.fdIbusGood = (if b then 1 else 0) then s
  else offerToggle 0xFF (fun i => match i with | .check _ _ _ kind _ => kind == 4 | _ => false)
    (s.put K.fdIbusGood (if b then 1 else 0))

/-! ## Phases of a rail -/

/-- The phases that boot assigned to rail `n` (R82), ascending. -/
def State.railPhases (s : State) (n : Nat) : List Nat := (upto 8).filter (fun p => (s.phaseE p).rail == n)

/-- The phases of rail `n` in a state. -/
def State.phasesIn (s : State) (n : Nat) (x : PhaseState) : List Nat :=
  (s.railPhases n).filter (fun p => s.phase p == x)

/-- A phase counts in the interleave (R84): ACTIVE, which a burst phase is too, or RAMP. -/
def State.drives (s : State) (p : Nat) : Bool := s.phase p == .active || s.phase p == .ramp

/-- The phases of rail `n` in ACTIVE, RAMP or burst, ascending. -/
def State.driving (s : State) (n : Nat) : List Nat := (s.railPhases n).filter s.drives

/-- Bits of a list of small numbers. -/
def maskOf (l : List Nat) : Nat := l.foldl (fun m p => m ||| 2 ^ p) 0

/-- The interleave of rail `n` from the phases that drive it now (R84), and `PH_ACTIVE`. A phase outside it shows angle 0
(DEDUCED, assumption 36). Rails 8 to 15 have none (R125). -/
def reinterleave (n : Nat) (s : State) : State :=
  if n < 8 then
    let l := s.driving n
    let t := each (s.railPhases n) (fun p u => u.put (K.phaseAngle p) 0) s
    let t := each (upto l.length) (fun i u => u.put (K.phaseAngle (l.getD i 0)) (i * 36000 / l.length)) t
    t.put (K.railPhActive n) (maskOf l)
  else s

/-- A remount of a phase starts: SHADOW with no shadow stage run yet (R95, R97, R109, R110). -/
def startRemount (p : Nat) (s : State) : State :=
  (s.putPhase p .shadow).setPhaseE p { s.phaseE p with passes := 0, since := s.beat, held := 0 }

/-- Rail `n` is no longer in burst: `STATUS.BURST_OUT` (R121), nothing pending, the tick counts anew. -/
def burstStops (n : Nat) (s : State) : State :=
  let t := when (decide (n < 8 ∧ s.get (K.railSubmode n) = 1)) (fun u => (u.put (K.railSubmode n) 0).flag (K.railStatus n) 0x10) s
  t.setRailE n { t.railE n with
    bursting := false, burstPending := false, burstHeld := false, burstShed := 0, shedCount := 0, lowCount := 0 }

/-- Phases that their source released while the rail regulated go IDLE once it no longer does (R110, DEDUCED, assumption 101). -/
def idleReleased (n : Nat) (s : State) : State :=
  each ((s.phasesIn n .fault).filter (fun p => (s.phaseE p).released))
    (fun p u => (u.putPhase p .idle).setPhaseE p { u.phaseE p with released := false }) s

/-- Every phase of rail `n` in ACTIVE, SHED, SHADOW or RAMP becomes IDLE (R110). -/
def idlePhases (n : Nat) (s : State) : State :=
  let t := each ((s.railPhases n).filter (fun p =>
      s.phase p == .active || s.phase p == .shed || s.phase p == .shadow || s.phase p == .ramp))
    (fun p u => u.putPhase p .idle) s
  reinterleave n (burstStops n (idleReleased n t))

/-- Rail `n` leaves burst (R97): the burst phase switches continuously, every phase that burst entry put into SHED starts
remount. -/
def burstLeave (n : Nat) (s : State) : State :=
  if n < 8 ∧ s.get (K.railSubmode n) = 1 then
    let l := (s.phasesIn n .shed).filter (fun p => (s.railE n).burstShed.toNat.testBit p)
    reinterleave n (each l startRemount (burstStops n s))
  else s

/-- A remount of rail `n` is under way: a phase in RAMP, or in SHADOW on a rail that is not READY. -/
def State.remounting (s : State) (n : Nat) : Bool :=
  !(s.phasesIn n .ramp).isEmpty || (s.rail n != .ready && !(s.phasesIn n .shadow).isEmpty)

/-- The lowest-numbered SHED phase of a rail starts remount, if there is one. -/
def addShed (n : Nat) (s : State) : State :=
  match (s.phasesIn n .shed).head? with
  | some p => startRemount p s
  | none => s

/-- A phase enters SHED (R95, R96, R118). -/
def shedPhase (p : Nat) (s : State) : State := (s.putPhase p .shed).flag (K.phaseStatus p) 0x40

/-- A rail drives its output through its controller: SOFTSTART, ON, SLEWING or RAMPDOWN. -/
def RailState.driven : RailState → Bool
  | .softstart => true | .on => true | .slewing => true | .rampdown => true | _ => false

/-- `n` edges inside an open window of a phase that its mask names and that is ACTIVE, RAMP or a burst phase by now, exempt or not:
breaches, counted each; the source is raised at most once per window (R103, R105). -/
def phaseBreach (p n : Nat) (s : State) : State :=
  match s.qw.openK with
  | some k =>
    if n ≠ 0 ∧ s.qw.still.getLsbD p ∧ s.drives p then
      let t := ((s.bumpBy (K.phaseQwBreachCnt p) n).flag (K.phaseStatus p) 8).flag K.paQwStatus 4
      { t with qw := { t.qw with breachDue := if t.qw.breached then none else some k } }
    else s
  | none => s

/-- The same for `n` edges of a buck-boost channel that switches (R130). -/
def xbBreach (c n : Nat) (s : State) : State :=
  match s.qw.openK with
  | some k =>
    if n ≠ 0 ∧ s.qw.stillXb.getLsbD c ∧ (s.rail (8 + c)).driven then
      let t := ((s.bumpBy (K.xbQwBreachCnt c) n).flag (K.xbStatus c) 0x20).flag K.paQwStatus 4
      { t with qw := { t.qw with breachDue := if t.qw.breached then none else some k } }
    else s
  | none => s

/-- The edges with which a fault reaction turns a rail off inside an open window (R105, R130). -/
def railBreach (n : Nat) (s : State) : State :=
  let t := each (s.railPhases n) (fun p => phaseBreach p 1) s
  if 8 ≤ n ∧ n < 12 then xbBreach (n - 8) 1 t else t

/-- A phase enters FAULT: both FETs off, out of the interleave, its overload timer cleared (R106, R107). -/
def phaseFault (p cause : Nat) (s : State) : State :=
  let t := (phaseBreach p 1 s).putPhase p .fault
  let t := t.put (K.phaseFaultCause p) cause
  let t := (t.bump (K.phaseFaultCnt p)).flag (K.phaseStatus p) 0x20
  reinterleave ((s.phaseE p).rail) ((t.put (K.phaseOvlBeats p) 0).setPhaseE p { s.phaseE p with passes := 0 })

/-! ## Reference -/

/-- Steps a reference has moved after `b` beats at `num/den` codes a beat (R87). -/
def refSteps (num den b : Nat) : Nat := if den = 0 then 0 else num * b / den

/-- The reference code of a rail at a beat (R87): it moves in whole steps and never past its target. -/
def RailEngine.refAt (e : RailEngine) (beat : Nat) : Nat :=
  let k := refSteps e.rateNum e.rateDen (beat - e.refBeat)
  if e.refFrom ≤ e.target then min e.target (e.refFrom + k) else max e.target (e.refFrom - k)

/-- The reference code of rail `n` now. -/
def State.railRef (s : State) (n : Nat) : Nat := (s.railE n).refAt s.beat

/-- A movement of a rail's reference starts towards a target (R87, R88). Its rate is that of its start: `SLEW` or `SS_TIME` rewritten
meanwhile serves the next movement (DESIGN CHOICE, assumption 102). -/
def aimRail (n start target num den : Nat) (s : State) : State :=
  let e := s.railE n
  s.setRailE n { e with
    oldTarget := e.target, target := target, refFrom := start, refBeat := s.beat, rateNum := num, rateDen := den }

/-- Measured VOUT of a rail in mV: the mean over the last tick (R119). -/
def State.railVout (s : State) (n : Nat) : Nat := s.get (K.railVout n)

/-- The level to which rail `n` regulates, in µV: its target, a code of 2.5 mV (R86), lowered in SHARED mode by the load line IOUT ×
`DROOP` (R116, R131). -/
def State.railLevel (s : State) (n : Nat) : Int :=
  ((s.railE n).target : Int) * 2500 - (if (s.railE n).pairMode = 1 then (s.get (K.railIout n) * s.get (K.railDroop n) / 1000 : Nat) else 0)

/-- VOUT in mV is within 2 % of a code (R91). -/
def nearCode (v c : Nat) : Bool := decide ((2 * (v : Int) - 5 * c).natAbs * 50 ≤ 5 * c)

/-! ## Rail states -/

/-- Whether L0 is always-on: the copy in the backup domain (R136). -/
def State.alwaysOn (s : State) (n : Nat) : Bool := n == 12 && s.bk.l0On

/-- ON or SLEWING: regulating at a level (R115). -/
def RailState.regulating : RailState → Bool
  | .on => true | .slewing => true | _ => false

/-- "A rail is on" for the divider and for shedding (R69, R75): it draws or will draw power from its converter. -/
def RailState.isOn : RailState → Bool
  | .softstart => true | .on => true | .slewing => true | .rampdown => true | .enabling => true | _ => false

/-- A rail that a disable stops (R91) and that a carrier gives up: on or coming on. -/
def RailState.stoppable : RailState → Bool
  | .enabling => true | .softstart => true | .on => true | .slewing => true | _ => false

/-- ORGATEn follows the rail's state (R115): SHARED on while ON or SLEWING; STANDBY the same on the carrying device; off
in UNPAIRED and after a reverse current until release. -/
def orgate (n : Nat) (s : State) : State :=
  let e := s.railE n
  let on := (s.rail n).regulating && !e.reversed &&
    (e.pairMode == 1 || (e.pairMode == 2 && s.bit K.pairCarry n))
  s.put (K.railOrgate n) (if on then 1 else 0)

/-! ## Supervised levels (R147, R149) -/

/-- The level bits, in the order of `SUP[m].STATUS`, that a rail's channel monitors in a state (R149). UV blanking only delays
the first sample. -/
def RailState.levels : RailState → Nat
  | .softstart | .slewing | .rampdown => 0x2D
  | .on => 0x3F
  | .ready => 0x03
  | _ => 0

/-- GOOD of a rail's channel is forced to 0 in this state (R149). -/
def RailState.forcesGood : RailState → Bool
  | .off | .enabling | .discharge | .fault | .rampdown => true
  | _ => false

/-- The supervisors run in every main-domain state, in STALL channel 12 alone (R20, R153). -/
def State.supRuns (s : State) (m : Nat) : Bool :=
  s.fastUp && s.get (K.supEn m) == 1 && (s.dev != .stall || m == 12)

/-- The level bits channel `m` monitors now (R149); an external channel has no current levels (R146). -/
def State.levelsOf (s : State) (m : Nat) : Nat := if m < 16 then (s.rail m).levels else 0x1B

/-- GOOD of channel `m` is evaluated (R149). -/
def State.goodEvaluated (s : State) (m : Nat) : Bool :=
  s.supRuns m && (16 ≤ m || s.rail m == .softstart || s.rail m == .on || s.rail m == .ready)

/-- The monitoring target T of a rail's channel as a code (R149). -/
def State.supTarget (s : State) (n : Nat) : Nat :=
  let e := s.railE n
  match s.rail n with
  | .slewing => max e.oldTarget e.target
  | .rampdown => e.refFrom
  | _ => e.vsetUse

/-- The entry of a level, by its bit. -/
def levelKey (m : Nat) : Nat → Nat
  | 0 => K.supOvWarn m | 1 => K.supUvWarn m | 2 => K.supOcWarn m | 3 => K.supOvFlt m | 4 => K.supUvFlt m
  | _ => K.supOcFlt m

/-- Level `l` of channel `m` whose entry holds `x`, in 1/2,000 mV or mA (R147): T × (1,000 ± x) / 1,000, a code of T being 2.5 mV. -/
def State.levelAt (s : State) (m l x : Nat) : Nat :=
  if l = 2 ∨ l = 5 ∨ 16 ≤ m then x * 2000
  else if l = 0 ∨ l = 3 then 5 * s.supTarget m * (1000 + x)
  else 5 * s.supTarget m * (1000 - x)

/-- The hysteresis of channel `m` in 1/2,000 mV (R147). -/
def State.supHyst (s : State) (m : Nat) : Nat :=
  if m < 16 then 5 * s.supTarget m * s.get (K.supHyst m) else s.get (K.supHyst m) * 2000

/-- The good level of channel `m` in 1/2,000 mV (R154): the UV warning level, else the UV fault level, else T × 0.9. -/
def State.goodLevel (s : State) (m : Nat) : Option Nat :=
  if s.get (K.supUvWarn m) ≠ 0 then some (s.levelAt m 1 (s.get (K.supUvWarn m)))
  else if s.get (K.supUvFlt m) ≠ 0 then some (s.levelAt m 4 (s.get (K.supUvFlt m)))
  else if m < 16 then some (s.levelAt m 4 100)
  else none

/-- Level `l` of channel `m` as it is in force (6: the good level); none where it is off or disabled (R147, R149, R154). -/
def State.supLevel (s : State) (m l : Nat) : Option Nat :=
  if l = 6 then (if s.goodEvaluated m then s.goodLevel m else none)
  else if s.supRuns m && (s.levelsOf m).testBit l && s.get (levelKey m l) != 0 then some (s.levelAt m l (s.get (levelKey m l)))
  else none

/-- The levels of channel `m` with the beats from which they have stood. -/
def State.supLevels (s : State) (m : Nat) : List (Option Nat × Nat) :=
  (upto 7).map (fun l => (s.supLevel m l, (s.supE m).since.toArray.getD l 0))

/-- An effect on channel `m`'s levels: the count of each that changes restarts (R150); the levels at the start of the beat are kept, as
a count may complete in the beat in which a rail leaves a state (R153). -/
def recount (m : Nat) (f : State → State) (s : State) : State :=
  let was := s.supLevels m
  let t := f s
  let e := t.supE m
  if t.supLevels m = was then t
  else
    t.setSupE m { e with
      since := Vector.ofFn (fun l : Fin 7 =>
        if t.supLevel m l.val = (was.getD l.val (none, 0)).1 then e.since.toArray.getD l.val 0 else t.beat)
      left := if e.leftBeat = t.beat ∧ e.left ≠ [] then e.left else was
      leftBeat := t.beat
      monitored := e.monitored || (t.supRuns m && t.levelsOf m != 0) }

/-- UV levels of rail channel `n` are blanked from now (R149). -/
def blankUv (n : Nat) (s : State) : State := s.setSupE n { s.supE n with onBeat := s.beat }

/-! ## Power-good and monitored levels -/

/-- PGOOD is released while every channel of the mask is good (R156); as a mask of 0 it stays low. -/
def pgood (s : State) : State :=
  let m := s.get K.supPgoodMask
  s.put K.supPgood (if m ≠ 0 ∧ clearMask m (s.get K.supGoodMap) = 0 then 1 else 0)

/-- Whether a CHECK names GOOD of channel `m` (R192). -/
def watchesGood (m : Nat) (i : SeqInstr) : Bool :=
  match i with
  | .check _ _ _ kind op =>
    (kind == 0 && op.toNat == m) || (kind == 1 && decide (m < 16) && op.toNat.testBit m) ||
      (kind == 2 && decide (16 ≤ m) && op.toNat.testBit (m - 16))
  | _ => false

/-- GOOD of channel `m` takes a value; a change is one toggle (R154 to R156). -/
def setGood (m : Nat) (b : Bool) (s : State) : State :=
  if s.get (K.supGood m) = (if b then 1 else 0) then s
  else
    let t := (s.put (K.supGood m) (if b then 1 else 0)).putBit K.supGoodMap m b
    let t := (t.bump (K.supChatterCnt m)).flag (K.supStatus m) (if b then 0x40 else 0x80)
    let t := offerToggle m (watchesGood m) t
    pgood (t.setSupE m { t.supE m with tickToggles := (t.supE m).tickToggles + 1 })

/-- The condition of a held source has ended (R231). -/
def endCondition (src : Nat) (s : State) : State :=
  { s with fc := { s.fc with held := s.fc.held.map (fun h => if h.src = src then { h with active := false } else h) } }

/-- The source types of the six levels in the order of `SUP[m].STATUS` (R152). -/
def levelType : Nat → Nat
  | 0 => SrcKind.supOvWarn.type | 1 => SrcKind.supUvWarn.type | 2 => SrcKind.supOcWarn.type
  | 3 => SrcKind.supOv.type | 4 => SrcKind.supUv.type | _ => SrcKind.supOc.type

/-- Standing conditions of channel `m` outside a mask of levels end: their owner no longer evaluates them (R231). -/
def keepLevels (m levels : Nat) (s : State) : State :=
  let e := s.supE m
  let gone := (maskList 6 e.standing.toNat).filter (fun l => !levels.testBit l)
  let t := s.setSupE m { e with standing := e.standing &&& BitVec.ofNat 6 levels }
  each gone (fun l u => endCondition (levelType l * 256 + m) u) t

/-- What a rail's channel does as the rail takes a state (R149). -/
def superviseState (n : Nat) (x : RailState) (s : State) : State :=
  let t := keepLevels n x.levels s
  if x.forcesGood then setGood n false t else t

/-! ## Ends of rail health runs (R163 to R168) -/

/-- `RH.STATE` codes (R164). -/
def rhIdle : Nat := 0
def rhWait : Nat := 1
def rhSettle : Nat := 2
def rhInject : Nat := 3
def rhCompute : Nat := 4

/-- `RH.ARB_OWNER` goes back to none if it is `owner` (R159). -/
def arbRelease (owner : Nat) (s : State) : State := if s.get K.rhArbOwner = owner then s.put K.rhArbOwner 0 else s

/-- The commissioning job goes on to its next rail, or ends with the mask of the rails written (R168). -/
def commissionNext (c : RhCommission) (n : Nat) (written : Bool) (s : State) : State :=
  let c' : RhCommission := { c with
    mask := withBit c.mask n false, written := if written then c.written ||| 2 ^ n else c.written,
    runs := 0, sumFc := 0, sumPm := 0, sumCout := 0, sumEsr := 0 }
  let rest := s.rh.commissions.drop 1
  if c'.mask = 0 then jobEnd c.job .done c'.written { s with rh := { s.rh with commissions := rest } }
  else { s with rh := { s.rh with commissions := c' :: rest } }

/-- The bit of `RH.STATUS` that a run's status sets (R164). -/
def runBit (status : Nat) : Nat :=
  if status = 1 ∨ status = 2 then 2 else if status = 3 then 4 else if status = 4 ∨ status = 5 then 8 else 0

/-- A run leaves the engine with a status: readouts, grant, flags, its own job (R163 to R167). -/
def leaveRun (r : RhRun) (status : Nat) (s : State) : State :=
  let n := r.rail
  let t := (s.put (K.rhRunStatus n) status).bump (K.rhResultSeq n)
  let t := arbRelease 1 ((t.put K.rhState rhIdle).put K.rhRail 0xFF)
  let t := { t with
    arb := { t.arb with rhSince := none }
    rh := { t.rh with
      run := none, lastEnd := t.rh.lastEnd.setIfInBounds n t.clock.epochs
      due := t.rh.due &&& ~~~(BitVec.ofNat 12 (2 ^ n)) } }
  jobEnd? r.job .done status (t.flag K.rhStatus (runBit status))

/-- A run that did not complete: the commissioning job that asked for it leaves the rail's baseline and goes on (R168). -/
def failRun (r : RhRun) (status : Nat) (s : State) : State :=
  let t := leaveRun r status s
  match r.commission, t.rh.commissions with
  | true, c :: _ => commissionNext c r.rail false t
  | _, _ => t

/-- The run on rail `n`, which left ON and SLEWING, ends at once with status 0x05 (R163); a run whose points are all complete goes on to its
results, for R164 names no such end of COMPUTE (DEDUCED, assumption 141). -/
def rhStops (n : Nat) (s : State) : State :=
  match s.rh.run with
  | some r => if r.rail = n ∧ s.get K.rhState ≠ rhCompute then failRun r 5 s else s
  | none => s

/-- The device leaves ACTIVE, in which alone the engine runs: a run ends at once with status 0x05, in whatever state (R157, R163). -/
def rhLeaves (s : State) : State :=
  match s.rh.run with
  | some r => failRun r 5 s
  | none => s

/-- A rail takes a state; the instant is kept, its supervisor channel and ORGATEn follow; a run on a rail that no longer regulates
ends (R163). -/
def setRail (n : Nat) (x : RailState) (s0 : State) : State :=
  let s := when (!x.regulating) (rhStops n) s0
  let t := recount n (fun u => superviseState n x (u.putRail n x)) s
  orgate n (t.setRailE n { t.railE n with entered := s.beat, raised := false })

/-- A rail that leaves ON or SLEWING on the carrier with CAUSE 0x03 to 0x06 is released to the partner (R321). -/
def noteRelease (n cause : Nat) (s : State) : State :=
  if (s.rail n).regulating ∧ (s.railE n).pairMode = 2 ∧ s.bit K.pairCarry n ∧ 3 ≤ cause ∧ cause ≤ 6 then
    { s with pair := { s.pair with release := s.pair.release ||| BitVec.ofNat 16 (2 ^ n) } }
  else s

/-- A rail enters OFF (R91, R110). -/
def railToOff (n : Nat) (s : State) : State := setRail n .off (idlePhases n s)

/-- A rail enters DISCHARGE (R91, R94): switching stops, phases go IDLE. -/
def railToDischarge (n : Nat) (s : State) : State :=
  setRail n .discharge (idlePhases n s)

/-- A rail enters RAMPDOWN (R91): the reference falls to 0 at `SLEW`. Burst ends with the new target (R97), its SHED phases stay shed
(R110); phases that are ramping up leave their remount (R112). -/
def railToRampdown (n : Nat) (s0 : State) : State := recount n (fun s =>
  let t := aimRail n (s.railRef n) 0 (s.get (K.railSlew n)) 2500 s
  let t := each ((t.phasesIn n .shadow) ++ (t.phasesIn n .ramp)) (fun p u => u.putPhase p .idle) t
  reinterleave n (setRail n .rampdown (burstStops n (idleReleased n t)))) s0

/-- A rail is turned off by its own disable (R91): by `DIS_MODE` from SOFTSTART, ON and SLEWING; ENABLING and READY go OFF
(READY: DEDUCED, assumption 20); the other states stay. -/
def railStop (n : Nat) (s : State) : State :=
  match s.rail n with
  | .softstart | .on | .slewing =>
    if s.get (K.railDisMode n) = 2 then railToRampdown n s else railToDischarge n s
  | .enabling | .ready => railToOff n s
  | _ => s

/-- A rail is turned off by a shed (R75, R501) with its cause; `ramp` where `DIS_MODE` 2 ramps (R501). -/
def railShed (n cause : Nat) (ramp : Bool) (s : State) : State :=
  let t := (noteRelease n cause s).put (K.railCause n) cause
  match s.rail n with
  | .softstart | .on | .slewing =>
    if ramp && s.get (K.railDisMode n) == 2 then railToRampdown n t else railToDischarge n t
  | .enabling | .ready => railToOff n t
  | _ => t

/-- A fault reaction turns a rail off (R227, R91): FAULT, CAUSE 0x05, STATUS.FAULT, and the first-failure record where it is
armed (R213). OFF and DISCHARGE stay; so does an always-on L0. `chan` is the supervisor channel of a supervisor source, else
0xFF. -/
def railFault (n src chan : Nat) (s : State) : State :=
  if s.rail n = .off ∨ s.rail n = .discharge ∨ s.rail n = .fault ∨ s.alwaysOn n then s
  else
    let t := railBreach n (noteRelease n 5 s)
    let t := setRail n .fault (idlePhases n t)
    let t := (t.put (K.railCause n) 5).flag (K.railStatus n) 2
    fillFfr 2 n chan 0 src 0 t

/-- A fault reaction on several rails. -/
def railsFault (l : List Nat) (src chan : Nat) (s : State) : State := each l (fun n u => railFault n src chan u) s

/-- Every rail is turned off as the device leaves the main domain or on SYSRST_N (R26, R91): OFF with CAUSE 0x03. An
always-on L0 stays. -/
def railsLost (s : State) : State :=
  each (upto 16) (fun n u =>
    if u.rail n = .off ∨ u.alwaysOn n then u
    else (railToOff n (noteRelease n 3 u)).put (K.railCause n) 3) s

/-- A rail enters ON from SOFTSTART or READY (R91, R121, R149): STATUS.ON, UV blanking, the release bit clears. -/
def railToOn (n : Nat) (s : State) : State :=
  let t := blankUv n ((setRail n .on s).flag (K.railStatus n) 1)
  { t with pair := { t.pair with release := t.pair.release &&& ~~~(BitVec.ofNat 16 (2 ^ n)) } }

/-- The values in use of a rail's loop are taken over (R89). -/
def takeLoop (n : Nat) (s : State) : State :=
  if n < 8 then
    s.setRailE n { s.railE n with
      lUse := s.get (K.railLNh n), coutUse := s.get (K.railCoutUf n), bwUse := s.get (K.railBw n), fswUse := s.get (K.railFsw n) }
  else if n < 12 then
    s.setRailE n { s.railE n with
      lUse := s.get (K.xbLNh (n - 8)), coutUse := s.get (K.xbCoutUf (n - 8)), bwUse := s.get (K.xbBw (n - 8)), fswUse := s.get (K.xbFsw (n - 8)) }
  else s

/-- The target of a start: VSET, or, where a 0 has come into use since the enable, the code taken there (R86). -/
def State.startTarget (s : State) (n : Nat) : Nat :=
  if s.get (K.railVset n) = 0 then (s.railE n).vsetUse else s.get (K.railVset n)

/-- The target that an enable takes (R86). -/
def takeTarget (n : Nat) (s : State) : State := s.setRailE n { s.railE n with vsetUse := s.startTarget n }

/-- A rail enters SOFTSTART (R87, R90, R91, R110): the reference starts at the code nearest below VOUT; where VOUT is at or
above VSET the rail goes directly to ON. Its IDLE phases become ACTIVE; a channel starts in BUCK,
which is no region change (R127, DESIGN CHOICE, assumption 103). -/
def railToSoftstart (n : Nat) (s : State) : State :=
  let v := s.startTarget n
  let mv := s.railVout n
  let start := min v (mv * 2 / 5)
  let t := takeLoop n s
  let t := t.setRailE n { t.railE n with vsetUse := v }
  let t := each (t.phasesIn n .idle) (fun p u => u.putPhase p .active) t
  let t := when (decide (8 ≤ n ∧ n < 12)) (fun u => u.put (K.xbRegion (n - 8)) 0) t
  let t := setRail n .softstart t
  let t := reinterleave n t
  if v * 5 ≤ mv * 2 then railToOn n (aimRail n v v v (s.get (K.railSsTime n)) t)
  else aimRail n start v v (s.get (K.railSsTime n)) t

/-- A rail enters READY (R91, R110, R116, R135): phases in SHADOW, the loop values taken, nothing switching. -/
def railToReady (n : Nat) (s0 : State) : State := recount n (fun s =>
  let t := takeLoop n s
  let v := s.startTarget n
  let t := t.setRailE n { t.railE n with vsetUse := v }
  let t := each ((t.phasesIn n .idle) ++ (t.phasesIn n .active) ++ (t.phasesIn n .shed) ++ (t.phasesIn n .ramp))
    (fun p u => u.putPhase p .shadow) t
  let t := reinterleave n (setRail n .ready (aimRail n v v 0 1 t))
  { t with pair := { t.pair with armed := t.pair.armed &&& ~~~(BitVec.ofNat 16 (2 ^ n)) } }) s0

/-- A rail in READY is taken over (R324, R116): ON at the tracked duty, every SHADOW phase ACTIVE in the same beat, the
device carries it. -/
def railTakeover (n : Nat) (s : State) : State :=
  let t := each (s.phasesIn n .shadow) (fun p u => u.putPhase p .active) s
  let t := t.putBit K.pairCarry n true
  let t := { t with pair := { t.pair with tookAt := t.pair.tookAt.setIfInBounds n s.beat } }
  reinterleave n (railToOn n t)

/-- A carried STANDBY rail that is on goes back to READY with its partner carrying it (R326, R333); one that goes or stays off keeps its
state. -/
def railYield (n : Nat) (s : State) : State :=
  let t := s.putBit K.pairCarry n false
  if (s.rail n).stoppable then railToReady n t else orgate n t

/-! ## Held sources -/

/-- The rails a source lists as affected (R221 and the later Sources tables). -/
def affectedRails (s : State) (k : SrcKind) (i : Nat) : List Nat :=
  let t := k.type
  let phaseRail := let r := (s.phaseE i).rail; if r < 8 then [r] else []
  let xmon := if i < 16 then [i] else maskList 16 (s.get (K.faultXmonRails (i - 16)))
  if t = 0x10 ∨ t = 0x11 ∨ t = 0x12 ∨ (0x13 ≤ t ∧ t ≤ 0x18) ∨ t = 0x1B then upto 12
  else if t = 0x1A then [i]
  else if 0x20 ≤ t ∧ t ≤ 0x27 then phaseRail
  else if 0x28 ≤ t ∧ t ≤ 0x2B then [i]
  else if 0x30 ≤ t ∧ t ≤ 0x36 then [8 + i]
  else if t = 0x38 ∨ t = 0x39 ∨ t = 0x3C then [12 + i]
  else if t = 0x3A ∨ t = 0x3B then [12, 13, 14, 15]
  else if t = 0x42 ∨ t = 0x45 then [i]
  else if 0x40 ≤ t ∧ t ≤ 0x46 then xmon
  else if 0x48 ≤ t ∧ t ≤ 0x4A then [i]
  else if t = 0x81 then [i]
  else if t = 0xA2 then [i]
  else if t = 0xA3 ∨ t = 0xF0 then upto 16
  else []

/-- The kind and instance of a source number. -/
def srcParts (n : Nat) : Option SrcKind × Nat := (SrcKind.ofType (n / 256), n % 256)

/-- The rails that held sources list (R231). -/
def State.railsHeld (s : State) : Nat :=
  s.fc.held.foldl (fun m h =>
    match srcParts h.src with
    | (some k, i) => m ||| maskOf (affectedRails s k i)
    | _ => m) 0

/-- Rail `n` is held by the collector (R231). -/
def State.railHeld (s : State) (n : Nat) : Bool := s.railsHeld.testBit n

/-- The phases that a held source of their own instance holds (R231). -/
def State.phasesHeld (s : State) : Nat :=
  s.fc.held.foldl (fun m h => if 0x20 ≤ h.src / 256 ∧ h.src / 256 ≤ 0x27 then m ||| 2 ^ (h.src % 256 % 8) else m) 0

/-- Whether a divider source marked "stop" in R71 is held: such a source keeps the divider from starting (R69). The other sources of
that table do not (DESIGN CHOICE, assumption 97). -/
def State.dividerHeld (s : State) : Bool :=
  s.fc.held.any (fun h =>
    let t := h.src / 256
    t = 0x10 ∨ t = 0x11 ∨ (0x13 ≤ t ∧ t ≤ 0x18) ∨ t = 0x1B)

/-! ## Front divider -/

/-- The output of the divider exceeds the clamp at ratio N (R62): VSYS/N, the conduction drop taken as 0 (DEDUCED, assumption 96). -/
def overClamp (vsys n clamp : Nat) : Bool := n != 0 && decide (clamp * n < vsys)

/-- Whether the divider trims at the clamp now: in RUN and SWAP, by the ratio in use (R62; in SWAP DEDUCED, assumption 131). -/
def State.clamps (s : State) : Bool :=
  (s.fd == .run || s.fd == .swap) && overClamp (s.get K.fdVsys) (s.get K.fdRatio) (s.get K.fdIbusClamp)

/-- IBUS is moved in trim by a change under way (R68): step 4, or step 2 once the 100 beats of step 1 are over at the latest. -/
def State.trimsChange (s : State) : Bool :=
  s.fd == .swap && (s.divider.slewEnd.isSome ||
    match s.divider.changeTo with
    | some n => decide (s.get K.fdRatio < n ∧ s.divider.entered + 100 < s.beat)
    | none => false)

/-- `FD.TRIM` follows the clamp and a change (R62, R68); `STATUS.TRIM` sets at the start of each interval of clamp trimming. -/
def showTrim (s : State) : State :=
  let c := s.clamps
  let t := when (c && !s.divider.trimming) (fun u => u.flag K.fdStatus 8) s
  let t := { t with divider := { t.divider with trimming := c } }
  t.put K.fdTrim (if c || s.trimsChange then 1 else 0)

/-- The ratio chosen at start (R65, R66): a fixed one, or the largest N whose rising threshold VSYS has reached. -/
def State.startRatio (s : State) : Nat :=
  let m := s.get K.fdRatioMode
  let v := s.get K.fdVsys
  if m ≠ 0 then m
  else if s.get K.fdUp4 ≤ v then 4
  else if s.get K.fdUp3 ≤ v then 3
  else if s.get K.fdUp2 ≤ v then 2
  else 1

/-- The divider regulates: RUN or SWAP (R70, R71). -/
def FdState.regulating (x : FdState) : Bool := x == .run || x == .swap

/-- The divider takes a state (R69): its counts start anew, but for the beats of low IBUS in RUN or SWAP (R71). -/
def setFd (x : FdState) (s : State) : State :=
  let t := s.putFd x
  showTrim { t with divider := { t.divider with
    entered := s.beat, riseBeats := 0, fallBeats := 0, forceBeats := 0
    ibusUvBeats := if s.fd.regulating && x.regulating then s.divider.ibusUvBeats else 0, slewEnd := none
    ranTick := t.divider.ranTick || x == .run } }

/-- Whether some rail 0 to 11 waits for IBUS (R69, R70); a rail in READY needs it to track (R116, DEDUCED, assumption 21). -/
def State.dividerWanted (s : State) : Bool :=
  (upto 12).any (fun n => s.rail n == .enabling || (s.rail n == .ready && s.get K.fdIbusGood == 0))

/-- Whether some rail 0 to 11 is on. -/
def State.dividerUsed (s : State) : Bool := (upto 12).any (fun n => (s.rail n).isOn || s.rail n == .ready)

/-- The divider starts where an enable of a rail 0 to 11 asks for it (R69): from OFF with VSYS high enough and no divider
source held, or from STOPPING. -/
def fdBegin (s : State) : State :=
  let ok := s.get K.fdUp2 - 2000 ≤ s.get K.fdVsys ∧ s.dividerHeld = false
  if s.dividerWanted = true ∧ ((s.fd = .off ∧ ok) ∨ s.fd = .stopping) then
    let t := setFd .balance (s.put K.fdRatio s.startRatio)
    { t with divider := { t.divider with pendingMode := false, changeTo := none, offTicks := 0 } }
  else s

/-- A stop of the divider (R69, R71): FAULT, IBUS no longer good, every rail 0 to 11 turned off in the same beat. -/
def fdStop (src : Nat) (s : State) : State :=
  let t := if s.fd = .balance ∨ s.fd = .softstart ∨ s.fd = .run ∨ s.fd = .swap then
      let u := (setIbusGood false (setFd .fault s)).flag K.fdStatus 1
      { u with divider := { u.divider with changeTo := none } }
    else s
  railsFault (upto 12) src 0xFF t

/-- The divider goes OFF (R69): the ratio reads 0. -/
def fdToOff (s : State) : State :=
  let t := (setIbusGood false (setFd .off s)).put K.fdRatio 0
  { t with divider := { t.divider with offTicks := 0, changeTo := none, pendingMode := false } }

/-! ## Enables -/

/-- LDOIN of LDO `l` is good by its last reading (R133; assumption 125, DESIGN CHOICE: an enable of step 1 is judged by the
reading of the tick before). -/
def State.ldoinGood (s : State) (l : Nat) : Bool :=
  let v := s.get (K.ldoLdoin l)
  decide (1500 ≤ v ∧ s.get (K.railVset (12 + l)) * 5 + 400 ≤ v * 2 ∧ v ≤ 5500)

/-- Over holds in the thermal manager (R500). -/
def State.thermOver (s : State) : Bool :=
  decide (s.getI K.thermThr ≤ s.getI K.thermTj ∨ s.get K.thermPMax < s.get K.thermPdiss)

/-- The first reason for which an enable of rail `n` fails, as its CAUSE code (R93, R77, R502); none where it does not. -/
def State.enableRefusal (s : State) (n : Nat) : Option Nat :=
  if n < 8 ∧ (s.railPhases n).isEmpty then some 0x11
  else if s.get (K.railVset n) = 0 then some 0x12
  else if 12 ≤ n ∧ s.ldoinGood (n - 12) = false then some 0x14
  else if s.railHeld n then some 0x13
  else if s.bit K.budgetShedMask n ∧ 0 < s.budget.e then some 0x10
  else if s.bit K.thermShedMask n ∧ s.thermOver then some 0x15
  else none

/-- An enable that fails leaves its code (R93). -/
def refuseEnable (n code : Nat) (s : State) : State := (s.put (K.railCause n) code).flag (K.railStatus n) 4

/-- An enable goes to READY on the device that does not carry a STANDBY rail (R320). -/
def State.enableToReady (s : State) (n : Nat) : Bool := (s.railE n).pairMode == 2 && !s.bit K.pairCarry n

/-- An enable of a rail in OFF or DISCHARGE (R91 to R94, R70, R320): refused, or ENABLING, SOFTSTART or READY. In any other
state it changes nothing. -/
def railEnable (n : Nat) (s : State) : State :=
  if s.rail n = .off ∨ s.rail n = .discharge then
    match s.enableRefusal n with
    | some code => refuseEnable n code s
    | none =>
      let t := (s.putBit K.budgetShedMask n false).putBit K.thermShedMask n false
      if t.enableToReady n then railToReady n t
      else if n < 12 ∧ t.get K.fdIbusGood = 0 then setRail n .enabling (takeTarget n t)
      else railToSoftstart n t
  else s

/-- A STANDBY rail that this device carries and that is on or coming on is announced before it stops unless the link is DOWN (R322). -/
def State.announces (s : State) (n : Nat) : Bool :=
  (s.railE n).pairMode == 2 && s.bit K.pairCarry n && (s.rail n).stoppable && s.get K.pairLink != 0

/-- A disable of rail `n` with its CAUSE (R92, R322): announced first where R322 asks for it, else at once. -/
def railDisable (n cause : Nat) (s : State) : State :=
  if s.rail n = .off ∨ s.rail n = .fault then s
  else if s.announces n then
    { s with pair := { s.pair with
      announce := s.pair.announce ||| BitVec.ofNat 16 (2 ^ n),
      stops := if s.pair.stops.any (fun e => e.1 == n) then s.pair.stops
        else s.pair.stops ++ [(n, cause, 0)] } }
  else
    railStop n (s.put (K.railCause n) cause)

/-- The announced stop acts (R322), with its cause, unless the rail has stopped by itself meanwhile. -/
def railStopAnnounced (n cause : Nat) (s : State) : State :=
  let t := { s with pair := { s.pair with stops := s.pair.stops.filter (fun e => e.1 != n) } }
  if (s.rail n).stoppable || s.rail n == .ready then railStop n (t.put (K.railCause n) cause) else t

/-- A new target comes into use on rail `n` (R86 to R88, R91): a rail that is ON starts to slew, one that is moving starts
afresh from where its reference is; code 0 never becomes a target. RAMPDOWN keeps its own target. -/
def newTarget (n code : Nat) (s0 : State) : State :=
  if code = 0 then s0
  else recount n (fun s =>
    match s.rail n with
    | .on =>
      if (s.railE n).target = code then s
      else
        let t := aimRail n (s.railRef n) code (s.get (K.railSlew n)) 2500 (burstLeave n s)
        let t := t.setRailE n { t.railE n with vsetUse := code }
        let t := when (decide (8 ≤ n ∧ n < 12)) (fun u =>
          u.setXbE (n - 8) { u.xbE (n - 8) with skipping := false, lowCount := 0 }) t
        setRail n .slewing t
    | .slewing =>
      let t := aimRail n (s.railRef n) code (s.get (K.railSlew n)) 2500 s
      t.setRailE n { t.railE n with vsetUse := code }
    | .softstart =>
      let t := aimRail n (s.railRef n) code code (s.get (K.railSsTime n)) s
      t.setRailE n { t.railE n with vsetUse := code }
    | .ready =>
      let t := aimRail n code code 0 1 s
      t.setRailE n { t.railE n with vsetUse := code }
    | .enabling => s.setRailE n { s.railE n with vsetUse := code }
    | _ => s) s0

/-- VOUT is below the discharge threshold at the last boundary (R94). -/
def State.discharged (s : State) (n : Nat) : Bool := (s.railE n).discharged

/-- Every rail but an always-on L0 is discharged (R21, R25, R94). -/
def State.allDischarged (s : State) : Bool := (upto 16).all (fun n => s.alwaysOn n || s.discharged n)

end Sys2Proof.Machine
end

