-- ==== Sys2Proof/Machine/Collector.lean ====
section
/-! DEFINITION. Taking a fault source as ONE shared operation (R223 to R231, R239, R240), the off request it can make
(R204), the GAIT alarm it can assert (R208), the end of a held condition, and the release (R233). -/

namespace Sys2Proof.Machine

/-! ## Off requests and the alarm -/

/-- An off request with the STATE_CAUSE it will give (R204, R229): IDLE in ACTIVE starts power-down at the tick; in DOZE
it is held pending; a power-up or user program gives way after its current step; power-down and the other states
ignore it. The first cause stands. -/
def offRequest (cause : Nat) (s : State) : State :=
  match s.dev with
  | .active =>
    match s.seqState with
    | .idle => { s with power := { s.power with offPending := s.power.offPending.or (some cause) } }
    | .powerUp | .user => { s with seq := { s.seq with offAfter := s.seq.offAfter.or (some cause) } }
    | _ => s
  | .doze => { s with power := { s.power with offPending := s.power.offPending.or (some cause) } }
  | _ => s

/-- This device pulls GAITALRM (R208): a further cause restarts the minimum time. -/
def raiseAlarm (s : State) : State :=
  { s.flag K.gaitStatus 8 with
    gait := { s.gait with alarm := true, alarmFrom := if s.gait.alarm then s.gait.alarmFrom else s.beat, alarmSince := s.beat } }

/-- The lines may be driven (R207, R208): GAIT.EN in STANDBY, DOZE and ACTIVE, but not while the device remounts into a pair. -/
def State.drivesGait (s : State) : Bool :=
  s.gait.en && s.dev.live && !(decide (3 ≤ s.get K.pairState ∧ s.get K.pairState ≤ 5))

/-- A cause to assert GAITALRM (R208). -/
def assertAlarm (s : State) : State := if s.drivesGait then raiseAlarm s else s

/-! ## Classification -/

/-- The class after remapping (R224): the lowest matching entry governs. -/
def State.raisedClass (s : State) (k : SrcKind) (inst : Nat) : Nat :=
  match (upto 32).find? (fun j =>
    let w := s.get (K.faultRemap j)
    bitOf w 31 && field w 8 8 == k.type && (field w 0 8 == 0xFF || field w 0 8 == inst)) with
  | some j => field (s.get (K.faultRemap j)) 16 3
  | none => k.cls

/-- The snapshot of FAULT.UNACK for the sources of this beat (R225). -/
def openBeat (s : State) : State :=
  if s.fc.evalBeat = s.beat then s
  else { s with fc := { s.fc with evalBeat := s.beat, unackAtStart := s.get K.faultUnack, takenNow := 0 } }

/-- The effective class of a source (R225). -/
def effectiveClass (unack raised : Nat) : Nat :=
  if 2 ≤ raised ∧ raised ≤ 4 ∧ bitOf unack raised then raised + 1 else raised

/-! ## Holding -/

/-- A source enters the held list or keeps its place there (R231). -/
def holdSource (src cls beat : Nat) (l : List HeldSource) : List HeldSource :=
  if l.any (fun h => h.src == src) then
    l.map (fun h => if h.src = src then { h with cls := max h.cls cls, active := true, taken := beat } else h)
  else l ++ [⟨src, cls, true, beat⟩]

/-- A held word of the dictionary at a beat (R245): a source is active at least in its beat of detection (R231). -/
def heldWord (beat : Nat) (h : HeldSource) : Nat :=
  (if h.active || h.taken == beat then 2 ^ 31 else 0) + h.cls % 8 * 2 ^ 16 + h.src % 2 ^ 16

/-- The error register 0x1001 from the held sources and the host ports (R240, R442); an SPI error after tick t counts up to tick
t + 1,000. -/
def State.errorRegister (s : State) : Nat :=
  let codes := s.fc.held.filterMap (fun h => (srcParts h.src).1.map SrcKind.emcy)
  let has (d : Nat → Bool) := codes.any (fun c => d (c / 0x1000))
  (if s.fc.held.isEmpty then 0 else 1) +
  (if has (fun d => d == 3) then 4 else 0) +
  (if has (fun d => d == 4) then 8 else 0) +
  (if s.ecat.alError || (match s.ecat.spiErrTick with | some t => decide (s.tick - t ≤ 1000) | none => false) then 16
    else 0) +
  (if has (fun d => d == 5 || d == 6 || d == 8 || d == 15) then 128 else 0)

/-- The entries that show what is held (R231, R240, R242). -/
def showHeld (s : State) : State :=
  let t := each (upto 32) (fun i u => u.put (K.faultHeld i)
    (match u.fc.held[i]? with | some h => heldWord u.beat h | none => 0)) s
  let t := ((t.put K.faultHeldCnt (s.fc.held.length % 2 ^ 16)).put K.faultRailHeld s.railsHeld).put
    K.faultPhaseHeld s.phasesHeld
  t.put K.comErrReg t.errorRegister

/-- Whether a source of this kind can stay active after its beat (R231, DEDUCED, assumption 28): a supervisor level, a temperature or
dissipation level, VSYS at its highest level or below the power-fail level, VBAK below its level, a detected GAITALRM (R209), a stale
estimate, a faulty NTC. -/
def SrcKind.lasts (k : SrcKind) : Bool :=
  let t := k.type
  k == .gaitAlrmIn || k == .fdVsysOv || k == .vsysPfw || (0x40 ≤ t && t ≤ 0x45) || t == 0x23 || t == 0x27 || t == 0x32 || t == 0x36 || t == 0x3A || t == 0x3B || t == 0x68 ||
    t == 0x72 || t == 0x79 || t == 0xA0 || t == 0xA3 || t == 0xA5 || t == 0xA8

/-! ## Reactions -/

/-- The supervisor channel of a source, else 0xFF (R213). -/
def srcChan (k : SrcKind) (inst : Nat) : Nat := if 0x40 ≤ k.type ∧ k.type ≤ 0x46 then inst else 0xFF

/-- The rails of every group that holds an affected rail; every rail where there is none (R228). -/
def State.groupRails (s : State) (l : List Nat) : List Nat :=
  let g := (upto 8).foldl (fun m g =>
    let w := s.get (K.faultGroup g)
    if l.any (fun n => w.testBit n) then m ||| w else m) 0
  if g = 0 then upto 16 else maskList 16 g

/-- The reaction of class F2 (R227, R228). -/
def reactF2 (k : SrcKind) (inst : Nat) (s : State) : State :=
  let t := railsFault (affectedRails s k inst) (k.number inst) (srcChan k inst) s
  if t.dev = .doze then { t with fc := { t.fc with dozeWake := true } } else t

/-- The reaction of class F3 (R228): as F2, the groups or every rail, and the recorder's flush. -/
def reactF3 (k : SrcKind) (inst : Nat) (s : State) : State :=
  let l := affectedRails s k inst
  let t := railsFault (s.groupRails l) (k.number inst) (srcChan k inst) (reactF2 k inst s)
  { t with log := { t.log with flushDue := if t.log.flushDue.contains t.beat then t.log.flushDue else t.beat :: t.log.flushDue } }

/-- The reaction of class F4 (R228, R229, R234): every rail, an off request, noted where it is the one that acts, the alarm. -/
def reactF4 (k : SrcKind) (inst : Nat) (s : State) : State :=
  let t := railsFault (upto 16) (k.number inst) (srcChan k inst) (reactF3 k inst s)
  let u := offRequest 0x10 t
  let t := if u.power.offPending = t.power.offPending ∧ u.seq.offAfter = t.seq.offAfter then u
    else { u with fc := { u.fc with offCause := true } }
  if t.get K.faultF4Alarm = 1 ∧ t.dev.live then assertAlarm t else t

/-- The reaction of class F5 (R228, R229, R237): as F4, the lockout flag, LOCKOUT at the next step 6. -/
def reactF5 (k : SrcKind) (inst : Nat) (s : State) : State :=
  let t := reactF4 k inst s
  let t := (t.put K.faultLockout 1).flag K.faultStatus 0x20
  if t.dev.live then { t with fc := { t.fc with lockoutDue := true } } else t

/-- The reaction of an effective class. -/
def react (cls : Nat) (k : SrcKind) (inst : Nat) (s : State) : State :=
  match cls with
  | 0 | 1 => s
  | 2 => reactF2 k inst s
  | 3 => reactF3 k inst s
  | 4 => reactF4 k inst s
  | _ => reactF5 k inst s

/-- The first-source latch takes a source (R226). -/
def latchSource (src raised eff : Nat) (s : State) : State :=
  if eff < s.get K.faultLatchMin then s
  else if s.get K.faultFirstValid = 0 then
    (((((s.put K.faultFirstValid 1).put K.faultFirstSrc src).put K.faultFirstRaised raised).put K.faultFirstClass eff).put
      K.faultFirstBeat s.beat).put K.faultFirstTime s.stamp
  else (s.put K.faultFirstOvf 1).bump K.faultFirstOvfCnt

/-- The collector takes a raised source (R225): classified, counted, latched, held, announced, answered. -/
def takeSource (k : SrcKind) (inst : Nat) (s0 : State) : State :=
  let s := openBeat s0
  let src := k.number inst
  let raised := s.raisedClass k inst
  let eff := effectiveClass s.fc.unackAtStart raised
  let full := s.get K.faultFirstValid = 1
  let held := k.acts inst || decide (2 ≤ eff) || s.fc.held.any (fun h => h.src == src)
  let t := ({ s with fc := { s.fc with lastSrc := src } }.flag K.faultStatus 1).bump (K.faultCnt eff)
  let t := if eff ≠ raised then (t.flag K.faultStatus 4).bump K.faultEscCnt else t
  let t := latchSource src raised eff t
  let t := if held then
      let u := if t.fc.held.any (fun h => h.src == src) then t else t.flag K.faultStatus 2
      showHeld { u with fc := { u.fc with held := holdSource src eff u.beat u.fc.held, takenHeld := true } }
    else t
  let t := if 2 ≤ eff then
      let u := { t with fc := { t.fc with
        takenNow := t.fc.takenNow ||| 2 ^ eff, lastSevere := t.beat } }
      (u.setMask K.faultUnack (2 ^ eff)).flag K.hostAlert 8
    else t
  let t := if t.get K.faultEmcyMin ≤ eff then
      queueEmcy ⟨k.emcy, t.errorRegister, src, eff, raised,
        (if eff ≠ raised then 1 else 0) + (if full then 2 else 0) + (if held then 4 else 0), false, false⟩ t
    else t
  let t := if t.get K.faultRecMin ≤ eff then fireTrigger (.fault src) t else t
  let t := react eff k inst t
  if k.lasts then t else endCondition src t

/-- A source of the supervisors or the phases, and its instance, taken where a condition holds. -/
def takeIf (c : Bool) (k : SrcKind) (inst : Nat) (s : State) : State := if c then takeSource k inst s else s

/-! ## Release -/

/-- A phase that its source releases (R110, R233): SHADOW on a rail that regulates with AUTO_REMOUNT, FAULT still where it
waits for the host or for the rail to stop regulating, IDLE where the rail does not regulate. -/
def releasePhase (p : Nat) (s : State) : State :=
  if s.phase p = .fault then
    let n := (s.phaseE p).rail
    if (s.rail n).regulating then
      if s.get (K.phaseAutoRemount p) = 1 then startRemount p s
      else s.setPhaseE p { s.phaseE p with released := true }
    else s.putPhase p .idle
  else s

/-- Every held source is released together (R233): rails leave FAULT for DISCHARGE, the divider for OFF, phases follow
R110, ORing FETs follow R115 again. -/
def releaseAll (s : State) : State :=
  let t := { s with fc := { s.fc with held := [], lastRelease := some s.tick, cleared := true } }
  let t := each (upto 16) (fun n u => if u.rail n = .fault then railToDischarge n u else u) t
  let t := if t.fd = .fault then fdToOff t else t
  let t := each (upto 8) releasePhase t
  let t := each (upto 16) (fun n u => orgate n (u.setRailE n { u.railE n with reversed := false })) t
  showHeld ((t.put K.faultQuietCnt 0).flag K.faultStatus 8)

/-- The message of a tick whose release leaves nothing held at its end (R239). -/
def emcyClear (s : State) : State :=
  let t := { s with fc := { s.fc with cleared := false } }
  if s.fc.cleared && s.fc.held.isEmpty then queueEmcy ⟨0, s.errorRegister, 0, 0, 0, 0, false, false⟩ t else t

/-! ## Order within a step (R223) -/

/-- A source whose owner has acted waits for its place in the step's order: ascending number. The owner has acted by then (DEDUCED,
assumption 109). -/
def raiseLater (k : SrcKind) (inst : Nat) (s : State) : State :=
  let n := k.number inst
  { s with fc := { s.fc with
    due := s.fc.due.filter (fun e => decide (e.1.number e.2 < n)) ++ (k, inst) :: s.fc.due.filter (fun e => decide (n ≤ e.1.number e.2)) } }

/-- The sources that wait are taken in their order. -/
def collectDue (s : State) : State := each s.fc.due (fun e u => takeSource e.1 e.2 u) { s with fc := { s.fc with due := [] } }

end Sys2Proof.Machine
end

