-- ==== Sys2Proof/Machine/Access.lean ====
section
/-! DEFINITION. Host accesses (R7 to R11, R35, R44 to R47, R443 to R446): who answers, the checks of one write, the
consistency rules between entries, staging, the stride-scheduled writes, and a value coming into use. -/

namespace Sys2Proof.Machine

/-! ## Consistency rules between entries

Each rule reads the values as they would stand after the write, through `g`. -/

/-- R67: the divider's thresholds. -/
def okDivider (g : Nat → Nat) : Bool :=
  decide (g K.fdDn2 + 500 ≤ g K.fdUp2 ∧ g K.fdDn3 + 500 ≤ g K.fdUp3 ∧ g K.fdDn4 + 500 ≤ g K.fdUp4 ∧
    8250 * 2 ≤ g K.fdDn2 ∧ 8250 * 3 ≤ g K.fdDn3 ∧ 8250 * 4 ≤ g K.fdDn4 ∧
    g K.fdUp2 < g K.fdUp3 ∧ g K.fdUp3 < g K.fdUp4 ∧ g K.fdDn2 < g K.fdDn3 ∧ g K.fdDn3 < g K.fdDn4)

/-- R123: a quiet window's length. -/
def okLength (g : Nat → Nat) (k : Nat) : Bool := decide (10 ≤ field (g (K.qwCtrl k)) 0 8 ∧ field (g (K.qwCtrl k)) 0 8 ≤ 200)

/-- R122, R123: a quiet window's position, enabled or not. -/
def okPlace (g : Nat → Nat) (k : Nat) : Bool :=
  let c := g (K.qwCtrl k)
  (if bitOf c 30 then decide (g (K.qwPos k) < g (K.qwPeriod k)) else decide (g (K.qwPos k) < 4096))

/-- Adjacent enabled levels lie in strict order, more than the hysteresis apart. -/
def apart (h : Nat) : List Int → Bool
  | a :: b :: t => decide (b < a ∧ (h : Int) < a - b) && apart h (b :: t)
  | _ => true

/-- R148 and R325: the levels of supervisor channel `m`, and its deglitch where its rail is paired. -/
def okLevels (g : Nat → Nat) (m : Nat) : Bool :=
  let ov : Int := g (K.supOvWarn m)
  let ovf : Int := g (K.supOvFlt m)
  let uv : Int := g (K.supUvWarn m)
  let uvf : Int := g (K.supUvFlt m)
  let l := if m < 16 then [ovf, ov, -uv, -uvf] else [ovf, ov, uv, uvf]
  apart (g (K.supHyst m)) (l.filter (fun x => x ≠ 0)) &&
  (if m < 16 then
    (uv == 0 || decide ((g (K.supHyst m) : Int) < uv)) &&
    (g (K.supOcFlt m) == 0 || g (K.supOcWarn m) == 0 || decide (g (K.supOcWarn m) < g (K.supOcFlt m)))
   else true)

/-- R325: a paired rail's channel keeps its fault deglitch at 47 beats or less. -/
def okDeglitch (g : Nat → Nat) (m : Nat) : Bool :=
  16 ≤ m || g (K.railPairMode m) == 0 || decide (g (K.supFltDeglitch m) ≤ 47)

/-- A chemistry profile (R252): CV default and range, precharge, recharge drop, cell OV, short, cutoff, in mV per cell. -/
structure Profile where
  cv : Nat
  cvLo : Nat
  cvHi : Nat
  pre : Nat
  drop : Nat
  ov : Nat
  short : Nat
  cutoff : Nat
  ocv : List Nat
  deriving DecidableEq, Repr

def Profile.lfp : Profile := ⟨3600, 3450, 3650, 2800, 150, 3800, 1000, 2700,
  [2950, 3200, 3250, 3280, 3295, 3300, 3310, 3325, 3335, 3345, 3400]⟩
def Profile.nmc : Profile := ⟨4150, 4000, 4200, 3000, 100, 4300, 1500, 3100,
  [3300, 3500, 3590, 3650, 3700, 3760, 3830, 3900, 3980, 4060, 4140]⟩
def Profile.lto : Profile := ⟨2700, 2600, 2800, 1800, 100, 2900, 800, 1700,
  [1900, 2150, 2210, 2250, 2280, 2300, 2330, 2360, 2400, 2470, 2600]⟩

/-- The profile that a code selects (R252). -/
def Profile.ofCode (c : Nat) : Profile := if c = 1 then .nmc else if c = 2 then .lto else .lfp

/-- R253: the CV target and a CV level set by hand. -/
def okCharge (g : Nat → Nat) : Bool :=
  let p := Profile.ofCode (g K.chgProfile)
  let c := g K.chgCvCell
  let cv := (if c = 0 then p.cv else c) * g K.chgCells
  decide (16000 ≤ cv ∧ cv ≤ 60000) && (c == 0 || decide (p.cvLo ≤ c ∧ c ≤ p.cvHi))

/-- The OCV table in use, per cell in mV (R286). -/
def ocvTable (g : Nat → Nat) : List Nat :=
  let p := (Profile.ofCode (g K.chgProfile)).ocv
  (upto 11).map (fun i => if g (K.estOcv i) = 0 then p.getD i 0 else g (K.estOcv i))

def rising : List Nat → Bool
  | a :: b :: t => decide (a < b) && rising (b :: t)
  | _ => true

/-- R348: the reset pin of the watchdog is no sequencer output. -/
def okResetPin (g : Nat → Nat) : Bool := !(decide (g K.wdgRstGp < 8) && (g K.seqGpOutMask).testBit (g K.wdgRstGp))

/-- R388: a trigger slot's word. -/
def okTrigger (w : Nat) : Bool :=
  let p := field w 0 24
  match field w 28 3 with
  | 0 => p / 256 == 0
  | 1 => p / 0x20000 == 0
  | 2 => p / 0x100000 == 0
  | 3 => decide (1 ≤ p)
  | 4 | 5 => p == 0
  | _ => false

/-- R389: a selection entry names a readable number. -/
def okSelection (w : Nat) : Bool :=
  w == 0 ||
  match entryAt (w / 2 ^ 16 * 256 + field w 8 8) with
  | some r => r.acc != .wo && r.ty != .str && r.ty != .domain
  | none => false

/-- R224: a remap entry raises a class, or lowers that of a source without an own action; it never names FC_RETRY_OUT. -/
def okRemap (w : Nat) : Bool :=
  let c := field w 16 3
  if field w 8 8 = 0xF0 then false
  else if 5 < c then false
  else
    match SrcKind.ofType (field w 8 8) with
    | some k => decide (k.cls ≤ c) || !k.acts (field w 0 8)
    | none => true

/-- The rules of R67, R80, R89, R95, R106, R123, R132, R136, R144, R148, R224, R253, R258, R286, R325, R348, R371, R388, R389,
R505 and of the Meaning columns that the entry at `k` takes part in. A write of `PA.BURST_BASE` that leaves the pitch outside the
range of the new base is refused too (R122, DESIGN CHOICE, assumption 104). -/
def consistent (k : Nat) (g : Nat → Nat) : Bool :=
  let idx := k / 256
  let sub := k % 256
  let p := (idx - 0x2400) / 16
  if idx = 0x2300 then decide (sub < 0x0C ∨ 0x11 < sub) || okDivider g
  else if idx = 0x2340 then decide (g K.budgetCont ≤ g K.budgetPeak)
  else if 0x2400 ≤ idx ∧ idx < 0x2480 then
    (sub != 4 && sub != 5) || decide (g (K.phaseTWarn p) + 50 ≤ g (K.phaseTSd p))
  else if idx = 0x2480 then
    (sub != 2 && sub != 3) || (if g K.paBurstBase = 0 then decide (16 ≤ g K.paBurstPitch ∧ g K.paBurstPitch ≤ 4096)
      else decide (10 ≤ g K.paBurstPitch))
  else if idx = 0x2490 ∨ idx = 0x2491 ∨ idx = 0x2492 then
    okPlace g (sub - 1) && (idx != 0x2490 || okLength g (sub - 1))
  else if 0x2500 ≤ idx ∧ idx < 0x2600 then
    let n := (idx - 0x2500) / 16
    (if sub = 0x10 ∨ sub = 0x13 then decide (g (K.railBw n) * 8 ≤ g (K.railFsw n)) else true) &&
    (if sub = 0x1A ∨ sub = 0x1B then decide (2 * g (K.railShedI n) ≤ g (K.railAddI n)) else true) &&
    (if sub = 7 then okDeglitch g n && !(n == 12 && g (K.railPairMode 12) != 0 && g K.ldoAlwaysOn == 1) else true)
  else if 0x2600 ≤ idx ∧ idx < 0x2640 then
    let c := (idx - 0x2600) / 16
    (if sub = 1 ∨ sub = 4 then decide (g (K.xbBw c) * 10 ≤ g (K.xbFsw c)) else true) &&
    (if sub = 0x0A ∨ sub = 0x0B then decide (g (K.xbTWarn c) + 50 ≤ g (K.xbTSd c)) else true)
  else if idx = 0x2700 then
    sub != 1 || !(g K.ldoAlwaysOn == 1 && g (K.railPairMode 12) != 0)
  else if idx = 0x2740 then decide (g K.ldoTWarn + 50 ≤ g K.ldoTSd)
  else if 0x2800 ≤ idx ∧ idx < 0x2818 then
    let m := idx - 0x2800
    (if 2 ≤ sub ∧ sub ≤ 8 then okLevels g m else true) && (if sub = 9 then okDeglitch g m else true)
  else if 0x2880 ≤ idx ∧ idx < 0x288C then
    let n := idx - 0x2880
    let fsw := if n < 8 then g (K.railFsw n) else g (K.xbFsw (n - 8))
    ((sub != 3 && sub != 4) || decide (4 * g (K.rhFLo n) ≤ g (K.rhFHi n))) && (sub != 4 || decide (g (K.rhFHi n) ≤ fsw * 250))
  else if idx = 0x2900 then sub != 0x13 || okResetPin g
  else if idx = 0x2920 ∨ idx = 0x2921 then
    decide (g (K.seqChkStable (sub - 1)) ≤ g (K.seqChkTimeout (sub - 1)) * 1000)
  else if idx = 0x2A40 then okRemap (g k)
  else if idx = 0x2B00 then sub != 9 || okResetPin g
  else if idx = 0x2C00 then
    (if sub = 2 ∨ sub = 3 ∨ sub = 4 then okCharge g else true) &&
    (if sub = 2 then rising (ocvTable g) else true) &&
    (if sub = 5 ∨ sub = 6 then decide (g K.chgIpre ≤ g K.chgIchg) else true) &&
    (if sub = 0x12 ∨ sub = 0x13 then decide (toInt 16 (g K.chgTChgLo) + 50 ≤ toInt 16 (g K.chgTChgHi)) else true)
  else if idx = 0x2D00 then
    (if sub = 0x12 ∨ sub = 0x13 then decide (toInt 16 (g K.estLearnTLo) + 50 ≤ toInt 16 (g K.estLearnTHi)) else true) &&
    (if sub = 0x18 ∨ sub = 0x1A then decide (2 * g K.estHibI ≤ g K.estWakeI) else true)
  else if idx = 0x2D50 then rising (ocvTable g)
  else if idx = 0x2E00 then (sub != 0x0E && sub != 0x0F) || okAlarm (g K.rtcAlarm) (g K.rtcAlarmMask)
  else if idx = 0x2F10 then okTrigger (g k)
  else if 0x2F20 ≤ idx ∧ idx < 0x2F24 then okSelection (g k)
  else if idx = 0x3100 then
    decide (sub ≠ 1 ∧ sub ≠ 2 ∧ sub ≠ 3) ||
      decide (toInt 16 (g K.thermThr) + 50 ≤ toInt 16 (g K.thermWarn) ∧
        toInt 16 (g K.thermWarn) + 50 ≤ toInt 16 (g K.thermSd))
  else true

/-! ## Ranges and kinds of entries -/

/-- A value lies in its entry's range; signed types read in two's complement. -/
def ValueRule.ok (r : ValueRule) (ty : ValType) (v : Nat) : Bool :=
  let i : Int := match ty with | .i16 => toInt 16 v | .i32 => toInt 32 v | _ => v
  match r with
  | .any => true
  | .range lo hi => decide (lo ≤ i ∧ i ≤ hi)
  | .zeroOr lo hi => i == 0 || decide (lo ≤ i ∧ i ≤ hi)
  | .oneOf l => l.contains v

/-- A configuration entry (R45): stored, in 0x2200 to 0x31FF, written as an entry. -/
def EntryRow.staged (r : EntryRow) (k : Nat) : Bool := r.per == .s && decide (0x2200 ≤ k / 256 ∧ k / 256 ≤ 0x31FF)

/-- Stride-scheduled entries (R44 and the Meaning columns). -/
def strideScheduled (k : Nat) : Bool :=
  let idx := k / 256
  let sub := k % 256
  k == K.strideOffset || k == K.paBurstBase || k == K.paBurstPitch || idx == 0x2490 || idx == 0x2491 || idx == 0x2492 ||
  (decide (0x2500 ≤ idx ∧ idx < 0x2580) && (sub == 0x17 || sub == 0x18)) ||
  (decide (0x2600 ≤ idx ∧ idx < 0x2640) && sub == 0x0C) ||
  (decide (0x2880 ≤ idx ∧ idx < 0x288C) && (sub == 6 || sub == 7)) ||
  k == K.estZPlace || k == K.estZPos || idx == 0x2F10

/-- A sequencer program runs (R183). -/
def State.programRuns (s : State) : Bool := s.seqState == .powerUp || s.seqState == .powerDown || s.seqState == .user

/-- The value that an entry will have once a configuration image and the direct writes that wait for their stride are in use (R44,
R464). -/
def State.dueGet (s : State) (k : Nat) : Nat :=
  match s.staging.direct.reverse.find? (fun e => e.2.1 == k), s.staging.image with
  | some e, _ => e.2.2
  | none, some (_, l, _) => lookupD l k (s.get k)
  | none, none => s.get k

/-- Reading through the staging set: what a commit would leave in use. -/
def State.stagedGet (s : State) (k : Nat) : Nat := lookupD s.staging.set k (s.dueGet k)

/-! ## Values coming into use -/

/-- What a new divider mode does (R65): in RUN a change to a new fixed N is due at the next beat; a mode that asks for none withdraws
one that has not started. -/
def newRatioMode (v : Nat) (s : State) : State :=
  match s.fd with
  | .run =>
    if v ≠ 0 ∧ v ≠ s.get K.fdRatio then
      { s with divider := { s.divider with changeTo := some v, changeAt := s.beat + 1 } }
    else { s with divider := { s.divider with changeTo := none } }
  | .swap | .balance | .softstart => { s with divider := { s.divider with pendingMode := true } }
  | _ => s

/-- The stride clock with a new period estimate and correction: the phase does not jump (R40), so the time since unit 0 is
rescaled to the new length. -/
def StrideClock.relength (c : StrideClock) (period : Nat) (corr : Int) : StrideClock :=
  let d := { c with period := period, corr := corr }
  { d with elapsed := if c.length = 0 then 0 else c.elapsed * d.length / c.length }

/-- The period in use becomes `period` (in 10 ns / 65,536), and `STRIDE.PERIOD` shows it in ns. -/
def setPeriod (period : Nat) (corr : Int) (s : State) : State :=
  { s with stride := s.stride.relength period corr }.put K.stridePeriod (period * 10 / 65536)

/-- `STRIDE.NOMINAL` as a period. -/
def nominalPeriod (v : Nat) : Nat := v * 100 * 65536

/-- The calibration ends with a status, which is its job's result (R368, R369). -/
def calEnd (status : Nat) (s : State) : State :=
  match s.cal with
  | some c => jobEnd c.job .done status ({ s with cal := none }.put K.rtcCalStatus status)
  | none => s

/-- The level bit of the entry at a subindex of `SUP[m]` (R171); 6, which is no level, for `HYST`. -/
def levelBit : Nat → Nat
  | 2 => 0 | 3 => 3 | 4 => 1 | 5 => 4 | 7 => 2 | 8 => 5 | _ => 6

/-- The effects at the instant a stored value comes into use: a rail's target (R86, R88), burst off (R97), the divider's
mode (R65), a disabled supervisor or level (R147, R156), an external channel left without a good level (R154), the recorder's enable (R387), a trim that ends a calibration (R369), emergencies over SPI (R440). -/
def cameIntoUse (k v : Nat) (s : State) : State :=
  let idx := k / 256
  let sub := k % 256
  if 0x2500 ≤ idx ∧ idx < 0x2600 then
    let n := (idx - 0x2500) / 16
    if sub = 1 then newTarget n v s
    else if sub = 0x14 ∧ v = 0 then burstLeave n s
    else s
  else if k = K.fdRatioMode then newRatioMode v s
  else if k = K.strideNominal then
    if s.strideState = .free ∨ s.stride.measured = false then setPeriod (nominalPeriod v) s.stride.corr s else s
  else if k = K.supPgoodMask then pgood s
  else if 0x2800 ≤ idx ∧ idx < 0x2818 ∧ sub = 1 ∧ v = 0 then
    let m := idx - 0x2800
    let t := setGood m false s
    keepLevels m 0 t
  else if 0x2800 ≤ idx ∧ idx < 0x2818 ∧ 2 ≤ sub ∧ sub ≤ 8 ∧ v = 0 then
    let m := idx - 0x2800
    let t := keepLevels m (clearMask 0x3F (2 ^ levelBit sub)) s
    if 16 ≤ m ∧ (t.goodLevel m).isNone then setGood m false t else t
  else if k = K.recEn then
    if v = 0 then s.put K.recState 0
    else if v = 1 ∧ s.get K.recState = 0 ∧ s.dev.main ∧ s.dev ≠ .stall then s.put K.recState 1
    else s
  else if k = K.hostSpiEmcy then dropTaken s
  else if k = K.rtcTrim then calEnd 3 s
  else s

/-- A write of an entry in 0x2D00 to 0x2DFF wakes the estimator (R284). -/
def wakeEst (k : Nat) (s : State) : State :=
  if 0x2D00 ≤ k / 256 ∧ k / 256 ≤ 0x2DFF then { s with est := { s.est with wakeDue := true } } else s

/-- A value comes into use. A stored value makes `CFG.CRC` due (R48); one of the estimator's wakes it (R284). -/
def applyValue (k v : Nat) (s : State) : State :=
  let use (u : State) : State := cameIntoUse k v (u.put k v)
  let t := if 0x2800 ≤ k / 256 ∧ k / 256 < 0x2818 then recount (k / 256 - 0x2800) use s else use s
  let t := wakeEst k t
  match entryAt k with
  | some r => if r.per = .s then { t with staging := { t.staging with crcDue := true } } else t
  | none => t

/-! ## The staging set (R45 to R47) -/

/-- The number of the stride after one (R54): 0 marks only the first after boot. -/
def nextStride (c : Nat) : Nat := if c + 1 < 2 ^ 32 then c + 1 else 1

/-- Stride k + 2 (R44). -/
def State.strideTarget (s : State) : Nat := nextStride (nextStride (s.get K.strideCount))

/-- Stride k′ + 2, k′ being the stride in which a write that acts now has completed (R47). -/
def State.joinTarget (s : State) : Nat := nextStride (nextStride s.stride.outset)

/-- Whether stride number `a` lies before `b`, judged modulo 2^32 (R47). -/
def strideBefore (a b : Nat) : Bool := decide (a ≠ b ∧ (b + 2 ^ 32 - a) % 2 ^ 32 < 2 ^ 31)

/-- The entries that show the staging set. -/
def showStaging (s : State) : State :=
  let t := s.put K.cfgStageCount s.staging.set.length
  let t := t.put K.cfgStageState (if s.staging.commit.isSome then 2 else if !s.staging.set.isEmpty || s.programRuns then 1 else 0)
  t.put K.cfgCommitAt (match s.staging.commit with | some (.stride n) => n | _ => 0)

/-- A write joins the staging set (R45 to R47). -/
def stageWrite (k v : Nat) (s : State) : Written :=
  let known := s.staging.set.any (fun e => e.1 == k)
  if !known && decide (256 ≤ s.staging.set.length) then refuse Abort.value s
  else
    let set' := insertKey (eraseKey s.staging.set k) k v
    let commit' := match s.staging.commit with
      | some (.stride n) =>
        if strideScheduled k && strideBefore n s.joinTarget then some (.stride s.joinTarget) else some (.stride n)
      | some .tick => if strideScheduled k then some (.stride s.joinTarget) else some .tick
      | none => none
    accept (showStaging { s with staging := { s.staging with set := set', commit := commit' } })

/-- The staging set comes into use whole (R47), in ascending order of its entries. -/
def applyStaging (s : State) : State :=
  let l := s.staging.set
  let t := { s with staging := { s.staging with set := [], commit := none } }
  showStaging (each l (fun e u => applyValue e.1 e.2 u) t)

/-! ## One write -/

/-- Whether a host access over a port is answered at all: the management core runs, and over EtherCAT the mailbox is open,
that is, the application layer has left INIT (R406, R420). -/
def State.answers (s : State) (port : Port) : Bool :=
  s.coreUp && (match port with | .ecat => s.get K.ecatAlState != 1 | .spi => true)

/-- The abort of R7 for a write of an entry, if its access forbids it; the watchdog's lock of R353 with it. Subindex 0x00 of a
record or array holds its highest subindex and is read-only. -/
def writeCheck (k : Nat) (s : State) : Option Nat :=
  match entryAt k with
  | none => some (if !indexExists (k / 256) then Abort.noEntry else if k % 256 = 0 then Abort.writeRo else Abort.noSub)
  | some r =>
    match r.acc with
    | .ro => some Abort.writeRo
    | .rwl => if s.get K.cfgLock = 1 then some Abort.state
      else if s.get K.wdgLock = 1 ∧ K.wdgEn ≤ k ∧ k ≤ K.wdgStartDelay then some Abort.state else none
    | .rwp => if s.get K.ecatAlState = 2 then none else some Abort.state
    | _ => none

/-- The reserved bits of a writable entry: what a write puts there is ignored (R5). -/
def reservedBits (k : Nat) : Nat :=
  let idx := k / 256
  if idx = 0x2490 then 0x3FFF0000
  else if idx = 0x2A40 then 0x7FF80000
  else if idx = 0x2F10 then 0x03000000
  else if 0x2F20 ≤ idx ∧ idx < 0x2F24 then 0xFF
  else if k = K.supPgoodMask then 0xFF000000
  else if k = K.estNtcEn then 0xF0
  else if k = K.bkPwronSrc then 0xF8
  else 0

/-- A write of a number to an entry without an action of its own (R5, R7 to R11, R35, R44, R45). The rules between entries are
checked against the values that stand once every direct write that waits for its stride is in use, and, where the write is staged, the
staging set (R123, DEDUCED, assumption 95). -/
def plainWrite (k w : Nat) (s : State) : Written :=
  match entryAt k with
  | none => refuse Abort.noEntry s
  | some r =>
    let v := clearMask w (reservedBits k)
    if r.rule.ok r.ty v = false then refuse Abort.value s
    else if r.acc = .w1c then accept (wakeEst k (s.clearFlag k v))
    else
      let stage := r.staged k && (s.programRuns || !s.staging.set.isEmpty)
      let g : Nat → Nat := fun j => if j = k then v else if stage then s.stagedGet j else s.dueGet j
      if consistent k g = false then refuse Abort.value s
      else if stage then stageWrite k v s
      else if strideScheduled k then
        accept { s with staging := { s.staging with direct := s.staging.direct ++ [(s.strideTarget, k, v)] } }
      else accept (applyValue k v s)

/-- A write after the access check: its own effect, or the abort. -/
def checked (k : Nat) (wr : State → Written) (s : State) : Written :=
  match writeCheck k s with
  | some a => refuse a s
  | none => wr s

/-- The answer to a host is recorded; without one, nothing stands there. -/
def answer (port : Port) (w : Written) : State := { w.2 with reply := some ⟨port, w.1⟩ }

/-- A host write that arrives over a port: where nobody answers nothing happens (R26, R406); else its effect and its
answer. -/
def hostDo (port : Port) (k : Nat) (wr : State → Written) (s : State) : State :=
  if s.answers port then answer port (checked k wr s) else { s with reply := none }

end Sys2Proof.Machine
end

