-- ==== Sys2Proof/Machine/Record.lean ====
section
/-! DEFINITION. The event recorder and the records of the store (R381 to R398): records into the SRAM buffer, the
flush into the log, the clear, the first-failure, watchdog, learned and checkpoint records, the power-fail work, the
scan of the log at boot. -/

namespace Sys2Proof.Machine

/-! ## What a host reads of a number entry -/

/-- What a host reads of a number entry: the last publication (R34, R443). The serial number is the device's own, the stride
phase is live (R54), the calendar entries return the last capture (R365). -/
def State.shown (s : State) (k : Nat) : Nat :=
  if k = K.idSerial then Config.serial.toNat
  else if k = K.stridePhase then s.stride.phase
  else if 0x2E0002 ≤ k ∧ k ≤ 0x2E000B then s.get k
  else lookupD s.pub k (dflt k)

/-- Width in bytes of the entry at a key (R5). -/
def widthOf (k : Nat) : Nat :=
  match entryAt k with
  | some r => r.ty.bits / 8
  | none => 0

/-! ## Log event records (R391) -/

/-- The fixed part of a log event record's payload, 24 bytes. -/
def eventHead (e : NotedEvent) (slot kind list n devState : Nat) : List Byte :=
  leBytes 8 e.beat ++ leBytes 4 e.strideCount ++ leBytes 2 e.phase ++ leBytes 1 slot ++ leBytes 1 kind ++
    leBytes 2 e.detail ++ leBytes 1 list ++ leBytes 1 n ++ leBytes 2 e.merged ++ leBytes 1 devState ++ [0#8]

/-- The keys a selection list names, up to its first 0 (R389). -/
def selected : List Nat → List Nat
  | [] => []
  | w :: t => if w = 0 then [] else (w / 2 ^ 16 * 256 + field w 8 8) :: selected t

/-- Selection list `l` as keys. -/
def State.selection (s : State) (l : Nat) : List Nat := selected ((upto 32).map (fun i => s.get (K.recSel l i)))

/-- The payload of slot `k`'s record of an event (R390, R391). -/
def State.eventPayload (s : State) (k : Nat) (e : NotedEvent) : List Byte :=
  let w := s.get (K.recTrig k)
  let l := field w 26 2
  let keys := s.selection l
  eventHead e k (field w 28 3) l keys.length (s.get K.devState) ++
    keys.flatMap (fun j => leBytes (widthOf j) (s.shown j))

/-- An event of the present beat, for an automatic record. -/
def State.nowEvent (s : State) (detail : Nat) : NotedEvent :=
  ⟨s.beat, s.get K.strideCount, s.stride.phase, s.stamp, detail, 0⟩

/-- Bytes of the event log partition less the headroom and the reserve of R392. -/
def logRoom : Nat := 851840 - 128 - 56

/-- F of R392: bytes in the buffer, commit words included. -/
def State.bufBytes (s : State) : Nat := (s.log.buf.map (fun r => r.bytes.length + 8)).sum

/-- The entries that show the buffer. -/
def showBuf (s : State) : State :=
  (s.put K.recBufUsed s.bufBytes).put K.recBufRecords s.log.buf.length

/-- A record enters the buffer and takes the next sequence number (R392). -/
def enterBuf (stamp : Nat) (payload : List Byte) (s : State) : State :=
  let q := s.get K.recNextSeq
  let t := { s with log := { s.log with buf := s.log.buf ++ [(⟨q, recordBody 0x10 q stamp payload⟩ : BufRecord)] } }
  showBuf ((t.put K.recNextSeq ((q + 1) % 2 ^ 32)).flag K.recStatus 1)

/-- A record is offered to the buffer: taken, dropped at the buffer's limit, or refused where the log has no room (R392). -/
def offerRecord (stamp : Nat) (payload : List Byte) (s : State) : State :=
  let size := recordSize payload.length
  let f := s.bufBytes
  match s.get K.recState with
  | 0 => s
  | 1 =>
    if logRoom < s.log.writeAt + f + size then
      takeSource .recLogFull 0 (((s.put K.recState 2).flag K.recStatus 8).bump K.recRefusedCnt)
    else if s.get K.recBufLimit * 1024 - 56 < f + size then
      let t := (s.bump K.recDropCnt).flag K.recStatus 4
      if t.log.dropRaised then t
      else takeSource .recDrop 0 { t with log := { t.log with dropRaised := true } }
    else enterBuf stamp payload s
  | _ => s.bump K.recRefusedCnt

/-- A noted event is ready at this tick (R390): one of a tick kind, or one of a beat before the tick's. -/
def State.noteReady (s : State) (k : Nat) (e : NotedEvent) : Bool :=
  decide (3 ≤ field (s.get (K.recTrig k)) 28 3) || decide (e.beat < s.beat)

/-- The record of one noted event (R390). -/
def takeNoted (k : Nat) (s : State) : State :=
  match s.log.noted.lookup k with
  | some e =>
    if s.noteReady k e then
      let p := s.eventPayload k e
      offerRecord e.stamp p { s with log := { s.log with noted := s.log.noted.filter (fun x => x.1 != k) } }
    else s
  | none => s

/-- The records of a tick, in ascending slot order (R390). -/
def takeRecords (s : State) : State := each (upto 8) takeNoted s

/-- The BOOT record (R390, R391). -/
def bootRecord (s : State) : State :=
  let e := s.nowEvent (s.get K.devStateCause)
  offerRecord e.stamp (eventHead e 0xFF 0x10 0xFF 0 (s.get K.devState)) s

/-! ## Flush and clear -/

/-- A flush is requested: its end is the present tail (R393). -/
def startFlush (s : State) : State :=
  { s.put K.recFlushing 1 with log := { s.log with
    flushTo := some s.log.buf.length, flushed := if s.log.flushTo.isSome then s.log.flushed else 0 } }

/-- The oldest record of the buffer is committed to the log (R383, R393). -/
def commitOldest (s : State) : State :=
  match s.log.buf with
  | [] => s
  | r :: rest =>
    let b := r.bytes ++ commitWord r.seq
    let t := s.nvWrite (Part.log + s.log.writeAt) b
    let t := { t with log := { t.log with buf := rest, writeAt := t.log.writeAt + b.length } }
    showBuf ((t.put K.recLogUsed t.log.writeAt).bump K.recLogRecords)

def commitMany : Nat → State → State
  | 0, s => s
  | n + 1, s => commitMany n (commitOldest s)

/-- A record's write failed twice (R383): abandoned without its commit word, counted, `NV_WRITE`. -/
def writeFailed (s : State) : State :=
  takeSource .nvWrite 0 ((s.bump K.nvWriteFailCnt).flag K.nvStatus 4)

/-- A record's write fails in this tick (R383): its words stand without their commit word. -/
def State.nvAbandon (s : State) (r : Ring) (payload : List Byte) : State :=
  let (i, q) := r.next s.store
  writeFailed (s.nvWrite (r.base + i * r.size) (recordBody r.kind q s.stamp payload))

/-- The oldest record of the buffer is abandoned: the next one takes its place in the log. -/
def abandonOldest (s : State) : State :=
  match s.log.buf with
  | [] => s
  | r :: rest =>
    let t := s.nvWrite (Part.log + s.log.writeAt) r.bytes
    writeFailed (showBuf { t with log := { t.log with buf := rest } })

/-- An item's record is written into the next slot of its ring (R383, R386). -/
def State.nvStore (s : State) (r : Ring) (payload : List Byte) : State :=
  if s.log.failing.testBit r.kind then s.nvAbandon r payload else s.nvCommit r payload

/-- The flush ends (R393): every record up to the tail of the request is committed; with `fail` the last of them is
abandoned (R383). -/
def doRecFlushDone (fail : Bool) (s : State) : State :=
  match s.log.flushTo with
  | none => s
  | some n =>
    let bad := fail && n != 0
    let good := if bad then n - 1 else n
    let t := commitMany good s
    let t := if bad then abandonOldest t else t
    let t := (((t.put K.recFlushing 0).bump K.recFlushCnt)).flag K.recStatus 2
    let t := each t.log.flushJobs (fun j u => jobEnd j .done (min (s.log.flushed + good) 0xFFFF) u) t
    { t with log := { t.log with flushTo := none, flushed := 0, flushJobs := [], dropRaised := false, powerFail := false } }

/-- How many of the oldest `n` records a flush takes to write `left` bytes. -/
def flushCount : List BufRecord → Nat → Nat → Nat
  | [], _, _ => 0
  | _ :: _, 0, _ => 0
  | r :: t, n + 1, left => if left = 0 then 0 else 1 + flushCount t n (left - (r.bytes.length + 8))

/-- A running flush in a tick: 64 KiB, the least that R393 allows (DESIGN CHOICE, assumption 120). Where log records cannot be written
in the tick, the last of them is abandoned (R383). -/
def flushTick (s : State) : State :=
  match s.log.flushTo with
  | none => s
  | some n =>
    let k := flushCount s.log.buf n 65536
    let fail := s.log.failing.testBit 0x10
    if n ≤ k then doRecFlushDone fail s
    else
      let good := if fail then k - 1 else k
      let t := commitMany good s
      let t := if fail then abandonOldest t else t
      { t with log := { t.log with flushTo := some (n - k), flushed := t.log.flushed + good } }

/-- A flush that a fault asked for in an earlier beat starts (R393); one asked for in this beat waits for the next tick. -/
def flushAsked (s : State) : State :=
  let t := { s with log := { s.log with flushDue := s.log.flushDue.filter (fun b => decide (s.beat ≤ b)) } }
  if s.log.flushDue.any (fun b => decide (b < s.beat)) then startFlush t else t

def execRecFlushDone (fail : Bool) (s : State) : Host.Outcome State Fault Refusal := eventNv (doRecFlushDone fail) s

/-- Whether a job other than those of R414 is turned away because the device is in STALL. -/
def State.stalled (s : State) : Bool := s.dev == .stall

/-- A write of `REC.FLUSH` (R393, R414): a job; where a flush runs, its end moves to the tail. -/
def wrRecFlush (port : Port) (v : Nat) (s : State) : Written :=
  if v ≠ 1 then refuse Abort.value s
  else if s.stalled then refuse Abort.state s
  else startJob port K.recFlush (fun i u =>
    startFlush { u with log := { u.log with flushJobs := u.log.flushJobs ++ [i] } }) s

/-- The state the recorder takes where nothing fills it: ARMED, or OFF with `REC.EN` = 0 and in BACKUP, OFF and STALL (R387). -/
def State.recorderState (s : State) : Nat :=
  if s.get K.recEn = 1 ∧ s.dev.main ∧ s.dev ≠ .stall then 1 else 0

/-- The log is cleared (R394): the buffer empties, a log control record with the base sequence is committed, FULL ends. Where its write
fails, the log stands (DEDUCED, assumption 121). -/
def clearLog (s : State) : State :=
  let b := s.get K.recNextSeq
  let t := s.nvStore Ring.logCtl (leBytes 4 b)
  let t := { t with log := { t.log with buf := [] } }
  let t := if s.log.failing.testBit Ring.logCtl.kind then t
    else
      let t := { t with log := { t.log with writeAt := 0, reserveUsed := false } }
      let t := (((t.put K.recBaseSeq b).put K.recLogUsed 0).put K.recLogRecords 0).put K.recState t.recorderState
      t.flag K.recStatus 0x40
  showBuf t

/-- A write of `REC.CLEAR` starts the clear job (R394), which acts at the write's own tick in step 1 (R35) and is done at once. -/
def wrRecClear (port : Port) (v : Nat) (s : State) : Written :=
  if v ≠ 0xC1EA then refuse Abort.value s
  else if s.stalled ∨ s.log.flushTo.isSome ∨ s.log.upload.isSome then refuse Abort.state s
  else startJob port K.recClear (fun i u => jobEnd i .done 0 (clearLog u)) s

/-- A write of `REC.TRIG_CMD` fires the slots of KIND 4 that its bits name (R388). -/
def wrRecTrigCmd (v : Nat) (s : State) : Written := accept (fireTrigger (.command v) s)

/-- A recorder slot of KIND 2 notes the beat at which its stride unit takes effect, in the strides it names (R41, R388). -/
def doAngleTrigger (k : Nat) (s : State) : State :=
  let w := s.get (K.recTrig k)
  if s.coreUp ∧ bitOf w 31 = true ∧ field w 28 3 = 2 ∧ s.get K.strideCount % (field w 12 8 + 1) = 0 ∧
      s.unitDue (field w 0 12) (K.recTrig k) = true then
    fireTrigger (.angle k) (s.unitTaken (field w 0 12) (K.recTrig k))
  else s

def execAngleTrigger (k : Fin 8) (s : State) : Host.Outcome State Fault Refusal := event (doAngleTrigger k.val) s

/-! ## The other records -/

/-- The first-failure record is committed where it is due (R213, R386); not after a failed test 3 (R413). -/
def commitFfr (s : State) : State :=
  if s.log.ffrDue then
    let t := { s with log := { s.log with ffrDue := false } }
    if s.power.mramFailed then t else t.nvStore Ring.ffr (packFields s ffrKeys)
  else s

/-- The keys of a watchdog capture (R349) with their widths. -/
def wdgRecordKeys : List (Nat × Nat) :=
  [(K.wdgExpCause, 1), (K.wdgExpMissing, 2), (K.wdgExpEarly, 2), (K.wdgExpDouble, 2), (K.wdgExpW, 8)] ++
  (upto 16).map (fun t => (K.wdgEvTag t, 4)) ++ (upto 16).map (fun t => (K.wdgEvTime t, 8))

/-- The watchdog record is committed where it is due (R349, R386). -/
def commitWdg (s : State) : State :=
  if s.wdg.recordDue then
    let t := { s with wdg := { s.wdg with recordDue := false } }
    t.nvStore Ring.wdg (packFields s wdgRecordKeys)
  else s

/-- The readouts of a learned record (R306) with their widths. -/
def learnKeys : List (Nat × Nat) :=
  [(K.estRs, 4), (K.estRp1, 4), (K.estTau1, 4), (K.estRp2, 4), (K.estTau2, 4), (K.estZT, 2), (K.estZAge, 4),
   (K.estZFitErr, 2), (K.estRsBase, 4), (K.estStale, 1), (K.estLearnCnt, 4), (K.estFbCnt, 4)]

/-- The payload of a learned record (R306; field layout: assumption 14). -/
def State.learnPayload (s : State) : List Byte :=
  leBytes 8 s.est.fcc ++ leBytes 8 s.est.qIn ++ leBytes 8 s.est.qOut ++ leBytes 1 (if s.est.fitted then 1 else 0) ++
    packFields s learnKeys

/-- The learned record is written into the copy that does not hold the newest one (R306, R385). -/
def commitLearn (s : State) : State :=
  let (i, q) := Ring.learn.next s.store
  let t := s.nvStore Ring.learn s.learnPayload
  if s.log.failing.testBit Ring.learn.kind then t else (t.put K.nvLearnCopy (i + 1)).put K.nvLearnSeq q

/-- The readouts of a checkpoint (R306) with their widths. -/
def ckptKeys : List (Nat × Nat) := [(K.estSocCc, 2), (K.estUnanchH, 4), (K.estDisagree, 1)]

/-- The payload of a checkpoint (R306; field layout: assumption 14). -/
def State.ckptPayload (s : State) : List Byte :=
  leBytes 8 (ofInt 64 s.est.q) ++ leBytes 8 (ofInt 64 s.est.a) ++ leBytes 8 s.est.u ++ leBytes 4 s.est.anchorAge ++
    packFields s ckptKeys

/-- A checkpoint is committed (R306), once the estimator has restored its state. -/
def commitCkpt (s : State) : State :=
  if 2 ≤ s.get K.estState then
    let t := s.nvStore Ring.ckpt s.ckptPayload
    { t with est := { t.est with ckptAge := 0 } }
  else s

/-! ## Power-fail work (R396) -/

/-- A save is abandoned: it ends with 0x01, the older copy stays (R457). A clear job runs in no beat but that of its write (R35, R394), so
none is found here. -/
def abandonStore (s : State) : State :=
  match s.log.save with
  | some j => jobEnd j.job .done 1 { s with log := { s.log with save := none } }
  | none => s

/-- The POWER_FAIL record at the tail, from the reserve (R392, R396). -/
def powerFailRecord (s : State) : State :=
  if s.log.reserveUsed ∨ s.get K.recState = 0 then s
  else
    let e := s.nowEvent (min s.log.buf.length 0xFFFF)
    let t := enterBuf e.stamp (eventHead e 0xFF 0x11 0xFF 0 (s.get K.devState)) s
    { t with log := { t.log with reserveUsed := true } }

/-- The power-fail work starts (R396); while it runs a new warning starts nothing. Its flush ends with the row for that. -/
def powerFailWork (s : State) : State :=
  if s.coreUp = false ∨ s.log.powerFail then s
  else
    let t := abandonStore s
    let t := commitWdg (commitFfr (commitCkpt t))
    let t := startFlush (powerFailRecord t)
    ({ t with log := { t.log with powerFail := true } }).flag K.recStatus 0x20

/-! ## Boot (R384 to R386, R395) -/

/-- What a scan of the event log finds: bytes, records, damaged records, whether a POWER_FAIL record is among them. -/
structure LogScan where
  used : Nat
  records : Nat
  damaged : Nat
  powerFail : Bool
  deriving DecidableEq, Repr

/-- The scan from an offset, for at most `fuel` records, each carrying the next sequence number (R395). -/
def scanLog (m : List Host.Cell) : Nat → Nat → LogScan → LogScan
  | 0, _, a => a
  | fuel + 1, q, a =>
    match readRecord m (Part.log + a.used) (851840 - a.used) with
    | .good _ _ seq _ p =>
      if seq = q then
        scanLog m fuel ((q + 1) % 2 ^ 32)
          ⟨a.used + recordSize p.length, a.records + 1, a.damaged, a.powerFail || (p.getD 15 0) == 0x11#8⟩
      else a
    | .damaged seq size =>
      if seq = q then scanLog m fuel ((q + 1) % 2 ^ 32) ⟨a.used + size, a.records + 1, a.damaged + 1, a.powerFail⟩
      else a
    | .torn => a

/-- The base sequence that the newest good log control record holds; 0 where there is none (R395). -/
def baseSeq (m : List Host.Cell) : Nat :=
  match Ring.logCtl.read m with
  | some r => leNat (r.payload.take 4)
  | none => 0

/-- Damaged records found are counted (R384). -/
def countDamaged (n : Nat) (s : State) : State :=
  if n = 0 then s else (s.bumpBy K.nvDamagedCnt n).flag K.nvStatus 2

/-- Damaged records that are found after boot are counted and raised (R384). -/
def foundDamaged (n : Nat) (s : State) : State := each (List.replicate n ()) (fun _ u => takeSource .nvDamaged 0 u) (countDamaged n s)

/-- A good copy stands beside a damaged one (R385). -/
def Ring.copyLost (r : Ring) (m : List Host.Cell) : Bool := r.damaged m != 0 && (r.newest m).isSome

/-- The log position is restored (R395) from the store as read; a log of 851,840 bytes holds at most 15,211 records. -/
def restoreLog (m : List Host.Cell) (s : State) : State :=
  let b := baseSeq m
  let r := scanLog m 15211 b ⟨0, 0, 0, false⟩
  let t := { s with log := { s.log with writeAt := r.used, reserveUsed := r.powerFail } }
  let t := countDamaged (r.damaged + Ring.logCtl.damaged m) t
  (((t.put K.recBaseSeq b).put K.recLogUsed r.used).put K.recLogRecords r.records).put K.recNextSeq
    ((b + r.records) % 2 ^ 32)

/-- A record of fields is restored from the newest good record of its ring in the store as read (R386). -/
def restoreRing (m : List Host.Cell) (r : Ring) (keys : List (Nat × Nat)) (s : State) : State :=
  let t := countDamaged (r.damaged m) s
  match r.read m with
  | some f => unpackFields t keys f.payload
  | none => t

/-- Corrected ECC errors of reads (R384): counted, and the first since boot raises `NV_ECC_CORR`. -/
def eccCorrected (n : Nat) (s : State) : State :=
  if n = 0 then s
  else
    let t := (s.bumpBy K.nvEccCorrCnt n).flag K.nvStatus 1
    if t.log.eccRaised then t
    else takeSource .nvEccCorr 0 { t with log := { t.log with eccRaised := true } }

end Sys2Proof.Machine
end

