-- ==== Sys2Proof/Machine/Divider.lean ====
section
/-! DEFINITION. The front divider (R58 to R72): VSYS and IBUS beat by beat, surge, power-fail warning, ratio changes, its states
and faults. Beat samples come as runs of equal value with the commands; what they bring about acts at the command's beat
(DESIGN CHOICE, assumption 98). -/

namespace Sys2Proof.Machine

/-- A divider source marked "stop" (R71). -/
def dividerFault (k : SrcKind) (s : State) : State := takeSource k 0 (fdStop (k.number 0) s)

/-! ## Ratio changes (R65, R66, R68) -/

/-- A write of `FD.RATIO_MODE` (R65). -/
def wrFdRatioMode (v : Nat) (s : State) : Written := plainWrite K.fdRatioMode v s

/-- A ratio change to `n` starts (R66, R68). -/
def startChange (n : Nat) (s : State) : State :=
  let t := setFd .swap s
  { t with divider := { t.divider with changeTo := some n } }

/-- A change that a new fixed ratio asks for starts at the next beat (R65); a surge keeps its ratio (R59): such a change waits for its
end (DESIGN CHOICE, assumption 99). -/
def fixedChange (s : State) : State :=
  match s.divider.changeTo, s.fd with
  | some n, .run => if s.fastUp && !s.divider.surging && decide (s.divider.changeAt ≤ s.beat) then startChange n s else s
  | _, _ => s

/-- The ratio follows the thresholds: RUN, automatic mode, no surge (R59, R66). -/
def State.autoRatio (s : State) : Bool := s.fastUp && s.fd == .run && s.get K.fdRatioMode == 0 && !s.divider.surging

/-- `FD.HOLD_TICKS` tick boundaries have passed since the last change ended (R66). -/
def State.holdOver (s : State) : Bool :=
  match s.divider.lastChange with
  | some b => decide (b / 1000 + s.get K.fdHoldTicks ≤ s.tick)
  | none => true

/-- The rising threshold of ratio `n` (R66). -/
def State.upLevel (s : State) (n : Nat) : Nat := if n = 2 then s.get K.fdUp2 else if n = 3 then s.get K.fdUp3 else s.get K.fdUp4

/-- The falling threshold of ratio `n` (R66). -/
def State.dnLevel (s : State) (n : Nat) : Nat := if n = 2 then s.get K.fdDn2 else if n = 3 then s.get K.fdDn3 else s.get K.fdDn4

/-- A rising change (R66). -/
def risingChange (s : State) : State :=
  if s.autoRatio && s.holdOver && decide (s.get K.fdRatio < 4 ∧ s.get K.fdDwell ≤ s.divider.riseBeats) then
    startChange (s.get K.fdRatio + 1) s
  else s

/-- A falling change (R66). -/
def fallingChange (s : State) : State :=
  if s.autoRatio && s.holdOver && decide (1 < s.get K.fdRatio ∧ s.get K.fdDwell ≤ s.divider.fallBeats) then
    startChange (s.get K.fdRatio - 1) s
  else s

/-- A forced change does not wait (R66). `STATUS.FORCED` and `FD.FORCED_CNT` note it at its start, also where the check of R68 then keeps
it from being made (DESIGN CHOICE, assumption 100). -/
def forcedChange (s : State) : State :=
  if s.autoRatio && decide (1 < s.get K.fdRatio ∧ 2 ≤ s.divider.forceBeats) then
    startChange (s.get K.fdRatio - 1) ((s.flag K.fdStatus 0x20).bump K.fdForcedCnt)
  else s

/-- The change that the counted beats ask for (R66). -/
def autoChange (s : State) : State := fallingChange (risingChange (forcedChange s))

/-- A mode written in BALANCE, SOFTSTART or SWAP applies at entry into RUN (R65). -/
def modeAtRun (s : State) : State :=
  if s.divider.pendingMode then
    newRatioMode (s.get K.fdRatioMode) { s with divider := { s.divider with pendingMode := false } }
  else s

/-- Beats that IBUS takes at `FD.SLEW` between its levels at ratios `a` and `b`, for `a < b` (R68): VSYS/`a` and VSYS/`b`, or the clamp
where that is lower (R62). -/
def State.slewBeats (s : State) (a b : Nat) : Nat :=
  let d := a * b * s.get K.fdSlew
  let top := s.get K.fdIbusClamp * a * b
  let way := min (s.get K.fdVsys * b) top - min (s.get K.fdVsys * a) top
  if d = 0 then 0 else (way + (d - 1)) / d

/-- Beats of step 2 of a change to `n`: IBUS moves down first where the new ratio gives the lower IBUS (R68). -/
def State.downBeats (s : State) (n : Nat) : Nat := if s.get K.fdRatio < n then s.slewBeats (s.get K.fdRatio) n else 0

/-- The change ends: RUN (R68, R69). -/
def changeEnds (s : State) : State :=
  let t := setFd .run s
  modeAtRun { t with divider := { t.divider with changeTo := none, lastChange := some s.beat } }

/-- Step 3 of a change (R68): the ladder swaps to ratio `n`. Step 4 slews IBUS up where the new ratio gives the higher one; else the
change has ended. -/
def swapLadder (n : Nat) (s : State) : State :=
  let t := ((s.put K.fdRatio n).bump K.fdRatioCnt).flag K.fdStatus 0x10
  if n < s.get K.fdRatio then
    showTrim { t with divider := { t.divider with slewEnd := some (s.beat + s.slewBeats n (s.get K.fdRatio)) } }
  else changeEnds t

/-- The ratio that the divider may swap to after `pre` beats of pre-balance: steps 1 and 2 are over, no quiet window is open (R63,
R68). In a surge the ratio is kept: a change under way waits for its end before it swaps (R59, DESIGN CHOICE, assumption 99). -/
def State.swapReady (s : State) (pre : Nat) : Option Nat :=
  match s.divider.changeTo with
  | some n =>
    if s.fastUp && s.fd == .swap && !s.divider.surging && s.divider.slewEnd.isNone && s.qw.openK.isNone &&
      decide (s.divider.entered + pre + s.downBeats n ≤ s.beat) then some n else none
  | none => none

/-- The end of a change's slew or its swap (R68): an earlier end of the pre-balance than its 100-beat limit. -/
def doFdSwapDone (s : State) : State :=
  match s.swapReady 0 with
  | some n => swapLadder n s
  | none => s

def execFdSwapDone (s : State) : Host.Outcome State Fault Refusal := event doFdSwapDone s

/-- A change at a beat: the swap at the latest once 100 beats of pre-balance and the slew down have passed, then the end of the slew
up (R68). -/
def changeBeat (s : State) : State :=
  match s.swapReady 100, s.divider.slewEnd with
  | some n, _ => swapLadder n s
  | none, some b => if s.fastUp ∧ s.fd = .swap ∧ b ≤ s.beat then changeEnds s else s
  | none, none => s

/-! ## VSYS beat by beat (R58 to R60, R66, R71) -/

/-- The mean of the last 8 beat samples, newest first (R58), truncated to whole mV (DESIGN CHOICE, assumption 132); the first samples of all
are averaged alone. -/
def mean8 (l : List Nat) : Nat := (l.take 8).foldl (· + ·) 0 / max 1 (min 8 l.length)

/-- The filtered values of `n` beats at level `v`, with the samples then held. -/
def filterBeats : Nat → Nat → List Nat → List (Nat × Nat) × List Nat
  | 0, _, h => ([], h)
  | n + 1, v, h =>
    let h' := (v :: h).take 8
    let r := filterBeats n v h'
    ((mean8 h', 1) :: r.1, r.2)

/-- Filtered VSYS over a run of `n` beats at level `v`: the filter settles within 8 beats. -/
def filterRun (v n : Nat) (h : List Nat) : List (Nat × Nat) × List Nat :=
  let r := filterBeats (min n 8) v h
  (if 8 < n then r.1 ++ [(v, n - 8)] else r.1, r.2)

/-- Beats that have met a condition in a row, after `n` more that do or do not. -/
def countBeats (c : Bool) (n was : Nat) : Nat := if c then was + n else 0

/-- Filtered VSYS exceeds 64,000 mV: a surge begins (R59). -/
def surgeBegin (v : Nat) (s : State) : State :=
  if 64000 < v ∧ s.divider.surging = false then
    { (s.flag K.fdStatus 4).bump K.fdSurgeCnt with
      divider := { s.divider with surging := true, surgeTicks := 0, surgeRaised := false } }
  else s

/-- The power-fail warning is raised after 2 beats below its level (R60); its flag and its source. -/
def pfwRaise (s : State) : State :=
  if s.divider.pfw = false ∧ 2 ≤ s.divider.pfwBeats then
    takeSource .vsysPfw 0 { s.flag K.fdStatus 2 with divider := { s.divider with pfw := true } }
  else s

/-- The warning clears after one whole tick above its level + 500 mV (R60): at the 1,000th consecutive beat, wherever in a tick the first of
them lay (DESIGN CHOICE, assumption 133). -/
def pfwClears (s : State) : State :=
  if s.divider.pfw = true ∧ 1000 ≤ s.divider.clearBeats then
    endCondition (SrcKind.vsysPfw.number 0) { s with divider := { s.divider with pfw := false } }
  else s

/-- `n` beats of filtered VSYS at `v` (R59, R60, R62, R66). -/
def vsysBeats (r : Nat × Nat) (s : State) : State :=
  let v := r.1
  let n := s.get K.fdRatio
  let d := s.divider
  let auto := s.fd == .run && s.get K.fdRatioMode == 0
  let t := s.putFit K.fdVsys v
  let t := { t with divider := { d with
    pfwBeats := countBeats (decide (v < s.get K.fdPfwLevel)) r.2 d.pfwBeats
    clearBeats := countBeats (decide (s.get K.fdPfwLevel + 500 < v)) r.2 d.clearBeats
    riseBeats := countBeats (auto && decide (n < 4 ∧ s.upLevel (n + 1) ≤ v)) r.2 d.riseBeats
    fallBeats := countBeats (auto && decide (1 < n ∧ v < s.dnLevel n)) r.2 d.fallBeats
    forceBeats := countBeats (auto && decide (1 < n ∧ v < 8200 * n)) r.2 d.forceBeats } }
  showTrim (autoChange (pfwClears (pfwRaise (surgeBegin v t))))

/-- Unfiltered VSYS at the comparator (R71): the source is raised once for each time it reaches 80,000 mV. -/
def vsysComparator (v : Nat) (s : State) : State :=
  let t := { s with divider := { s.divider with vsysOver := decide (80000 ≤ v) } }
  if v < 80000 then (if s.divider.vsysOver then endCondition (SrcKind.fdVsysOv.number 0) t else t)
  else if s.divider.vsysOver then t
  else dividerFault .fdVsysOv t

/-- A run of beat samples of VSYS. -/
def vsysRun (r : Nat × Nat) (s : State) : State :=
  if r.2 = 0 then s
  else
    let f := filterRun r.1 r.2 s.divider.hist
    let t := vsysComparator r.1 (s.putFit K.fdVsysPeak (max (s.get K.fdVsysPeak) r.1 : Nat))
    each f.1 vsysBeats { t with divider := { t.divider with hist := f.2 } }

/-- Beat samples of VSYS arrive (R58); where one raises the power-fail warning the power-fail work starts (R396). Equal samples raise or clear
it once. -/
def takeVsys (l : List (Nat × Nat)) (s : State) : State :=
  each l (fun r u =>
    let t := vsysRun r u
    if t.divider.pfw ∧ u.divider.pfw = false then powerFailWork t else t) s

/-- Beat samples of VSYS with an event of their own. -/
def vsysEvent (l : List (Nat × Nat)) (s : State) : State := if s.fastUp then takeVsys l s else s

def execFdSurge (l : List (Nat × Nat)) (s : State) : Host.Outcome State Fault Refusal := eventNv (vsysEvent l) s
def execVsysPfw (l : List (Nat × Nat)) (s : State) : Host.Outcome State Fault Refusal := eventNv (vsysEvent l) s
def execPfwClear (l : List (Nat × Nat)) (s : State) : Host.Outcome State Fault Refusal := eventNv (vsysEvent l) s
def execFdRisingChange (l : List (Nat × Nat)) (s : State) : Host.Outcome State Fault Refusal := eventNv (vsysEvent l) s
def execFdFallingChange (l : List (Nat × Nat)) (s : State) : Host.Outcome State Fault Refusal := eventNv (vsysEvent l) s
def execFdForcedChange (l : List (Nat × Nat)) (s : State) : Host.Outcome State Fault Refusal := eventNv (vsysEvent l) s
def execFdVsysOv (l : List (Nat × Nat)) (s : State) : Host.Outcome State Fault Refusal := eventNv (vsysEvent l) s

/-- The ticks of a surge are counted until the tick at which filtered VSYS is below 63,000 mV (R59). -/
def surgeTick (s : State) : State :=
  if s.divider.surging then
    if s.get K.fdVsys < 63000 then
      { s with divider := { s.divider with surging := false, surgeTicks := 0, surgeRaised := false } }
    else { s with divider := { s.divider with surgeTicks := s.divider.surgeTicks + 1 } }
  else s

/-- The surge has lasted 100 ticks (R59). -/
def doFdSurgeLong (s : State) : State :=
  if s.fastUp && s.divider.surging && !s.divider.surgeRaised && decide (100 ≤ s.divider.surgeTicks) then
    dividerFault .fdSurgeLong { s with divider := { s.divider with surgeRaised := true } }
  else s

def execFdSurgeLong (s : State) : Host.Outcome State Fault Refusal := event doFdSurgeLong s

/-! ## States (R69, R70) -/

/-- The flying capacitors have reached their levels: the ramp starts from the IBUS found. -/
def doFdBalanceDone (dev : Nat) (s : State) : State :=
  if s.fastUp ∧ s.fd = .balance ∧ dev ≤ s.get K.fdCflyTol then
    let t := setFd .softstart s
    { t with divider := { t.divider with rampFrom := s.divider.ibusNow } }
  else s

def execFdBalanceDone (dev : Nat) (s : State) : Host.Outcome State Fault Refusal := event (doFdBalanceDone dev) s

/-- Every rail that waits for IBUS begins its start-up (R70, R91). -/
def startWaiting (s : State) : State :=
  each (upto 12) (fun n u => if u.rail n = .enabling then railToSoftstart n u else u) s

/-- The target of SOFTSTART times N, in mV (R69): VSYS/N, or the clamp where that is lower. -/
def State.rampTarget (s : State) : Nat := min (s.get K.fdVsys) (s.get K.fdIbusClamp * s.get K.fdRatio)

/-- The divider's ramp times N and `FD.SS_TIME` (R69): from the IBUS found at entry at the rate target / `FD.SS_TIME`. -/
def State.rampNow (s : State) : Nat :=
  s.divider.rampFrom * s.get K.fdRatio * s.get K.fdSsTime + s.rampTarget * (s.beat - s.divider.entered)

/-- IBUS at `v` has reached 90 % of its target, and the ramp has brought it there (R69). -/
def State.rampDone (s : State) (v : Nat) : Bool :=
  decide (s.get K.fdRatio ≠ 0 ∧ 9 * s.rampTarget ≤ 10 * (v * s.get K.fdRatio) ∧ 9 * s.rampTarget * s.get K.fdSsTime ≤ 10 * s.rampNow)

/-- IBUS has reached 90 % of its target: RUN, IBUS good, the waiting rails start in this beat. -/
def softstartEnds (v : Nat) (s : State) : State :=
  if s.fd = .softstart ∧ s.rampDone v then modeAtRun (startWaiting (setIbusGood true (setFd .run s))) else s

/-- The divider goes OFF once IBUS is below 1,000 mV; an enable that waits then starts it again. -/
def stopEnds (v : Nat) (s : State) : State := if s.fd = .stopping ∧ v < 1000 then fdBegin (fdToOff s) else s

/-- A run of beat samples of IBUS (R69, R71). -/
def ibusRun (r : Nat × Nat) (s : State) : State :=
  if r.2 = 0 then s
  else
    let d := s.divider
    let high := countBeats (decide (17000 < r.1)) r.2 d.ibusOvBeats
    let low := countBeats (s.fd.regulating && decide (r.1 < 7500)) r.2 d.ibusUvBeats
    let t := { s with divider := { d with
      ibusOvBeats := high, ibusUvBeats := low, ibusNow := r.1, ibusSum := d.ibusSum + r.1 * r.2, ibusBeats := d.ibusBeats + r.2 } }
    let t := if 2 ≤ high ∧ d.ibusOvBeats < 2 then dividerFault .fdIbusOv t else t
    let t := if 4 ≤ low ∧ d.ibusUvBeats < 4 then dividerFault .fdIbusUv t else t
    stopEnds r.1 (softstartEnds r.1 t)

/-- Beat samples of IBUS with an event of their own. -/
def ibusEvent (l : List (Nat × Nat)) (s : State) : State := if s.fastUp then each l ibusRun s else s

def execFdSoftstartDone (l : List (Nat × Nat)) (s : State) : Host.Outcome State Fault Refusal := event (ibusEvent l) s
def execFdStopped (l : List (Nat × Nat)) (s : State) : Host.Outcome State Fault Refusal := event (ibusEvent l) s
def execFdIbusOv (l : List (Nat × Nat)) (s : State) : Host.Outcome State Fault Refusal := event (ibusEvent l) s
def execFdIbusUv (l : List (Nat × Nat)) (s : State) : Host.Outcome State Fault Refusal := event (ibusEvent l) s

/-- RUN is not reached within twice `FD.SS_TIME`. -/
def doFdStart (s : State) : State :=
  if s.fastUp ∧ s.fd = .softstart ∧ s.divider.entered + 2 * s.get K.fdSsTime ≤ s.beat then dividerFault .fdStart s
  else s

def execFdStart (s : State) : Host.Outcome State Fault Refusal := event doFdStart s

/-- Ticks without any rail 0 to 11 on are counted. -/
def offDelayTick (s : State) : State :=
  { s with divider := { s.divider with offTicks := if s.dividerUsed || s.dividerWanted then 0 else s.divider.offTicks + 1 } }

/-- No rail 0 to 11 has been on for `FD.OFF_DELAY` whole ticks: the tick that found none on is not one of them. -/
def doFdOffDelay (s : State) : State :=
  if s.fastUp ∧ s.fd = .run ∧ s.dividerUsed = false ∧ s.get K.fdOffDelay < s.divider.offTicks then
    setIbusGood false (setFd .stopping s)
  else s

def execFdOffDelay (s : State) : Host.Outcome State Fault Refusal := event doFdOffDelay s

/-! ## Faults (R71) -/

/-- The flying capacitors are out of tolerance for 4 cycles in RUN, at the end of the pre-balance of a change, or after 4,000 beats of
BALANCE. -/
def doFdCflyImbal (dev cycles : Nat) (s : State) : State :=
  if s.fastUp ∧ s.get K.fdCflyTol < dev ∧ ((s.fd = .run ∧ 4 ≤ cycles) ∨ (s.fd = .swap ∧ s.divider.slewEnd = none) ∨
      (s.fd = .balance ∧ s.divider.entered + 4000 ≤ s.beat)) then
    dividerFault .fdCflyImbal s
  else s

def execFdCflyImbal (dev cycles : Nat) (s : State) : Host.Outcome State Fault Refusal := event (doFdCflyImbal dev cycles) s

/-- BALANCE has lasted 4,000 beats (R69). -/
def balanceTimeout (s : State) : State :=
  if s.fastUp ∧ s.fd = .balance ∧ s.divider.entered + 4000 ≤ s.beat then dividerFault .fdCflyImbal s else s

/-- The cycle limit of LFD in 32 consecutive cycles. -/
def doFdOc (cycles : Nat) (s : State) : State := if s.fastUp ∧ 32 ≤ cycles then dividerFault .fdOc s else s

def execFdOc (cycles : Nat) (s : State) : Host.Outcome State Fault Refusal := event (doFdOc cycles) s

/-- A driver supply or a gate. -/
def doFdGate (s : State) : State := if s.fastUp then dividerFault .fdGate s else s

def execFdGate (s : State) : Host.Outcome State Fault Refusal := event doFdGate s

/-! ## The beat and the tick -/

/-- IBUS is below 1,000 mV at the latest 20 ms after STOPPING began (R69). -/
def stopTimeout (s : State) : State :=
  if s.fastUp ∧ s.fd = .stopping ∧ s.divider.entered + 20000 ≤ s.beat then fdBegin (fdToOff s) else s

/-- What the divider does by itself at a beat (R65, R66, R68, R69). -/
def dividerBeat (s : State) : State :=
  if s.fastUp then fdBegin (stopTimeout (autoChange (fixedChange (changeBeat (doFdStart (balanceTimeout s)))))) else s

/-- The divider's readings of a tick (R58, R62, R72, R78) and the surge count (R59). -/
def dividerSample (i : TickInputs) (s : State) : State :=
  let t := each i.ibus ibusRun (takeVsys i.vsys s)
  let mean := if t.divider.ibusBeats = 0 then t.get K.fdIbus else t.divider.ibusSum / t.divider.ibusBeats
  let t := ((t.putFit K.fdIbus mean).putFit K.fdIbusI i.ibusI).putFit K.fdCflyDev i.cflyDev
  let t := if t.fd = .swap ∧ i.fdTrim then t.put K.fdTrim 1 else t
  let t := if t.divider.ranTick ∧ t.get K.fdCflyTol < 2 * i.cflyRun then t.flag K.fdStatus 0x40 else t
  surgeTick { t with divider := { t.divider with ibusSum := 0, ibusBeats := 0, ranTick := t.fd == .run } }

/-- The divider at a tick: the off delay. -/
def dividerTick (s : State) : State := offDelayTick s

end Sys2Proof.Machine
end

