-- ==== Sys2Proof/Machine/Phases.lean ====
section
/-! DEFINITION. The phase array and the rails (R82 to R116): commands, starts and stops, shedding, burst, quiet windows,
phase faults and remount. -/

namespace Sys2Proof.Machine

/-! ## Rail commands (R92) -/

/-- A rail command is accepted in ACTIVE while no program runs; an always-on L0 takes none (R92, R136). -/
def State.railCommand (s : State) (n : Nat) : Bool := s.dev == .active && !s.programRuns && !s.alwaysOn n

/-- A write of 0x01 to `RAIL[n].CMD`. -/
def wrRailEnable (n : Nat) (s : State) : Written :=
  if s.railCommand n then accept (railEnable n s) else refuse Abort.state s

/-- A write of 0x02 to `RAIL[n].CMD`. -/
def wrRailDisable (n : Nat) (s : State) : Written :=
  if s.railCommand n then accept (railDisable n 1 s) else refuse Abort.state s

/-- A write of any value to `RAIL[n].CMD`. -/
def wrRailCmd (n v : Nat) (s : State) : Written :=
  if v = 1 then wrRailEnable n s else if v = 2 then wrRailDisable n s else refuse Abort.value s

/-! ## Rail transitions (R91, R94) -/

/-- SOFTSTART ends where the reference has reached VSET and VOUT is within 2 %. In BACKUP, where no beat is counted, the
always-on L0 ends it at this event. -/
def doRailSoftstartDone (n vout : Nat) (s : State) : State :=
  if s.rail n = .softstart ∧ nearCode vout (s.railE n).target ∧
      ((s.fastUp ∧ s.railRef n = (s.railE n).target) ∨ (s.dev = .backup ∧ s.alwaysOn n)) then railToOn n s
  else s

def execRailSoftstartDone (n : Fin 16) (vout : Nat) (s : State) : Host.Outcome State Fault Refusal :=
  event (doRailSoftstartDone n.val vout) s

/-- A source whose own action turns its rail off. -/
def railSource (k : SrcKind) (n : Nat) (s : State) : State := takeSource k n (railFault n (k.number n) 0xFF s)

/-- The soft-start timeout. -/
def doRailSs (n : Nat) (s : State) : State :=
  if s.fastUp ∧ s.rail n = .softstart ∧ (s.railE n).raised = false ∧
      (s.railE n).entered + 2 * s.get (K.railSsTime n) ≤ s.beat then
    railSource .railSs n (s.setRailE n { s.railE n with raised := true })
  else s

def execRailSs (n : Fin 16) (s : State) : Host.Outcome State Fault Refusal := event (doRailSs n.val) s

/-- SLEWING ends where the reference has reached the target. -/
def doRailSlewDone (n : Nat) (s : State) : State :=
  if s.fastUp ∧ s.rail n = .slewing ∧ s.railRef n = (s.railE n).target then blankUv n (setRail n .on s) else s

def execRailSlewDone (n : Fin 16) (s : State) : Host.Outcome State Fault Refusal := event (doRailSlewDone n.val) s

/-- RAMPDOWN ends where VOUT has fallen below the discharge threshold. -/
def doRailRampdownDone (n vout : Nat) (s : State) : State :=
  if s.fastUp ∧ s.rail n = .rampdown ∧ vout < s.get (K.railDisTh n) then railToDischarge n s else s

def execRailRampdownDone (n : Fin 16) (vout : Nat) (s : State) : Host.Outcome State Fault Refusal :=
  event (doRailRampdownDone n.val vout) s

/-- DISCHARGE ends at a tick boundary at which the rail is found discharged: the mean of VOUT over the tick that ends there is
below its threshold. -/
def doRailDischarged (n vout : Nat) (s : State) : State :=
  if s.rail n = .discharge ∧ vout < s.get (K.railDisTh n) then railToOff n (s.setRailE n { s.railE n with discharged := true }) else s

/-- The discharge takes longer than `DIS_TIME`. -/
def doRailDisSlow (n : Nat) (s : State) : State :=
  if s.fastUp ∧ s.rail n = .discharge ∧ s.discharged n = false ∧ (s.railE n).raised = false ∧
      (s.railE n).entered + s.get (K.railDisTime n) * 1000 ≤ s.beat then
    let t := (s.setRailE n { s.railE n with raised := true }).flag (K.railStatus n) 0x100
    takeSource .railDisSlow n t
  else s

def execRailDisSlow (n : Fin 16) (s : State) : Host.Outcome State Fault Refusal := event (doRailDisSlow n.val) s

/-! ## Shedding (R95) -/

/-- A rail is ON in CCM. -/
def State.ccm (s : State) (n : Nat) : Bool := s.rail n == .on && (8 ≤ n || s.get (K.railSubmode n) == 0)

/-- The highest-numbered ACTIVE phase of a rail enters SHED. -/
def doPhaseShed (n : Nat) (s : State) : State :=
  let l := s.phasesIn n .active
  if s.fastUp ∧ s.get (K.railShedEn n) = 1 ∧ s.ccm n ∧ s.get (K.railMinPh n) < l.length ∧
      s.get (K.railShedTicks n) ≤ (s.railE n).shedCount then
    match l.getLast? with
    | some p => reinterleave n ((shedPhase p s).setRailE n { s.railE n with shedCount := 0 })
    | none => s
  else s

def execPhaseShed (n : Fin 8) (s : State) : Host.Outcome State Fault Refusal := event (doPhaseShed n.val) s

/-- Fast add: an ACTIVE phase of the rail carries more than 9,500 mA over a beat, and the lowest-numbered SHED phase starts remount at
this beat. -/
def doFastAdd (n p : Nat) (i : Int) (s : State) : State :=
  if s.fastUp ∧ s.get (K.railShedEn n) = 1 ∧ s.ccm n ∧ s.remounting n = false ∧ (s.phasesIn n .active).contains p ∧ 9500 < i then
    addShed n s
  else s

def execFastAdd (n p : Fin 8) (i : Int) (s : State) : Host.Outcome State Fault Refusal := event (doFastAdd n.val p.val i) s

/-! ## Burst (R96 to R99) -/

/-- A rail enters burst: every ACTIVE phase but the lowest-numbered one enters SHED. -/
def burstEnter (n : Nat) (s : State) : State :=
  match s.phasesIn n .active with
  | [] => s
  | p :: rest =>
    let t := each rest shedPhase s
    let e := t.railE n
    let t := t.setRailE n { e with
      burstShed := BitVec.ofNat 8 (maskOf rest), burstPhase := p, bursting := false, burstPending := false, burstHeld := false,
      shedCount := 0, lowCount := 0 }
    reinterleave n ((t.put (K.railSubmode n) 1).flag (K.railStatus n) 8)

/-- Burst entry: IOUT has been low for 4 ticks (R96); in DOZE every ON rail bursts once no remount is under way (R99). -/
def doBurstEntry (n : Nat) (s : State) : State :=
  if s.fastUp ∧ s.ccm n ∧ ((s.dev = .doze ∧ s.remounting n = false) ∨ (s.get (K.railMode n) = 1 ∧ 4 ≤ (s.railE n).lowCount)) then
    burstEnter n s
  else s

def execBurstEntry (n : Fin 8) (s : State) : Host.Outcome State Fault Refusal := event (doBurstEntry n.val) s

/-- The rail bursts with its burst phase asleep or switching. -/
def State.inBurst (s : State) (n : Nat) : Bool := n < 8 && s.fastUp && s.get (K.railSubmode n) == 1

/-- The burst phase of rail `n` (R96): the one that burst entry left; were it taken out, the lowest-numbered ACTIVE phase. -/
def State.burstPhase (s : State) (n : Nat) : Option Nat :=
  let l := s.phasesIn n .active
  if l.contains (s.railE n).burstPhase then some (s.railE n).burstPhase else l.head?

/-- The burst phase of a rail stands still in an open window (R98, R103). -/
def State.burstMasked (s : State) (n : Nat) : Bool :=
  s.qw.openK.isSome && (match s.burstPhase n with | some p => s.qw.still.getLsbD p | none => false)

/-- A burst starts, or waits for the end of the window that holds its phase. -/
def burstGo (n : Nat) (s : State) : State :=
  let e := s.railE n
  if s.burstMasked n then s.setRailE n { e with burstPending := true, burstHeld := true }
  else s.setRailE n { e with bursting := true, burstPending := false, burstHeld := false }

/-- How far VOUT in mV lies below the level of rail `n`, in µV. -/
def State.below (s : State) (n vout : Nat) : Int := s.railLevel n - (vout : Int) * 1000

/-- VOUT at a beat against the start condition of a burst, half the band below VSET (R96). In free placement the burst starts; in slotted
placement it waits for a slot, unless the guard at 1.5 bands starts it unplaced (R98). Where the condition holds no longer, nothing is
pending: a slot finds the condition of the last sample (DEDUCED, assumption 56). A burst that a window already holds starts at its end. -/
def doBurstStart (n vout : Nat) (s : State) : State :=
  let e := s.railE n
  let band : Int := s.get (K.railBurstBand n)
  if s.inBurst n ∧ e.bursting = false ∧ e.burstHeld = false then
    if s.below n vout < band * 500 then s.setRailE n { e with burstPending := false }
    else if s.get (K.railBurstPlace n) = 0 then burstGo n s
    else if band * 1500 ≤ s.below n vout then burstGo n ((s.bump (K.railBurstUnplacedCnt n)).flag (K.railStatus n) 0x20)
    else s.setRailE n { e with burstPending := true }
  else s

def execBurstStart (n : Fin 8) (vout : Nat) (s : State) : Host.Outcome State Fault Refusal := event (doBurstStart n.val vout) s

/-- The first unit of the stride grid `ofs` + j × `pitch` that this beat may take: above the last unit taken (R41, R98). -/
def State.gridUnit (s : State) (ofs pitch : Nat) : Nat :=
  let lo := (s.stride.prev + 1).toNat
  if lo ≤ ofs ∨ pitch = 0 then ofs else ofs + (lo - ofs + (pitch - 1)) / pitch * pitch

/-- Whether this beat is a slot of the grid (R98). -/
def State.slotBeat (s : State) (n : Nat) : Bool :=
  let ofs := s.get (K.railBurstOfs n)
  let pitch := s.get K.paBurstPitch
  if s.get K.paBurstBase = 0 then
    decide (s.gridUnit ofs pitch < 4096) && s.unitDue (s.gridUnit ofs pitch) (K.railBurstOfs n)
  else pitch != 0 && decide (((s.beat : Int) - ofs) % pitch = 0)

/-- A pending burst starts at a slot; a slot of the stride grid is taken once. -/
def doBurstSlot (n : Nat) (s : State) : State :=
  let e := s.railE n
  if s.inBurst n ∧ e.bursting = false ∧ e.burstPending ∧ e.burstHeld = false ∧ s.get (K.railBurstPlace n) = 1 ∧ s.slotBeat n then
    burstGo n (s.unitTaken (s.gridUnit (s.get (K.railBurstOfs n)) (s.get K.paBurstPitch)) (K.railBurstOfs n))
  else s

def execBurstSlot (n : Fin 8) (s : State) : Host.Outcome State Fault Refusal := event (doBurstSlot n.val) s

/-- A burst has lifted VOUT to half the band above VSET: the phase sleeps again. -/
def doBurstEnd (n vout : Nat) (s : State) : State :=
  if s.inBurst n ∧ (s.get (K.railBurstBand n) : Int) * 500 ≤ -(s.below n vout) then s.setRailE n { s.railE n with bursting := false }
  else s

def execBurstEnd (n : Fin 8) (vout : Nat) (s : State) : Host.Outcome State Fault Refusal := event (doBurstEnd n.val vout) s

/-- The burst phase has faulted: the lowest-numbered SHED phase takes its place in this beat, and the others that burst entry
shed start remount (R97). -/
def burstReplace (n : Nat) (s : State) : State :=
  match (s.phasesIn n .shed).head? with
  | some p => burstLeave n (s.putPhase p .active)
  | none => burstLeave n s

/-- IOUT of a tick is above twice `BURST_I` (R97). -/
def State.burstLoad (s : State) (n : Nat) : Bool := decide (2 * s.get (K.railBurstI n) < s.get (K.railIout n))

/-- The rail leaves burst at the first event of R97 whose ground stands. -/
def doBurstExit (n : Nat) (cause : BurstExit) (s : State) : State :=
  if s.inBurst n then
    match cause with
    | .load => if s.burstLoad n then burstLeave n s else s
    | .undershoot v => if (s.get (K.railBurstBand n) : Int) * 2000 ≤ s.below n v then burstLeave n s else s
    | .mode => if s.get (K.railMode n) = 0 ∧ s.dev ≠ .doze then burstLeave n s else s
    | .target => if s.rail n = .on then s else burstLeave n s
    | .fault => if s.burstPhase n = none then burstReplace n s else s
  else s

def execBurstExit (n : Fin 8) (cause : BurstExit) (s : State) : Host.Outcome State Fault Refusal :=
  event (doBurstExit n.val cause) s

/-! ## Quiet windows (R100 to R105, R130) -/

/-- The phases a window's mask names. -/
def State.windowMask (s : State) (k : Nat) : Nat := field (s.get (K.qwCtrl k)) 8 8

/-- The unit under which a beat keeps window `k` as taken: that of its position; 4,096, which is none, for a time-based one. -/
def State.windowUnit (s : State) (k : Nat) : Nat := if bitOf (s.get (K.qwCtrl k)) 30 then 4096 else s.get (K.qwPos k)

/-- Window `k` is enabled and due in this beat (R41, R100). -/
def State.windowDue (s : State) (k : Nat) : Bool :=
  let c := s.get (K.qwCtrl k)
  let pos := s.get (K.qwPos k)
  bitOf c 31 &&
  (if bitOf c 30 then
    s.get (K.qwPeriod k) != 0 && decide (((s.beat : Int) - pos) % s.get (K.qwPeriod k) = 0) &&
      !s.stride.acted.contains (4096, K.qwCtrl k)
   else s.unitDue pos (K.qwCtrl k))

/-- A window that is due is dropped while another is open or within 2 µs of its end (R102). -/
def State.windowBlocked (s : State) : Bool :=
  s.qw.openK.isSome || (match s.qw.lastClose with | some c => decide (s.beat * 100 < c + 200) | none => false)

/-- The time in 10 ns that a phase's stage has lasted, without what open windows have stretched its cycles by (R105, R111). -/
def State.stageTime (s : State) (p : Nat) : Nat := (s.beat - (s.phaseE p).since) * 100 - (s.phaseE p).held

/-- The ramp cycle c of phase `p`, 256 where it is not ramping (R111). -/
def State.rampCycle (s : State) (p : Nat) : Nat :=
  if s.phase p = .ramp then min 256 (s.stageTime p * (s.railE (s.phaseE p).rail).fswUse / 100000) else 256

/-- Pre-shaping for this beat began before the last tick's readings (R103, R104): it begins 2 switching cycles before the window. -/
def State.shapedBefore (s : State) (n : Nat) : Bool :=
  let f := (s.railE n).fswUse
  f != 0 && decide (s.clock.lastTick < s.beat ∧ s.beat ≤ s.clock.lastTick + (2000 + f - 1) / f)

/-- VOUT and IOUT of rail `n` as the test of exemption finds them at the beat at which pre-shaping begins: the means of the last tick then
(DESIGN CHOICE, assumption 135). -/
def State.shapeV (s : State) (n : Nat) : Nat := if s.shapedBefore n then (s.railE n).vPrev else s.railVout n
def State.shapeI (s : State) (n : Nat) : Nat := if s.shapedBefore n then (s.railE n).iPrev else s.get (K.railIout n)

/-- The share of phase `p` in its rail's current (R111), as numerator and denominator in mA: c/256 of an equal share while it ramps;
the ACTIVE phases share the rest equally. -/
def State.shareOf (s : State) (p : Nat) : Nat × Nat :=
  let n := (s.phaseE p).rail
  let k := (s.driving n).length
  let a := (s.phasesIn n .active).length
  let c := ((s.phasesIn n .ramp).map s.rampCycle).foldl (· + ·) 0
  if s.phase p = .ramp then (s.rampCycle p * s.shapeI n, 256 * k) else ((256 * k - c) * s.shapeI n, 256 * k * a)

/-- Phase `p` is exempt from a window of `len` × 10 ns (R104): ΔI = VOUT × LEN / L exceeds 6,000 mA, or its share of the rail's current
with half of it exceeds `IPK` − 2,000 mA. A rail without an inductance exempts none. -/
def State.exempt (s : State) (len p : Nat) : Bool :=
  let n := (s.phaseE p).rail
  let l := (s.railE n).lUse
  let di := s.shapeV n * len * 10
  let (x, d) := s.shareOf p
  l != 0 && (decide (6000 * l < di) ||
    decide (2 * (d : Int) * l * ((s.get (K.phaseIpk p) : Int) - 2000) < 2 * l * x + d * di))

/-- The open window closes: QUIET releases, the phases it held switch again, bursts held by it start (R98, R100, R101, R103). -/
def windowEnds (s : State) : State :=
  let t := { s with
    qw := { s.qw with openK := none, lastClose := some s.qw.closeAt, still := 0, stillXb := 0, exempt := 0 }, pins := { s.pins with quiet := false } }
  each (upto 8) (fun n u => if (u.railE n).burstHeld then burstGo n u else u) t

/-- A window whose end lies at or before instant `x`, in 10 ns of the beat counter, closes. -/
def closeBy (x : Nat) (s : State) : State := if s.qw.openK.isSome ∧ s.qw.closeAt ≤ x then windowEnds s else s

/-- LEN × 10 ns after it opened, in this beat, the window closes. -/
def doQwClose (s : State) : State := closeBy (s.beat * 100 + 100) s

def execQwClose (s : State) : Host.Outcome State Fault Refusal := event doQwClose s

/-- A phase keeps its low-side FET on (R103): the open window names it, it is ACTIVE, RAMP or a burst phase, and not exempt. -/
def State.heldStill (s : State) (p : Nat) : Bool :=
  s.qw.openK.isSome && s.qw.still.getLsbD p && !s.qw.exempt.getLsbD p && s.drives p

/-- A window of `len` × 10 ns stretches the cycles of a remount (R105): those of a phase in RAMP that it holds, and those of the rail of a
phase in SHADOW where it holds one that drives it. -/
def stretchStage (len p : Nat) (s : State) : State :=
  let n := (s.phaseE p).rail
  if (s.phase p = .ramp ∧ s.heldStill p) ∨ (s.phase p = .shadow ∧ (s.driving n).any s.heldStill) then
    s.setPhaseE p { s.phaseE p with held := (s.phaseE p).held + len }
  else s

/-- Window `k` opens (R100, R101, R103, R104): it holds the phases its mask names that are or become ACTIVE, RAMP or a burst phase and are not
exempt, and the channels that follow it (R130); an exempt phase goes on switching, which is a breach (R105). -/
def windowOpens (k : Fin 8) (s : State) : State :=
  let len := field (s.get (K.qwCtrl k.val)) 0 8
  let ex := (upto 8).filter (fun p => s.drives p && bitOf (s.windowMask k.val) p && s.exempt len p)
  let channels := (upto 4).filter (fun c => bitOf (s.get (K.xbQwHold c)) k.val)
  let t := (s.bump K.paQwOpenCnt).flag K.paQwStatus 1
  let t := { t with
    qw := { t.qw with
      openK := some k, closeAt := t.beat * 100 + len, breached := false, still := BitVec.ofNat 8 (s.windowMask k.val)
      stillXb := BitVec.ofNat 4 (maskOf channels), exempt := BitVec.ofNat 8 (maskOf ex) }
    pins := { t.pins with quiet := true } }
  let t := when (!ex.isEmpty) (fun u => u.flag K.paQwStatus 8) t
  each (upto 8) (stretchStage len) (each ex (fun p => phaseBreach p 1) t)

/-- Frequency of point `i` of `n` in Hz, rounded to the nearest (R160; fixed point, assumption 9). -/
def rhFreq (lo hi n i : Nat) : Nat :=
  if n ≤ 1 ∨ lo = 0 then lo
  else
    let x := (Fixed.ln hi lo).toNat * (n - 1 - i)
    (hi * Fixed.expNeg x ((n - 1) * Fixed.one) + Fixed.one / 2) / Fixed.one

/-- The frequency of the point under way (R160). -/
def State.rhPointFreq (s : State) (r : RhRun) : Nat :=
  rhFreq (s.get (K.rhFLo r.rail)) (s.get (K.rhFHi r.rail)) (s.get K.rhPoints) r.points.length

/-- The instant in 10 ns at which the measuring of a point that began at `since` ends: after `CYCLES` periods (R160). -/
def State.rhMeasured (s : State) (r : RhRun) : Nat := r.since * 100 + s.get K.rhCycles * 100000000 / max 1 (s.rhPointFreq r)

/-- The part of the last held span that lies in a point's measuring, from instant `x` on. -/
def State.rhHeld (s : State) (r : RhRun) (x : Nat) : Nat := min r.heldUntil (s.rhMeasured r) - max x (max r.heldFrom (r.since * 100))

/-- A window holds the injection of a run whose rail it names, from 2 switching cycles before its start to its end (R162); what an
earlier window has held is not counted twice. -/
def rhBlank (k : Fin 8) (s : State) : State :=
  match s.rh.run with
  | some r =>
    let n := r.rail
    let named := if n < 8 then (s.railPhases n).any (fun p => bitOf (s.windowMask k.val) p) else bitOf (s.get (K.xbQwHold (n - 8))) k.val
    let cycles := if (s.railE n).fswUse = 0 then 0 else 200000 / (s.railE n).fswUse
    if named && (s.get K.rhState == rhSettle || s.get K.rhState == rhInject) then
      let u : RhRun := { r with heldFrom := max r.heldUntil (s.beat * 100 - cycles), heldUntil := s.qw.closeAt }
      let more := if s.get K.rhState = rhInject then s.rhHeld u r.heldUntil else 0
      { s with rh := { s.rh with run := some { u with blank := r.blank + more } } }
    else s
  | none => s

/-- `QW_BREACH` of a window with a breach, once (R105); it waits for its place among the beat's sources (R223). -/
def raiseBreach (s : State) : State :=
  match s.qw.breachDue with
  | some k => raiseLater .qwBreach k.val { s with qw := { s.qw with breachDue := none, breached := true } }
  | none => s

/-- Window `k` is due: it opens where it is the one of its beat that may, or is dropped (R100, R102). -/
def openWindow (may : Bool) (k : Fin 8) (s : State) : State :=
  if s.fastUp ∧ s.windowDue k.val then
    let t := closeBy (s.beat * 100) (s.unitTaken (s.windowUnit k.val) (K.qwCtrl k.val))
    if !may || t.windowBlocked then raiseLater .qwDrop k.val ((t.bump K.paQwDropCnt).flag K.paQwStatus 2)
    else rhBlank k (windowOpens k t)
  else s

/-- The windows that are due in this beat, ascending. -/
def State.dueWindows (s : State) : List (Fin 8) :=
  if s.fastUp then ([0, 1, 2, 3, 4, 5, 6, 7] : List (Fin 8)).filter (fun k => s.windowDue k.val) else []

/-- The edges that held phases and channels make inside window `k` (R105, R130): low-side turn-offs at `IVALLEY`, edges of a channel. -/
def windowEdges (edges xbEdges : List Nat) (s : State) : State :=
  raiseBreach (each (upto 4) (fun c => xbBreach c (nthN xbEdges c)) (each (upto 8) (fun p => phaseBreach p (nthN edges p)) s))

/-- Level of the QUIET pin (R101). -/
def State.quietPin (s : State) : Bool := s.pins.quiet != (s.get K.paQuietPol == 1)

/-! ## Phase faults (R106 to R109) -/

/-- A phase that can be put out: ACTIVE, SHED, SHADOW or RAMP (R110). -/
def State.canFault (s : State) (p : Nat) : Bool :=
  s.phase p == .active || s.phase p == .shed || s.phase p == .shadow || s.phase p == .ramp

/-- A phase leaves its rail by a fault: a faulted burst phase is replaced (R97), else the lowest SHED phase starts remount
while the rail regulates (R109). -/
def phaseOut (p cause : Nat) (s : State) : State :=
  if s.canFault p then
    let n := (s.phaseE p).rail
    let burst := s.get (K.railSubmode n) = 1 ∧ s.burstPhase n = some p
    let t := phaseFault p cause s
    if burst then burstReplace n t
    else if (t.rail n).regulating then addShed n t
    else t
  else s

/-- A phase source: the phase goes out, then the collector takes the source. -/
def phaseSource (k : SrcKind) (p cause : Nat) (s : State) : State := takeSource k p (phaseOut p cause s)

/-- A source that only a switching phase can raise. -/
def switchingSource (k : SrcKind) (p cause : Nat) (s : State) : State :=
  if s.fastUp && s.drives p then phaseSource k p cause s else s

/-- The inductor peak in 16 consecutive cycles, or a mean current above 14,000 mA in 4 consecutive beats. -/
def doPhOc (p cycles : Nat) (i : Int) (beats : Nat) (s : State) : State :=
  if 16 ≤ cycles ∨ (14000 < i ∧ 4 ≤ beats) then switchingSource .phOc p 1 s else s

/-- The negative limit in 16 consecutive cycles. -/
def doPhNeg (p cycles : Nat) (s : State) : State := if 16 ≤ cycles then switchingSource .phNeg p 3 s else s

/-- The temperature reaches `T_SD`: once until it has fallen 15 °C below (R231). -/
def doPhTsd (p : Nat) (temp : Int) (s : State) : State :=
  if (s.get (K.phaseTSd p) : Int) ≤ temp ∧ (s.phaseE p).hot = false ∧ s.fastUp ∧ s.phase p ≠ .unused then
    phaseSource .phTsd p 4 (s.setPhaseE p { s.phaseE p with hot := true })
  else s

/-- SWp does not follow its gate in 2 consecutive cycles. -/
def doPhSw (p cycles : Nat) (s : State) : State := if 2 ≤ cycles then switchingSource .phSw p 5 s else s

/-- A driver supply is under voltage. -/
def doPhDrv (p : Nat) (s : State) : State := if s.fastUp && s.phase p != .unused then phaseSource .phDrv p 6 s else s

/-- The current differs from the mean of the ACTIVE phases by more than `PA.IMBAL_TOL` for 64 consecutive cycles. -/
def doPhImbal (p : Nat) (diff : Int) (cycles : Nat) (s : State) : State :=
  if s.get K.paImbalTol * 100 < diff.natAbs ∧ 64 ≤ cycles then switchingSource .phImbal p 7 s else s

/-- `n` beats of phase `p` above 10,000 mA or not (R107): the timer, the beats not above since it last fell, `STATUS.OVL` as it rises
from 0, and the source as it reaches 10,000. In FAULT the timer stays cleared. -/
def phaseRun (p : Nat) (r : Bool × Nat) (s : State) : State :=
  if s.phase p = .fault ∨ s.phase p = .unused ∨ r.2 = 0 then s
  else
    let e := s.phaseE p
    let v := s.get (K.phaseOvlBeats p)
    if r.1 then
      let t := when (v == 0) (fun u => u.flag (K.phaseStatus p) 4) s
      let t := (t.put (K.phaseOvlBeats p) (min 65535 (v + r.2))).setPhaseE p { e with under := 0 }
      if 10000 ≤ v + r.2 then switchingSource .phOvl p 2 t else t
    else (s.put (K.phaseOvlBeats p) (v - (e.under + r.2) / 9)).setPhaseE p { e with under := (e.under + r.2) % 9 }

/-- Runs of beats of a phase with an event of their own. -/
def doPhOvl (p : Nat) (l : List (Bool × Nat)) (s : State) : State := if s.fastUp then each l (phaseRun p) s else s

/-- PH_OC (R106). -/
def execPhOc (p : Fin 8) (cycles : Nat) (i : Int) (beats : Nat) (s : State) : Host.Outcome State Fault Refusal :=
  event (doPhOc p.val cycles i beats) s
/-- PH_OVL (R106, R107). -/
def execPhOvl (p : Fin 8) (l : List (Bool × Nat)) (s : State) : Host.Outcome State Fault Refusal := event (doPhOvl p.val l) s
/-- PH_NEG (R106). -/
def execPhNeg (p : Fin 8) (cycles : Nat) (s : State) : Host.Outcome State Fault Refusal := event (doPhNeg p.val cycles) s
/-- PH_TSD (R106). -/
def execPhTsd (p : Fin 8) (temp : Int) (s : State) : Host.Outcome State Fault Refusal := event (doPhTsd p.val temp) s
/-- PH_SW (R106). -/
def execPhSw (p : Fin 8) (cycles : Nat) (s : State) : Host.Outcome State Fault Refusal := event (doPhSw p.val cycles) s
/-- PH_DRV (R106). -/
def execPhDrv (p : Fin 8) (s : State) : Host.Outcome State Fault Refusal := event (doPhDrv p.val) s
/-- PH_IMBAL (R106). -/
def execPhImbal (p : Fin 8) (diff : Int) (cycles : Nat) (s : State) : Host.Outcome State Fault Refusal :=
  event (doPhImbal p.val diff cycles) s

/-- A rail that should regulate has no phase that drives it (R106, R109). -/
def doRailPhLost (n : Nat) (s : State) : State :=
  if s.fastUp ∧ (s.rail n).driven ∧ (s.driving n).isEmpty then railSource .railPhLost n (s.flag (K.railStatus n) 0x40)
  else s

def execRailPhLost (n : Fin 8) (s : State) : Host.Outcome State Fault Refusal := event (doRailPhLost n.val) s

/-- A current sum below −1,000 mA for 2 beats turns ORGATEn off until release; the rail stays (R115). -/
def doRailReverse (n : Nat) (sum : Int) (beats : Nat) (s : State) : State :=
  if s.fastUp ∧ s.get (K.railOrgate n) = 1 ∧ sum < -1000 ∧ 2 ≤ beats then
    let t := orgate n (s.setRailE n { s.railE n with reversed := true })
    takeSource .railReverse n (t.flag (K.railStatus n) 0x80)
  else s

def execRailReverse (n : Fin 16) (sum : Int) (beats : Nat) (s : State) : Host.Outcome State Fault Refusal :=
  event (doRailReverse n.val sum beats) s

/-! ## Remount (R111 to R113) -/

/-- `cycles` switching cycles of its rail have passed since the phase's stage began, a cycle stretched by a window counting as one (R105,
R111). -/
def State.cyclesOver (s : State) (p cycles : Nat) : Bool :=
  decide (cycles * 100000 ≤ s.stageTime p * (s.railE (s.phaseE p).rail).fswUse)

/-- A shadow stage of 64 cycles ends: RAMP where the duty agrees within 2 % of the period; else it repeats, and the fourth failure is
a fault. -/
def doRemountShadowEnd (p dutyDiff : Nat) (s : State) : State :=
  let n := (s.phaseE p).rail
  if s.fastUp ∧ s.phase p = .shadow ∧ (s.rail n).regulating ∧ s.cyclesOver p 64 then
    if dutyDiff ≤ 20 then reinterleave n ((s.putPhase p .ramp).setPhaseE p { s.phaseE p with since := s.beat, held := 0 })
    else
      let e := s.phaseE p
      if 4 ≤ e.passes + 1 then phaseSource .phImbal p 8 s
      else s.setPhaseE p { e with passes := e.passes + 1, since := s.beat, held := 0 }
  else s

def execRemountShadowEnd (p : Fin 8) (dutyDiff : Nat) (s : State) : Host.Outcome State Fault Refusal :=
  event (doRemountShadowEnd p.val dutyDiff) s

/-- The ramp of 256 cycles ends: ACTIVE, counted. -/
def doRemountRampEnd (p : Nat) (s : State) : State :=
  if s.fastUp ∧ s.phase p = .ramp ∧ s.cyclesOver p 256 then
    reinterleave (s.phaseE p).rail (((s.putPhase p .active).bump (K.phaseRemountCnt p)).flag (K.phaseStatus p) 0x80)
  else s

def execRemountRampEnd (p : Fin 8) (s : State) : Host.Outcome State Fault Refusal := event (doRemountRampEnd p.val) s

/-- Taking phase `p` out would leave a rail that drives its output without a phase (R113). -/
def State.lastPhase (s : State) (p : Nat) : Bool :=
  let n := (s.phaseE p).rail
  (s.rail n).driven && ((s.driving n).filter (fun q => q != p)).isEmpty

/-- A write of 0x01 to `PHASE[p].CMD` (R113). -/
def wrPhaseTakeOut (p : Nat) (s : State) : Written :=
  if !s.dev.live || s.phase p == .unused || s.lastPhase p then refuse Abort.state s
  else if s.phase p = .disabled then accept s
  else
    let t := (s.putPhase p .disabled).setPhaseE p { s.phaseE p with passes := 0, released := false }
    accept (reinterleave (s.phaseE p).rail t)

/-- A write of 0x02 to `PHASE[p].CMD` (R110, R113). -/
def wrPhaseReturn (p : Nat) (s : State) : Written :=
  if !s.dev.live || s.phase p == .unused then refuse Abort.state s
  else if s.phase p = .disabled ∨ s.phase p = .fault then
    if s.phasesHeld.testBit p then refuse Abort.state s
    else
    let t := s.setPhaseE p { s.phaseE p with released := false }
    accept (if (s.rail (s.phaseE p).rail).regulating then startRemount p t else t.putPhase p .idle)
  else accept s

/-- A write of any value to `PHASE[p].CMD`. -/
def wrPhaseCmd (p v : Nat) (s : State) : Written :=
  if v = 1 then wrPhaseTakeOut p s else if v = 2 then wrPhaseReturn p s else refuse Abort.value s

/-! ## The tick -/

/-- A phase's readings of a tick (R117, R118). -/
def phaseSample (i : TickInputs) (p : Nat) (s : State) : State :=
  let t := (s.putFit (K.phaseI p) (nthI i.phaseI p)).put (K.phaseTemp p) (s.get (K.thermSensor p))
  let t := when (i.ilim.getLsbD p) (fun u => u.flag (K.phaseStatus p) 2) t
  when (i.neglim.getLsbD p) (fun u => u.flag (K.phaseStatus p) 1) t

/-- The phases' beats of a tick and their temperatures: `PH_OVL`, then `PH_TSD` (R106, R107, R223). -/
def phaseSources (i : TickInputs) (s : State) : State :=
  let t := each (upto 8) (fun p u => each (i.phaseOver.getD p []) (phaseRun p) u) s
  each (upto 8) (fun p u => doPhTsd p (u.getI (K.phaseTemp p)) u) t

/-- `PH_TWARN` of a phase (R106): raised at the level, ended 5 °C below it, that level included (DEDUCED, assumption 105). -/
def phaseWarn (p : Nat) (s : State) : State :=
  let temp := s.getI (K.phaseTemp p)
  let lvl : Int := s.get (K.phaseTWarn p)
  let on := s.therm.phaseWarned.getLsbD p
  let m : BitVec 8 := BitVec.ofNat 8 (2 ^ p)
  if !on && decide (lvl ≤ temp) && s.phase p != .unused then
    takeSource .phTwarn p ({ s.flag (K.phaseStatus p) 0x10 with
      therm := { s.therm with phaseWarned := s.therm.phaseWarned ||| m } })
  else if on && decide (temp ≤ lvl - 50) then
    endCondition (SrcKind.phTwarn.number p) { s with
      therm := { s.therm with phaseWarned := s.therm.phaseWarned &&& ~~~m } }
  else s

/-- `PH_TSD` stays active until the temperature is 15 °C below the level (R231). -/
def phaseCool (p : Nat) (s : State) : State :=
  if (s.phaseE p).hot ∧ s.getI (K.phaseTemp p) ≤ (s.get (K.phaseTSd p) : Int) - 150 then
    endCondition (SrcKind.phTsd.number p) (s.setPhaseE p { s.phaseE p with hot := false })
  else s

/-- A rail's readings of a tick (R119): means over the tick, that of the power too; those of the tick before are kept (R104). A reverse
current reads 0 in `IOUT`. -/
def railSample (i : TickInputs) (n : Nat) (s : State) : State :=
  let v := nthN i.vout n
  let a := (nthI i.iout n).toNat
  let t := ((s.putFit (K.railVout n) v).putFit (K.railIout n) a).putFit (K.railPout n) (nthN i.pout n)
  let t := t.setRailE n { t.railE n with
    discharged := decide (v < t.get (K.railDisTh n)), vPrev := s.railVout n, iPrev := s.get (K.railIout n) }
  doRailRampdownDone n v (doRailSoftstartDone n v t)

/-- Shedding and burst counts of a buck rail, with the phase added at a tick (R95, R96). Only ticks at which the rail is ON in CCM count
among the 4 of R96; any other restarts the count (DESIGN CHOICE, assumption 136). -/
def railLight (n : Nat) (s : State) : State :=
  let k := (s.phasesIn n .active).length
  let iout := s.get (K.railIout n)
  let e := s.railE n
  if s.ccm n then
    let low := decide (iout < s.get (K.railBurstI n))
    let t := s.setRailE n { e with
      lowCount := if low then e.lowCount + 1 else 0
      shedCount := if s.get (K.railShedEn n) = 1 ∧ iout < s.get (K.railShedI n) * k then e.shedCount + 1 else 0 }
    if t.get (K.railShedEn n) = 1 ∧ t.get (K.railAddI n) * k < iout ∧ t.remounting n = false then addShed n t else t
  else s.setRailE n { e with lowCount := 0, shedCount := 0 }

/-- Burst at a tick: a rail in burst leaves it under load (R97); any other may enter it (R96, R99). -/
def burstTick (n : Nat) (s : State) : State :=
  if s.inBurst n then (if s.burstLoad n then burstLeave n s else s) else doBurstEntry n s

/-- In ACTIVE a rail whose `MODE` is 0 does not burst: it leaves what DOZE put it into (R99, DEDUCED, assumption 22). -/
def dozeLeft (n : Nat) (s : State) : State :=
  if s.dev ≠ .doze ∧ s.get (K.railMode n) = 0 then burstLeave n s else s

/-- The phase array in step 7 of a tick: light load, shedding, burst (R95 to R99). -/
def phaseTick (s : State) : State := each (upto 8) (fun n u => burstTick n (doPhaseShed n (dozeLeft n (railLight n u)))) s

/-- What the rails do by themselves at a beat, their sources in ascending number: a rail without a phase, a start that takes too
long, the end of a movement, the end of a remount's ramp (R91, R106, R111). -/
def railBeat (s : State) : State :=
  let t := each (upto 16) doRailSlewDone (each (upto 8) doRemountRampEnd s)
  each (upto 16) doRailSs (each (upto 8) doRailPhLost t)

end Sys2Proof.Machine
end

