-- ==== Sys2Proof/Machine/AuxRails.lean ====
section
/-! DEFINITION. The auxiliary rails (R125 to R145): buck-boost channels X0 to X3, LDOs L0 to L3, the always-on L0. -/

namespace Sys2Proof.Machine

/-! ## Buck-boost channels -/

/-- The region that D = reference / IBUS asks for from region `r` (R127): `ref` is a code of 2.5 mV, IBUS is in mV. Without IBUS
there is no ratio and the region stays. -/
def regionOf (r ref ibus : Nat) : Nat :=
  let d := ref * 250
  if ibus = 0 then r
  else if r = 0 then (if 85 * ibus ≤ d then 1 else 0)
  else if r = 1 then (if d ≤ 80 * ibus then 0 else if 120 * ibus ≤ d then 2 else 1)
  else if d ≤ 115 * ibus then 1 else r

/-- A channel works in a region: it switches, or tracks its duties in READY (R127, R131). -/
def State.xbWorks (s : State) (c : Nat) : Bool := s.fastUp && ((s.rail (8 + c)).driven || s.rail (8 + c) == .ready)

/-- The region changes (R127, R143). -/
def setRegion (c r : Nat) (s : State) : State :=
  (((s.put (K.xbRegion c) r).bump (K.xbRegionCnt c)).flag (K.xbStatus c) 4).setXbE c { s.xbE c with regTo := r, regBeats := 0 }

/-- The region changes once its condition has held for 8 beats (R127); IBUS stands at what was sampled. -/
def doXbRegionChange (c ibus beats : Nat) (s0 : State) : State :=
  let s := if s0.fastUp then { s0 with divider := { s0.divider with ibusNow := ibus } } else s0
  let r := s.get (K.xbRegion c)
  let x := regionOf r (s.railRef (8 + c)) ibus
  if s.xbWorks c ∧ x ≠ r ∧ 8 ≤ beats then setRegion c x s else s

def execXbRegionChange (c : Fin 4) (ibus beats : Nat) (s : State) : Host.Outcome State Fault Refusal :=
  event (doXbRegionChange c.val ibus beats) s

/-- A beat of a channel with the last IBUS sample: the condition of a region change is counted, anew once the channel has stopped
(R127). -/
def xbBeat (c : Nat) (s : State) : State :=
  let e := s.xbE c
  if s.xbWorks c then
    let r := s.get (K.xbRegion c)
    let x := regionOf r (s.railRef (8 + c)) s.divider.ibusNow
    let n := if x = r then 0 else if x = e.regTo then e.regBeats + 1 else 1
    if 8 ≤ n then setRegion c x s else s.setXbE c { e with regTo := x, regBeats := n }
  else if e.regBeats = 0 then s
  else s.setXbE c { e with regBeats := 0 }

/-- Pulse skipping begins: after 4 ticks of low current with `MODE` 1, or in DOZE (R128). -/
def doXbSkipEntry (c : Nat) (s : State) : State :=
  let e := s.xbE c
  if s.fastUp ∧ s.rail (8 + c) = .on ∧ e.skipping = false ∧
      (s.dev = .doze ∨ (s.get (K.xbMode c) = 1 ∧ 4 ≤ e.lowCount)) then
    (s.flag (K.xbStatus c) 8).setXbE c { e with skipping := true, lowCount := 0 }
  else s

def execXbSkipEntry (c : Fin 4) (s : State) : Host.Outcome State Fault Refusal := event (doXbSkipEntry c.val) s

/-- A rail that a fault reaction would put into FAULT. -/
def State.canRailFault (s : State) (n : Nat) : Bool :=
  !(s.rail n == .off || s.rail n == .discharge || s.rail n == .fault)

/-- A channel source (R132): the rail goes off, `FAULT_CAUSE` where it enters FAULT, then the collector. -/
def xbSource (k : SrcKind) (c cause : Nat) (s : State) : State :=
  let t := if s.canRailFault (8 + c) then s.put (K.xbFaultCause c) cause else s
  takeSource k c (railFault (8 + c) (k.number c) 0xFF t)

/-- A source that only a switching channel can raise. -/
def xbSwitching (k : SrcKind) (c cause : Nat) (s : State) : State :=
  if s.fastUp && (s.rail (8 + c)).driven then xbSource k c cause s else s

/-- The channel has been held at its limit for `CL_TIME` ticks (R129). -/
def doXbCl (c : Nat) (s : State) : State :=
  if s.get (K.xbClTime c) ≤ (s.railE (8 + c)).clCount then xbSwitching .xbCl c 2 s else s

def execXbCl (c : Fin 4) (s : State) : Host.Outcome State Fault Refusal := event (doXbCl c.val) s

/-- The peak in 16 consecutive cycles; a peak in any cycle shows in STATUS (R143). -/
def doXbPk (c cycles : Nat) (s : State) : State :=
  if s.fastUp ∧ (s.rail (8 + c)).driven ∧ cycles ≠ 0 then
    let t := s.flag (K.xbStatus c) 2
    if 16 ≤ cycles then xbSource .xbPk c 1 t else t
  else s

/-- The temperature reaches `T_SD`: once until it has fallen 15 °C below (R231). -/
def doXbTsd (c : Nat) (temp : Int) (s : State) : State :=
  if s.fastUp ∧ (s.xbE c).hot = false ∧ (s.get (K.xbTSd c) : Int) ≤ temp then
    xbSource .xbTsd c 3 (s.setXbE c { s.xbE c with hot := true })
  else s

/-- A switch node does not follow its gate in 2 consecutive cycles. -/
def doXbSw (c cycles : Nat) (s : State) : State := if 2 ≤ cycles then xbSwitching .xbSw c 4 s else s

/-- A driver supply is under voltage. -/
def doXbDrv (c : Nat) (s : State) : State := if s.fastUp then xbSource .xbDrv c 5 s else s

/-- The negative limit in 16 consecutive cycles. -/
def doXbNeg (c cycles : Nat) (s : State) : State := if 16 ≤ cycles then xbSwitching .xbNeg c 6 s else s

/-- XB_PK (R132, R143). -/
def execXbPk (c : Fin 4) (cycles : Nat) (s : State) : Host.Outcome State Fault Refusal := event (doXbPk c.val cycles) s
/-- XB_TSD (R132). -/
def execXbTsd (c : Fin 4) (temp : Int) (s : State) : Host.Outcome State Fault Refusal := event (doXbTsd c.val temp) s
/-- XB_SW (R132). -/
def execXbSw (c : Fin 4) (cycles : Nat) (s : State) : Host.Outcome State Fault Refusal := event (doXbSw c.val cycles) s
/-- XB_DRV (R132). -/
def execXbDrv (c : Fin 4) (s : State) : Host.Outcome State Fault Refusal := event (doXbDrv c.val) s
/-- XB_NEG (R132). -/
def execXbNeg (c : Fin 4) (cycles : Nat) (s : State) : Host.Outcome State Fault Refusal := event (doXbNeg c.val cycles) s

/-- I_lim of channel `c` in mA, truncated (R129); a rail without a target in use has only `ILIM`. -/
def State.xbLimit (s : State) (c : Nat) : Nat :=
  let code := (s.railE (8 + c)).vsetUse
  if code = 0 then s.get (K.xbIlim c) else min (s.get (K.xbIlim c)) (s.get (K.xbPlim c) * 2000 / (code * 5))

/-- Ticks at a current limit (R129, R134). -/
def limitCount (n : Nat) (at_ : Bool) (s : State) : State :=
  let e := s.railE n
  s.setRailE n { e with
    clCount := if at_ then e.clCount + 1 else 0, limited := at_ && e.limited }

/-- A channel's readings of a tick (R132, R142, R143). -/
def xbSample (i : TickInputs) (c : Nat) (s : State) : State :=
  let on := (s.rail (8 + c)).driven
  let lim := on && i.xbLimited.getLsbD c
  let t := (s.put (K.xbTemp c) (s.get (K.thermSensor (8 + c / 2)))).put (K.xbILimNow c) (s.xbLimit c)
  let t := if lim then t.flag (K.xbStatus c) 1 else t
  let t := if on && i.xbPk.getLsbD c then t.flag (K.xbStatus c) 2 else t
  limitCount (8 + c) lim t

/-- `XB_TWARN` at the level, ended 5 °C below it, that level included (R132, DEDUCED, assumption 105); `XB_TSD` ends 15 °C below its
level (R231). -/
def xbWarn (c : Nat) (s : State) : State :=
  let temp := s.getI (K.xbTemp c)
  let lvl : Int := s.get (K.xbTWarn c)
  let e := s.xbE c
  let t := if !e.warned && decide (lvl ≤ temp) then
      takeSource .xbTwarn c ((s.flag (K.xbStatus c) 0x10).setXbE c { e with warned := true })
    else if e.warned && decide (temp ≤ lvl - 50) then
      endCondition (SrcKind.xbTwarn.number c) (s.setXbE c { e with warned := false })
    else s
  if (t.xbE c).hot ∧ temp ≤ (s.get (K.xbTSd c) : Int) - 150 then
    endCondition (SrcKind.xbTsd.number c) (t.setXbE c { t.xbE c with hot := false })
  else t

/-- Pulse skipping at a tick (R128): a skipping channel returns to continuous switching above twice `SKIP_I`, in DOZE too; any other
counts its low ticks and may begin to skip. -/
def xbSkip (c : Nat) (s : State) : State :=
  let e := s.xbE c
  let iout := s.get (K.railIout (8 + c))
  let skip := s.get (K.xbSkipI c)
  if s.rail (8 + c) ≠ .on then s.setXbE c { e with skipping := false, lowCount := 0 }
  else if e.skipping then
    let stay := (s.dev == .doze || s.get (K.xbMode c) == 1) && decide (iout ≤ 2 * skip)
    s.setXbE c { e with skipping := stay, lowCount := 0 }
  else doXbSkipEntry c (s.setXbE c { e with lowCount := if iout < skip then e.lowCount + 1 else 0 })

/-! ## LDOs -/

/-- The always-on L0 is turned off by its own source (R137): it waits for its restart, the backup domain counts. -/
def aoOff (src cause : Nat) (s : State) : State :=
  if s.canRailFault 12 then
    let t := ((setRail 12 .fault s).bumpSat K.ldoAoOffCnt).put (K.ldoFaultCause 0) cause
    let t := { t with ao := { t.ao with blockedBy := some cause, clearedAt := none } }
    if s.fastUp then fillFfr 2 12 0xFF 0 src 0 ((t.put (K.railCause 12) 5).flag (K.railStatus 12) 2) else t
  else s

/-- An LDO goes off by its own source. -/
def ldoOff (src cause l : Nat) (s : State) : State :=
  if s.alwaysOn (12 + l) then aoOff src cause s
  else
    let t := if s.canRailFault (12 + l) then s.put (K.ldoFaultCause l) cause else s
    railFault (12 + l) src 0xFF t

/-- LDOINl below 1,400 mV for 4 beats while the rail is not OFF (R138). In BACKUP only the always-on L0 answers. -/
def doLdoInUv (l ldoin beats : Nat) (s : State) : State :=
  let t := ldoOff (SrcKind.ldoInUv.number l) 1 l s
  if s.rail (12 + l) = .off ∨ 1400 ≤ ldoin ∨ beats < 4 then s
  else if s.fastUp then takeSource .ldoInUv l t
  else if s.alwaysOn (12 + l) then t
  else s

def execLdoInUv (l : Fin 4) (ldoin beats : Nat) (s : State) : Host.Outcome State Fault Refusal :=
  event (doLdoInUv l.val ldoin beats) s

/-- The limit has held for `CL_TIME` ticks (R134, R137). -/
def doLdoCl (l : Nat) (s : State) : State :=
  let e := s.railE (12 + l)
  if s.fastUp ∧ s.get (K.ldoClTime l) ≤ e.clCount ∧ e.limited = false ∧ s.canRailFault (12 + l) then
    let t := s.setRailE (12 + l) { e with limited := true }
    takeSource .ldoCl l (if s.alwaysOn (12 + l) then t else ldoOff (SrcKind.ldoCl.number l) 2 l t)
  else s

def execLdoCl (l : Fin 4) (s : State) : Host.Outcome State Fault Refusal := event (doLdoCl l.val) s

/-- The LDO sensor at `LDO.T_SD` (R138): once until it has fallen 15 °C below. -/
def doLdoTsd (temp : Int) (s : State) : State :=
  let src := SrcKind.ldoTsd.number 0
  let t := each (upto 4) (fun l u => ldoOff src 3 l u) { s with ao := { s.ao with ldoHot := true } }
  if temp < (s.get K.ldoTSd : Int) ∨ s.ao.ldoHot then s
  else if s.fastUp then takeSource .ldoTsd 0 t
  else if s.bk.l0On then aoOff src 3 s
  else s

def execLdoTsd (temp : Int) (s : State) : Host.Outcome State Fault Refusal := event (doLdoTsd temp) s

/-- The always-on L0 starts from the copies in the backup domain (R136): with soft-start, or straight to ON where VOUT is at or above
its VSET (R90). A VSET of 0 is no target (R86). -/
def aoStart (s : State) : State :=
  let v := s.bk.l0Vset
  let mv := s.railVout 12
  if v = 0 then s
  else
    let t := (setRail 12 .softstart s).setRailE 12 { s.railE 12 with vsetUse := v, entered := s.beat }
    let t := { t with ao := { t.ao with blockedBy := none, clearedAt := none } }
    if v * 5 ≤ mv * 2 then railToOn 12 (aimRail 12 v v v s.bk.l0SsTime t) else aimRail 12 (mv * 2 / 5) v v s.bk.l0SsTime t

/-- LDOIN0 at `v` mV is good for the always-on L0 (R133, R136). -/
def State.aoGood (s : State) (v : Nat) : Bool := decide (1500 ≤ v ∧ s.bk.l0Vset * 5 + 400 ≤ v * 2 ∧ v ≤ 5500)

/-- The cause that turned the always-on L0 off has cleared (R137): LDOIN0 good again, or the sensor 15 °C below its level. In BACKUP the
level is `LDO.T_SD` as a reset of the main domain leaves it, its Default, since no copy of it is kept (DESIGN CHOICE, assumption 137). -/
def State.aoCleared (s : State) (ldoin : Nat) (temp : Int) : Bool :=
  match s.ao.blockedBy with
  | some 1 => s.aoGood ldoin
  | some _ => decide (temp ≤ (s.get K.ldoTSd : Int) - 150)
  | none => false

/-- A start of the always-on L0: while `LDO_TSD` stands, that source holds it off until it has cleared (R137, DEDUCED, assumption 140). -/
def aoBegin (s : State) : State :=
  if s.ao.ldoHot then { s with ao := { s.ao with blockedBy := some 3, clearedAt := none } } else aoStart s

/-- The restart of the always-on L0. -/
def aoRestarts (s : State) : State := aoBegin (if s.ao.ldoHot then s else s.flag (K.ldoStatus 0) 8)

/-- 100 ms after the cause has cleared (R137). -/
def doAoRestart (ldoin : Nat) (temp : Int) (ms : Nat) (s : State) : State :=
  if s.dev ≠ .off ∧ s.bk.l0On ∧ s.aoCleared ldoin temp ∧ 100 ≤ ms then aoRestarts s else s

def execAoRestart (ldoin : Nat) (temp : Int) (ms : Nat) (s : State) : Host.Outcome State Fault Refusal :=
  event (doAoRestart ldoin temp ms) s

/-- LDOIN0 becomes good: an always-on L0 that is off and not turned off by its own source starts (R136). -/
def doLdoin0Good (ldoin : Nat) (s : State) : State :=
  if s.dev ≠ .off ∧ s.bk.l0On ∧ s.ao.blockedBy = none ∧ (s.rail 12 = .off ∨ s.rail 12 = .discharge) ∧ s.aoGood ldoin then aoBegin s
  else s

def execLdoin0Good (ldoin : Nat) (s : State) : Host.Outcome State Fault Refusal := event (doLdoin0Good ldoin) s

/-- The always-on L0 at a tick: it starts where LDOIN0 is good, and restarts once its cause has been clear for 100 ms (R136, R137). -/
def aoTick (s : State) : State :=
  let v := s.get (K.ldoLdoin 0)
  let t := doLdoin0Good v s
  if t.bk.l0On ∧ t.aoCleared v (t.getI K.ldoTemp) then
    match t.ao.clearedAt with
    | some b => if b + 100000 ≤ t.beat then aoRestarts t else t
    | none => { t with ao := { t.ao with clearedAt := some t.beat } }
  else { t with ao := { t.ao with clearedAt := none } }

/-- I_lim of LDO `l` in mA: 500 mW over the headroom, truncated, not below 50 mA (R134); a headroom of 0 or less leaves
`ILIM`. An always-on L0 takes `ILIM` from the copy in the backup domain, also while the main domain runs (R136; DESIGN CHOICE,
assumption 138). -/
def State.ldoLimit (s : State) (l : Nat) : Nat :=
  let ilim := if s.alwaysOn (12 + l) then s.bk.l0Ilim else s.get (K.ldoIlim l)
  let head := s.get (K.ldoLdoin l) - s.railVout (12 + l)
  if head = 0 then ilim else max 50 (min ilim (500000 / head))

/-- An LDO's readings of a tick (R134, R144, R145). -/
def ldoSample (i : TickInputs) (l : Nat) (s : State) : State :=
  let on := (s.rail (12 + l)).driven || s.rail (12 + l) == .ready
  let lim := on && i.ldoLimited.getLsbD l
  let vin := nthN i.ldoIn l
  let t := s.putFit (K.ldoLdoin l) vin
  let t := t.putFit (K.ldoPdiss l) ((vin - t.railVout (12 + l)) * (nthI i.ldoI l).toNat / 1000)
  let t := t.putFit (K.ldoILimNow l) (t.ldoLimit l)
  limitCount (12 + l) lim (if lim then t.flag (K.ldoStatus l) 1 else t)

/-- `LDO_DROP`: less than 200 mV over a whole tick while ON (R138), once for each interval. -/
def ldoDrop (i : TickInputs) (l : Nat) (s : State) : State :=
  let now := s.rail (12 + l) == .on && i.ldoDropLow.getLsbD l
  let was := s.ao.dropped.getLsbD l
  let m : BitVec 4 := BitVec.ofNat 4 (2 ^ l)
  let t := { s with ao := { s.ao with dropped := if now then s.ao.dropped ||| m else s.ao.dropped &&& ~~~m } }
  if now && !was then takeSource .ldoDrop l (t.flag (K.ldoStatus l) 4) else t

/-- `LDO_TWARN` of the shared sensor, ended 5 °C below, that level included (R138, DEDUCED, assumption 105); `LDO_TSD` ends 15 °C below its level (R137). The status bit is
each LDO's. -/
def ldoWarn (s : State) : State :=
  let temp := s.getI K.ldoTemp
  let lvl : Int := s.get K.ldoTWarn
  let t := if !s.ao.ldoWarned && decide (lvl ≤ temp) then
      takeSource .ldoTwarn 0 (each (upto 4) (fun l u => u.flag (K.ldoStatus l) 2)
        { s with ao := { s.ao with ldoWarned := true } })
    else if s.ao.ldoWarned && decide (temp ≤ lvl - 50) then
      endCondition (SrcKind.ldoTwarn.number 0) { s with ao := { s.ao with ldoWarned := false } }
    else s
  if t.ao.ldoHot ∧ temp ≤ (s.get K.ldoTSd : Int) - 150 then
    endCondition (SrcKind.ldoTsd.number 0) { t with ao := { t.ao with ldoHot := false } }
  else t

/-! ## The tick -/

/-- The readings of step 3, with the shutdowns that they ask for and the always-on L0. -/
def auxSample (i : TickInputs) (s : State) : State :=
  let t := each (upto 4) (xbSample i) s
  let t := each (upto 4) (ldoSample i) (t.put K.ldoTemp (t.get (K.thermSensor 10)))
  let t := each (upto 4) (fun c u => doXbTsd c (u.getI (K.xbTemp c)) u) t
  aoTick (doLdoTsd (t.getI K.ldoTemp) t)

/-- Slow sources of the auxiliary rails in step 4, in ascending number: `XB_CL`, `XB_TWARN`, `LDO_CL`, `LDO_TWARN`, `LDO_DROP` (R129,
R132, R134, R138). -/
def auxSources (i : TickInputs) (s : State) : State :=
  let t := each (upto 4) xbWarn (each (upto 4) doXbCl s)
  each (upto 4) (ldoDrop i) (ldoWarn (each (upto 4) doLdoCl t))

/-- The auxiliary rails in step 7 of a tick (R128). -/
def auxTick (s : State) : State := each (upto 4) xbSkip s

end Sys2Proof.Machine
end

