-- ==== Sys2Proof/Machine/Supervise.lean ====
section
/-! DEFINITION. The supervisor channels (R146 to R156): levels met, conditions that stand and end, power-good, chatter. -/

namespace Sys2Proof.Machine

/-- A condition stands on channel `m`. -/
def State.stands (s : State) (m l : Nat) : Bool := (s.supE m).standing.getLsbD l

/-- A sample of channel `m` in 1/2,000 mV (R146): an external channel scales its pin's voltage, 0 to 6,000 mV, by `XSCALE`. -/
def State.supVolts (s : State) (m v : Nat) : Nat := if m < 16 then v * 2000 else min v 6000 * s.get (K.supXscale (m - 16)) * 2

/-- A sample of channel `m` as level `l` reads it: a voltage, or a current in 1/2,000 mA. -/
def State.supValue (s : State) (m l v : Nat) : Nat := if l = 2 ∨ l = 5 then v * 2000 else s.supVolts m v

/-- A beat sample meets a level (R147): UV at or below it, OV and OC at or above. -/
def meets (l x level : Nat) : Bool := if l = 1 ∨ l = 4 then decide (x ≤ level) else decide (level ≤ x)

/-- A standing condition of level `l` ends at a sample (R147). -/
def leaves (l x level hyst : Nat) : Bool :=
  if l = 1 ∨ l = 4 then decide (level + hyst < x)
  else if l = 2 ∨ l = 5 then decide (x * 20 < level * 19)
  else decide (x + hyst < level)

/-- The first beat whose UV sample counts: `UV_BLANK` beats after the rail entered ON (R149). -/
def State.uvFrom (s : State) (m l : Nat) : Nat :=
  if m < 16 ∧ (l = 1 ∨ l = 4) ∧ s.rail m ≠ .ready then (s.supE m).onBeat + s.get (K.supUvBlank m) else 0

/-- The deglitch of level `l` in samples (R150). -/
def State.deglitch (s : State) (m l : Nat) : Nat := if l < 3 then s.get (K.supWarnDeglitch m) else s.get (K.supFltDeglitch m)

/-- The count of `n` samples of a level that has stood since a beat completes with the sample `x` (R150). -/
def State.completes (s : State) (m l x n : Nat) (lv : Option Nat × Nat) : Bool :=
  match lv.1 with
  | some level =>
    meets l x level && decide (s.deglitch m l ≤ n ∧ n + max lv.2 (s.uvFrom m l) ≤ s.beat + 1)
  | none => false

/-- Level `l` of channel `m` completes its count of `n` consecutive samples with `v`: no condition of it stands, and it is monitored, or
was in the state that the rail left in this beat (R150, R153). -/
def State.canMeet (s : State) (m l v n : Nat) : Bool :=
  let e := s.supE m
  let x := s.supValue m l v
  s.supRuns m && !s.stands m l &&
    (s.completes m l x n (s.supLevel m l, e.since.toArray.getD l 0) ||
     (e.leftBeat == s.beat && s.completes m l x n (e.left.getD l (none, 0))))

/-- A condition of channel `m` begins: it stands while the level is monitored; its flag and its count. -/
def beginCondition (m l : Nat) (s : State) : State :=
  let e := s.supE m
  let t := s.setSupE m { e with standing := e.standing ||| (BitVec.ofNat 6 (2 ^ l) &&& BitVec.ofNat 6 (s.levelsOf m)) }
  (t.flag (K.supStatus m) (2 ^ l)).bump (if l < 3 then K.supWarnCnt m else K.supFltCnt m)

/-- A supervisor source (R150 to R153): a fault of an internal channel turns its rail off first. The source stays active while
its condition stands. -/
def supSource (k : SrcKind) (m l v n : Nat) (s : State) : State :=
  if s.canMeet m l v n then
    let t := beginCondition m l s
    let t := if 3 ≤ l ∧ m < 16 then railFault m (k.number m) m t else t
    let t := takeSource k m t
    if t.stands m l then t else endCondition (k.number m) t
  else s

/-- A sample of channel `m` meets its OV fault level (R154). -/
def State.meetsOv (s : State) (m v : Nat) : Bool :=
  match s.supLevel m 3 with
  | some level => meets 3 (s.supVolts m v) level
  | none => false

/-- An OV sample: GOOD clears at once (R154), the source is raised once its count completes. -/
def supOvSample (m v n : Nat) (s : State) : State :=
  supSource .supOv m 3 v n (when (s.goodEvaluated m && s.meetsOv m v) (setGood m false) s)

/-- SUP_OV_WARN (R150). -/
def execSupOvWarn (m : Fin 24) (v n : Nat) (s : State) : Host.Outcome State Fault Refusal := event (supSource .supOvWarn m.val 0 v n) s
/-- SUP_UV_WARN (R150). -/
def execSupUvWarn (m : Fin 24) (v n : Nat) (s : State) : Host.Outcome State Fault Refusal := event (supSource .supUvWarn m.val 1 v n) s
/-- SUP_OC_WARN (R150). -/
def execSupOcWarn (m : Fin 16) (i n : Nat) (s : State) : Host.Outcome State Fault Refusal := event (supSource .supOcWarn m.val 2 i n) s
/-- SUP_OV (R150). -/
def execSupOv (m : Fin 24) (v n : Nat) (s : State) : Host.Outcome State Fault Refusal := event (supOvSample m.val v n) s
/-- SUP_UV (R150). -/
def execSupUv (m : Fin 24) (v n : Nat) (s : State) : Host.Outcome State Fault Refusal := event (supSource .supUv m.val 4 v n) s
/-- SUP_OC (R150). -/
def execSupOc (m : Fin 16) (i n : Nat) (s : State) : Host.Outcome State Fault Refusal := event (supSource .supOc m.val 5 i n) s

/-- The bit of a condition. -/
def condBit : SupCond → Nat
  | .ovWarn => 0 | .uvWarn => 1 | .ocWarn => 2 | .ov => 3 | .uv => 4 | .oc => 5

/-- A standing condition ends at a sample past its hysteresis (R147, R150, R231). -/
def doSupConditionEnd (m : Nat) (c : SupCond) (v : Nat) (s : State) : State :=
  let l := condBit c
  match s.supLevel m l with
  | some level =>
    if s.stands m l && leaves l (s.supValue m l v) level (s.supHyst m) then
      keepLevels m (clearMask (s.supE m).standing.toNat (2 ^ l)) s
    else s
  | none => s

def execSupConditionEnd (m : Fin 24) (cond : SupCond) (v : Nat) (s : State) : Host.Outcome State Fault Refusal :=
  event (doSupConditionEnd m.val cond v) s

/-- The beat from which the good level of channel `m` has stood as it does. -/
def State.goodSince (s : State) (m : Nat) : Nat := (s.supE m).since.toArray.getD 6 0

/-- GOOD sets: `n` consecutive samples, the last of them `v`, at or above the good level by its hysteresis, none of them at the OV fault
level, whose condition does not stand (R154). -/
def doGoodRise (m v n : Nat) (s : State) : State :=
  match s.supLevel m 6 with
  | some level =>
    if s.stands m 3 = false ∧ s.meetsOv m v = false ∧ level + s.supHyst m ≤ s.supVolts m v ∧
        s.get (K.supPgDeglitch m) ≤ n ∧ n + s.goodSince m ≤ s.beat + 1 then setGood m true s
    else s
  | none => s

def execGoodRise (m : Fin 24) (v n : Nat) (s : State) : Host.Outcome State Fault Refusal := event (doGoodRise m.val v n) s

/-- GOOD clears: `n` consecutive samples below the good level (R154). -/
def doGoodFall (m v n : Nat) (s : State) : State :=
  match s.supLevel m 6 with
  | some level =>
    if s.supVolts m v < level ∧ s.get (K.supPgDeglitch m) ≤ n ∧ n + s.goodSince m ≤ s.beat + 1 then setGood m false s else s
  | none => s

def execGoodFall (m : Fin 24) (v n : Nat) (s : State) : Host.Outcome State Fault Refusal := event (doGoodFall m.val v n) s

/-! ## The tick -/

/-- A channel's readings of a tick (R146, R171): an external channel scales its pin's voltage, the current of a buck rail is the sum
of its phases'. The extremes are those of the beats at which the channel monitored. -/
def supSample (i : TickInputs) (m : Nat) (s : State) : State :=
  let scale (v : Nat) : Nat := if m < 16 then v else min v 6000 * s.get (K.supXscale (m - 16)) / 1000
  let amps : Int := if m < 8 then (s.railPhases m).foldl (fun a p => a + nthI i.phaseI p) 0 else nthI i.supI m
  let t := s.putFit (K.supV m) (scale (nthN i.supV m))
  let t := if m < 16 then t.putFit (K.supI m) (max 0 amps) else t
  let now := s.supRuns m && s.levelsOf m != 0
  let t := if (s.supE m).monitored || now then
    let t := if scale (nthN i.supMin m) < t.get (K.supVMin m) then t.putFit (K.supVMin m) (scale (nthN i.supMin m)) else t
    if t.get (K.supVMax m) < scale (nthN i.supMax m) then t.putFit (K.supVMax m) (scale (nthN i.supMax m)) else t
  else t
  t.setSupE m { t.supE m with monitored := now }

/-- The chatter rule at a tick (R155). The toggles of the longest window are kept, for `CHAT_WIN` may be raised. -/
def chatterTick (m : Nat) (s : State) : State :=
  let e := s.supE m
  let log := (if e.tickToggles = 0 then e.toggles else (s.tick, e.tickToggles) :: e.toggles).filter
    (fun x => decide (s.tick < x.1 + 60000))
  let n := (log.filter (fun x => decide (s.tick < x.1 + s.get K.supChatWin))).foldl (fun a x => a + x.2) 0
  let lim := s.get (K.supChatLimit m)
  let hit := decide (lim ≠ 0 ∧ lim ≤ n)
  let t := s.setSupE m { e with toggles := log, tickToggles := 0, chattering := hit }
  if hit && !e.chattering then takeSource .supChatter m (t.flag (K.supStatus m) 0x100) else t

end Sys2Proof.Machine
end

