-- ==== Sys2Proof/Machine/Health.lean ====
section
/-! DEFINITION. Rail health (R157 to R170): the engine, its runs and jobs, baselines and ageing, and the perturbation
arbiter it shares with the estimator (R159). -/

namespace Sys2Proof.Machine

/-! ## Conditions of a run -/

/-- An open window whose mask names a phase of rail `n`, or that channel `n − 8` holds off (R114, R158). -/
def State.windowHolds (s : State) (n : Nat) : Bool :=
  match s.qw.openK with
  | none => false
  | some k =>
    if n < 8 then (s.railPhases n).any (fun p => (field (s.get (K.qwCtrl k.val)) 8 8).testBit p)
    else bitOf (s.get (K.xbQwHold (n - 8))) k.val

/-- In a pair, rail `n` may be injected here: UNPAIRED, SHARED on the PRIMARY, STANDBY on the carrier (R158). -/
def State.pairInjects (s : State) (n : Nat) : Bool :=
  match (s.railE n).pairMode with
  | 0 => true
  | 1 => s.get K.pairRole == 1
  | _ => s.bit K.pairCarry n

/-- Rail `n` is never injected here: SHARED on the SECONDARY, STANDBY on a device that does not carry it (R158). -/
def State.pairExcludes (s : State) (n : Nat) : Bool :=
  match (s.railE n).pairMode with
  | 0 => false
  | 1 => s.get K.pairRole == 2
  | _ => !s.bit K.pairCarry n

/-- The conditions of R158 that a point under way rests on, the amplitude apart. A window is none of them: it holds the injection
meanwhile (R162, DEDUCED, assumption 107). -/
def State.injectable (s : State) (n : Nat) : Bool :=
  s.dev == .active && s.rail n == .on && s.pairInjects n &&
    (if n < 8 then s.get (K.railSubmode n) == 0 && !s.remounting n else !(s.xbE (n - 8)).skipping)

/-- The conditions of R158 but for the amplitude. -/
def State.injects (s : State) (n : Nat) : Bool := s.injectable n && !s.windowHolds n

/-- The injection's peak is at most half the nearest enabled warning margin (R161). -/
def State.amplitudeOk (s : State) (n : Nat) : Bool :=
  ([s.get (K.supUvWarn n), s.get (K.supOvWarn n)].filter (fun x => x != 0)).all
    (fun x => decide (s.get (K.rhAmp n) ≤ 5 * x))

/-- The injection's peak in 0.1 mV (R161): `AMP` × 0.01 % of VSET. -/
def State.rhPeak (s : State) (n : Nat) : Nat := s.get (K.rhAmp n) * (s.railE n).vsetUse * 25 / 10000

/-- The sine of a point at a time in 10 ns since it began, in 0.1 mV, as the last switching cycle has taken it over (R160; the cycles are
counted from the point's begin, DESIGN CHOICE, assumption 142). -/
def State.rhSine (s : State) (r : RhRun) (x : Nat) : Int :=
  let f := (s.railE r.rail).fswUse * 1000
  let cycles := x * f / 100000000
  if f = 0 then 0 else truncDiv (Fixed.sin (cycles * s.rhPointFreq r) f * s.rhPeak r.rail) Fixed.one

/-- What the engine adds to the reference of rail `n` in this beat, in 0.1 mV (R160 to R162): the sine of the point under way, while a
window holds it the value that it had 2 switching cycles before the window. -/
def State.injection (s : State) (n : Nat) : Int :=
  match s.rh.run with
  | some r =>
    let x := s.beat * 100
    let at_ := if r.heldFrom ≤ x ∧ x < r.heldUntil then r.heldFrom else x
    if r.rail = n ∧ (s.get K.rhState = rhSettle ∨ s.get K.rhState = rhInject) then s.rhSine r (at_ - r.began * 100) else 0
  | none => 0

/-! ## The arbiter (R159) -/

/-- The owner that a free grant goes to: the one that has waited longer, a tie to the estimator. -/
def Arbiter.choice (a : Arbiter) : Nat :=
  match a.rhSince, a.estSince with
  | some r, some e => if r < e then 1 else 2
  | some _, none => 1
  | none, some _ => 2
  | none, none => 0

/-- The grant goes to a waiting owner; the charger's state and input, which a point must keep, are noted (R293). -/
def doArbGrant (s : State) : State :=
  if s.fastUp ∧ s.get K.rhArbOwner = 0 then
    let o := s.arb.choice
    let t := s.put K.rhArbOwner o
    if o = 1 then { t with arb := { t.arb with rhSince := none } }
    else if o = 2 then
      { t with
        arb := { t.arb with estSince := none }
        est := { t.est with
          measure := t.est.measure.map (fun m => { m with granted := true, st0 := s.get K.chgState, in0 := s.get K.chgInput }) } }
    else t
  else s

/-! ## Starting jobs (R167, R168) -/

/-- A run job is pending or in progress. -/
def State.rhRunJob (s : State) : Bool :=
  s.rh.queued.isSome || (match s.rh.run with | some r => r.job.isSome | none => false)

/-- A write of `RH.RUN`. -/
def wrRhRun (port : Port) (v : Nat) (s : State) : Written :=
  if 11 < v then refuse Abort.value s
  else if s.rhRunJob then refuse Abort.state s
  else startJob port K.rhRun (fun i t => { t with rh := { t.rh with queued := some (v, i) } }) s

/-- A write of `RH.COMMISSION`. Jobs wait for one another (DESIGN CHOICE, assumption 24). -/
def wrRhCommission (port : Port) (v : Nat) (s : State) : Written :=
  if v = 0 ∨ 0xFFF < v then refuse Abort.value s
  else startJob port K.rhCommission (fun i t => { t with rh := { t.rh with
    commissions := t.rh.commissions ++ [⟨v, 0, 0, 0, 0, 0, 0, i⟩] } }) s

/-- Rail `n` is due (R167): its interval has passed since its last run ended, or since boot. -/
def State.rhDue (s : State) (n : Nat) : Bool :=
  let iv := s.get (K.rhInterval n)
  s.get (K.rhEn n) == 1 && iv != 0 && decide (iv ≤ s.clock.epochs - s.rh.lastEnd.toArray.getD n 0)

/-- A rail becomes due, or no longer is. -/
def doRhDue (n : Nat) (s : State) : State :=
  let m := BitVec.ofNat 12 (2 ^ n)
  if s.fastUp then { s with rh := { s.rh with due := if s.rhDue n then s.rh.due ||| m else s.rh.due &&& ~~~m } } else s

def execRhDue (n : Fin 12) (s : State) : Host.Outcome State Fault Refusal := event (doRhDue n.val) s

/-! ## Ends of runs -/

/-- A rail's baseline is written from the sums of `k` runs, and its confirmation counts restart (R168). -/
def writeBaseline (n k : Nat) (c : RhCommission) (s : State) : State :=
  let t := applyValue (K.rhBaseFc n) (c.sumFc / k) s
  let t := applyValue (K.rhBasePm n) (ofInt 16 (truncDiv c.sumPm k)) t
  let t := applyValue (K.rhBaseCout n) (c.sumCout / k) t
  let t := applyValue (K.rhBaseEsr n) (c.sumEsr / k) t
  let t := applyValue (K.rhBaseVset n) (s.railE n).vsetUse t
  let t := applyValue (K.rhBaseValid n) 1 t
  { t with rh := { t.rh with counts := t.rh.counts.setIfInBounds n (Vector.replicate 8 0) } }

/-- A run that commissioning asked for has ended: a run that completed counts; any other leaves the rail's baseline. -/
def commissionRun (n status : Nat) (s : State) : State :=
  match s.rh.commissions with
  | [] => s
  | c :: rest =>
    if status = 1 ∨ status = 2 then
      let c' : RhCommission := { c with
        runs := c.runs + 1, sumFc := c.sumFc + s.get (K.rhFc n), sumPm := c.sumPm + s.getI (K.rhPm n),
        sumCout := c.sumCout + s.get (K.rhCout n), sumEsr := c.sumEsr + s.get (K.rhEsr n) }
      if s.get K.rhBaseRuns ≤ c'.runs then commissionNext c' n true (writeBaseline n c'.runs c' s)
      else { s with rh := { s.rh with commissions := c' :: rest } }
    else commissionNext c n false s

/-- A run ends with a status (R163 to R167): a run that completes counts for the commissioning job that asked for it; one that its tries
ended leaves `RH_ABANDON` to the tick (R170). -/
def endRun (status : Nat) (s : State) : State :=
  match s.rh.run with
  | none => s
  | some r =>
    if status = 1 ∨ status = 2 ∨ status = 3 then
      let t := leaveRun r status s
      if r.commission then commissionRun r.rail status t else t
    else
      let t := failRun r status s
      if status = 4 then { t with rh := { t.rh with abandoned := t.rh.abandoned ||| BitVec.ofNat 12 (2 ^ r.rail) } } else t

/-! ## The engine (R164) -/

/-- A run becomes pending: WAIT, and the arbiter is asked; where the pairing rules it out it ends at once (R158). -/
def beginRun (n : Nat) (job : Option Nat) (commission : Bool) (s : State) : State :=
  let t := { s with
    rh := { s.rh with run := some ⟨n, [], 0, false, job, commission, s.beat, s.beat, 0, 0, 0, 0, 0, 0⟩ }, arb := { s.arb with rhSince := some s.tick } }
  let t := (t.put K.rhState rhWait).put K.rhRail n
  if t.pairExcludes n then endRun 7 t else t

/-- VOUT and IOUT of the tick join the means of the run (R165). -/
def rhLoad (s : State) : State :=
  match s.rh.run with
  | some r =>
    if s.get K.rhState = rhSettle ∨ s.get K.rhState = rhInject then
      { s with rh := { s.rh with run := some { r with
        vSum := r.vSum + s.railVout r.rail, iSum := r.iSum + s.get (K.railIout r.rail), ticks := r.ticks + 1 } } }
    else s
  | none => s

/-- `RH_ABANDON` of the rails whose run ended since the last tick (R170), at its place among the sources of step 4. -/
def rhAbandonTick (s : State) : State :=
  each (maskList 12 s.rh.abandoned.toNat) (fun n => raiseLater .rhAbandon n) { s with rh := { s.rh with abandoned := 0 } }

/-- The engine at a tick (R164, R167, R168): from IDLE in ACTIVE a run job first, then the commissioning job, then the lowest due
rail. -/
def rhTick (s0 : State) : State :=
  let s := each (upto 12) doRhDue (rhLoad (rhAbandonTick s0))
  if s.dev = .active ∧ s.get K.rhState = rhIdle then
    match s.rh.queued with
    | some (n, i) => beginRun n (some i) false { s with rh := { s.rh with queued := none } }
    | none =>
      match s.rh.commissions with
      | c :: _ =>
        match (maskList 12 c.mask).head? with
        | some n => beginRun n none true s
        | none => s
      | [] =>
        match (maskList 12 s.rh.due.toNat).head? with
        | some n => beginRun n none false s
        | none => s
  else s

/-- `PLACE` lets the engine leave WAIT in this beat (R164): at the tick, or at stride unit `POS` (R41). -/
def State.rhPlaced (s : State) (n : Nat) : Bool :=
  if s.get (K.rhPlace n) = 0 then decide (s.beat % 1000 = 0) else s.unitDue (s.get (K.rhPos n)) (K.rhPos n)

/-- The engine leaves WAIT with the grant, where R158 holds, at its place. An amplitude against R161 ends the run before it starts. -/
def doRhSettleStart (s : State) : State :=
  match s.rh.run with
  | some r =>
    let n := r.rail
    if s.fastUp ∧ s.get K.rhState = rhWait ∧ s.get K.rhArbOwner = 1 then
      if s.pairExcludes n then endRun 7 s
      else if r.started = false ∧ s.amplitudeOk n = false then endRun 6 s
      else if s.injects n ∧ s.amplitudeOk n ∧ s.rhPlaced n then
        let t := if r.started then s else s.flag K.rhStatus 1
        let t := { t with rh := { t.rh with run := some { r with started := true, since := s.beat, began := s.beat, blank := 0 } } }
        when (s.get (K.rhPlace n) == 1) (fun u => u.unitTaken (s.get (K.rhPos n)) (K.rhPos n)) (t.put K.rhState rhSettle)
      else s
    else s
  | none => s

def execRhSettleStart (s : State) : Host.Outcome State Fault Refusal := event doRhSettleStart s

/-- `k` periods of the point's frequency have passed since the present settling or measuring began. -/
def State.periodsOver (s : State) (r : RhRun) (k : Nat) : Bool := decide (k * 1000000 ≤ (s.beat - r.since) * s.rhPointFreq r)

/-- The 8 settling periods are over; a hold that lasts into the measuring counts from its begin (R162). -/
def doRhSettleDone (s : State) : State :=
  match s.rh.run with
  | some r =>
    if s.fastUp ∧ s.get K.rhState = rhSettle ∧ s.periodsOver r 8 then
      let u : RhRun := { r with since := s.beat }
      { s with rh := { s.rh with run := some { u with blank := s.rhHeld u 0 } } }.put K.rhState rhInject
    else s
  | none => s

def execRhSettleDone (s : State) : Host.Outcome State Fault Refusal := event doRhSettleDone s

/-- More than `BLANK_MAX` % of the point's measuring time is blanked (R162). -/
def State.blankedOut (s : State) (r : RhRun) : Bool :=
  s.get K.rhState == rhInject &&
    decide (s.get K.rhBlankMax * s.get K.rhCycles * 1000000 < r.blank * s.rhPointFreq r)

/-- A point under way is abandoned where a condition of R158 fails or too much is blanked (R162, R163): the grant is given back, a try is
counted. A rail or a device that stopped ends the run. In WAIT the run waits. -/
def doRhPointAbandon (s : State) : State :=
  match s.rh.run with
  | some r =>
    let st := s.get K.rhState
    if s.fastUp ∧ (st = rhSettle ∨ st = rhInject) then
      if (s.rail r.rail).regulating = false ∨ s.dev ≠ .active then endRun 5 s
      else if s.injectable r.rail ∧ s.amplitudeOk r.rail ∧ s.blankedOut r = false then s
      else
        let r' : RhRun := { r with tries := r.tries + 1 }
        let t := arbRelease 1 { s with rh := { s.rh with run := some r' } }
        if s.get K.rhMaxTries ≤ r'.tries then endRun 4 t
        else { t.put K.rhState rhWait with arb := { t.arb with rhSince := some t.tick } }
    else s
  | none => s

def execRhPointAbandon (s : State) : Host.Outcome State Fault Refusal := event doRhPointAbandon s

/-- A point completes with its three amplitudes once its measuring periods are over: the next point settles, or the engine computes and
gives the grant back. -/
def doRhPointDone (p : RhPoint) (s : State) : State :=
  match s.rh.run with
  | some r =>
    if s.fastUp ∧ s.get K.rhState = rhInject ∧ s.periodsOver r (s.get K.rhCycles) then
      let r' : RhRun := { r with points := r.points ++ [p], since := s.beat, began := s.beat, blank := 0 }
      let t := { s with rh := { s.rh with run := some r' } }
      if r'.points.length < s.get K.rhPoints then t.put K.rhState rhSettle
      else arbRelease 1 (t.put K.rhState rhCompute)
    else s
  | none => s

def execRhPointDone (e y u : Int × Int) (s : State) : Host.Outcome State Fault Refusal :=
  event (doRhPointDone ⟨e.1, e.2, y.1, y.2, u.1, u.2⟩) s

/-! ## Results (R165, R166, R169, R170) -/

/-- The square of a complex amplitude's magnitude. -/
def square (re im : Int) : Nat := (re * re + im * im).toNat

/-- |Y|² and |E|² of a point, whose ratio is |T|². -/
def RhPoint.gain (p : RhPoint) : Nat × Nat := (square p.yRe p.yIm, square p.eRe p.eIm)

/-- ∠T = ∠(Y / E) of a point in 10^-6 degrees; where T is 0 or has no divisor the spec states none (assumption 23). -/
def RhPoint.angle (p : RhPoint) : Int :=
  if p.gain.1 * p.gain.2 = 0 then toInt 32 (Config.unstated (K.rhPm 0) 0 % 2 ^ 32)
  else Fixed.angle (p.yRe * p.eRe + p.yIm * p.eIm) (p.yIm * p.eRe - p.yRe * p.eIm)

/-- Z = Y / U of a point in nΩ; without a current the spec states no value (assumption 23). -/
def RhPoint.z (p : RhPoint) : Int × Int :=
  let d : Int := square p.uRe p.uIm
  if d = 0 then (toInt 32 (Config.unstated (K.rhEsr 0) 0 % 2 ^ 32), toInt 32 (Config.unstated (K.rhCout 0) 0 % 2 ^ 32))
  else ((p.yRe * p.uRe + p.yIm * p.uIm) * 1000000000 / d, (p.yIm * p.uRe - p.yRe * p.uIm) * 1000000000 / d)

/-- The first pair of points between which |T| falls through 1 (R165). -/
def crossing : List RhPoint → Nat → Option (Nat × RhPoint × RhPoint)
  | a :: b :: t, i => if a.gain.2 ≤ a.gain.1 ∧ b.gain.1 < b.gain.2 then some (i, a, b) else crossing (b :: t) (i + 1)
  | _, _ => none

/-- Crossover in Hz and phase margin in 0.1° by interpolation in log frequency (R165; fixed point, assumption 9); no value is stated where
the error of the first point is 0 (assumption 23). -/
def crossover (lo hi n : Nat) (l : List RhPoint) : Option (Nat × Int) :=
  match crossing l 0 with
  | none => none
  | some (i, a, b) =>
    let fa := rhFreq lo hi n i
    let fb := rhFreq lo hi n (i + 1)
    let la := Fixed.ln a.gain.1 a.gain.2
    let lb := Fixed.ln (max 1 b.gain.1) b.gain.2
    let span := la - lb
    if a.gain.2 = 0 then some (Config.unstated (K.rhFc 0) 0 % 2 ^ 32, toInt 16 (Config.unstated (K.rhPm 0) 1 % 2 ^ 16))
    else if fa = 0 ∨ span ≤ 0 then none
    else
      let x := (Fixed.ln fb fa).toNat * (-lb).toNat
      let fc := (fb * Fixed.expNeg x (span.toNat * Fixed.one) + Fixed.one / 2) / Fixed.one
      some (fc, truncDiv (180000000 + a.angle + truncDiv ((b.angle - a.angle) * la) span) 100000)

/-- Z of the model of R165 in nΩ at `f` Hz for `c` µF and `esr` µΩ; `rl` in nΩ, 0 where it is infinite. -/
def loadModel (rl f c esr : Nat) : Int × Int :=
  let a : Int := esr * 1000
  let b : Int := (159154943091895 / (f * max 1 c) : Nat)
  if rl = 0 then (a, -b)
  else
    let d := (rl + a) * (rl + a) + b * b
    (rl * (a * (rl + a) + b * b) / d, -(rl * rl * b / d))

/-- Σ |Z_i − Z(f_i)|² / |Z_i|² in 10^-12 over the points, the first of them point `i` (R165). -/
def fitCost (freq : Nat → Nat) (rl : Nat) (l : List RhPoint) (i c esr : Nat) : Nat :=
  match l with
  | [] => 0
  | p :: t =>
    let z := p.z
    let m := loadModel rl (freq i) c esr
    square (z.1 - m.1) (z.2 - m.2) * 1000000000000 / max 1 (square z.1 z.2) + fitCost freq rl t (i + 1) c esr

/-- R_L of a run in nΩ, 0 where IOUT is below 100 mA (R165). -/
def RhRun.load (r : RhRun) : Nat := if r.iSum < 100 * r.ticks ∨ r.iSum = 0 then 0 else r.vSum * 1000000000 / r.iSum

/-- A relative error in 0.1 % from a sum of squares in 10^-12 over `n` points: the root mean square (R165, R294). -/
def rms (sum n : Nat) : Nat := (Fixed.sqrt (sum / max 1 n) + 500) / 1000

/-- Capacitance in µF and ESR in µΩ of least cost, and the fit error in 0.1 % (R165; the search is assumption 26). -/
def loadFit (freq : Nat → Nat) (r : RhRun) : Nat × Nat × Nat :=
  let cost := fitCost freq r.load r.points 0
  let p := Fixed.search cost 32 (Fixed.trial cost 1 0)
  (max 1 p.1, p.2.1, rms p.2.2 r.points.length)

/-- A deviation in 0.1 %, truncated toward 0 (R169); a baseline of 0 leaves an unstated value. -/
def deviation (k : Nat) (x base : Nat) : Int :=
  if base = 0 then toInt 16 (Config.unstated k x % 2 ^ 16) else truncDiv (((x : Int) - base) * 1000) base

/-- The four drifts whose levels R169 compares: COUT, ESR, PM, FC. -/
def drifts (n : Nat) (s : State) : List Int :=
  [-(s.getI (K.rhDevCout n)), s.getI (K.rhDevEsr n), -(s.getI (K.rhDevPm n)), |s.getI (K.rhDevFc n)|]

/-- The eight ageing levels in the order of `AGE_STATUS` (R175). -/
def ageLevels (n : Nat) (s : State) : List Nat :=
  [s.get (K.rhCoutWarn n), s.get (K.rhEsrWarn n), s.get (K.rhPmWarn n), s.get (K.rhFcWarn n),
   s.get (K.rhCoutFlt n), s.get (K.rhEsrFlt n), s.get (K.rhPmFlt n), s.get (K.rhFcFlt n)]

/-- One ageing level after a comparable run (R170). -/
def ageLevel (n l : Nat) (s : State) : State :=
  let row := s.rh.counts.toArray.getD n (Vector.replicate 8 0)
  let set_ (c : Nat) (t : State) : State :=
    { t with rh := { t.rh with counts := t.rh.counts.setIfInBounds n (row.setIfInBounds l c) } }
  let hit := decide (((ageLevels n s).getD l 0 : Int) ≤ (drifts n s).getD (l % 4) 0)
  let c := row.toArray.getD l 0 + 1
  if hit then
    let t := set_ c s
    if s.get K.rhConfirm ≤ c ∧ s.bit (K.rhAgeStatus n) l = false then
      takeSource (if l < 4 then .rhAgeWarn else .rhAgeFlt) n ((t.putBit (K.rhAgeStatus n) l true).flag K.rhStatus 0x10)
    else t
  else (set_ 0 s).putBit (K.rhAgeStatus n) l false

/-- COMPUTE ends, in ACTIVE alone (R157): results, deviations, status (R165, R166, R169). -/
def doRhResults (s : State) : State :=
  match s.rh.run with
  | some r =>
    if s.dev = .active ∧ s.get K.rhState = rhCompute then
      let n := r.rail
      let freq := rhFreq (s.get (K.rhFLo n)) (s.get (K.rhFHi n)) (s.get K.rhPoints)
      let x := crossover (s.get (K.rhFLo n)) (s.get (K.rhFHi n)) (s.get K.rhPoints) r.points
      let (cout, esr, err) := loadFit freq r
      let fc : Nat := match x with | some p => p.1 | none => 0
      let pm : Int := match x with | some p => p.2 | none => 0
      let t := ((((s.putFit (K.rhFc n) fc).putFit (K.rhPm n) pm).putFit (K.rhCout n) cout).putFit
        (K.rhEsr n) esr).putFit (K.rhFitErr n) err
      let dev (a b c d : Int) (u : State) : State :=
        (((u.putFit (K.rhDevCout n) a).putFit (K.rhDevEsr n) b).putFit (K.rhDevPm n) c).putFit (K.rhDevFc n) d
      if x.isNone ∨ s.get K.rhFitMax < err then endRun 3 (dev 0 0 0 0 t)
      else if s.get (K.rhBaseValid n) = 1 ∧ (s.railE n).vsetUse = s.get (K.rhBaseVset n) then
        let t := dev (deviation (K.rhDevCout n) cout (s.get (K.rhBaseCout n)))
          (deviation (K.rhDevEsr n) esr (s.get (K.rhBaseEsr n))) (pm - s.getI (K.rhBasePm n))
          (deviation (K.rhDevFc n) fc (s.get (K.rhBaseFc n))) t
        endRun 1 (each (upto 8) (ageLevel n) t)
      else endRun 2 (dev 0 0 0 0 t)
    else s
  | none => s

/-- COMPUTE takes at most 20 ticks after the last point (R164): the last tick within them publishes. -/
def rhComputeTick (s : State) : State :=
  match s.rh.run with
  | some r => if r.since + 19000 < s.beat then doRhResults s else s
  | none => s

/-- What the engine does by itself at a beat (R163, R164). -/
def rhBeat (s : State) : State := if s.rh.run.isSome then doRhSettleDone (doRhPointAbandon s) else s

end Sys2Proof.Machine
end

