-- ==== Sys2Proof/Machine/Faults.lean ====
section
/-! DEFINITION. Recovery in the fault collector (R225, R226, R232 to R237): acknowledgement, the quiet count, release and
restart, the first-source latch, the lockout-clear job. -/

namespace Sys2Proof.Machine

/-! ## Acknowledgement (R225, R236) -/

/-- Bits of `FAULT.UNACK` clear in step 1: for the sources of steps 2 to 10 they are clear, and the classes taken in this beat
set again at its end. Bit 5 stays. -/
def acknowledge (mask : Nat) (s0 : State) : State :=
  let s := openBeat s0
  let m := mask &&& 0x1C
  let t := s.put K.faultUnack (clearMask (s.get K.faultUnack) m ||| s.fc.takenNow)
  { t with fc := { t.fc with unackAtStart := clearMask t.fc.unackAtStart m } }

/-- A write of `FAULT.ACK`. -/
def wrFaultAck (v : Nat) (s : State) : Written := accept (acknowledge v s)

/-- Every bit but bit 5 clears `FAULT.AUTO_ACK` × 1,000 ticks after the last release. -/
def doAutoAck (s : State) : State :=
  match s.fc.lastRelease with
  | some r =>
    let a := s.get K.faultAutoAck
    if a ≠ 0 ∧ r + a * 1000 ≤ s.tick then
      let t := openBeat s
      let t := (t.put K.faultUnack (t.get K.faultUnack &&& 0x20 ||| t.fc.takenNow)).flag K.faultStatus 0x80
      { t with fc := { t.fc with lastRelease := none } }
    else s
  | none => s

/-! ## Quiet count, release and restart (R232 to R235) -/

/-- A held source was taken since the last boundary, or one is active. -/
def State.faultBusy (s : State) : Bool := s.fc.takenHeld || s.fc.held.any (fun h => h.active)

/-- The quiet count at a tick. -/
def quietTick (s : State) : State :=
  let t := if s.fc.held.isEmpty then s
    else s.put K.faultQuietCnt (if s.faultBusy then 0 else s.get K.faultQuietCnt + 1)
  { t with fc := { t.fc with takenHeld := false } }

/-- The rails of `FAULT.AUTO_ON` that a release restarts (R234): in FAULT, in ACTIVE, with the sequencer IDLE. -/
def State.restartRails (s : State) : Nat :=
  if s.dev = .active ∧ s.seqState = .idle then
    maskOf ((upto 16).filter (fun n => s.rail n == .fault && s.bit K.faultAutoOn n))
  else 0

/-- A release restarts the device: it is in STANDBY, or an F4 power-down takes it there, with `DEV.AUTOSTART` 1. -/
def State.restartsDevice (s : State) : Bool := s.get K.devAutostart == 1 && (s.dev == .standby || s.fc.offCause)

/-- A release with restarts due: counted and made, or given up for good (R234, R235). -/
def restartAfter (rails : Nat) (device : Bool) (s : State) : State :=
  if rails = 0 ∧ device = false then s
  else if s.get K.faultRetryMax ≤ s.get K.faultRetryCnt then takeSource .fcRetryOut 0 s
  else
    let t := (s.bumpSat K.faultRetryCnt).flag K.faultStatus 0x10
    let t := { t with fc := { t.fc with restart := t.fc.restart ||| rails, restartDev := t.fc.restartDev || device } }
    if device && t.dev == .standby then
      { t with power := { t.power with autostartDue := true, since := t.tick }, fc := { t.fc with restartDev := false } }
    else t

/-- The quiet count has reached `FAULT.QUIET`: every held source is released (R233). -/
def releaseAt (quiet : Nat) (s : State) : State :=
  if !s.fc.held.isEmpty && s.get K.faultLockout == 0 && decide (s.get K.faultQuiet ≤ quiet) then
    restartAfter s.restartRails s.restartsDevice (releaseAll s)
  else s

/-- The quiet count reaches `FAULT.QUIET` at this tick, in whose step 4 it is one more. -/
def doRelease (s : State) : State := if s.faultBusy then s else releaseAt (s.get K.faultQuietCnt + 1) s

/-- The collector enables the rails it restarts at the first tick at which they are OFF (R234). -/
def doAutoRestartEnable (s : State) : State :=
  if s.dev = .active then
    each ((maskList 16 s.fc.restart).filter (fun n => s.rail n == .off)) (fun n u =>
      railEnable n { u with fc := { u.fc with restart := withBit u.fc.restart n false } }) s
  else s

/-- Restarts that have lost their ground: the rail has left OFF and DISCHARGE, or the device ACTIVE and DOZE. -/
def restartTick (s : State) : State :=
  let keep := if s.dev = .active ∨ s.dev = .doze then
      maskOf ((maskList 16 s.fc.restart).filter (fun n => s.rail n == .off || s.rail n == .discharge))
    else 0
  { s with fc := { s.fc with restart := keep } }

/-- `FAULT.RETRY_WIN` passes without a source of class F2 or higher (R235). -/
def doRetryWinExpire (s : State) : State :=
  if s.fc.lastSevere + s.get K.faultRetryWin * 1000000 ≤ s.beat then s.put K.faultRetryCnt 0 else s

/-! ## The latch (R226) -/

/-- A write of `FAULT.REARM`. -/
def wrFaultRearm (v : Nat) (s : State) : Written :=
  if v ≠ 1 then refuse Abort.value s
  else if !s.fc.held.isEmpty then refuse Abort.state s
  else accept (((((((s.put K.faultFirstValid 0).put K.faultFirstSrc 0).put K.faultFirstRaised 0).put
    K.faultFirstClass 0).put K.faultFirstBeat 0).put K.faultFirstTime 0).put K.faultFirstOvf 0)

/-! ## Lockout (R237) -/

/-- A write of `FAULT.LOCKOUT_CLEAR`. -/
def wrLockoutClear (port : Port) (v : Nat) (s : State) : Written :=
  if v ≠ 0x5A3C then refuse Abort.value s
  else if s.get K.faultLockout = 0 then refuse Abort.state s
  else startJob port K.faultLockoutClear (fun i t => { t with fc := { t.fc with clearJobs := t.fc.clearJobs ++ [i] } }) s

/-- The lockout-clear job acts in step 4: it releases everything, clears UNACK, the recovery counter and the flag. The classes taken in this
beat set their bits again at its end, and its later sources are still judged by the old bits (R225). An entry into LOCKOUT that is still
due at that tick lapses, and the release makes no restart (DESIGN CHOICE, assumption 134). -/
def lockoutClearTick (s : State) : State :=
  if s.fc.clearJobs.isEmpty then s
  else
    let t := openBeat (if s.fc.held.isEmpty then s else releaseAll s)
    let t := ((t.put K.faultUnack t.fc.takenNow).put K.faultRetryCnt 0).put K.faultLockout 0
    let t := each t.fc.clearJobs (fun i u => jobEnd i .done 0 u) t
    { t with fc := { t.fc with clearJobs := [], lockoutDue := false } }

/-! ## Publication -/

/-- `FAULT.STATE` (R242). -/
def showFault (s : State) : State :=
  let t := showHeld s
  t.put K.faultState
    (if t.get K.faultLockout = 1 then 3 else if t.fc.held.isEmpty then 0
     else if t.get K.faultQuietCnt = 0 then 1 else 2)

end Sys2Proof.Machine
end

