-- ==== Sys2Proof/Machine/Thermal.lean ====
section
/-! DEFINITION. The thermal manager (R498 to R504) and the choice of a rail to shed (R75, R501). -/

namespace Sys2Proof.Machine

/-! ## Shedding -/

/-- A rail that a shed can take: SOFTSTART, ON or SLEWING (DEDUCED, assumption 25). -/
def RailState.sheddable : RailState → Bool
  | .softstart | .on | .slewing => true
  | _ => false

/-- The rail below `top` that a shed takes: on, the highest `BUDGET.PRIO` from 1 to 7, the highest number among equals; never
an always-on L0 (R75, R136, R501). -/
def State.shedChoice (s : State) (top : Nat) : Option Nat :=
  ((upto top).filter (fun n => (s.rail n).sheddable && !s.alwaysOn n && s.get (K.budgetPrio n) != 0)).foldl
    (fun best n =>
      match best with
      | some m => if s.get (K.budgetPrio m) ≤ s.get (K.budgetPrio n) then some n else some m
      | none => some n) none

/-! ## Sensors (R498) -/

/-- Insertion into a rising list. -/
def insertInt (x : Int) : List Int → List Int
  | [] => [x]
  | y :: t => if x ≤ y then x :: y :: t else y :: insertInt x t

def sortInt : List Int → List Int
  | [] => []
  | x :: t => insertInt x (sortInt t)

/-- Twice the median of twelve readings: the sum of the two in the middle (DEDUCED, assumption 151). -/
def median2 (l : List Int) : Int :=
  let r := sortInt l
  r.getD 5 0 + r.getD 6 0

/-- Whether sensor `x` is excluded. -/
def State.excluded (s : State) (x : Nat) : Bool := s.bit K.thermExcluded x

/-- Sensor `x` is out of use: it is excluded, or has been counted for 10 ticks, which excludes it in step 4 of this tick. -/
def State.outOfUse (s : State) (x : Nat) : Bool := s.excluded x || decide (10 ≤ s.therm.counts.toArray.getD x 0)

/-- The twelve readings after replacement: a sensor that is out of use reads as the highest of the others. With none left the spec
states no value (assumption 23). -/
def State.dieReadings (s : State) (raw : List Int) : List Int :=
  let good := ((upto 12).filter (fun x => !s.outOfUse x)).map (nthI raw)
  let top := good.foldl max (good.headD (toInt 16 (Config.unstated K.thermTj 0 % 2 ^ 16)))
  (upto 12).map (fun x => if s.outOfUse x then top else nthI raw x)

/-- The highest reading and the lowest sensor that gives it. -/
def hottest (l : List Int) : Int × Nat :=
  let top := l.foldl max (l.headD 0)
  (top, (l.findIdx? (fun x => x == top)).getD 0)

/-- The count of ticks that each sensor has been far from the median. -/
def countDies (l : List Int) (s : State) : State :=
  let m := median2 l
  let far (x : Nat) : Bool := decide (300 < |2 * nthI l x - m|) && !s.excluded x
  { s with therm := { s.therm with
    counts := Vector.ofFn (fun x : Fin 12 => if far x.val then s.therm.counts.toArray.getD x.val 0 + 1 else 0) } }

/-- The sensors in step 3: the counts, then the readings and TJ with every sensor replaced that is out of use. -/
def thermSample (i : TickInputs) (s : State) : State :=
  let t := countDies (s.dieReadings i.dies) s
  let l := t.dieReadings i.dies
  let h := hottest l
  let t := each (upto 12) (fun x u => u.putFit (K.thermSensor x) (nthI l x)) t
  let t := (t.putFit K.thermTj h.1).put K.thermHotSensor h.2
  if t.getI K.thermTjMax < h.1 then t.putFit K.thermTjMax h.1 else t

/-- A sensor is excluded until the next boot. -/
def doThermSensor (x : Nat) (s : State) : State :=
  if s.coreUp ∧ 10 ≤ s.therm.counts.toArray.getD x 0 ∧ s.excluded x = false then
    takeSource .thermSensor x ((s.putBit K.thermExcluded x true).flag K.thermStatus 0x10)
  else s

def execThermSensor (x : Fin 12) (s : State) : Host.Outcome State Fault Refusal := event (doThermSensor x.val) s

/-! ## Levels (R499, R500, R503) -/

/-- The modelled dissipation: the loss of the tables and the exact LDO loss. -/
def pdissTick (i : TickInputs) (s : State) : State :=
  let ldo := (upto 4).foldl (fun a l => a + s.get (K.ldoPdiss l)) 0
  let t := s.putFit K.thermPdiss (i.loss + ldo)
  let hit := decide (t.get K.thermPMax < t.get K.thermPdiss)
  let u := { t with therm := { t.therm with pdissOver := hit } }
  if hit && !s.therm.pdissOver then raiseLater .thermPdiss 0 (u.flag K.thermStatus 0x20)
  else if !hit && s.therm.pdissOver then endCondition (SrcKind.thermPdiss.number 0) u
  else u

/-- `THERM_WARN`, ended 5 °C below its level, and `THERM_TSD`, ended 15 °C below, those levels included (R503, DEDUCED,
assumption 105). -/
def thermLevels (s : State) : State :=
  let tj := s.getI K.thermTj
  let t := if !s.therm.warned && decide (s.getI K.thermWarn ≤ tj) then
      raiseLater .thermWarn 0 ({ s with therm := { s.therm with warned := true } }.flag K.thermStatus 2)
    else if s.therm.warned && decide (tj ≤ s.getI K.thermWarn - 50) then
      endCondition (SrcKind.thermWarn.number 0) { s with therm := { s.therm with warned := false } }
    else s
  if !t.therm.tsdOver && decide (t.getI K.thermSd ≤ tj) then
    let u := { t with therm := { t.therm with tsdOver := true } }.flag K.thermStatus 8
    raiseLater .thermTsd 0 (railsFault (upto 16) (SrcKind.thermTsd.number 0) 0xFF u)
  else if t.therm.tsdOver && decide (tj ≤ t.getI K.thermSd - 150) then
    endCondition (SrcKind.thermTsd.number 0) { t with therm := { t.therm with tsdOver := false } }
  else t

/-- The charger's thermal limit and the shed count (R500). -/
def throttleTick (s : State) : State :=
  let lim := s.get K.chgITherm
  let step := s.get K.thermIStep
  let clear := decide (s.getI K.thermTj < s.getI K.thermThr - s.get K.thermHyst ∧
    s.get K.thermPdiss ≤ s.get K.thermPMax)
  if s.thermOver then
    let t := s.put K.chgITherm (lim - step)
    let t := if lim = 10000 then raiseLater .thermThrottle 0 (t.flag K.thermStatus 1) else t
    if lim - step = 0 then { t with therm := { t.therm with shedCount := t.therm.shedCount + 1 } } else t
  else if clear then
    { s.put K.chgITherm (min 10000 (lim + step)) with therm := { s.therm with shedCount := 0 } }
  else s

/-- `THERM.STAGE`. -/
def thermStage (s : State) : State :=
  s.put K.thermStage
    (if s.fc.held.any (fun h => h.src == SrcKind.thermTsd.number 0) then 3
     else if s.get K.thermShedMask ≠ 0 then 2
     else if s.get K.chgITherm < 10000 then 1 else 0)

/-- The thermal manager's levels and limit in step 7; its sources wait for the end of the step (R223). -/
def thermTick (i : TickInputs) (s : State) : State := throttleTick (thermLevels (pdissTick i s))

/-- `THERM.SHED_TICKS` ticks over at a limit of 0: one rail is shed (R501). With none to shed only the count restarts. -/
def doThermShed (s : State) : State :=
  if s.coreUp ∧ s.thermOver ∧ s.get K.chgITherm = 0 ∧ s.get K.thermShedTicks ≤ s.therm.shedCount then
    let t := { s with therm := { s.therm with shedCount := 0 } }
    match s.shedChoice 16 with
    | some n =>
      raiseLater .thermShed n (railShed n 6 true ((t.putBit K.thermShedMask n true).flag K.thermStatus 4))
    | none => t
  else s

/-- The end of step 7: the sources that waited, in ascending number, and the stage that they leave (R223, R503). -/
def thermEnd (s : State) : State := thermStage (collectDue s)

def execThermShed (s : State) : Host.Outcome State Fault Refusal := event (fun t => thermEnd (doThermShed t)) s

end Sys2Proof.Machine
end

