-- ==== Sys2Proof/Machine/Path.lean ====
section
/-! DEFINITION. The power path (R247 to R251) and what both it and the charger's cycle share: the charger's state changes,
the end of reverse mode, and the estimator's notice of the pack. -/

namespace Sys2Proof.Machine

/-! ## The charger's states (R255) -/

def State.chgState (s : State) : ChgState := ChgState.ofCode (s.get K.chgState)

/-- Charging: PRECHARGE, CC or CV. -/
def ChgState.charging : ChgState → Bool
  | .precharge | .cc | .cv => true
  | _ => false

/-- States in which the converter may run for the pack: a charge stop acts in them (R255, R268). -/
def ChgState.stoppable : ChgState → Bool
  | .detect | .precharge | .cc | .cv | .reverse => true
  | _ => false

/-- States that lose their input to NO_SOURCE (R255). -/
def ChgState.needsInput : ChgState → Bool
  | .detect | .precharge | .cc | .cv | .done => true
  | _ => false

/-- Entry into one of these wakes the estimator (R284). -/
def ChgState.wakes : ChgState → Bool
  | .detect | .precharge | .cc | .cv | .reverse => true
  | _ => false

/-- A charge cycle begins (R255, R260). -/
def beginCycle (s : State) : State :=
  let t := ((s.put K.chgCycleFlags 0).put K.chgChargeIn 0).flag K.chgStatus 1
  { t with chg := { t.chg with inCycle := true, accPre := 0, absPre := 0, accFast := 0, absFast := 0, chargeAcc := 0 } }

/-- The charger takes a state: counts restart, the cycle begins, is interrupted or ends (R255). -/
def setChg (x : ChgState) (s : State) : State :=
  let t := s.put K.chgState x.code
  let t := { t with chg := { t.chg with
    fresh := true, stateTicks := 0, preTicks := 0, cvTicks := 0, rechgTicks := 0, eocTicks := 0, revLowTicks := 0, revShortTicks := 0,
    probing := s.chg.probing && x.charging, collapse := if x.charging then s.chg.collapse else 0,
    shortBeats := if x.charging then s.chg.shortBeats else 0 } }
  let t := if x.wakes then { t with est := { t.est with wakeDue := true } } else t
  let t := if x = .suspend then { t.flag K.chgStatus 4 with chg := { t.chg with regainTicks := 0 } } else t
  if x = .detect then (if t.chg.inCycle then t else beginCycle t)
  else if t.chg.inCycle then
    match x with
    | .done =>
      { (t.bump K.chgCycleCnt).flag K.chgStatus 2 with chg := { t.chg with inCycle := false } }
    | .missing | .fault | .off => { t with chg := { t.chg with inCycle := false } }
    | .noSource | .suspend | .reverse => t.put K.chgCycleFlags (t.get K.chgCycleFlags ||| 8)
    | _ => t
  else t

/-- A stop of reverse mode leaves its cause (R267). -/
def revMark (cause : Nat) (s : State) : State :=
  if s.chgState = .reverse then (s.put K.revStopCause cause).flag K.chgStatus 0x200 else s

/-- Reverse mode stops with a cause (R267): to DETECT while VIN feeds VSYS, else to NO_SOURCE. -/
def revEnd (cause : Nat) (s : State) : State :=
  if s.chgState = .reverse then
    setChg (if s.get K.pathSource = 1 then .detect else .noSource) (revMark cause s)
  else s

/-! ## Levels (R250, R252) -/

def State.profile (s : State) : Profile := Profile.ofCode (s.get K.chgProfile)
def State.cells (s : State) : Nat := s.get K.chgCells

/-- A per-cell entry, or the profile's value where it is 0. -/
def orElse (v p : Nat) : Nat := if v = 0 then p else v

def State.cvTarget (s : State) : Nat := orElse (s.get K.chgCvCell) s.profile.cv * s.cells
def State.rechargeLevel (s : State) : Nat := s.cvTarget - orElse (s.get K.chgRechgCell) s.profile.drop * s.cells
def State.preLevel (s : State) : Nat := s.profile.pre * s.cells
def State.shortLevel (s : State) : Nat := s.profile.short * s.cells
def State.cutoffLevel (s : State) : Nat := orElse (s.get K.pathCutoffCell) s.profile.cutoff * s.cells
def State.ovLevel (s : State) : Nat := s.profile.ov * s.cells
def State.restartLevel (s : State) : Nat := s.cutoffLevel + s.cells * s.get K.pathRestartCell

/-! ## Sources of VSYS (R247, R248) -/

/-- BAT is valid: the charger is not in MISSING and the cutoff latch is clear. -/
def State.batValid (s : State) : Bool := s.chgState != .missing && !s.bk.cutoff

def State.sourceValid (s : State) (x : Nat) : Bool :=
  if x = 1 then s.path.vinValid else if x = 2 then s.path.auxValid else if x = 3 then s.batValid else false

/-- The sources in the order of `PATH.PRIO`. -/
def State.prioOrder (s : State) : List Nat := if s.get K.pathPrio = 1 then [2, 1, 3] else [1, 2, 3]

/-- The first valid source; 0 with none. -/
def State.firstValid (s : State) : Nat := ((s.prioOrder).find? s.sourceValid).getD 0

/-- Place of a source in the priority order; none comes last. -/
def State.rank (s : State) (x : Nat) : Nat := ((s.prioOrder).findIdx? (fun y => y == x)).getD 3

/-- The path of a source is enabled by the selection: it is the selected one, or the one left in this beat, which is disabled in the
next (R248). -/
def State.pathOn (s : State) (x : Nat) : Bool := s.get K.pathSource == x || s.path.leaving == x

/-- `PATH.GATES` (R276). -/
def showGates (s : State) : State :=
  let src := s.get K.pathSource
  let wall := src == 1 || src == 2
  let bat := s.batValid && (s.pathOn 3 || (wall && s.path.batOn))
  let rev := s.chgState == .reverse
  let b (c : Bool) (i : Nat) : Nat := if c then 2 ^ i else 0
  s.put K.pathGates (b (s.pathOn 1) 0 + b (s.pathOn 2) 1 + b (wall && s.batValid && !s.path.batOn) 2 + b bat 3 +
    b (s.get K.chgInput == 1 && !rev) 4 + b (s.get K.chgInput == 2 || rev) 5 + b s.bk.cutoff 6)

/-- The selection takes a source: its path is on at once, the old one is off in the next beat; reverse mode ends where VIN is left,
charging from VSYS where BAT takes over (R248, R254, R255, R267). -/
def select (x : Nat) (s : State) : State :=
  let t := (s.put K.pathSource x).bump K.pathSwitchCnt
  let t := { t with path := { t.path with batOn := t.path.batOn && x != 3, leaving := s.get K.pathSource } }
  let t := if x ≠ 1 then revEnd 2 t else t
  if (x = 3 ∨ x = 0) ∧ t.get K.chgInput = 1 then
    let u := (t.put K.chgInput 0).flag K.chgStatus 0x80
    showGates (if u.chgState.needsInput then setChg .noSource u else u)
  else showGates t

/-- The selected source has become invalid: the path moves down to the next valid one in the same beat (R248). -/
def pathDown (s : State) : State :=
  if s.get K.pathSource ≠ 0 ∧ s.sourceValid (s.get K.pathSource) = false then
    raiseLater .pathSwitch 0 (select s.firstValid (s.flag K.pathStatus 1))
  else s

/-- The path moves up to a valid source of higher priority (R248). -/
def pathUp (s : State) : State :=
  let x := s.firstValid
  if x ≠ 0 ∧ s.rank x < s.rank (s.get K.pathSource) then select x (s.flag K.pathStatus 2) else s

/-- The path of a source left in the last beat is disabled (R248). -/
def pathBeat (s : State) : State :=
  if s.path.leaving = 0 then s else showGates { s with path := { s.path with leaving := 0 } }

/-- The device runs, so the path chooses. -/
def State.pathRuns (s : State) : Bool := s.fastUp

/-- The outcome of an event of the path or the charger: its sources are taken in ascending number (R223). -/
def pathEvent (f : State → State) (s : State) : Host.Outcome State Fault Refusal := event (fun t => collectDue (f t)) s

/-- VIN and AUXIN that have been in their range for `PATH.QUAL` ticks are valid (R247). -/
def qualify (s : State) : State :=
  let q := s.get K.pathQual
  { s with path := { s.path with
    vinValid := s.path.vinValid || decide (q ≤ s.path.vinQual), auxValid := s.path.auxValid || decide (q ≤ s.path.auxQual) } }

/-- A source has qualified for `PATH.QUAL` ticks, BAT without: the path moves up to it (R248). -/
def doPathSourceValid (x : PathSource) (s : State) : State :=
  let q := s.get K.pathQual
  if s.pathRuns then
    match x with
    | .vin => if q ≤ s.path.vinQual then pathUp { s with path := { s.path with vinValid := true } } else s
    | .auxin => if q ≤ s.path.auxQual then pathUp { s with path := { s.path with auxValid := true } } else s
    | .bat => pathUp s
    | .none => s
  else s

def execPathSourceValid (src : PathSource) (s : State) : Host.Outcome State Fault Refusal :=
  pathEvent (doPathSourceValid src) s

/-- VIN or AUXIN is no longer valid. -/
def dropSource (x : Nat) (s : State) : State :=
  if x = 1 then { s with path := { s.path with vinValid := false, vinQual := 0 } }
  else if x = 2 then { s with path := { s.path with auxValid := false, auxQual := 0 } }
  else s

/-- The path of a source is off at once, whatever the selection: its overvoltage comparator (R247). -/
def cutPath (x : Nat) (s : State) : State :=
  let t := pathDown (dropSource x s)
  if t.path.leaving = x then showGates { t with path := { t.path with leaving := 0 } } else t

/-- VIN at a comparator sample reaches `PATH.VIN_OVP` (R247). -/
def vinOver (mv : Nat) (s : State) : State :=
  when (s.get K.pathVinOvp != 0 && decide (s.get K.pathVinOvp ≤ mv)) (fun t => cutPath 1 (t.flag K.pathStatus 0x20)) s

/-- AUXIN at a comparator sample is above 64,000 mV (R247). -/
def auxOver (mv : Nat) (s : State) : State :=
  when (decide (64000 < mv)) (fun t => raiseLater .pathAuxOv 0 (cutPath 2 (t.flag K.pathStatus 0x10))) s

/-- A pin of VIN or AUXIN has been below 15,500 mV for a number of beats (R247). -/
def pinLow (x mv beats : Nat) (s : State) : State :=
  when (decide (mv < 15500 ∧ 4 ≤ beats)) (fun t => pathDown (dropSource x t)) s

/-- A source becomes invalid at a beat by R247; the path moves down where it was selected (R248). -/
def doPathSwitch (x : PathSource) (mv beats : Nat) (s : State) : State :=
  if s.pathRuns then
    match x with
    | .vin => pinLow 1 mv beats (vinOver mv s)
    | .auxin => pinLow 2 mv beats s
    | .bat => pathDown s
    | .none => s
  else s

def execPathSwitch (src : PathSource) (mv beats : Nat) (s : State) : Host.Outcome State Fault Refusal :=
  pathEvent (doPathSwitch src mv beats) s

/-- AUXIN above 64,000 mV: its path turns off (R247, R268). -/
def doPathAuxOv (mv : Nat) (s : State) : State := if s.pathRuns then auxOver mv s else s

def execPathAuxOv (mv : Nat) (s : State) : Host.Outcome State Fault Refusal := pathEvent (doPathAuxOv mv) s

/-! ## Takeover by the pack (R249) -/

/-- The armed BAT path is enabled where VSYS or the selected source is below V_take. -/
def doBatTakeover (mv : Nat) (s : State) : State :=
  let src := s.get K.pathSource
  if s.pathRuns ∧ (src = 1 ∨ src = 2) ∧ s.batValid ∧ s.path.batOn = false ∧ mv < s.get K.pathVTake then
    showGates { s.flag K.pathStatus 4 with path := { s.path with batOn := true } }
  else s

def execBatTakeover (mv : Nat) (s : State) : Host.Outcome State Fault Refusal := event (doBatTakeover mv) s

/-- The BAT path disarms once the selected source's pin has been 1,000 mV above V_take for 100 beats: it is off and armed again. -/
def doBatDisarm (mv beats : Nat) (s : State) : State :=
  let src := s.get K.pathSource
  if s.pathRuns ∧ (src = 1 ∨ src = 2) ∧ s.get K.pathVTake + 1000 ≤ mv ∧ 100 ≤ beats then
    showGates { s with path := { s.path with batOn := false } }
  else s

def execBatDisarm (mv beats : Nat) (s : State) : Host.Outcome State Fault Refusal := event (doBatDisarm mv beats) s

/-- The BAT path conducts. -/
def State.batPathOn (s : State) : Bool := s.batValid && (s.get K.pathSource == 3 || s.path.batOn)

/-! ## Cutoff (R250) -/

/-- VBAT has been below the cutoff level for `PATH.CUTOFF_TICKS` ticks: the latch sets, the BAT path turns off. -/
def doPathBatCutoff (s : State) : State :=
  if s.pathRuns ∧ s.batPathOn ∧ s.get K.pathCutoffTicks ≤ s.path.cutoffTicks then
    let t := { s.flag K.pathStatus 8 with
      bk := { s.bk with cutoff := true }, path := { s.path with batOn := false, cutoffTicks := 0 } }
    showGates (pathDown (raiseLater .pathBatCutoff 0 t))
  else s

def execPathBatCutoff (s : State) : Host.Outcome State Fault Refusal := pathEvent doPathBatCutoff s

/-- The latch clears at the restart level. -/
def cutoffTick (s : State) : State :=
  let v := s.get K.chgVbat
  if s.bk.cutoff then
    if s.restartLevel ≤ v then { s with bk := { s.bk with cutoff := false } } else s
  else
    { s with path := { s.path with
      cutoffTicks := if s.batPathOn && decide (v < s.cutoffLevel) then s.path.cutoffTicks + 1 else 0 } }

/-! ## Outside the main-domain states (R251) -/

/-- The VIN and AUXIN paths that conduct as diodes while the main domain does not run. -/
def State.diodesAt (s : State) (vin auxin : Nat) : BitVec 2 :=
  BitVec.ofNat 2 ((if 16000 ≤ vin ∧ vin ≤ 80000 then 1 else 0) +
    (if s.bk.auxSys ∧ 16000 ≤ auxin ∧ auxin ≤ 64000 then 2 else 0))

/-- The diode paths follow VIN and AUXIN. -/
def diodeTick (i : TickInputs) (s : State) : State := { s with path := { s.path with diodes := s.diodesAt i.vin i.auxin } }

/-- WAKE_N, or an RTC alarm, in OFF or BACKUP starts the pack where the copies in the backup domain allow it. -/
def doBatteryStart (alarm : Bool) (vbat : Nat) (s : State) : State :=
  let asked := if alarm then s.bk.alarmDue else s.pins.wake
  if s.dev.main = false ∧ asked ∧ s.bk.batStart ∧ s.bk.cutoff = false ∧ s.bk.restartLevel ≤ vbat then
    { s with path := { s.path with batOn := true, batStarted := true } }
  else s

def execBatteryStart (alarm : Bool) (vbat : Nat) (s : State) : Host.Outcome State Fault Refusal :=
  event (doBatteryStart alarm vbat) s

/-! ## The tick -/

/-- The mean of a history, truncated. -/
def meanOf (l : List Nat) : Nat := if l.isEmpty then 0 else l.sum / l.length

/-- The path's readings in step 3. -/
def pathSample (i : TickInputs) (s : State) : State :=
  let t := (s.putFit K.pathVin i.vin).putFit K.pathAuxin i.auxin
  { t with path := { t.path with
    vinHist := (i.vin :: t.path.vinHist).take 1000, auxHist := (i.auxin :: t.path.auxHist).take 1000 } }

/-- VIN, AUXIN and the harvest qualify (R247, R254); a source that fell in this tick is invalid. -/
def qualifyTick (i : TickInputs) (s : State) : State :=
  let ovp := s.get K.pathVinOvp
  let vin := decide (16000 ≤ i.vin) && (ovp == 0 || decide (i.vin < ovp))
  let aux := s.get K.pathAuxSysEn == 1 && s.chgState != .reverse && decide (16000 ≤ i.auxin ∧ i.auxin ≤ 64000)
  let hv := s.get K.mpptEn == 1 && decide (10000 ≤ i.auxin ∧ i.auxin ≤ 80000)
  let up (c : Bool) (n : Nat) : Nat := if c then n + 1 else 0
  let hq := up hv s.path.harvestQual
  let t := { s with path := { s.path with
    vinQual := up vin s.path.vinQual, auxQual := up aux s.path.auxQual, harvestQual := hq,
    harvestValid := s.get K.mpptEn == 1 && (s.path.harvestValid || decide (s.get K.pathQual ≤ hq)) } }
  let t := if i.harvestLow < 4 then t else { t with path := { t.path with harvestValid := false, harvestQual := 0 } }
  let t := pinLow 2 0 i.auxLow (auxOver i.auxMax t)
  qualify (pinLow 1 0 i.vinLow (vinOver i.vinMax t))

/-- V_take of the selected source (R249). -/
def takeLevel (s : State) : State :=
  let mean := if s.get K.pathSource = 1 then meanOf s.path.vinHist
    else if s.get K.pathSource = 2 then meanOf s.path.auxHist else 0
  s.putFit K.pathVTake (orElse (s.get K.pathTakeLevel) (mean * 90 / 100))

/-- The power path in step 7: falls first, the cutoff, one move up for what has qualified, V_take last (R247 to R250). -/
def pathTick (i : TickInputs) (s : State) : State :=
  let t := doPathBatCutoff (cutoffTick (qualifyTick i s))
  showGates (takeLevel (pathUp (pathDown t)))

end Sys2Proof.Machine
end

