-- ==== Sys2Proof/Machine/Charger.lean ====
section
/-! DEFINITION. The charger (R254 to R270): pack temperature, the charge cycle, limits and timers, removal, harvest, reverse
mode and its faults. -/

namespace Sys2Proof.Machine

/-! ## Pack temperature (R258, R281) -/

/-- The reading of an NTC in 0.1 °C, truncated toward 0 (R281; fixed point, assumption 9); none where the formula has no value. -/
def ntcTemp (ohm rnom beta : Nat) : Option Int :=
  if ohm = 0 ∨ rnom = 0 ∨ beta = 0 then none
  else
    let inv : Int := (Fixed.one : Int) * 100 / 29815 + Fixed.ln ohm rnom / beta
    if inv ≤ 0 then none else some (truncDiv ((Fixed.one : Int) * 20 / inv - 5463) 2)

/-- NTC `j` is enabled. -/
def State.ntcOn (s : State) (j : Nat) : Bool := s.bit K.estNtcEn j

/-- The reading of NTC `j` at a tick. -/
def State.ntcRead (s : State) (i : TickInputs) (j : Nat) : Option Int :=
  ntcTemp (nthN i.ntcOhm j) (s.get K.estNtcRnom) (s.get K.estNtcBeta)

/-- A reading lies within −40.0 to +125.0 °C. -/
def ntcInRange (t : Option Int) : Bool := match t with | some x => decide (-400 ≤ x ∧ x ≤ 1250) | none => false

/-- The reading of NTC `j` joins the epoch's mean (R281). -/
def ntcCount (i : TickInputs) (j : Nat) (s : State) : State :=
  match s.ntcRead i j with
  | some t => { s with est := { s.est with
      ntcSum := s.est.ntcSum.setIfInBounds j (s.est.ntcSum.toArray.getD j 0 + t)
      ntcNum := s.est.ntcNum.setIfInBounds j (s.est.ntcNum.toArray.getD j 0 + 1) } }
  | none => s

/-- One NTC at a tick: `EST_NTC`, which step 4 takes, as it turns faulty, good again after 10 ticks inside the range (R281). -/
def ntcTick (i : TickInputs) (j : Nat) (s : State) : State :=
  let ok := ntcInRange (s.ntcRead i j)
  let bad := s.est.ntcFaulty.getLsbD j
  let n := s.est.ntcGood.toArray.getD j 0 + 1
  let m : BitVec 4 := BitVec.ofNat 4 (2 ^ j)
  let count (c : Nat) (t : State) : State := { t with est := { t.est with ntcGood := t.est.ntcGood.setIfInBounds j c } }
  if s.ntcOn j = false then count 0 <| endCondition (SrcKind.estNtc.number j) { s with est := { s.est with ntcFaulty := s.est.ntcFaulty &&& ~~~m } }
  else if ok then
    if bad && decide (10 ≤ n) then count 0 <| endCondition (SrcKind.estNtc.number j) { s with est := { s.est with ntcFaulty := s.est.ntcFaulty &&& ~~~m } }
    else count n s
  else if bad then count 0 s
  else count 0 (raiseLater .estNtc j { s with est := { s.est with ntcFaulty := s.est.ntcFaulty ||| m } })

/-- The readings of the enabled inputs that are not faulty. -/
def State.packTemps (s : State) (i : TickInputs) : List Int :=
  ((upto 4).filter (fun j => s.ntcOn j && !s.est.ntcFaulty.getLsbD j)).filterMap (s.ntcRead i)

/-- An NTC input is usable. -/
def State.hasTemp (s : State) : Bool := (upto 4).any (fun j => s.ntcOn j && !s.est.ntcFaulty.getLsbD j)

/-- The pack temperature stays within two bounds. -/
def State.packWithin (s : State) (lo hi : Int) : Bool :=
  s.hasTemp && decide (lo ≤ s.getI K.chgTPackMin ∧ s.getI K.chgTPackMax ≤ hi)

/-- The charger's readings in step 3. I_ref of a collapse under way stays (R262, DEDUCED, assumption 126). -/
def chargerSample (i : TickInputs) (s : State) : State :=
  let t := ((s.putFit K.chgVbat i.vbat).putFit K.chgIbat i.ibat).putFit K.revIOut i.revIout
  let t := { t with
    chg := { t.chg with iRef := if s.chg.collapse = 0 then i.ibat - truncDiv s.est.pertSum 1000000 else s.chg.iRef }
    est := { t.est with pertSum := 0 } }
  let t := each (upto 4) (ntcCount i) t
  let t := each (upto 4) (ntcTick i) t
  let l := t.packTemps i
  if t.chgState = .off ∨ l.isEmpty then t
  else (t.putI K.chgTPackMax (l.foldl max (l.headD 0))).putI K.chgTPackMin (l.foldl min (l.headD 0))

/-! ## The pack for the estimator (R303, R304) -/

/-- The pack is gone: the charger enters MISSING, the BAT path is off. -/
def packLost (s : State) : State :=
  let t := setChg .missing s
  pathDown { t with est := { t.est with packGone := true }, path := { t.path with batOn := false } }

/-- DETECT found a pack: the estimator may return, with the open-circuit reading. -/
def packFound (s : State) : State :=
  { s with est := { s.est with packBack := true, detOpen := some (s.chg.vOpen, s.clock.epochs) } }

/-! ## DETECT (R256, R264) -/

/-- The code of a PACKID voltage in mV. -/
def packCode (v : Nat) : Nat := if 2175 ≤ v then 15 else min 14 ((2 * v + 150) / 300)

/-- PACKID is read where a pack was found. -/
def readPackid (v : Nat) (s : State) : State :=
  if s.get K.chgPackidEn = 1 then
    let c := packCode v
    let t := s.put K.chgPackid c
    if c = t.get K.chgPackidLast then t
    else
      let t := (t.put K.chgPackidLast c).flag K.chgStatus 0x20
      raiseLater .chgPackChanged 0 { t with est := { t.est with packChanged := true } }
  else s

/-- A charge stop (R268): the latch bit and the source in every state, FAULT from the states of R255 that lead there. -/
def chargeStop (k : SrcKind) (bit : Nat) (s : State) : State :=
  let t := s.flag K.chgFault bit
  let t := if t.chgState = .reverse then t.flag K.chgStatus 0x200 else t
  raiseLater k 0 (when t.chgState.stoppable (setChg .fault) t)

/-- DETECT decides (R256): DONE after the 10 open ticks, else at the end of the 20 probe ticks. -/
def doDetectDone (packid : Nat) (s : State) : State :=
  let v := s.get K.chgVbat
  let i := s.getI K.chgIbat
  if s.coreUp ∧ s.chgState = .detect then
    if 10 ≤ s.chg.stateTicks ∧ s.rechargeLevel ≤ s.chg.vOpen then readPackid packid (packFound (setChg .done s))
    else if 30 ≤ s.chg.stateTicks then
      if s.chg.vOpen + 2000 ≤ v ∨ (s.cvTarget ≤ v + 100 ∧ i < 50) then
        raiseLater .chgBatMissing 0 (packLost (s.flag K.chgStatus 8))
      else if v < s.shortLevel ∧ 90 ≤ i then chargeStop .chgBatShort 8 s
      else readPackid packid (packFound (setChg (if v < s.preLevel then .precharge else .cc) s))
    else s
  else s

def execDetectDone (packid : Nat) (s : State) : Host.Outcome State Fault Refusal := pathEvent (doDetectDone packid) s

/-! ## The cycle (R255 to R258) -/

/-- A change of state whose condition has held long enough. -/
def chgStep (from_ into : ChgState) (ok : Bool) (s : State) : State :=
  if s.coreUp && s.chgState == from_ && ok then setChg into s else s

def doPrechargeDone (s : State) : State := chgStep .precharge .cc (decide (10 ≤ s.chg.preTicks)) s
/-- The voltage loop takes control at the CV target, which a removal probe lowers for its time (R255, R262). -/
def doCvEntry (s : State) : State := chgStep .cc .cv (!s.chg.probing) s
def doCvToCc (s : State) : State := chgStep .cv .cc (decide (10 ≤ s.chg.cvTicks)) s
def doRecharge (s : State) : State := chgStep .done .detect (decide (100 ≤ s.chg.rechgTicks)) s

/-- PRECHARGE_DONE (R255). -/
def execPrechargeDone (s : State) : Host.Outcome State Fault Refusal := event doPrechargeDone s
/-- CV_ENTRY (R255). -/
def execCvEntry (s : State) : Host.Outcome State Fault Refusal := event doCvEntry s
/-- CV_TO_CC (R255). -/
def execCvToCc (s : State) : Host.Outcome State Fault Refusal := event doCvToCc s
/-- RECHARGE (R255). -/
def execRecharge (s : State) : Host.Outcome State Fault Refusal := event doRecharge s

/-- End of charge (R257); a full-charge anchor follows (R292). -/
def doEndOfCharge (s : State) : State :=
  if s.coreUp ∧ s.chgState = .cv ∧ s.get K.chgEocTicks ≤ s.chg.eocTicks then
    let t := setChg .done s
    { t with est := { t.est with fullDue := true } }
  else s

def execEndOfCharge (s : State) : Host.Outcome State Fault Refusal := event doEndOfCharge s

/-- The window is regained (R258). -/
def regainTemp (s : State) : State :=
  endCondition (SrcKind.chgTemp.number 0) { s with chg := { s.chg with tempOut := false } }

def doChgTempRegain (s : State) : State :=
  if s.coreUp ∧ s.chgState = .suspend ∧ 100 ≤ s.chg.regainTicks then setChg .detect (regainTemp s) else s

def execChgTempRegain (s : State) : Host.Outcome State Fault Refusal := event doChgTempRegain s

/-! ## Timers (R260, R261) -/

/-- A nominal timer in ms. -/
def nominalMs (min : Nat) : Nat := min * 60000

/-- acc, in 2^-32 ms, has reached a nominal timer. -/
def accOver (acc nominal : Nat) : Bool := decide (nominal * 2 ^ 32 ≤ acc)

/-- The fast-charge timer expires. -/
def doChgTimer (s : State) : State :=
  let n := nominalMs (s.get K.chgTimer)
  if s.coreUp ∧ (s.chgState = .cc ∨ s.chgState = .cv) then
    if accOver s.chg.accFast n then chargeStop .chgTimer 1 s
    else if 2 * n ≤ s.chg.absFast then chargeStop .chgTimer 2 s
    else s
  else s

def execChgTimer (s : State) : Host.Outcome State Fault Refusal := pathEvent doChgTimer s

/-- The precharge timer expires. -/
def doChgPreTmo (s : State) : State :=
  let n := nominalMs (s.get K.chgPreTimer)
  if s.coreUp ∧ s.chgState = .precharge ∧ (accOver s.chg.accPre n ∨ 2 * n ≤ s.chg.absPre) then chargeStop .chgPreTmo 4 s
  else s

def execChgPreTmo (s : State) : Host.Outcome State Fault Refusal := pathEvent doChgPreTmo s

/-! ## Removal, shorts, overvoltage (R262, R263) -/

/-- The pack has been removed. -/
def removal (s : State) : State :=
  raiseLater .chgBatRemoved 0 (packLost (s.flag K.chgStatus 0x10))

/-- The charger's voltage limit in mV: the CV target, 97 % of VBAT before the collapse while it probes (R262). -/
def State.voltLimit (s : State) : Nat := if s.chg.probing then s.chg.collapseV * 97 / 100 else s.cvTarget

/-- A beat with a pack current in mA counts towards a collapse (R262). -/
def State.collapses (s : State) (i : Int) : Bool :=
  let r := s.chg.iRef
  decide (4 * i < r ∧ i < r - 200 ∧ 200 ≤ r) && s.chg.limFell == 0

/-- A probe begins at the confirmation of a collapse (R262). -/
def probeBegin (s : State) : State := { s with chg := { s.chg with probing := true, probeLeft := 2000, collapse := 0 } }

/-- A probe that ends has found the pack (R262). -/
def probeEnd (s : State) : State :=
  { s.flag K.chgStatus 0x40 with chg := { s.chg with probing := false, probeLeft := 0, collapse := 0 } }

/-- `n` beats count towards a collapse; VBAT over the tick before it began is kept. -/
def collapseCount (n : Nat) (s : State) : State :=
  { s with chg := { s.chg with
    collapse := s.chg.collapse + n, collapseV := if s.chg.collapse = 0 then s.get K.chgVbat else s.chg.collapseV } }

/-- `n` beats of a charging pack, every one of them judged (R262): in a probe VBAT below 98.5 % of what it was is a removal, and the beats after
its last are watched again; of a collapse 1,000 confirm it, with a step of VBAT a removal, else a probe in the beats that are left. The
fuel is the number of beats. -/
def watchRun (i : Int) (v : Nat) : Nat → Nat → State → State
  | 0, _, s => s
  | f + 1, n, s =>
    if n = 0 then s
    else if s.chg.probing then
      if v * 1000 < s.chg.collapseV * 985 then removal s
      else if s.chg.probeLeft ≤ n then watchRun i v f (n - s.chg.probeLeft) (probeEnd s)
      else { s with chg := { s.chg with probeLeft := s.chg.probeLeft - n } }
    else if s.collapses i then
      let t := collapseCount n s
      if t.chg.collapse < 1000 then t
      else if t.chg.collapseV + s.get K.chgRemoveDv ≤ v then removal t
      else watchRun i v f (t.chg.collapse - 1000) (probeBegin t)
    else { s with chg := { s.chg with collapse := 0 } }

/-- A count of consecutive beats reaches 4 with `n` more. -/
def reaches4 (count n : Nat) : Bool := decide (count < 4 ∧ 4 ≤ count + n)

/-- VBAT below the short level at 90 % of the limit or more, and above the overvoltage level, for 4 beats (R263). -/
def levelRun (i : Int) (v n : Nat) (s : State) : State :=
  let low := s.chgState.charging && decide (v < s.shortLevel ∧ (9 * s.get K.chgILim : Nat) ≤ 10 * i)
  let high := decide (s.ovLevel < v)
  let t := { s with chg := { s.chg with
    shortBeats := if low then s.chg.shortBeats + n else 0, ovBeats := if high then s.chg.ovBeats + n else 0 } }
  let t := when (low && reaches4 s.chg.shortBeats n) (chargeStop .chgBatShort 8) t
  when (high && reaches4 s.chg.ovBeats n) (chargeStop .chgBatOv 0x10) t

/-- A run of beats of pack current in mA and VBAT in mV. -/
def packRun (r : Int × Nat × Nat) (s : State) : State :=
  if r.2.2 = 0 then s
  else
    let t := levelRun r.1 r.2.1 r.2.2 s
    if t.chgState.charging = false then { t with chg := { t.chg with collapse := 0 } } else watchRun r.1 r.2.1 r.2.2 r.2.2 t

/-- Runs of beats of the pack. -/
def packBeats (l : List (Int × Nat × Nat)) (s : State) : State := if s.fastUp then each l packRun s else s

/-- COLLAPSE_CONFIRM (R262). -/
def doCollapseConfirm (l : List (Int × Nat × Nat)) (s : State) : State := packBeats l s

def execCollapseConfirm (l : List (Int × Nat × Nat)) (s : State) : Host.Outcome State Fault Refusal :=
  pathEvent (doCollapseConfirm l) s

/-- REMOVAL_PROBE_DONE (R262). -/
def doRemovalProbeDone (l : List (Int × Nat × Nat)) (s : State) : State := packBeats l s

def execRemovalProbeDone (l : List (Int × Nat × Nat)) (s : State) : Host.Outcome State Fault Refusal :=
  pathEvent (doRemovalProbeDone l) s

def doChgBatShort (l : List (Int × Nat × Nat)) (s : State) : State := packBeats l s
def doChgBatOv (l : List (Int × Nat × Nat)) (s : State) : State := packBeats l s

/-- 64 cycles at the peak limit, a driver supply below its level, or a switch node that twice did not follow (R268). -/
def doChgConv (peak : Nat) (drv : Bool) (sw : Nat) (s : State) : State :=
  if s.fastUp ∧ (64 ≤ peak ∨ drv ∨ 2 ≤ sw) then chargeStop .chgConv 0x20 s else s

/-- CHG_BAT_SHORT (R263). -/
def execChgBatShort (l : List (Int × Nat × Nat)) (s : State) : Host.Outcome State Fault Refusal := pathEvent (doChgBatShort l) s
/-- CHG_BAT_OV (R263). -/
def execChgBatOv (l : List (Int × Nat × Nat)) (s : State) : Host.Outcome State Fault Refusal := pathEvent (doChgBatOv l) s
/-- CHG_CONV (R268). -/
def execChgConv (peak : Nat) (drv : Bool) (sw : Nat) (s : State) : Host.Outcome State Fault Refusal :=
  pathEvent (doChgConv peak drv sw) s

/-! ## Leaving FAULT and MISSING (R269, R270) -/

/-- The bits of `CHG.FAULT` that a read returned clear at the next boundary; a bit set again since stays (R8, R269). -/
def readFault (s : State) : State := s.clearFlag K.chgFault (lookupD s.pub K.chgFault 0)

/-- The collector holds a source of types 0x60 to 0x69. -/
def State.chgHeld (s : State) : Bool := s.fc.held.any (fun h => decide (0x60 ≤ h.src / 256 ∧ h.src / 256 ≤ 0x69))

/-- MISSING is probed again. -/
def doChgDetRetry (s : State) : State :=
  if s.coreUp ∧ s.chgState = .missing ∧ s.chgHeld = false ∧ s.get K.chgDetRetry * 1000 ≤ s.chg.stateTicks then
    showGates (setChg .detect s)
  else s

def execChgDetRetry (s : State) : Host.Outcome State Fault Refusal := event doChgDetRetry s

/-! ## Harvest (R265) -/

/-- The lowest V_mpp. -/
def State.vMin (s : State) : Nat :=
  if s.get K.pathSource = 2 then max (s.get K.mpptVmin) 16500 else s.get K.mpptVmin

/-- A sweep ends: AUXIN over its 50th tick is the open-circuit voltage. -/
def doMpptSweep (s : State) : State :=
  if s.coreUp ∧ s.chg.sweeping ∧ 50 ≤ s.chg.sweepTicks then
    let voc := s.get K.pathAuxin
    let t := (s.putFit K.mpptVoc voc).putFit K.mpptVset (max (voc * s.get K.mpptFrac / 100) s.vMin : Nat)
    { t with chg := { t.chg with
      sweeping := false, periodTicks := 0, pSum := 0, dir := 1, pPrev := 0, bound := false } }
  else s

def execMpptSweep (s : State) : Host.Outcome State Fault Refusal := event doMpptSweep s

/-- A step of the tracker with the mean power of the period. -/
def doMpptStep (s : State) : State :=
  if s.coreUp ∧ s.chg.harvesting ∧ s.chg.sweeping = false ∧ s.get K.mpptPeriod ≤ s.chg.periodTicks then
    let p := truncDiv s.chg.pSum (1000 * s.chg.periodTicks : Nat)
    let t := s.putFit K.mpptP p
    let t := { t with chg := { t.chg with periodTicks := 0, pSum := 0, bound := false } }
    if s.chg.bound then t
    else
      let dir := if p < s.chg.pPrev then -s.chg.dir else s.chg.dir
      let v := clampInt t.vMin (t.get K.mpptVoc) ((t.get K.mpptVset : Int) + dir * t.get K.mpptStep)
      { t.putFit K.mpptVset v with chg := { t.chg with dir := dir, pPrev := p } }
  else s

def execMpptStep (s : State) : Host.Outcome State Fault Refusal := event doMpptStep s

/-- AUXIN below 9,500 mV for 4 beats: harvest is not valid; the converter that runs from it stops (R254). -/
def doHarvestLost (auxin beats : Nat) (s : State) : State :=
  if s.fastUp ∧ s.path.harvestValid ∧ auxin < 9500 ∧ 4 ≤ beats then
    let t := { s with path := { s.path with harvestValid := false, harvestQual := 0 } }
    if t.get K.chgInput = 2 ∧ t.chgState ≠ .reverse then
      let u := (t.put K.chgInput 0).flag K.chgStatus 0x80
      showGates (if u.chgState.needsInput then setChg .noSource u else u)
    else t
  else s

def execHarvestLost (auxin beats : Nat) (s : State) : Host.Outcome State Fault Refusal := event (doHarvestLost auxin beats) s

/-! ## Reverse mode (R266, R267) -/

/-- The least VBAT of reverse mode. -/
def State.revMin (s : State) : Nat := orElse (s.get K.revVbatMin) s.restartLevel

/-- The conditions for a start of reverse mode. -/
def State.canReverse (s : State) : Bool :=
  s.dev.live && s.get K.pathSource == 1 && (s.chgState.charging || s.chgState == .done) &&
    decide (s.revMin ≤ s.get K.chgVbat) && s.packWithin (-200) 600 &&
    decide (s.get K.pathAuxin + 1000 < s.get K.revV) && !s.chgHeld

/-- A write of 1 to `REV.CMD`. -/
def wrRevStart (s : State) : Written :=
  if s.canReverse then
    let t := setChg .reverse (s.flag K.chgStatus 0x100)
    accept (showGates { t with path := { t.path with auxValid := false, auxQual := 0 } })
  else refuse Abort.state s

/-- A write of 2 to `REV.CMD`. -/
def wrRevStop (s : State) : Written := accept (showGates (revEnd 1 s))

/-- A write of any value to `REV.CMD`. -/
def wrRevCmd (v : Nat) (s : State) : Written :=
  if v = 1 then wrRevStart s else if v = 2 then wrRevStop s else refuse Abort.value s

/-- AUXIN above `REV.V` + 2,000 mV for 4 beats: another source. -/
def doRevOtherSource (auxin beats : Nat) (s : State) : State :=
  if s.fastUp ∧ s.get K.revV + 2000 < auxin ∧ 4 ≤ beats then showGates (revEnd 6 s) else s

def execRevOtherSource (auxin beats : Nat) (s : State) : Host.Outcome State Fault Refusal :=
  event (doRevOtherSource auxin beats) s

/-- VBAT has been below the reverse minimum for 10 ticks. -/
def doRevVbatLow (s : State) : State :=
  if s.coreUp ∧ 10 ≤ s.chg.revLowTicks then showGates (revEnd 4 s) else s

def execRevVbatLow (s : State) : Host.Outcome State Fault Refusal := event doRevVbatLow s

/-- AUXIN has been below 5,000 mV at the current limit for 10 ticks. -/
def doChgRevShort (s : State) : State :=
  if s.coreUp ∧ s.chgState = .reverse ∧ 10 ≤ s.chg.revShortTicks then
    showGates (chargeStop .chgRevShort 0x40 (s.put K.revStopCause 7))
  else s

def execChgRevShort (s : State) : Host.Outcome State Fault Refusal := pathEvent doChgRevShort s

/-! ## The tick -/

/-- The input that R254 selects: 0 none, 1 VSYS, 2 AUXIN. -/
def State.chgInputChoice (s : State) : Nat :=
  let sel := s.get K.chgInputSel
  let aux := if s.path.harvestValid then 2 else 0
  match s.get K.pathSource with
  | 1 => if sel = 2 then aux else 1
  | 2 => if sel = 1 then 1 else aux
  | 3 => if sel = 1 then 0 else aux
  | _ => 0

/-- The input changes; between VSYS and AUXIN the converter stops for a tick and restarts with a reference of 0 (R254). -/
def swapInput (x : Nat) (s : State) : State :=
  let was := s.get K.chgInput
  let t := { s with chg := { s.chg with swap := s.chg.swap - 1 } }
  if x = was then t
  else { (t.put K.chgInput x).flag K.chgStatus 0x80 with
    chg := { t.chg with swap := if was ≠ 0 ∧ x ≠ 0 then 2 else t.chg.swap } }

/-- The charger is switched on and off, and selects its input (R254, R255, R267). A charger that leaves OFF looks for its input from the
next tick on. -/
def inputTick (s : State) : State :=
  let on := s.get K.chgEn = 1 ∧ s.dev.live = true
  let t := if ¬ on then (if s.chgState = .off then s else setChg .off (revMark 8 s)) else s
  if t.chgState = .off then
    let t := swapInput 0 t
    if on then setChg .noSource t else t
  else
    let x := t.chgInputChoice
    let t := swapInput x t
    if x = 0 then (if t.chgState.needsInput then setChg .noSource t else t)
    else if t.chgState = .noSource then setChg .detect t
    else t

/-- The pack temperature at a tick (R258, R267). A charger that was OFF has no reading yet; a state taken at this tick is judged at the
next. -/
def tempTick (was : ChgState) (s : State) : State :=
  if was = .off ∨ s.chgState = .off then s
  else if s.hasTemp = false then
    let t := { s with chg := { s.chg with regainTicks := 0 } }.flag K.chgStatus 0x400
    match (if t.chgState = was then was else .off) with
    | .detect | .precharge | .cc | .cv => setChg .suspend t
    | .reverse => revEnd 5 t
    | _ => t
  else
    let lo := s.getI K.chgTChgLo
    let hi := s.getI K.chgTChgHi
    let inside := s.packWithin (lo + 30) (hi - 30)
    let out := !s.packWithin lo hi
    let t := { s with chg := { s.chg with regainTicks := if inside then s.chg.regainTicks + 1 else 0 } }
    let t := if out && !t.chg.tempOut then raiseLater .chgTemp 0 { t with chg := { t.chg with tempOut := true } }
      else if t.chg.tempOut && t.chgState != .suspend && decide (100 ≤ t.chg.regainTicks) then regainTemp t
      else t
    match (if t.chgState = was then was else .off) with
    | .detect | .precharge | .cc | .cv => if out then setChg .suspend t else t
    | .reverse => if t.packWithin (-200) 600 then t else revEnd 5 t
    | _ => t

/-- FAULT is left where nothing is latched and nothing held (R270). -/
def faultExit (s : State) : State :=
  if s.chgState = .fault ∧ s.get K.chgFault = 0 ∧ s.chgHeld = false then setChg .detect s else s

/-- The pack-current limit with the term that binds (R259): forced to 0 by R74. PRECHARGE has its own limit, `CHG.IPRE`, alone (R259
against R75, DEDUCED, assumption 111). -/
def State.packLimit (s : State) : Nat × Nat :=
  let i := s.get K.chgIchg
  let th := s.get K.chgITherm
  let b := s.get K.budgetChgIAllow
  match s.chgState with
  | .precharge => (if s.budget.forced then 0 else s.get K.chgIpre, if s.budget.forced then 2 else 0)
  | .cc | .cv =>
    if s.budget.forced then (0, 2)
    else if i ≤ th ∧ i ≤ b then (i, 0) else if th ≤ b then (th, 1) else (b, 2)
  | _ => (0, 0)

/-- The converter's current reference: 0 while the input changes and in a sweep (R254, R259, R265); 100 mA in DETECT once its 10 ticks with
the converter off are over (R256). -/
def State.packRef (s : State) : Nat :=
  if s.chg.swap ≠ 0 ∨ s.chg.sweeping = true then 0
  else if s.chgState = .detect then (if 10 ≤ s.chg.stateTicks ∧ s.budget.forced = false then 100 else 0)
  else s.packLimit.1

/-- The limit in use, the limiter and its flags (R259, R274, R275). A period of the tracker in which `CHG.LIMITER` names a term of R259,
the programmed one too, is bound (R265, DEDUCED, assumption 110). -/
def limitTick (i : TickInputs) (s : State) : State :=
  let l := s.packLimit
  let loop := i.auxLoop && s.get K.chgInput == 2 && s.chgState.charging
  let lim := if loop then 3 else l.2
  let fell := if l.1 < s.get K.chgILim then 2 else s.chg.limFell - 1
  let t := (s.put K.chgILim l.1).put K.chgLimiter lim
  let t := { t with chg := { t.chg with limFell := fell, bound := t.chg.bound || !loop } }
  if lim = 0 then t
  else
    let seen := (if l.2 = 1 then 1 else 0) + (if l.2 = 2 then 2 else 0) + (if loop then 4 else 0)
    (t.put K.chgCycleFlags (t.get K.chgCycleFlags ||| seen)).flag K.chgStatus 0x800

/-- Counts of conditions that must hold (R255 to R257, R267), and DETECT's open-circuit reading. The tick in which a state began is none of
its own. -/
def countTick (i : TickInputs) (s : State) : State :=
  let v := s.get K.chgVbat
  let a := s.getI K.chgIbat
  let up (c : Bool) (n : Nat) : Nat := if c then n + 1 else 0
  let c := s.chg
  let st := s.chgState
  let low := decide (a * 100 < (s.get K.chgEocPct * s.get K.chgIchg : Nat))
  let held : Bool := match s.est.measure with | some m => m.started | none => false
  if c.fresh then s else { s with chg := { c with
    stateTicks := c.stateTicks + 1
    vOpen := if st = .detect ∧ c.stateTicks + 1 = 10 then v else c.vOpen
    preTicks := up (st == .precharge && decide (s.preLevel + s.cells * 25 ≤ v)) c.preTicks
    cvTicks := up (st == .cv && decide (v + s.cells * 25 < s.cvTarget)) c.cvTicks
    rechgTicks := up (st == .done && decide (v ≤ s.rechargeLevel)) c.rechgTicks
    eocTicks := if st = .cv ∧ held then c.eocTicks else up (st == .cv && low) c.eocTicks
    revLowTicks := up (st == .reverse && decide (v < s.revMin)) c.revLowTicks
    revShortTicks := up (st == .reverse && i.revLimited && decide (s.get K.pathAuxin < 5000)) c.revShortTicks } }

/-- The share of a ms that a tick adds to acc, in 2^-32 ms (R260). -/
def accShare (i : Int) (prog : Nat) : Nat :=
  if i ≤ 0 ∨ prog = 0 then 0 else min (2 ^ 32) (i.toNat * 2 ^ 32 / prog)

/-- The safety timers and the charge delivered (R260). They hold during a sweep. -/
def timerTick (s : State) : State :=
  let a := s.getI K.chgIbat
  let c := s.chg
  let t := if c.sweeping then s
    else if s.chgState = .precharge then
      { s with chg := { c with accPre := c.accPre + accShare a (s.get K.chgIpre), absPre := c.absPre + 1 } }
    else if s.chgState = .cc ∨ s.chgState = .cv then
      { s with chg := { c with accFast := c.accFast + accShare a (s.get K.chgIchg), absFast := c.absFast + 1 } }
    else s
  let t := if t.chg.inCycle then { t with chg := { t.chg with chargeAcc := t.chg.chargeAcc + a.toNat } } else t
  let run := if t.chgState = .precharge then (t.chg.accPre, t.chg.absPre) else (t.chg.accFast, t.chg.absFast)
  ((t.putFit K.chgTimerAcc (run.1 / 2 ^ 32)).putFit K.chgTimerAbs run.2).putFit K.chgChargeIn (t.chg.chargeAcc / 3600)

/-- The tracker's counts: a sweep starts with the harvest and `MPPT.SWEEP` s after the last began (R265). -/
def mpptTick (s : State) : State :=
  let on := s.get K.chgInput == 2 && s.chgState.charging
  let c := s.chg
  if !on then { s with chg := { c with harvesting := false, sweeping := false, sweepTicks := 0, periodTicks := 0 } }
  else if !c.harvesting then
    { s with chg := { c with harvesting := true, sweeping := true, sweepTicks := 0, periodTicks := 0, bound := false } }
  else if c.sweeping then { s with chg := { c with sweepTicks := c.sweepTicks + 1 } }
  else if s.get K.mpptSweep * 1000 ≤ c.sweepTicks + 1 then
    { s with chg := { c with sweeping := true, sweepTicks := 0 } }
  else { s with chg := { c with
    sweepTicks := c.sweepTicks + 1, periodTicks := c.periodTicks + 1, pSum := c.pSum + s.get K.chgVbat * s.getI K.chgIbat } }

/-- The charger in step 7 of a tick: what has held over the tick counts first, with the timers and their ends; then the input, the
temperature, the transitions whose time has come, the limit and the tracker, whose period the limit of its last tick belongs to. -/
def chargerTick (i : TickInputs) (s : State) : State :=
  let was := s.chgState
  let t := doChgPreTmo (doChgTimer (timerTick (countTick i s)))
  let t := tempTick was (inputTick t)
  let t := doRecharge (doCvToCc (if i.cvLoop then doCvEntry t else t))
  let t := doDetectDone i.packid (doPrechargeDone t)
  let t := doChgTempRegain (doEndOfCharge (faultExit t))
  let t := doChgDetRetry (doChgRevShort (doRevVbatLow t))
  let t := doMpptStep (doMpptSweep (limitTick i (mpptTick t)))
  showGates ({ t with chg := { t.chg with fresh := false } }.put K.chgVCv t.cvTarget)

end Sys2Proof.Machine
end

