-- ==== Sys2Proof/Machine/Budget.lean ====
section
/-! DEFINITION. The power budget limiter (R73 to R77): the excess-energy store, the peak, the charger's allowance, shedding. -/

namespace Sys2Proof.Machine

/-! ## The peak (R74) -/

/-- A beat above `BUDGET.PEAK`: the charger's reference is forced to 0, reverse mode stops. -/
def forcePeak (s : State) : State :=
  let t := showGates (revEnd 3 (s.flag K.budgetStatus 1))
  { t with budget := { t.budget with forced := true }, chg := { t.chg with limFell := if t.budget.forced then t.chg.limFell else 2 } }

/-- A beat of P above `BUDGET.PEAK` or not: the forcing, and at the first beat of an excursion its source and its count. -/
def peakBeat (above : Bool) (s : State) : State :=
  let t := when above forcePeak s
  let u := { t with budget := { t.budget with above := above } }
  when (above && !s.budget.above) (fun v => takeSource .budgetPeak 0 (v.bump K.budgetPeakCnt)) u

/-! ## The store (R73) -/

/-- e_max in nJ. -/
def State.eMax (s : State) : Nat := (s.get K.budgetPeak - s.get K.budgetCont) * s.get K.budgetPeakTime * 1000

/-- `STATUS.BUCKET_FULL` sets as E becomes full. -/
def setFull (full : Bool) (s : State) : State :=
  let t := when (full && !s.budget.full) (fun u => u.flag K.budgetStatus 4) s
  { t with budget := { t.budget with full := full } }

/-- `n` beats of P at `p` mW: E, the peak, and what the tick needs of P. -/
def powerBeats (p n : Nat) (s : State) : State :=
  let t := peakBeat (decide (s.get K.budgetPeak < p)) s
  let e := min s.eMax (s.budget.e + n * p - n * s.get K.budgetCont)
  let t := { t with budget := { t.budget with
    e := e, overCont := t.budget.overCont || decide (s.get K.budgetCont < p),
    pSum := t.budget.pSum + p * n, pBeats := t.budget.pBeats + n } }
  if s.eMax = 0 then t else setFull (e == s.eMax) t

/-- A run of beats of P in mW. Its first beat stands alone: it is the one that may find E above a lowered e_max (R73). -/
def powerRun (r : Nat × Nat) (s : State) : State :=
  if r.2 = 0 then s
  else if r.2 = 1 then powerBeats r.1 1 s
  else powerBeats r.1 (r.2 - 1) (powerBeats r.1 1 s)

/-- Beats of P with an event of their own. -/
def doBudgetPeak (l : List (Nat × Nat)) (s : State) : State := if s.fastUp then each l powerRun s else s

def execBudgetPeak (l : List (Nat × Nat)) (s : State) : Host.Outcome State Fault Refusal := event (doBudgetPeak l) s

/-- The beats of P that a tick gives, its mean, and E as the tick finds it: where e_max is 0, full if P exceeded `BUDGET.CONT` at some
beat of the tick. -/
def budgetSample (i : TickInputs) (s : State) : State :=
  let t := each i.power powerRun s
  let t := t.putFit K.budgetPTotal (if t.budget.pBeats = 0 then 0 else t.budget.pSum / t.budget.pBeats : Nat)
  let t := if t.eMax = 0 then setFull t.budget.overCont t else t
  { t with budget := { t.budget with overCont := false, pSum := 0, pBeats := 0 } }

/-! ## The tick (R75, R76) -/

/-- One rail below `top` is shed (R75); a count where there is none. The sheds of one tick are taken in ascending number (R223). -/
def budgetShed (top : Nat) (s : State) : Bool × State :=
  match s.shedChoice top with
  | some n =>
    let t := railShed n 4 false ((s.putBit K.budgetShedMask n true).flag K.budgetStatus 8)
    (true, raiseLater .budgetShed n t)
  | none => (false, s)

/-- The charger allowance (R75). A VBAT of 0 leaves the current limit unstated (assumption 23). -/
def allowanceTick (s : State) : State :=
  let rails := (upto 16).foldl (fun a n => a + s.get (K.railPout n)) 0
  let a := if 0 < s.budget.e then 0 else s.get K.budgetCont - s.get K.budgetMargin - rails
  let v := s.get K.chgVbat
  let t := (s.putFit K.budgetPRails rails).put K.budgetChgAllow a
  let t := if v = 0 then t.put K.budgetChgIAllow (Config.unstated K.budgetChgIAllow a % 2 ^ 16)
    else t.putFit K.budgetChgIAllow (a * 1000 / v)
  let prog := if t.chgState = .precharge then t.get K.chgIpre else t.get K.chgIchg
  let t := if t.get K.budgetChgIAllow < prog then t.flag K.budgetStatus 2 else t
  { t with budget := { t.budget with forced := t.budget.forced && a == 0 } }

/-- The charger's reference is 0 and reverse mode is off. -/
def State.chargerIdle (s : State) : Bool :=
  s.chgState != .reverse && (!s.chgState.charging || s.packRef == 0)

/-- The limiter in step 7. -/
def budgetTick (i : TickInputs) (s : State) : State :=
  let full := s.budget.full
  let chg : Nat := if s.chgState = .reverse then s.get K.pathAuxin * s.get K.revIOut / 1000
    else (s.getI K.chgIbat).toNat * s.get K.chgVbat / 1000
  let t := (s.putFit K.budgetPChg chg).putFit K.budgetBucket (s.budget.e / 1000000 : Nat)
  let t := allowanceTick t
  let a := if full && t.chargerIdle then budgetShed 16 t else (true, t)
  let hot := decide (25000 < i.ibusI)
  let b := if hot then budgetShed 12 (a.2.flag K.budgetStatus 0x10) else (true, a.2)
  let u := b.2
  if a.1 && b.1 then { u with budget := { u.budget with noneLeft := 0, overRaised := false } }
  else { u with budget := { u.budget with noneLeft := u.budget.noneLeft + 1 } }

/-- 10 consecutive ticks with no rail left to shed (R76); its action is a stop of the divider (R71). Its source waits for its place after
the sheds of the same tick (R223). -/
def doBudgetOver (s : State) : State :=
  if s.coreUp ∧ 10 ≤ s.budget.noneLeft ∧ s.budget.overRaised = false then
    raiseLater .budgetOver 0 (fdStop (SrcKind.budgetOver.number 0) { s with budget := { s.budget with overRaised := true } })
  else s

def execBudgetOver (s : State) : Host.Outcome State Fault Refusal := event (fun t => collectDue (doBudgetOver t)) s

end Sys2Proof.Machine
end

