-- ==== Sys2Proof/Machine/Estimator.lean ====
section
/-! DEFINITION. Battery state estimation (R279 to R307). Internal values keep the resolution that the state's fields name
(fixed point, assumption 9): charge in nC, current in nA, SOC in 10^-6 of 0.1 %, uncertainty in 10^-12 of 0.1 %. -/

namespace Sys2Proof.Machine

/-! ## States (R283) -/

def estOffCode : Nat := 0
def estInit : Nat := 1
def estRun : Nat := 2
def estHib : Nat := 3
def estNoPack : Nat := 4

def State.estState (s : State) : Nat := s.get K.estState

/-- The device states in which the estimator works. -/
def DevState.estimates : DevState → Bool
  | .standby | .doze | .active | .lockout => true
  | _ => false

/-- The raw accumulator's 64-bit two's complement (R280). -/
def wrap64 (x : Int) : Int := toInt 64 (ofInt 64 x)

/-- Charge in whole µAh, truncated toward 0. -/
def microAh (nC : Int) : Int := truncDiv nC 3600000

/-- Entries of the learned data and of the readouts, updated through the estimator. -/
def setEst (f : Estimator → Estimator) (s : State) : State := { s with est := f s.est }

/-! ## OCV (R286) -/

/-- SOC_ocv in 10^-6 of 0.1 % for a pack voltage in µV. -/
def socOcv (cells v : Nat) : List Nat → Nat → Int
  | a :: b :: t, n =>
    let lo := a * cells * 1000
    let hi := b * cells * 1000
    if v < lo then (n : Int) * 100000000
    else if v ≤ hi ∧ lo < hi then ((n * 100000000 + (v - lo) * 100000000 / (hi - lo) : Nat) : Int)
    else socOcv cells v (b :: t) (n + 1)
  | _, _ => 1000000000

/-- A reading lies within a flat segment, end points included. -/
def flatAt (slope cells v : Nat) : List Nat → Bool
  | a :: b :: t =>
    (decide (b < a + slope) && decide (a * cells * 1000 ≤ v ∧ v ≤ b * cells * 1000)) || flatAt slope cells v (b :: t)
  | _ => false

def State.socOf (s : State) (v : Int) : Int := socOcv s.cells v.toNat (ocvTable s.get) 0
def State.flat (s : State) (v : Int) : Bool := flatAt (s.get K.estSlopeMin) s.cells v.toNat (ocvTable s.get)

/-! ## Derived quantities -/

/-- soc_cc in 10^-6 of 0.1 %. -/
def State.socCc (s : State) : Int := if s.est.fcc = 0 then 0 else truncDiv (s.est.q * 10000) (36 * s.est.fcc)

/-- The model's confidence in per mille (R294). -/
def State.conf (s : State) : Nat :=
  if s.est.fitted = false ∨ s.get K.estZMaxAge < s.get K.estZAge ∨
      (s.get K.estZTSpan : Int) < |s.getI K.estTPack - s.getI K.estZT| then 0
  else 1000 - 10 * s.get K.estZFitErr

/-- R_used in µΩ (R295). -/
def State.rUsed (s : State) : Nat :=
  if s.get K.estZConfMin ≤ s.conf then s.get K.estRs + s.get K.estRp1 + s.get K.estRp2 else s.get K.estRsDefault

/-- A pack voltage less the drop of a charging current over a resistance, in µV. -/
def lessDrop (v : Nat) (i : Int) (r : Nat) : Int := v - max 0 i * r / 1000000000

/-- The voltage-bound SOC in 10^-6 of 0.1 % (R295). -/
def State.socV (s : State) (i : Int) (v : Nat) : Int :=
  s.socOf (lessDrop v i s.rUsed - (s.get K.estVbMargin * s.cells * 1000 : Nat))

/-! ## Candidates and learning (R300, R301) -/

/-- Both candidates are dropped with a code. -/
def dropCandidates (code : Nat) (s : State) : State :=
  let t := if s.est.hi.isSome ∨ s.est.lo.isSome then s.put K.estLearnDrop code else s
  setEst (fun e => { e with hi := none, lo := none }) t

/-- A candidate too old is dropped alone. -/
def ageCandidate (c : Option Candidate) (s : State) : Bool :=
  match c with
  | some c => decide (s.get K.estLearnMaxT < s.clock.epochs - c.epoch)
  | none => false

def dropAged (s : State) : State :=
  let h := ageCandidate s.est.hi s
  let l := ageCandidate s.est.lo s
  let t := if h || l then s.put K.estLearnDrop 0x21 else s
  setEst (fun e => { e with hi := if h then none else e.hi, lo := if l then none else e.lo }) t

/-- Which path a test takes: 1 main, 2 fall-back, 0 none. -/
def State.learnPath (s : State) (a b : Candidate) : Nat :=
  let d := |b.soc - a.soc|
  if ((a.kind = 4 ∧ b.kind = 1) ∨ (a.kind = 1 ∧ b.kind = 4)) ∧ (s.get K.estLearnDsoc : Int) * 1000000 ≤ d then 1
  else if a.kind ≠ 3 ∧ b.kind ≠ 3 ∧ (s.get K.estFbDsoc : Int) * 1000000 ≤ d then 2
  else if (a.kind = 3 ∨ b.kind = 3) ∧ 600000000 ≤ d then 2
  else 0

/-- Learned at least once since reset. -/
def State.learned (s : State) : Bool := s.get K.estLearnCnt + s.get K.estFbCnt != 0

/-- A rejected test. -/
def rejectLearn (code : Nat) (s : State) : State := (s.put K.estLearnLast code).flag K.estStatus 0x10

/-- SOH in per mille (R302). -/
def State.soh (s : State) : Nat := min 1200 (s.est.fcc * 1000 / s.get K.estDesignCap)

/-- `EST_STALE` ends where nothing is stale any more (R231, DEDUCED, assumption 28). -/
def staleEnd (s : State) : State := when (s.get K.estStale == 0) (endCondition (SrcKind.estStale.number 0)) s

/-- fcc is learned: q keeps its SOC, the capacity is no longer stale (R301, R302). -/
def learnFcc (path meas : Nat) (s : State) : State :=
  let old := s.est.fcc
  let stale := s.bit K.estStale 0
  let g : Int := if stale ∨ s.learned = false then 1000
    else if path = 1 then s.get K.estLearnGain else s.get K.estFbGain
  let new : Nat := ((old : Int) + truncDiv (g * ((meas : Int) - old)) 1000).toNat
  let t := setEst (fun e => { e with
    fcc := new, q := if old = 0 then e.q else truncDiv (e.q * new) old, learnDue := true }) s
  let t := ((t.put K.estLearnLast path).bump (if path = 1 then K.estLearnCnt else K.estFbCnt)).flag K.estStatus 8
  let t := t.putBit K.estStale 0 false
  staleEnd (if t.soh < t.get K.estSohWarn then raiseLater .estSohLow 0 t else t)

/-- The test of a start anchor against a new one; whether it learned. -/
def learnTest (a b : Candidate) (s : State) : Bool × State :=
  let path := s.learnPath a b
  let dsoc := b.soc - a.soc
  let dq := wrap64 (b.a - a.a)
  let opp := if 0 < dq then b.qOut - a.qOut else b.qIn - a.qIn
  if path = 0 then (false, rejectLearn 0x10 s)
  else if dq = 0 ∨ dsoc = 0 ∨ (0 < dq) ≠ (0 < dsoc) then (false, rejectLearn 0x12 s)
  else if s.get K.estLearnMix * dq.natAbs < opp * 100 then (false, rejectLearn 0x11 s)
  else
    let meas := dq.natAbs * 10000 / (dsoc.natAbs * 36) * 1000 / 1000
    let t := s.putFit K.estLearnFccMeas meas
    if t.bit K.estStale 0 = false ∧ t.learned ∧ t.est.fcc < 10 * ((meas : Int) - t.est.fcc).natAbs then
      (false, rejectLearn 0x13 t)
    else (true, learnFcc path meas t)

/-- The candidate farther from an anchor in SOC. -/
def State.farther (s : State) (b : Candidate) : Option Candidate :=
  match s.est.hi, s.est.lo with
  | some h, some l => if |b.soc - l.soc| ≤ |h.soc - b.soc| then some h else some l
  | some h, none => some h
  | none, some l => some l
  | none, none => none

/-- An anchor of kind 1, 3 or 4 meets the learner. -/
def learnFrom (b : Candidate) (s : State) : State :=
  let r := match s.farther b with
    | some a => learnTest a b s
    | none => (false, s)
  if r.1 then setEst (fun e => { e with hi := some b, lo := some b }) r.2
  else setEst (fun e => { e with
    hi := match e.hi with | some h => if h.soc ≤ b.soc then some b else some h | none => some b
    lo := match e.lo with | some l => if b.soc ≤ l.soc then some b else some l | none => some b }) r.2

/-! ## Anchors (R291) -/

/-- An anchor of a kind at a SOC (10^-6 of 0.1 %) is applied; a flat one of kind 3 does not learn. -/
def applyAnchor (kind : Nat) (soc : Int) (flat : Bool) (s : State) : State :=
  -- the weight in 10^-6, in which a flat one of kind 3 is whole
  let w : Int := if s.get K.estDisagree = 1 then 1000000
    else match kind with
      | 2 => s.get K.estFlatW * 1000
      | 3 => if flat then s.get K.estSynW * s.get K.estFlatW else s.get K.estSynW * 1000
      | 4 => s.get K.estFullW * 1000
      | _ => 1000000
  let ua : Int := (match kind with | 1 => 20 | 2 => 50 | 3 => 80 | 4 => 10 | _ => 300) * 10 ^ 12
  let e := s.est
  let q := e.q + truncDiv (w * (truncDiv (soc * e.fcc * 36) 10000 - e.q)) 1000000
  let u := min (e.u : Int) (e.u + truncDiv (w * (ua - e.u)) 1000000)
  let t := setEst (fun e => { e with q := q, u := u.toNat, anchorAge := 0, unanchRaised := false }) s
  let t := (((t.put K.estUnanchH 0).put K.estDisagree 0).put K.estAnchorKind kind).put K.estAnchorTime t.stamp
  let t := t.putFit K.estAnchorSoc (truncDiv soc 1000000)
  let t := match kind with
    | 1 | 2 => t.flag K.estStatus 1
    | 3 => t.flag K.estStatus 2
    | 4 => t.flag K.estStatus 4
    | _ => t
  if kind = 1 ∨ kind = 4 ∨ (kind = 3 ∧ flat = false) then
    learnFrom ⟨soc, kind, t.clock.epochs, t.est.a, t.est.qIn, t.est.qOut⟩ t
  else t

/-- A voltage-start anchor (R291). -/
def voltageStart (i : Int) (v : Nat) (s : State) : State := applyAnchor 5 (s.socOf (lessDrop v i s.rUsed)) false s

/-- A rest point (R288). -/
def restPoint (v : Nat) (s : State) : State := applyAnchor (if s.flat v then 2 else 1) (s.socOf v) (s.flat v) s

/-! ## Measurements (R287 to R296) -/

/-- A measurement ends with a status. -/
def endMeasure (status : Nat) (s : State) : State :=
  match s.est.measure with
  | none => s
  | some m =>
    let t := setEst (fun e => { e with measure := none, sinceZ := 0 }) s
    let t := { arbRelease 2 t with arb := { t.arb with estSince := none } }
    let t := (t.put K.estZStatus status).flag K.estStatus (if status = 1 ∨ status = 3 then 0x20 else 0x40)
    jobEnd? m.job .done status t

/-- A measurement becomes due. -/
def beginMeasure (job : Option Nat) (s : State) : State :=
  setEst (fun e => { e with measure := some ⟨0, 0, false, false, job, 0, 0, 0, 0, 0, none, 0, [], 0, 0⟩, wakeDue := true }) (s.put K.estZStatus 2)

/-- The interval has passed, in whatever state but OFF, which counts no epochs (R287). -/
def doEstZDue (s : State) : State :=
  let iv := s.get K.estZInterval
  if s.fastUp ∧ s.estState ≠ estOffCode ∧ iv ≠ 0 ∧ iv ≤ s.est.sinceZ ∧ s.est.measure = none then
    beginMeasure none s
  else s

def execEstZDue (s : State) : Host.Outcome State Fault Refusal := event doEstZDue s

/-- A write of `EST.Z_RUN`. -/
def wrEstZRun (port : Port) (v : Nat) (s : State) : Written :=
  if v ≠ 1 then refuse Abort.value s
  else if s.est.measure.isSome then refuse Abort.state s
  else startJob port K.estZRun (fun j t => beginMeasure (some j) t) s

/-- The estimator may ask for the grant (R287). -/
def State.mayPerturb (s : State) : Bool :=
  s.estState == estRun && s.get K.chgInput != 0 &&
    (s.chgState == .cc || s.chgState == .cv || (s.chgState == .done && s.get K.chgInput == 1))

/-- The estimator asks for the grant at a tick, or withdraws. -/
def estAsk (s : State) : State :=
  match s.est.measure with
  | some m =>
    if m.granted then s
    else if s.mayPerturb then { s with arb := { s.arb with estSince := s.arb.estSince.or (some s.tick) } }
    else { s with arb := { s.arb with estSince := none } }
  | none => s

/-! ### A point (R289, R290) -/

/-- The points' frequencies in mHz, their settling and measuring periods (R289). -/
def zFreqs : List Nat := [1000000, 100000, 30000, 10000, 3000, 1000, 300, 100]
def zSettles : List Nat := [8, 8, 4, 4, 2, 2, 1, 1]
def zPeriods : List Nat := [512, 256, 128, 64, 16, 8, 3, 3]

def Measurement.freq (m : Measurement) : Nat := nthN zFreqs m.point
def Measurement.settle (m : Measurement) : Nat := nthN zSettles m.point
def Measurement.periods (m : Measurement) : Nat := nthN zPeriods m.point

/-- `k` periods of the point have passed at a beat. -/
def Measurement.over (m : Measurement) (beat k : Nat) : Bool := decide (k * 1000000000 ≤ (beat - m.t0) * m.freq)

/-- The number of the 16 kHz sample at a beat, from 0; of the first measuring sample; how many measure. -/
def Measurement.sample (m : Measurement) (beat : Nat) : Nat := (beat - m.t0) * 16 / 1000
def Measurement.first (m : Measurement) : Nat := (m.settle * 16000000 + m.freq - 1) / m.freq
def Measurement.count (m : Measurement) : Nat := m.periods * 16000000 / m.freq

/-- The limit that the amplitude of a point is held against: that of R259, in DONE the lowest of its three terms (DEDUCED,
assumption 113). -/
def State.ampLimit (s : State) : Nat :=
  if s.chgState = .done then min (s.get K.chgIchg) (min (s.get K.chgITherm) (s.get K.budgetChgIAllow)) else s.packLimit.1

/-- A in mA: that of the point's begin, never above half the limit in use (R289). -/
def State.ampNow (s : State) (m : Measurement) : Nat := min m.amp (s.ampLimit / 2)

/-- A sin (2πft) in µA, as the last sample gave it, held while a window is open (R290). -/
def State.pert (s : State) (m : Measurement) : Int :=
  if m.started then
    (s.ampNow m * 1000 : Nat) * Fixed.sin (m.freq * m.sample (m.heldAt.getD s.beat)) 16000000 / Fixed.one
  else 0

/-- What the sine is laid on in mA (R290): in CC it follows the limit in use. -/
def State.pointBase (s : State) (m : Measurement) : Int :=
  match s.chgState with
  | .cc => (s.packLimit.1 : Int) - s.ampNow m
  | .cv => m.base - s.ampNow m
  | _ => 0

/-- The charger's current reference in µA: during a point its base and the sine on it (R290), else the limit in use; none where R74 forces
it to 0. -/
def State.chgRef (s : State) : Int :=
  match s.est.measure with
  | some m => if m.started && !s.budget.forced then s.pointBase m * 1000 + s.pert m else (s.packRef : Int) * 1000
  | none => (s.packRef : Int) * 1000

/-- The charger is as it was at the grant (R293). -/
def State.chgKept (s : State) (m : Measurement) : Bool := s.get K.chgState == m.st0 && s.get K.chgInput == m.in0

/-- The sine of a point begins at phase 0 in this beat. -/
def startPoint (m : Measurement) (s : State) : State :=
  setEst (fun e => { e with
    perturbed := true
    measure := some { m with
      started := true, t0 := s.beat, amp := min (s.get K.estZAmp) (s.ampLimit / 2), base := s.getI K.chgIbat
      heldAt := none, blank := 0, dark := [] } }) s

/-- A granted point starts: in the beat of the grant, or at its stride unit (R287, R41), where the charger is still as it was. -/
def doEstZPointStart (s : State) : State :=
  match s.est.measure with
  | some m =>
    if s.fastUp ∧ m.granted ∧ m.started = false ∧ s.chgKept m then
      if s.get K.estZPlace = 0 then startPoint m s
      else if s.unitDue (s.get K.estZPos) K.estZPos then
        (startPoint m s).unitTaken (s.get K.estZPos) K.estZPos
      else s
    else s
  | none => s

def execEstZPointStart (s : State) : Host.Outcome State Fault Refusal := event doEstZPointStart s

/-- A beat of a point: an open window holds the reference, and a measuring sample that meets it has no weight (R290); the reference joins
the tick's mean (R262). -/
def estCount (s : State) : State :=
  match s.est.measure with
  | some m =>
    if m.started then
      let held := s.qw.openK.isSome
      let m := { m with heldAt := if held then m.heldAt.or (some s.beat) else none }
      let k := m.sample s.beat
      let hit := held && m.over s.beat m.settle && !m.over s.beat (m.settle + m.periods) && m.dark.head? != some k
      let m := if hit then { m with blank := m.blank + 1, dark := k :: m.dark } else m
      setEst (fun e => { e with measure := some m, pertSum := e.pertSum + s.pert m }) s
    else s
  | none => s

/-! ### The fit (R294; the search is assumption 26) -/

/-- 1 / (1 + j2πf·TAU) in 10^-9, for f in mHz and TAU in ms. -/
def zTerm (f tau : Nat) : Int × Int :=
  let x : Int := (6283185307 * f * tau / 1000000 : Nat)
  let d : Int := 10 ^ 18 + x * x
  (10 ^ 27 / d, -(x * 10 ^ 18 / d))

/-- A point of the fit: its three basis functions in 10^-9, and Z in µΩ. -/
def zRow (tau1 tau2 : Nat) (p : Nat × Int × Int) : List (Int × Int) × Int × Int :=
  ([(1000000000, 0), zTerm p.1 tau1, zTerm p.1 tau2], p.2)

def dot (a b : Int × Int) : Int := a.1 * b.1 + a.2 * b.2

/-- Σ h over the rows, each weighted by 1 / |Z|² in 10^-18. -/
def weigh (h : List (Int × Int) → Int × Int → Int) (l : List (List (Int × Int) × Int × Int)) : Int :=
  (l.map (fun r => h r.1 r.2 * (10 ^ 18 / max 1 (square r.2.1 r.2.2) : Nat))).sum

def det3 (a b c d e f g h i : Int) : Int := a * (e * i - f * h) - b * (d * i - f * g) + c * (d * h - e * g)

/-- RS, RP1, RP2 in µΩ of least cost for two time constants; none where they do not determine them. -/
def zSolve (l : List (List (Int × Int) × Int × Int)) : Option (Int × Int × Int) :=
  let b (r : List (Int × Int)) (j : Nat) : Int × Int := r.getD j (0, 0)
  let m (j k : Nat) : Int := weigh (fun r _ => dot (b r j) (b r k)) l
  let y (j : Nat) : Int := weigh (fun r z => dot (b r j) z) l
  let d := det3 (m 0 0) (m 0 1) (m 0 2) (m 1 0) (m 1 1) (m 1 2) (m 2 0) (m 2 1) (m 2 2)
  if d ≤ 0 then none
  else
    let d0 := det3 (y 0) (m 0 1) (m 0 2) (y 1) (m 1 1) (m 1 2) (y 2) (m 2 1) (m 2 2)
    let d1 := det3 (m 0 0) (y 0) (m 0 2) (m 1 0) (y 1) (m 1 2) (m 2 0) (y 2) (m 2 2)
    let d2 := det3 (m 0 0) (m 0 1) (y 0) (m 1 0) (m 1 1) (y 1) (m 2 0) (m 2 1) (y 2)
    some (roundDiv (1000000000 * d0) d.toNat, roundDiv (1000000000 * d1) d.toNat, roundDiv (1000000000 * d2) d.toNat)

/-- Σ |Z_f − Z(f)|² / |Z_f|² in 10^-12 of a solution. -/
def zResidue (x : Int × Int × Int) (l : List (List (Int × Int) × Int × Int)) : Nat :=
  (l.map (fun r =>
    let t (j : Nat) : Int × Int := r.1.getD j (0, 0)
    let re := (x.1 * (t 0).1 + x.2.1 * (t 1).1 + x.2.2 * (t 2).1) / 1000000000
    let im := (x.1 * (t 0).2 + x.2.1 * (t 1).2 + x.2.2 * (t 2).2) / 1000000000
    square (r.2.1 - re) (r.2.2 - im) * 1000000000000 / max 1 (square r.2.1 r.2.2))).sum

/-- The cost of a pair of time constants; without a solution it is beyond every other. -/
def zCost (l : List (Nat × Int × Int)) (tau1 tau2 : Nat) : Nat :=
  let r := l.map (zRow tau1 tau2)
  match (if tau1 < tau2 then zSolve r else none) with
  | some x => zResidue x r
  | none => 10 ^ 40

/-- The model of eight points: TAU1 and TAU2 in ms, RS, RP1, RP2 in µΩ, the error in 0.1 %; none where the fit fails. -/
def zFit (l : List (Nat × Int × Int)) : Option (Nat × Nat × (Int × Int × Int) × Nat) :=
  let p := Fixed.search (zCost l) 20 (Fixed.trial (zCost l) 10 1000)
  match (if p.1 < p.2.1 then zSolve (l.map (zRow p.1 p.2.1)) else none) with
  | some x => some (p.1, p.2.1, x, rms p.2.2 8)
  | none => none

/-- The eight points as measured. -/
def State.zPoints (s : State) : List (Nat × Int × Int) :=
  (upto 8).map (fun j => (nthN zFreqs j, s.getI (K.estZRe j), s.getI (K.estZIm j)))

/-- RS over its base in per mille. -/
def State.rsRatio (s : State) : Nat :=
  if s.get K.estRsBase = 0 then 0 else s.get K.estRs * 1000 / s.get K.estRsBase

/-- The fit after the last point (R294, R302): it fails, or gives a negative term, or replaces the model. `EST_RS_RISE` waits for the
epoch (R308). -/
def fitModel (m : Measurement) (s : State) : State :=
  match zFit s.zPoints with
  | none => endMeasure 3 s
  | some (tau1, tau2, (rs, rp1, rp2), err) =>
    if rs < 0 ∨ rp1 < 0 ∨ rp2 < 0 then endMeasure 3 s
    else
      let i : Int := (s.est.hist.head?.map (fun h => h.1)).getD 0
      let t := (((((s.putFit K.estRs rs).putFit K.estRp1 rp1).putFit K.estTau1 tau1).putFit K.estRp2 rp2).putFit
        K.estTau2 tau2).putFit K.estZFitErr err
      let t := (t.putI K.estZT (if m.tCount = 0 then t.getI K.estTPack else truncDiv m.tSum m.tCount)).put K.estZAge 0
      let t := staleEnd (t.putBit K.estStale 1 false)
      let t := if t.get K.estRsBase = 0 then t.put K.estRsBase (t.get K.estRs) else t
      let t := setEst (fun e => { e with
        fitted := true, u1 := rp1 * i / 1000000, u2 := rp2 * i / 1000000, learnDue := true }) t
      let t := endMeasure 1 ((t.bump K.estZSeq).putFit K.estRsRatio t.rsRatio)
      setEst (fun e => { e with rsDue := e.rsDue || decide (t.get K.estRsWarn ≤ t.rsRatio) }) t

/-- The complex amplitude at the point's frequency of its measuring samples from number `k` on, those without weight left out (R290), up to a
factor that Z_f does not keep. -/
def Measurement.correlate (m : Measurement) : Nat → List Int → Int × Int → Int × Int
  | _, [], a => a
  | k, x :: t, a =>
    let turn := m.freq * k
    m.correlate (k + 1) t (if m.dark.contains k then a
      else (a.1 + x * Fixed.sin (turn + 4000000) 16000000, a.2 - x * Fixed.sin turn 16000000))

/-- The amplitude of a point's measuring samples. -/
def Measurement.amplitude (m : Measurement) (l : List Int) : Int × Int := m.correlate m.first (l.take m.count) (0, 0)

/-- Z_f = V_f / I_f in µΩ, real and imaginary; without a current the spec states no value (assumption 23). -/
def zOf (j : Nat) (v i : Int × Int) : Int × Int :=
  let d := square i.1 i.2
  if d = 0 then (toInt 32 (Config.unstated (K.estZRe j) 0 % 2 ^ 32), toInt 32 (Config.unstated (K.estZIm j) 0 % 2 ^ 32))
  else (truncDiv (dot v i * 1000000) d, truncDiv ((v.2 * i.1 - v.1 * i.2) * 1000000) d)

/-- The measuring periods of a point are over: Z_f is formed from its samples; after the last point the fit. -/
def doEstZPointDone (v i : List Int) (s : State) : State :=
  match s.est.measure with
  | some m =>
    if s.fastUp ∧ m.started ∧ m.over s.beat (m.settle + m.periods) then
      let z := zOf m.point (m.amplitude v) (m.amplitude i)
      let t := (s.putFit (K.estZRe m.point) z.1).putFit (K.estZIm m.point) z.2
      let m' : Measurement := { m with point := m.point + 1, granted := false, started := false }
      let t := arbRelease 2 (setEst (fun e => { e with measure := some m' }) t)
      if m'.point < 8 then t else fitModel m' t
    else s
  | none => s

def execEstZPointDone (v i : List Int) (s : State) : Host.Outcome State Fault Refusal :=
  event (doEstZPointDone v i) s

/-- A point fails (R293): since the grant the charger has changed its state or input; once its sine runs, the CV clamp binds or too many
samples have no weight. -/
def State.pointFails (s : State) (m : Measurement) (cv : Bool) : Bool :=
  !s.chgKept m || (m.started && (cv ||
    decide (s.get K.estZBlankMax * m.periods * 16000000 < m.blank * 100 * m.freq)))

/-- A granted point that fails is abandoned, also one that still waits for its stride unit (R293). -/
def doEstZPointAbandon (cv : Bool) (s : State) : State :=
  match s.est.measure with
  | some m =>
    if s.fastUp ∧ m.granted ∧ s.pointFails m cv then
      let m' : Measurement := { m with tries := m.tries + 1, granted := false, started := false }
      let t := arbRelease 2 (setEst (fun e => { e with measure := some m' }) s)
      if s.get K.estZTries ≤ m'.tries then raiseLater .estZAbandon 0 (endMeasure 4 t) else t
    else s
  | none => s

/-! ## Removal, OFF, reset (R283, R303, R305) -/

/-- HIBERNATE is left (R311). -/
def leaveHib (s : State) : State := when (s.estState == estHib) (fun t => t.flag K.estStatus 0x400) s

/-- The pack is removed. -/
def packRemoved (s : State) : State :=
  let t := dropCandidates 0x24 (endMeasure 5 ((leaveHib s).put K.estState estNoPack))
  let t := (t.put K.estStale 3).flag K.estStatus 0x100
  raiseLater .estStale 0 (setEst (fun e => { e with
    learnDue := true, packGone := false, packBack := false, okRun := 0, hibCount := 0, sinceUpdate := 0, hibI := 0, hibV := 0 }) t)

/-- The device leaves the states in which the estimator works: OFF at once, the part epoch not counted. -/
def estOff (s : State) : State :=
  if s.estState = estOffCode then s
  else setEst (fun e => { e with hibCount := 0, sinceUpdate := 0, hibI := 0, hibV := 0, last := none })
    (endMeasure 5 ((leaveHib s).put K.estState estOffCode))

/-- The learned data as after a reset (R305). -/
def resetLearned (s : State) : State :=
  let t := dropCandidates 0x24 s
  let t := ((t.put K.estRsBase 0).put K.estLearnCnt 0).put K.estFbCnt 0
  let t := (t.put K.estStale 0).put K.estZSeq 0
  staleEnd (setEst (fun e => { e with fcc := t.get K.estDesignCap, fitted := false, learnDue := true }) t)

/-- A write of `EST.RESET` (R305). The voltage-start anchor takes the last epoch's current and voltage; where the estimator has met none
yet, that of INIT does. -/
def wrEstReset (v : Nat) (s : State) : Written :=
  if v ≠ 0xA5C3 then refuse Abort.value s
  else
    let t := setEst (fun e => { e with wakeDue := true }) (resetLearned s)
    match t.est.last with
    | some h => accept (voltageStart h.1 h.2 t)
    | none => accept (setEst (fun e => { e with anchorDue := true }) t)

/-! ## Converters and checkpoints (R279, R306) -/

/-- A converter delivers nothing for 100 beats. -/
def doEstAdc (beats : Nat) (s : State) : State :=
  if s.fastUp ∧ s.estState ≠ estOffCode ∧ 100 ≤ beats then
    takeSource .estAdc 0 (setEst (fun e => { e with adcDue := true }) s)
  else s

def execEstAdc (beats : Nat) (s : State) : Host.Outcome State Fault Refusal := event (doEstAdc beats) s

/-- A checkpoint is due. -/
def doEstCheckpoint (s : State) : State := if s.coreUp ∧ s.get K.estCkpt ≤ s.est.ckptAge then commitCkpt s else s

def execEstCheckpoint (s : State) : Host.Outcome State Fault Refusal := eventNv doEstCheckpoint s

/-! ## Hibernation (R284) -/

/-- The charger is idle. -/
def State.chgIdle (s : State) : Bool :=
  s.chgState == .off || s.chgState == .noSource || s.chgState == .done || s.chgState == .suspend

/-- HIBERNATE is entered at an epoch boundary (R283, R284). -/
def doEstHibernate (s : State) : State :=
  if s.fastUp ∧ s.beat % 1000000 = 0 ∧ s.estState = estRun ∧ s.get K.estHibT ≠ 0 ∧ s.get K.estHibT ≤ s.est.hibCount ∧
      s.est.measure = none then
    setEst (fun e => { e with wakeDue := false, sinceUpdate := 0, hibI := 0, hibV := 0 })
      ((s.put K.estState estHib).flag K.estStatus 0x200)
  else s

def execEstHibernate (s : State) : Host.Outcome State Fault Refusal := event doEstHibernate s

/-- The wake comparator: `EST.WAKE_I` in 4 beats; RUN at the next epoch boundary. -/
def doEstWake (i : Int) (beats : Nat) (s : State) : State :=
  if s.fastUp ∧ s.estState = estHib ∧ s.get K.estWakeI ≤ i.natAbs ∧ 4 ≤ beats then
    setEst (fun e => { e with wakeDue := true }) s
  else s

def execEstWake (i : Int) (beats : Nat) (s : State) : Host.Outcome State Fault Refusal := event (doEstWake i beats) s

/-! ## The update (R280) -/

/-- u grows by a charge in nC. -/
def uGrowth (fcc x : Nat) : Nat := if fcc = 0 then 0 else x * 10 ^ 12 / (3600 * fcc)

/-- One relaxation state in nV over `n` s (R298). -/
def relax (u : Int) (rp tau : Nat) (i : Int) (n : Nat) : Int :=
  let k : Int := Fixed.expNeg (n * 1000) tau
  truncDiv (u * k + rp * i * ((Fixed.one : Int) - k) / 1000000) Fixed.one

/-- Counting over `n` epochs with the charge `d` in nC and the mean current `i` (R280, R298). -/
def integrate (d i : Int) (n : Nat) (s : State) : State :=
  let grow := uGrowth s.est.fcc (5 * d.natAbs / 1000 + max (s.get K.estDeadband * 1000000) 1000000 * n)
  setEst (fun e => { e with
    a := wrap64 (e.a + d), q := e.q + d
    qIn := if 0 < d then e.qIn + d.toNat else e.qIn
    qOut := if 0 < d then e.qOut else e.qOut + (-d).toNat
    u := e.u + grow, anchorAge := e.anchorAge + n
    u1 := relax e.u1 (s.get K.estRp1) (s.get K.estTau1) i n
    u2 := relax e.u2 (s.get K.estRp2) (s.get K.estTau2) i n }) s

/-- Counts over `n` epochs: rest, quiet, hibernation, history (R284, R288). -/
def countEpochs (i : Int) (v n : Nat) (s : State) : State :=
  let rest := decide (i.natAbs ≤ s.get K.estRestI * 1000000)
  let calm := decide (i.natAbs < s.get K.estHibI * 1000000) && s.chgIdle && s.est.measure.isNone
  let on : Bool := match s.est.measure with | some m => m.started | none => false
  setEst (fun e => { e with
    hist := (List.replicate (min n 61) (i, v) ++ e.hist).take 61
    restCount := if rest then e.restCount + n else 0
    restSince := if rest then e.restSince.map (fun x => x + n) else none
    quietCount := if e.perturbed then 0 else e.quietCount + n
    perturbed := on
    hibCount := if calm then e.hibCount + n else 0 }) s

/-- Disqualifying events drop both candidates (R300). -/
def disqualify (adc : Bool) (s : State) : State :=
  let t := dropAged s
  let temp := t.getI K.estTPack
  let t := if temp < t.getI K.estLearnTLo ∨ t.getI K.estLearnTHi < temp then dropCandidates 0x22 t else t
  let t := if adc then dropCandidates 0x23 t else t
  let t := if t.est.packChanged then dropCandidates 0x24 (setEst (fun e => { e with packChanged := false }) t) else t
  if t.get K.timeClkSrc = 1 then dropCandidates 0x25 t else t

/-- The disagreement flag (R295). -/
def disagreeTick (i : Int) (v : Nat) (s : State) : State :=
  if s.get K.estDisagree = 0 ∧ s.socCc < s.socV i v - (s.get K.estDisTol * 1000000 : Nat) then
    raiseLater .estDisagree 0 ((s.put K.estDisagree 1).flag K.estStatus 0x80)
  else s

/-- The cell voltage has drifted little over the last 60 epochs (R288). -/
def State.driftOk (s : State) : Bool :=
  match s.est.hist.head?, s.est.hist[60]? with
  | some a, some b => decide (((a.2 : Int) - b.2).natAbs ≤ 60 * s.get K.estRestDvdt * s.cells)
  | _, _ => false

/-- The current has been steady over the last 60 epochs (R297). -/
def State.steady (s : State) : Bool :=
  let l := s.est.hist.take 60
  let m := truncDiv (l.foldl (fun a h => a + h.1) 0) 60
  let band : Int := max (m.natAbs / 10) 200000000
  l.length == 60 && l.all (fun h => decide (|h.1 - m| ≤ band))

/-- The anchors of an epoch (R288, R292, R297). -/
def anchorTick (i : Int) (v : Nat) (s : State) : State :=
  let t := if s.est.fullDue then
      applyAnchor 4 1000000000 false (setEst (fun e => { e with fullDue := false }) s)
    else s
  let restT := t.get K.estRestT
  let due := match t.est.restSince with | none => true | some x => decide (restT ≤ x)
  let t := if restT ≤ t.est.restCount ∧ due = true ∧ restT ≤ t.est.quietCount ∧ t.driftOk then
      restPoint v (setEst (fun e => { e with restSince := some 0 }) t)
    else t
  let vSyn : Int := v - i * t.get K.estRs / 1000000000 - (t.est.u1 + t.est.u2) / 1000
  if t.estState = estRun ∧ t.get K.estAnchorT ≤ t.est.anchorAge ∧ t.get K.estZConfMin ≤ t.conf ∧
      2 * i.natAbs ≤ 1000 * t.est.fcc ∧ t.steady ∧ 60 ≤ t.est.quietCount then
    applyAnchor 3 (t.socOf vSyn) (t.flat vSyn) t
  else t

/-- `EST_UNANCHORED` (R299). -/
def unanchTick (s : State) : State :=
  let h := s.est.anchorAge / 3600
  let t := s.putFit K.estUnanchH h
  if t.get K.estUnanchLim ≤ h ∧ t.est.unanchRaised = false then
    raiseLater .estUnanchored 0 (setEst (fun e => { e with unanchRaised := true }) t)
  else t

/-- Time to empty in minutes (R302). -/
def State.tte (s : State) : Nat :=
  let l := s.est.hist.take 60
  let m := if l.isEmpty then 0 else truncDiv (l.foldl (fun a h => a + h.1) 0) l.length
  if m < -(s.get K.estRestI * 1000000 : Nat) then min 65534 (s.get K.estQRem * 60000 / m.natAbs) else 0xFFFF

/-- The readouts of R310 and the life figures of R302, to be published at the next tick (R282). -/
def showEst (i : Int) (v : Nat) (s : State) : State :=
  let cc := s.socCc
  let sv := s.socV i v
  let soc := min 1000 (max 0 (truncDiv (max cc sv) 1000000))
  let t := ((setEst (fun e => { e with pubDue := true }) s).putFit K.estVbat (v / 1000 : Nat)).putFit K.estIbat (truncDiv i 1000000)
  let t := ((t.put K.estSoc soc.toNat).putFit K.estSocCc (truncDiv cc 1000000)).putFit K.estSocV (truncDiv sv 1000000)
  let t := (t.putFit K.estSocUnc (s.est.u / 10 ^ 12 : Nat)).putFit K.estFcc s.est.fcc
  let t := t.putFit K.estQRem (soc.toNat * s.est.fcc / 1000 : Nat)
  let t := (t.put K.estSoh t.soh).putFit K.estEfc (s.est.qOut * 100 / (3600000 * s.get K.estDesignCap) : Nat)
  let t := (t.putFit K.estQInTotal (s.est.qIn / 3600000 : Nat)).putFit K.estQOutTotal (s.est.qOut / 3600000 : Nat)
  let t := ((t.put K.estTte t.tte).put K.estZConf t.conf).putFit K.estRsRatio t.rsRatio
  let cand (c : Option Candidate) : Int := match c with | some c => truncDiv c.soc 1000000 | none => 0xFFFF
  let t := (t.putFit K.estCandHi (cand t.est.hi)).putFit K.estCandLo (cand t.est.lo)
  let low := t.get K.estSocLow
  if low ≠ 0 ∧ soc < low ∧ t.est.lowRaised = false then
    raiseLater .estSocLow 0 (setEst (fun e => { e with lowRaised := true }) t)
  else if t.est.lowRaised ∧ (low + 50 : Int) ≤ soc then setEst (fun e => { e with lowRaised := false }) t
  else t

/-- R280 with what follows it at an epoch boundary, over `n` epochs with the charge `x` in nC: the removal where the pack is gone or an epoch's
voltage was `low` (R303), else the anchors. -/
def updateOnly (x : Int) (v n : Nat) (low adc : Bool) (s : State) : State :=
  let dead := decide ((truncDiv x n).natAbs < s.get K.estDeadband * 1000000)
  let d : Int := if dead then 0 else x
  let i := truncDiv d n
  let t := countEpochs i v n (integrate d i n s)
  if t.est.packGone || low then showEst i v (packRemoved (when low (raiseLater .estPackLost 0) t))
  else showEst i v (unanchTick (anchorTick i v (disagreeTick i v (disqualify adc t))))

/-- The update of an epoch in RUN, after which the estimator may hibernate (R284). -/
def update (i : Int) (v n : Nat) (low adc : Bool) (s : State) : State := doEstHibernate (updateOnly i v n low adc s)

/-! ## INIT (R285) -/

/-- The learned record comes back; without one the data start as after a reset. -/
def restoreLearned (s : State) : State :=
  let t := foundDamaged (Ring.learn.damaged s.store) s
  let t := if Ring.learn.copyLost s.store then takeSource .nvCopyLost 0 (t.flag K.nvStatus 8) else t
  match Ring.learn.newest s.store, Ring.learn.read s.store with
  | some (i, q), some r =>
    let p := r.payload
    let t := setEst (fun e => { e with
      fcc := leNat (p.take 8), qIn := leNat ((p.drop 8).take 8), qOut := leNat ((p.drop 16).take 8)
      fitted := leNat ((p.drop 24).take 1) == 1 }) t
    let t := (t.putFit K.estFcc t.est.fcc).putFit K.estQInTotal (t.est.qIn / 3600000 : Nat)
    let t := t.putFit K.estQOutTotal (t.est.qOut / 3600000 : Nat)
    ((unpackFields t learnKeys (p.drop 25)).put K.nvLearnCopy (i + 1)).put K.nvLearnSeq q
  | _, _ => setEst (fun e => { e with anchorDue := true }) (resetLearned t)

/-- The checkpoint comes back, with the readouts that it holds (R307). -/
def restoreCkpt (p : List Byte) (s : State) : State :=
  let t := setEst (fun e => { e with
    q := toInt 64 (leNat (p.take 8)), a := toInt 64 (leNat ((p.drop 8).take 8)), u := leNat ((p.drop 16).take 8)
    anchorAge := leNat ((p.drop 24).take 4) }) s
  (unpackFields t ckptKeys (p.drop 28)).putFit K.estSocUnc (t.est.u / 10 ^ 12 : Nat)

/-- The gap since the checkpoint, in cycles of the backup clock, is charged at `EST.OFF_I`. -/
def chargeGap (cycles : Nat) (s : State) : State :=
  let x := s.get K.estOffI * 1000000 * cycles / 32768
  setEst (fun e => { e with q := e.q - x, u := e.u + uGrowth e.fcc x, anchorAge := e.anchorAge + cycles / 32768 }) (s.flag K.estStatus 0x800)

/-- The INIT epoch (R283, R285, R305): its anchor is taken before the state that follows, whichever that is (DEDUCED, assumption 146). What the
records hold is published (R307, DEDUCED, assumption 147). -/
def initEpoch (i : Int) (v : Nat) (s : State) : State :=
  let t := restoreLearned (foundDamaged (Ring.ckpt.damaged s.store) s)
  let t := dropCandidates 0x20 (setEst (fun e => { e with u1 := 0, u2 := 0, pubDue := true }) t)
  let t := t.put K.estLearnDrop 0x20
  let rec_ := Ring.ckpt.read s.store
  let t := match rec_ with | some r => restoreCkpt r.payload t | none => t
  let off := match rec_ with | some r => (s.stamp - r.stamp % 2 ^ 63) % 2 ^ 63 | none => 0
  let gap := rec_.isSome && s.bk.valid
  let t := if gap then chargeGap off t else t
  let t := if gap = false ∨ t.est.anchorDue = true then voltageStart i v (setEst (fun e => { e with anchorDue := false }) t)
    else if t.get K.estRestT * 32768 ≤ off ∧ i.natAbs ≤ t.get K.estRestI * 1000000 then restPoint v t
    else t
  t.put K.estState (if 5000000 ≤ v ∧ t.chgState ≠ .missing then estRun else estNoPack)

/-! ## The epoch -/

/-- NO_PACK: the pack is back where DETECT found it, or after 10 epochs at 5,000 mV (R283, R304). -/
def noPackEpoch (i : Int) (v : Nat) (s : State) : State :=
  let n := if 5000000 ≤ v then s.est.okRun + 1 else 0
  let t := setEst (fun e => { e with okRun := n, hibCount := 0, packChanged := false, packGone := false, fullDue := false }) s
  if s.est.packBack ∨ 10 ≤ n then
    let t := setEst (fun e => { e with packBack := false, okRun := 0, restCount := 0, restSince := none }) t
    let t := t.put K.estState estRun
    match s.est.detOpen with
    | some (vo, ep) => if s.clock.epochs ≤ ep + 1 then voltageStart 0 (vo * 1000) t else voltageStart i v t
    | none => voltageStart i v t
  else t

/-- The mean of the enabled inputs that are not faulty, truncated (R281); with none the spec states no value. -/
def State.packMean (s : State) (l : List Int) : Int :=
  let g := ((upto 4).filter (fun j => s.ntcOn j && !s.est.ntcFaulty.getLsbD j)).map (nthI l)
  if g.isEmpty then toInt 16 (Config.unstated K.estTPack 0 % 2 ^ 16) else truncDiv g.sum g.length

/-- Full scale of the current converter in nV and of the voltage converter in µV, and 98 % of a full scale (R279). -/
def shuntFull : Nat := 50000000
def batFull : Nat := 66000000
def near (full : Nat) : Nat := full * 98 / 100

/-- The samples beyond 98 % of full scale (R279). -/
def overrangeOf (x : EpochInputs) : Nat :=
  ((x.shunt.filter (fun r => decide (near shuntFull < r.1.natAbs))).map Prod.snd).sum +
    ((x.bat.filter (fun r => decide (near batFull < r.1))).map Prod.snd).sum

/-- The mean of runs of samples; with none the spec states no value (assumption 23). -/
def meanRuns (k : Nat) (l : List (Int × Nat)) : Int :=
  let n := (l.map Prod.snd).sum
  if n = 0 then toInt 32 (Config.unstated k 0 % 2 ^ 32) else truncDiv ((l.map (fun r => r.1 * (r.2 : Int))).sum) n

/-- The mean pack current of an epoch in nA from the converter's sum: CSP − CSN, clipped at 98 % of full scale (DEDUCED, assumption 112), over
`CHG.RSHUNT` (R279, R280). -/
def State.epochI (s : State) (x : EpochInputs) : Int :=
  let n := (x.shunt.map Prod.snd).sum
  let sum := (x.shunt.map (fun r => clampInt (-(near shuntFull : Int)) (near shuntFull) r.1 * (r.2 : Int))).sum
  if n = 0 then toInt 32 (Config.unstated K.estIbat 0 % 2 ^ 32) else truncDiv (sum * 1000000) (n * s.get K.chgRshunt)

/-- The mean pack voltage of an epoch in µV, clipped likewise. -/
def epochV (x : EpochInputs) : Nat :=
  (meanRuns K.estVbat (x.bat.map (fun r => (((min (near batFull) r.1 : Nat) : Int), r.2)))).toNat

/-- The mean of NTC `j`'s readings over the epoch's ticks (R281); with none the spec states no value (assumption 23). -/
def State.ntcMean (s : State) (j : Nat) : Int :=
  let n := s.est.ntcNum.toArray.getD j 0
  if n = 0 then toInt 16 (Config.unstated (K.estNtcT j) 0 % 2 ^ 16) else truncDiv (s.est.ntcSum.toArray.getD j 0) n

/-- What every epoch samples and counts: temperatures, overrange, the age of the last measurement, of the model (R310) and of the checkpoint
(R306); a risen RS is raised (R308). -/
def sampleEpoch (x : EpochInputs) (s : State) : State :=
  let t := each (upto 4) (fun j u => u.putFit (K.estNtcT j) (u.ntcMean j)) s
  let t := t.putFit K.estTPack (t.packMean ((upto 4).map t.ntcMean))
  let n := overrangeOf x
  let t := if n = 0 then t
    else raiseLater .estAdc 0 ((t.bumpBy K.estOvrCnt n).flag K.estStatus 0x1000)
  let t := when t.est.rsDue (raiseLater .estRsRise 0) t
  let t := if t.est.fitted then t.putFit K.estZAge (t.get K.estZAge + 1) else t
  setEst (fun e => { e with
    rsDue := false, ckptAge := e.ckptAge + 1, last := some (t.epochI x, epochV x)
    lastEpoch := t.clock.epochs, sinceZ := e.sinceZ + 1, adcDue := e.adcDue || n != 0
    ntcSum := Vector.replicate 4 0, ntcNum := Vector.replicate 4 0
    measure := e.measure.map (fun m => { m with tSum := m.tSum + t.getI K.estTPack, tCount := m.tCount + 1 }) }) t

/-- HIBERNATE: the sums run on, candidates are judged at each epoch (R300); R280 at every 16th epoch, or as a wake event or a removal ends it
(R284, R303). A wake begins the count of `EST.HIB_T` anew (DESIGN CHOICE, assumption 127). -/
def hibEpoch (i : Int) (v : Nat) (adc : Bool) (s : State) : State :=
  let n := s.est.sinceUpdate + 1
  let si := s.est.hibI + i
  let sv := s.est.hibV + v
  let low := decide (v < 5000000)
  let flush (t : State) : State :=
    updateOnly si (sv / n) n low adc (setEst (fun e => { e with sinceUpdate := 0, hibI := 0, hibV := 0 }) t)
  if s.est.wakeDue then
    setEst (fun e => { e with hibCount := 0 })
      (flush (setEst (fun e => { e with wakeDue := false }) ((leaveHib s).put K.estState estRun)))
  else if s.clock.epochs % 16 = 0 ∨ low ∨ s.est.packGone then flush s
  else setEst (fun e => { e with sinceUpdate := n, hibI := si, hibV := sv }) (disqualify adc s)

/-- The estimator at an epoch boundary. -/
def estEpoch (x : EpochInputs) (s : State) : State :=
  if s.estState = estOffCode then
    if s.dev.estimates then
      setEst (fun e => { e with lastEpoch := s.clock.epochs, ntcSum := Vector.replicate 4 0, ntcNum := Vector.replicate 4 0 })
        (s.put K.estState estInit)
    else s
  else
    let t := sampleEpoch x s
    let adc := t.est.adcDue
    let t := setEst (fun e => { e with adcDue := false }) t
    let i := s.epochI x
    doEstZDue
      (if t.estState = estInit then
        let u := initEpoch i (epochV x) t
        if u.est.packGone ∧ u.estState = estNoPack then packRemoved u else setEst (fun e => { e with packGone := false }) u
      else if t.estState = estRun then update i (epochV x) 1 (decide (epochV x < 5000000)) adc t
      else if t.estState = estHib then hibEpoch i (epochV x) adc t
      else noPackEpoch i (epochV x) t)

/-- The beat is an epoch boundary that the estimator has not met yet (R31, R280). -/
def State.epochDue (s : State) : Bool :=
  s.coreUp && s.beat == s.clock.lastTick && s.beat % 1000000 == 0 && decide (s.est.lastEpoch < s.clock.epochs)

def doEstimatorEpoch (x : EpochInputs) (s : State) : State := if s.epochDue then estEpoch x s else s

def execEstimatorEpoch (inp : EpochInputs) (s : State) : Host.Outcome State Fault Refusal :=
  pathEvent (doEstimatorEpoch inp) s

/-- The learned record is committed where it is due (R306). -/
def commitLearned (s : State) : State :=
  if s.est.learnDue then commitLearn (setEst (fun e => { e with learnDue := false }) s) else s

end Sys2Proof.Machine
end

