-- ==== Sys2Proof/Machine/Backup.lean ====
section
/-! DEFINITION. The backup domain (R359 to R380): edges of the backup clock with the trim, second increments, wrap and alarm,
captures and sets, the calibration, the PWRON latch, the supply. -/

namespace Sys2Proof.Machine

def setBk (f : Backup → Backup) (s : State) : State := { s with bk := f s.bk }

/-! ## PWRON (R373) -/

/-- The latch sets. -/
def pwronLatch (s : State) : State :=
  if s.bk.latch then s else (setBk (fun b => { b with latch := true }) s).flag K.bkStatus 1

/-- The latch clears. -/
def pwronUnlatch (s : State) : State :=
  if s.bk.latch then (setBk (fun b => { b with latch := false }) s).flag K.bkStatus 2 else s

/-- An event that bit `i` of the copied `BK.PWRON_SRC` names. -/
def pwronEvent (i : Nat) (s : State) : State := if s.bk.pwronSrc.testBit i then pwronLatch s else s

/-! ## One edge of the backup clock -/

/-- Corrections before cycle `x` of a trim window: the k with floor(k × 1,048,576 / |T|) < x (R367). -/
def corrections (t : Int) (x : Nat) : Nat := (x * t.natAbs + 1048575) / 1048576

/-- What SUB advances by in cycle `c` of a window. -/
def subStep (t : Int) (c : Nat) : Nat :=
  if corrections t (c + 1) = corrections t c then 1 else if 0 < t then 2 else 0

/-- The next edge increments the second. -/
def Backup.turns (b : Backup) : Bool := decide (32768 ≤ b.sub + subStep b.trim b.window)

/-- The count of seconds after the next edge, with the wrap of R363. -/
def Backup.nextSecs (b : Backup) : Nat :=
  if b.turns then (if b.secs + 1 = calendarSpan then 0 else b.secs + 1) else b.secs

/-- The next edge passes the calendar's end. -/
def Backup.wraps (b : Backup) : Bool := b.turns && b.secs + 1 == calendarSpan

/-- The count moves by one cycle. -/
def Backup.count (b : Backup) : Backup :=
  { b with
    secs := b.nextSecs
    sub := (b.sub + subStep b.trim b.window) % 32768
    valid := b.valid && !b.wraps
    window := (b.window + 1) % 1048576 }

/-- The alarm fires (R371). -/
def alarmFires (s : State) : State := pwronEvent 2 ((setBk (fun b => { b with alarmDue := true }) s).flag K.rtcStatus 1)

/-- The next edge is one at which the alarm fires. -/
def State.alarmNext (s : State) : Bool :=
  s.bk.turns && alarmMatches (s.get K.rtcAlarm) (s.get K.rtcAlarmMask) s.bk.nextSecs &&
    !s.bk.ops.any (fun o => match o with | .set _ => true | _ => false)

/-- The device is in BACKUP, neither in boot nor held by SYSRST_N. -/
def State.inBackup (s : State) : Bool := s.dev == .backup && s.power.boot.isNone && !s.power.held

/-- The next edge ends the copied hold time in BACKUP. -/
def State.holdNext (s : State) : Bool :=
  s.inBackup && s.bk.pwronHold != 0 && s.bk.latch && s.bk.backupCycles + 1 == s.bk.pwronHold * 32768

/-- The captured entries take the calendar (R365). -/
def capture (s : State) : State :=
  let f := fieldsOf s.bk.secs
  let t := (((s.put K.rtcSec (f.byte 0)).put K.rtcMin (f.byte 1)).put K.rtcHour (f.byte 2)).put K.rtcWday f.wday
  let t := (((t.put K.rtcDate (f.byte 4)).put K.rtcMonth (f.byte 5)).put K.rtcYear (f.byte 6)).put K.rtcCent (f.byte 7)
  (t.put K.rtcCapStamp s.stamp).put K.rtcValid (if s.bk.valid then 1 else 0)

/-- The calendar is set at an edge (R366, R369, R370): a calibration ends, the crystal comes back where it is good again. -/
def setCalendar (secs : Nat) (s : State) : State :=
  let t := setBk (fun b => { b with
    secs := secs, sub := 0, window := 0, valid := true, internalOsc := b.internalOsc && !b.crystalGood }) s
  calEnd 3 (t.flag K.rtcStatus 2)

/-- The count in cycles that the calibration measures (R368). -/
def State.cycles (s : State) : Nat := s.bk.secs * 32768 + s.bk.sub

/-- What a host asked for comes about at an edge. -/
def rtcOp (o : RtcOp) (s : State) : State :=
  match o with
  | .capture => capture s
  | .set secs => setCalendar secs s
  | .calStart => { s with cal := s.cal.map (fun c => { c with c0 := some s.cycles }) }
  | .pwron on => if on then pwronLatch s else pwronUnlatch s

/-- What waits for an edge, as it acts there: a clear of PWRON that a set meets is none, for the set wins (R373). -/
def edgeOps (l : List RtcOp) : List RtcOp :=
  if l.contains (.pwron true) then l.filter (fun o => o != .pwron false) else l

/-- The calibration latches c1 at the first edge that reaches its end. -/
def calWatch (s : State) : State :=
  { s with cal := s.cal.map (fun c =>
    match c.c0, c.c1 with
    | some c0, none => if c0 + c.secs * 32768 ≤ s.cycles then { c with c1 := some s.cycles } else c
    | _, _ => c) }

/-- A new T at the start of a window: the domain copies the entry while the main domain runs (R367). -/
def windowStart (s : State) : State :=
  if s.bk.window = 0 ∧ s.dev.main then setBk (fun b => { b with trim := s.getI K.rtcTrim }) s else s

/-- One edge of the backup clock. A set and a clear of PWRON at one edge: the set wins, so a clear that an alarm meets is undone by it
(R373). -/
def bkEdge (s : State) : State :=
  let t := if s.holdNext then pwronUnlatch s else s
  let fires := s.alarmNext
  let wraps := s.bk.wraps
  let ops := edgeOps s.bk.ops
  let t := setBk (fun b => { b.count with ops := [], backupCycles := if s.inBackup then b.backupCycles + 1 else 0 }) t
  let t := windowStart t
  let t := if wraps then t.flag K.rtcStatus 8 else t
  let t := if fires then alarmFires t else t
  calWatch (each ops rtcOp t)

/-- `n` edges. -/
def bkEdges : Nat → State → State
  | 0, s => s
  | n + 1, s => bkEdges n (bkEdge s)

/-- A beat on the backup clock, nominally 32.768 kHz: 32,768 millionths of a cycle (R364). -/
def bkBeat (s : State) : State :=
  if s.dev.main then
    let p := s.bk.phase + 32768
    if 1000000 ≤ p then bkEdge (setBk (fun b => { b with phase := p - 1000000, beatEdges := b.beatEdges + 1 }) s)
    else setBk (fun b => { b with phase := p }) s
  else s

/-- A tick has seen `n` edges: those that the beats have not brought yet come now, those they brought too early hold the next ones
back. An edge that comes now lies before the beat of the writes of step 1, whose requests wait for the edge after it (R365, R366). -/
def bkTick (n : Nat) (s : State) : State :=
  let k := s.bk.beatEdges
  let t := setBk (fun b => { b with ops := [], beatEdges := 0, phase := b.phase - ((k - n : Nat) : Int) * 1000000 }) s
  setBk (fun b => { b with ops := s.bk.ops }) (bkEdges (n - k) t)

/-- The backup domain has a supply. -/
def State.bkUp (s : State) : Bool := s.dev != .off || s.power.boot.isSome

/-- The second increment at which the alarm fires (R371). -/
def doRtcAlarm (s : State) : State := if s.bkUp ∧ s.alarmNext then bkEdge s else s

def execRtcAlarm (s : State) : Host.Outcome State Fault Refusal := event doRtcAlarm s

/-- The edge that passes 2399-12-31 23:59:59 (R363). -/
def doRtcWrap (s : State) : State := if s.bkUp ∧ s.bk.wraps then bkEdge s else s

def execRtcWrap (s : State) : Host.Outcome State Fault Refusal := event doRtcWrap s

/-- The edge that ends a trim window (R367). -/
def doTrimWindow (s : State) : State := if s.bkUp ∧ s.bk.window = 1048575 then bkEdge s else s

def execTrimWindow (s : State) : Host.Outcome State Fault Refusal := event doTrimWindow s

/-- The edge that ends the hold of PWRON in BACKUP (R373). -/
def doPwronHoldExpire (s : State) : State := if s.holdNext then bkEdge s else s

def execPwronHoldExpire (s : State) : Host.Outcome State Fault Refusal := event doPwronHoldExpire s

/-- No crystal edge has come for `us` µs, 1 ms of which is a failure (R370): the internal oscillator takes over, the calendar is
invalid, a calibration ends. The source waits for the next tick (R376); in boot, whose test 9 lies behind, for the first after it. -/
def doRtcOscFail (us : Nat) (s : State) : State :=
  if s.bkUp ∧ s.bk.internalOsc = false ∧ 1000 ≤ us then
    let t := setBk (fun b => { b with internalOsc := true, crystalGood := false, valid := false, oscDue := s.fastUp || s.power.boot.isSome }) s
    calEnd 5 (t.flag K.rtcStatus 4)
  else s

def execRtcOscFail (us : Nat) (s : State) : Host.Outcome State Fault Refusal := event (doRtcOscFail us) s

/-- What an assertion of WAKE_N does (R284, R373). -/
def wakeActs (s : State) : State :=
  pwronEvent 1 { s with pins := { s.pins with wakeSeen := true }, est := { s.est with wakeDue := true } }

/-- WAKE_N has been low at `n` consecutive backup-clock edges, 4 of which assert it (R372). In BACKUP the assertion acts at this edge,
while the main domain runs or boots at the next tick. -/
def doWakeNAssert (n : Nat) (s : State) : State :=
  if s.bkUp ∧ 4 ≤ n then
    let t := { s with pins := { s.pins with wake := true } }
    if t.inBackup ∧ t.pins.wakeSeen = false then wakeActs t else t
  else s

def execWakeNAssert (n : Nat) (s : State) : Host.Outcome State Fault Refusal := event (doWakeNAssert n) s

/-! ## Host commands -/

/-- A request for the next edge. -/
def rtcQueue (o : RtcOp) (s : State) : State := setBk (fun b => { b with ops := b.ops ++ [o] }) s

/-- A write of `RTC.CAPTURE`. -/
def wrRtcCapture (v : Nat) (s : State) : Written :=
  if v ≠ 1 then refuse Abort.value s else accept (rtcQueue .capture s)

/-- A write of `RTC.SET`. -/
def wrRtcSet (v : Nat) (s : State) : Written :=
  if okSet v = false then refuse Abort.value s else accept (rtcQueue (.set (secondsOf (setFields v))) s)

/-- A write of `RTC.CAL_RUN`; `dc` is the system time at the next backup-clock edge. -/
def wrRtcCalRun (port : Port) (v dc : Nat) (s : State) : Written :=
  if v < 60 ∨ 86400 < v then refuse Abort.value s
  else if s.get K.ecatDcActive = 0 ∨ s.cal.isSome ∨ s.stalled then refuse Abort.state s
  else startJob port K.rtcCalRun (fun i u =>
    rtcQueue .calStart ({ u with cal := some ⟨i, v, dc, none, none⟩ }.put K.rtcCalStatus 7)) s

/-- The drift in ppb of dc cycles against dd ns (R368). -/
def driftPpb (dc dd : Nat) : Int :=
  roundDiv (((dc : Int) * 1000000000 - (dd : Int) * 32768) * 1000000000) ((dd : Int) * 32768)

/-- The calibration ends; `dc` is the system time at the edge of c1. -/
def doRtcCalDone (dc : Nat) (s : State) : State :=
  match s.cal with
  | some ⟨_, _, d0, some c0, some c1⟩ =>
    let dd := dc - d0
    let ppb : Int := if dd = 0 then toInt 32 (Config.unstated K.rtcCalPpb 0 % 2 ^ 32) else driftPpb (c1 - c0) dd
    let t := s.putFit K.rtcCalPpb ppb
    let new := s.getI K.rtcTrim - roundDiv (ppb * 1048576) 1000000000
    if new.natAbs ≤ 511 then
      calEnd 1 { t.putI K.rtcTrim new with staging := { t.staging with crcDue := true } }
    else calEnd 2 t
  | _ => s

def execRtcCalDone (dc : Nat) (s : State) : Host.Outcome State Fault Refusal := event (doRtcCalDone dc) s

/-- A write of 1 to `BK.PWRON_CMD`: it acts at the next backup-clock edge, as a set of the calendar does (DEDUCED, assumption 148). -/
def wrPwronSet (s : State) : Written := accept (rtcQueue (.pwron true) s)

/-- A write of 2 to `BK.PWRON_CMD`. -/
def wrPwronClear (s : State) : Written := accept (rtcQueue (.pwron false) s)

/-- A write of `BK.PWRON_CMD`. -/
def wrPwronCmd (v : Nat) (s : State) : Written :=
  if v = 1 then wrPwronSet s else if v = 2 then wrPwronClear s else refuse Abort.value s

/-! ## Supply and tick -/

/-- A threshold of R483 in mV: this device's own, within the bounds that the spec gives. -/
def thresholdMv (i lo hi : Nat) : Nat := max lo (min hi (Config.threshold i))

def vsysGoodMv : Nat := thresholdMv 0 15500 16000
def vsysUvMv : Nat := thresholdMv 1 14200 14800
def vbakStartMv : Nat := thresholdMv 2 1800 2000
def vbakHoldMv : Nat := thresholdMv 3 1600 1800
def packStartMv : Nat := thresholdMv 4 16300 16700
def vsysStartMv : Nat := thresholdMv 6 11500 12500
def vsysHoldMv : Nat := thresholdMv 7 9500 10500
def vddioRiseMv : Nat := thresholdMv 8 2750 2950
def vddioFallMv : Nat := thresholdMv 9 2650 2850

/-- The hold level of the pack in mV, as R359 states it; R483 gives its tolerance. -/
def packHoldMv : Nat := 16000

/-- The first backup supply that holds, by its code of `BK.SUPPLY` (R359, R379): 3 VSYS, 1 VBAK, 2 the pack. -/
def supplyOf (vsys vbak vbat : Nat) : Option Nat :=
  if vsysHoldMv ≤ vsys then some 3
  else if vbakHoldMv ≤ vbak then some 1
  else if packHoldMv ≤ vbat then some 2
  else none

/-- The backup domain runs from a source. -/
def takeSupply (x : Nat) (s : State) : State :=
  if s.bk.supply = x then s else (setBk (fun b => { b with supply := x }) s).flag K.bkStatus 4

/-- The main domain no longer supplies the backup domain: the first source that holds does. -/
def supplyBackup (vsys vbak vbat : Nat) (s : State) : State :=
  match supplyOf vsys vbak vbat with
  | some x => takeSupply x s
  | none => s

/-- The supplies are found at these levels in mV: the domain takes the first available one, which is the main domain while that
runs (R359). -/
def doBackupSupplyChange (vsys vbak vbat : Nat) (s : State) : State :=
  if s.dev.main then takeSupply 0 s else if s.bkUp then supplyBackup vsys vbak vbat s else s

def execBackupSupplyChange (vsys vbak vbat : Nat) (s : State) : Host.Outcome State Fault Refusal :=
  event (doBackupSupplyChange vsys vbak vbat) s

/-- What the main domain charges VBAK with in µA (R360): 100 µA up to 3,300 mV while `BK.VBAK_CHG` is 1. -/
def State.vbakCharge (s : State) : Nat :=
  if s.fastUp ∧ s.get K.bkVbakChg = 1 ∧ s.get K.bkVbak < 3300 then 100 else 0

/-- WAKE_N and the crystal as a tick finds them (R370, R372): 4 high samples release WAKE_N, 256 good cycles bring the crystal back. -/
def bkPins (i : TickInputs) (s : State) : State :=
  let t := setBk (fun b => { b with crystalGood := decide (256 ≤ i.crystalRun) }) s
  if 4 ≤ i.wakeHigh then { t with pins := { t.pins with wake := false, wakeSeen := false } } else t

/-- The backup domain's readings in step 3; WAKE_N counts at the tick that finds it asserted (R33, R372). -/
def bkSample (i : TickInputs) (s : State) : State :=
  let t := bkPins i s
  let t := if t.pins.wake && !t.pins.wakeSeen then wakeActs t else t
  let t := takeSupply 0 t
  ((t.putFit K.bkVbak i.vbak).put K.bkPwron (if t.bk.latch then 1 else 0)).put K.bkSupply t.bk.supply

/-- VBAK below its warning level over a whole tick (R376). -/
def vbakTick (i : TickInputs) (s : State) : State :=
  let was := s.bk.vbakLow
  let low := decide (i.vbakMax < s.get K.bkVbakWarn)
  let t := setBk (fun b => { b with vbakLow := low }) s
  if low && !was then takeSource .bkVbakLow 0 (t.flag K.bkStatus 8)
  else if !low && was then endCondition (SrcKind.bkVbakLow.number 0) t
  else t

/-- The sources of the backup domain in step 4, in their order (R371, R376). -/
def bkSources (i : TickInputs) (s : State) : State :=
  let t := vbakTick i s
  let t := if t.bk.oscDue then takeSource .rtcOscFail 0 (setBk (fun b => { b with oscDue := false }) t) else t
  if t.bk.alarmDue then
    takeSource .rtcAlarm 0 (setBk (fun b => { b with alarmDue := false }) { t with power := { t.power with alarmWake := true } })
  else t

end Sys2Proof.Machine
end

