-- ==== Sys2Proof/Machine/Seq.lean ====
section
/-! DEFINITION. The sequencer and the GAIT lines (R178 to R218): instruction words, the program store, starting and
ending programs and steps, and the meaning of each of their commands. -/

namespace Sys2Proof.Machine

/-! ## Instruction words (R186 to R197) -/

/-- The word of an instruction. -/
def encodeSeq : SeqInstr → BitVec 32
  | .nop => 0#32
  | .enable w tmo mask => 1#4 ++ BitVec.ofBool w ++ 0#3 ++ tmo ++ mask
  | .disable w tmo mask => 2#4 ++ BitVec.ofBool w ++ 0#3 ++ tmo ++ mask
  | .waitTime u n => 3#4 ++ BitVec.ofBool u ++ n
  | .waitStride lock skip unit => 4#4 ++ BitVec.ofBool lock ++ 0#7 ++ skip ++ unit
  | .check soft pol pset kind op =>
    5#4 ++ 0#1 ++ BitVec.ofBool soft ++ BitVec.ofBool pol ++ BitVec.ofFin (w := 5) pset ++ kind ++ op
  | .jump cond count target => 6#4 ++ cond ++ 0#10 ++ count ++ target
  | .gait tmo target => 7#4 ++ 0#12 ++ tmo ++ 0#2 ++ target
  | .setout mask value => 8#4 ++ 0#12 ++ mask ++ value
  | .mark entry log gs id => 9#4 ++ BitVec.ofBool entry ++ BitVec.ofBool log ++ 0#4 ++ gs ++ id
  | .slew rail w code => 10#4 ++ BitVec.ofFin (w := 4) rail ++ BitVec.ofBool w ++ 0#10 ++ code
  | .seqEnd => 15#4 ++ 0#28

/-- The VSET range of a rail (R86, R125). -/
def vsetRange (n : Nat) : Nat × Nat := if n < 8 then (200, 2200) else if n < 12 then (400, 8000) else (240, 1440)

/-- Every field holds a value that its encoding table allows (R181, R187 to R197). -/
def seqWf : SeqInstr → Bool
  | .enable _ _ mask => mask != 0
  | .disable _ _ mask => mask != 0
  | .check _ _ _ kind op =>
    if kind = 0 then decide (op.toNat < 24)
    else if kind = 1 then op != 0
    else if kind = 2 then op != 0 && decide (op.toNat < 256)
    else if kind = 3 then decide (op.toNat < 8)
    else if kind = 4 ∨ kind = 5 then op == 0
    else if kind = 6 then op != 0
    else false
  | .jump cond count _ => if cond = 3 then count != 0 else count == 0
  | .mark entry _ gs _ => entry || gs == 0
  | .slew rail _ code => decide ((vsetRange rail.val).1 ≤ code.toNat ∧ code.toNat ≤ (vsetRange rail.val).2)
  | _ => true

/-- The instruction whose fields a word holds, where its reserved bits are 0; the fields are not judged. -/
def fieldsSeq (w : BitVec 32) : Option SeqInstr :=
  let bit (i : Nat) : Bool := w.getLsbD i
  match (w.extractLsb' 28 4).toNat with
  | 0 => if w.extractLsb' 0 28 = 0 then some .nop else none
  | 1 => if w.extractLsb' 24 3 = 0 then some (.enable (bit 27) (w.extractLsb' 16 8) (w.extractLsb' 0 16)) else none
  | 2 => if w.extractLsb' 24 3 = 0 then some (.disable (bit 27) (w.extractLsb' 16 8) (w.extractLsb' 0 16)) else none
  | 3 => some (.waitTime (bit 27) (w.extractLsb' 0 27))
  | 4 => if w.extractLsb' 20 7 = 0 then some (.waitStride (bit 27) (w.extractLsb' 12 8) (w.extractLsb' 0 12)) else none
  | 5 =>
    if bit 27 = false then
      some (.check (bit 26) (bit 25) (w.extractLsb' 20 5).toFin (w.extractLsb' 16 4) (w.extractLsb' 0 16))
    else none
  | 6 => if w.extractLsb' 16 10 = 0 then
      some (.jump (w.extractLsb' 26 2) (w.extractLsb' 8 8) (w.extractLsb' 0 8)) else none
  | 7 => if w.extractLsb' 16 12 = 0 ∧ w.extractLsb' 6 2 = 0 then
      some (.gait (w.extractLsb' 8 8) (w.extractLsb' 0 6)) else none
  | 8 => if w.extractLsb' 16 12 = 0 then some (.setout (w.extractLsb' 8 8) (w.extractLsb' 0 8)) else none
  | 9 => if w.extractLsb' 22 4 = 0 then
      some (.mark (bit 27) (bit 26) (w.extractLsb' 16 6) (w.extractLsb' 0 16)) else none
  | 10 => if w.extractLsb' 13 10 = 0 then
      some (.slew (w.extractLsb' 24 4).toFin (bit 23) (w.extractLsb' 0 13)) else none
  | 15 => if w.extractLsb' 0 28 = 0 then some .seqEnd else none
  | _ => none

/-- The instruction a word encodes, if the encoding tables allow it (R181). -/
def decodeSeq (w : BitVec 32) : Option SeqInstr :=
  match fieldsSeq w with
  | some i => if seqWf i then some i else none
  | none => none

/-! ## The image (R179 to R182) -/

/-- Word `k` of an image. -/
def imageWord (b : List Byte) (k : Nat) : Nat := leNat ((b.drop (4 * k)).take 4)

/-- START and LEN of a slot in an image (R179). -/
def imageDir (b : List Byte) (slot : Nat) : Nat × Nat :=
  let w := imageWord b (2 + slot)
  (field w 16 10, field w 0 9)

/-- Word `k` of the program of a slot. -/
def progWord (b : List Byte) (slot k : Nat) : BitVec 32 := BitVec.ofNat 32 (imageWord b (10 + (imageDir b slot).1 + k))

/-- No two elements of a list are equal. -/
def distinct (l : List Nat) : Bool :=
  match l with
  | [] => true
  | a :: t => !t.contains a && distinct t

/-- The words of a non-empty program obey R181. What slot a word may stand in is asked of the words of programs alone (DESIGN CHOICE,
assumption 143). -/
def okProgram (b : List Byte) (slot : Nat) : Bool :=
  let len := (imageDir b slot).2
  len == 0 ||
  (decodeSeq (progWord b slot (len - 1)) == some .seqEnd &&
   (upto len).all (fun k =>
     match decodeSeq (progWord b slot k) with
     | none => false
     | some (.jump _ _ target) => decide (target.toNat < len)
     | some (.gait _ _) => decide (slot < 2)
     | some (.mark entry _ _ _) => !entry || slot == 1
     | some _ => true))

/-- The gait states of the entry marks of the power-down program, with their places (R203). -/
def entryMarks (b : List Byte) : List (Nat × Nat) :=
  (upto (imageDir b 1).2).filterMap (fun k =>
    match decodeSeq (progWord b 1 k) with
    | some (.mark true _ gs _) => some (gs.toNat, k)
    | _ => none)

/-- The verification of an image (R181). -/
def okImage (b : List Byte) : Bool :=
  let w := field (imageWord b 1) 0 16
  imageWord b 0 == 0x4B535147 && field (imageWord b 1) 16 16 == 1 && decide (1 ≤ w ∧ w ≤ 1024) &&
  b.length == (11 + w) * 4 && imageWord b (10 + w) == (crc32 (b.take ((10 + w) * 4))).toNat &&
  (upto 8).all (fun i =>
    let (st, len) := imageDir b i
    imageWord b (2 + i) == st * 2 ^ 16 + len && decide (st + len ≤ w ∧ len ≤ 256) &&
    (upto 8).all (fun j =>
      let (st', len') := imageDir b j
      i == j || len == 0 || len' == 0 || decide (st + len ≤ st' ∨ st' + len' ≤ st)) &&
    okProgram b i) &&
  (upto w).all (fun k => (decodeSeq (BitVec.ofNat 32 (imageWord b (10 + k)))).isSome) &&
  distinct ((entryMarks b).map Prod.fst)

/-- The image in use (R182): directory, size and CRC follow it. -/
def setImage (b : List Byte) (s : State) : State :=
  let n := field (imageWord b 1) 0 16
  let t := { s with seq := { s.seq with image := b }, staging := { s.staging with crcDue := true } }
  let t := each (upto 8) (fun i u => u.put (K.seqDir i) (if b.isEmpty then 0 else imageWord b (2 + i))) t
  (t.put K.seqImageWords (if b.isEmpty then 0 else n)).put K.seqImageCrc
    (if b.isEmpty then 0 else imageWord b (10 + n))

/-- A new image comes into use in the main domain (R182, R215). -/
def useImage (b : List Byte) (s : State) : State := (setImage b s).flag K.seqStatus 0x80

/-! ## Programs -/

/-- The line is pulled again: no GAIT step stands released (R206, R208). -/
def pullGait (s : State) : State := { s with gait := { s.gait with released := false, pullAt := none } }

/-- The line is pulled again, unless it has advanced and `GAIT.HOLD` still keeps it released (R206). -/
def settleGait (s : State) : State := if s.gait.pullAt.isSome then s else pullGait s

/-- The instruction at word `pc` of a slot: END for an empty program or beyond it (R178). -/
def State.instrAt (s : State) (slot pc : Nat) : SeqInstr :=
  if pc < (imageDir s.seq.image slot).2 then (decodeSeq (progWord s.seq.image slot pc)).getD .seqEnd else .seqEnd

/-- A program starts (R183, R185); its first word is the current instruction from now on (DEDUCED, assumption 37). -/
def startProgram (st : SeqState) (slot pc : Nat) (s : State) : State :=
  let t := (((((s.put K.seqState st.code).put K.seqProg slot).put K.seqPc pc).put K.seqLoop 0).put K.seqFlag 0).flag
    K.seqStatus 1
  let t := t.put K.seqInstr (encodeSeq (s.instrAt slot pc)).toNat
  settleGait { t with seq := { t.seq with
    waiting := none, nextPc := pc, atEnd := false, offAfter := none, stopAfter := false } }

/-- The sequencer stands without a program: no slot, and PC and INSTR as at reset (DEDUCED, assumption 37). -/
def seqIdle (s : State) : State :=
  let t := (((s.put K.seqState SeqState.idle.code).put K.seqProg 0xFF).put K.seqPc 0).put K.seqInstr 0
  settleGait { t with seq := { t.seq with
    waiting := none, atEnd := false, offAfter := none, stopAfter := false, job := none } }

/-- The word at which power-down is entered for the present gait state (R203). -/
def State.downEntry (s : State) : Nat :=
  match (entryMarks s.seq.image).find? (fun e => e.1 == s.get K.seqGaitState) with
  | some e => e.2
  | none => 0

/-- The power-down program is entered, with the cause that its end will give (R28, R203). -/
def enterPowerDown (cause : Nat) (s : State) : State :=
  let t := startProgram .powerDown 1 s.downEntry s
  { t with seq := { t.seq with cause := cause, job := none }, power := { t.power with offPending := none } }

/-- A user program ends with a result (R201, R205). -/
def endUser (result : Nat) (s : State) : State := seqIdle (jobEnd? s.seq.job .done result s)

/-- What every step failure leaves (R200, R213). -/
def noteFailure (cause rail chan : Nat) (s : State) : State :=
  let addr := s.get K.seqProg * 256 + s.get K.seqPc % 256
  let t := (((s.put K.seqFailCause cause).put K.seqFailAddr addr).bump K.seqFailCnt).flag K.seqStatus 4
  let t := fillFfr 1 rail chan cause 0 addr t
  { t with seq := { t.seq with waiting := none } }

/-- A program gives way at a step's end to an off request or to `SEQ.STOP` (R204, R205). -/
def giveWay (s : State) : State :=
  if s.seq.waiting.isSome then s
  else
    match s.seq.offAfter, s.seqState with
    | some c, .powerUp => enterPowerDown c (s.flag K.seqStatus 0x10)
    | some c, .user => enterPowerDown c (endUser 0x0D (s.flag K.seqStatus 0x10))
    | none, .user => if s.seq.stopAfter then endUser 0x0D s else s
    | _, _ => s

/-- The step that waits completes (R184). -/
def stepDone (s : State) : State := giveWay { s with seq := { s.seq with waiting := none } }

/-- A step fails with a cause from 0x01 to 0x0B (R201). -/
def stepFail (cause rail chan : Nat) (s : State) : State :=
  let t := noteFailure cause rail chan s
  match t.seqState with
  | .powerUp =>
    let t := takeSource .seqStepFail 0 t
    let t := if t.get K.gaitAlrmOnFail = 1 then assertAlarm t else t
    enterPowerDown 0x12 t
  | .powerDown => settleGait (takeSource .seqPdFail 1 t)
  | .user =>
    let u := takeSource .seqUserFail (t.get K.seqProg) t
    match u.seq.offAfter with
    | some c => enterPowerDown c (endUser cause (u.flag K.seqStatus 0x10))
    | none => endUser cause u
  | _ => t

/-- A CHECK fails (R199): with FAIL continue the program goes on. -/
def checkFail (soft : Bool) (cause rail chan : Nat) (s : State) : State :=
  let t := s.put K.seqFlag 1
  if soft then giveWay (takeSource .seqCheckSoft (t.get K.seqProg) (noteFailure cause rail chan t))
  else stepFail cause rail chan t

/-- `FFR.RAIL` and `FFR.CHAN` of a step that is abandoned (R213): SLEW names its rail, a CHECK of KIND 0 its channel. -/
def State.stepPlace (s : State) : Nat × Nat :=
  match s.seq.waiting with
  | some (.slew rail _ _) => (rail.val, 0xFF)
  | some (.check _ _ _ kind op) =>
    if kind = 0 then (if op.toNat < 16 then op.toNat else 0xFF, op.toNat) else (0xFF, 0xFF)
  | _ => (0xFF, 0xFF)

/-- The current step is abandoned with a cause (R200, R204). -/
def abandonStep (cause : Nat) (s : State) : State :=
  if cause = 0x0C then (noteFailure cause s.stepPlace.1 s.stepPlace.2 s).flag K.seqStatus 8
  else noteFailure cause s.stepPlace.1 s.stepPlace.2 s

/-- GAITALRM acts (R204, R210): the running program is abandoned, power-down starts at the next tick, the alarm waits for
ACTIVE, or it is recorded only. -/
def alarmActs (s : State) : State :=
  match s.seqState with
  | .powerUp => enterPowerDown 0x11 (abandonStep 0x0C s)
  | .user => enterPowerDown 0x11 (endUser 0x0C (abandonStep 0x0C s))
  | .idle =>
    match s.dev with
    | .active => { s with power := { s.power with offPending := some 0x11 } }
    | .doze =>
      let t := s.flag K.gaitStatus 0x10
      { t with power := { t.power with offPending := some 0x11 } }
    | _ => s
  | _ => s

/-- A power-up or user program starts; one that starts while the alarm is detected meets it in its first beat (R209,
R210). -/
def beginProgram (st : SeqState) (slot : Nat) (s : State) : State :=
  let t := startProgram st slot 0 s
  if t.gait.en && t.gait.detected then alarmActs t else t

/-- The power-up program starts as the device enters ACTIVE (R183, R184): in step 6, so its first word comes a tick later. -/
def startPowerUp (s : State) : State :=
  let t := beginProgram .powerUp 0 s
  { t with seq := { t.seq with lastStart := some t.tick } }

/-- STALL and LOCKOUT halt the sequencer (R183): a running program is abandoned with 0x0E. -/
def seqHalt (s : State) : State :=
  let t := if s.programRuns && !s.seq.atEnd then abandonStep 0x0E s else s
  let t := if s.seqState = .user then jobEnd? s.seq.job .done 0x0E t else t
  (seqIdle t).put K.seqState SeqState.halted.code

/-! ## Steps -/

/-- Whether the next instruction can start at this boundary (R184). -/
def State.canStart (s : State) : Bool :=
  s.coreUp && s.programRuns && s.seq.waiting.isNone && !s.seq.atEnd && s.seq.lastStart != some s.tick

/-- An instruction starts: PC, INSTR and the bookkeeping of R184 and R185. -/
def seqBegin (i : SeqInstr) (s : State) : State :=
  let pc := s.seq.nextPc
  let t := (s.put K.seqPc pc).put K.seqInstr (encodeSeq i).toNat
  { t with seq := { t.seq with startBeat := s.beat, lastStart := some s.tick, nextPc := pc + 1 } }

/-- An instruction waits. -/
def seqWait (i : SeqInstr) (s : State) : State := { s with seq := { s.seq with waiting := some i } }

/-- The rails a mask names, ascending. -/
def railsOf (mask : BitVec 16) : List Nat := maskList 16 mask.toNat

/-- The limit of an ENABLE or DISABLE in beats (R187). -/
def State.waitLimit (s : State) (tmo : BitVec 8) : Nat :=
  if tmo = 0 then s.get K.seqDefTmo * 1000 else tmo.toNat * 10000

/-- The limit of a GAIT in beats (R194). -/
def State.gaitLimit (s : State) (tmo : BitVec 8) : Nat :=
  if tmo = 0 then s.get K.gaitDefTmo * 1000 else tmo.toNat * 10000

/-- An enable that a program issues to a rail (R92, R93, R188): one in FAULT that its held source refuses leaves its code. -/
def tryEnable (n : Nat) (s : State) : State :=
  if s.rail n = .fault then
    match s.enableRefusal n with
    | some code => refuseEnable n code s
    | none => s
  else railEnable n s

/-- ENABLE (R188). -/
def seqEnable (w : Bool) (tmo : BitVec 8) (mask : BitVec 16) (s : State) : State :=
  if mask.getLsbD 12 && s.bk.l0On then stepFail 0x08 12 0xFF s
  else
    let l := (railsOf mask).filter (fun n => s.rail n == .off || s.rail n == .discharge || s.rail n == .fault)
    let bad := l.filter (fun n => (s.enableRefusal n).isSome)
    let t := each l tryEnable s
    match bad with
    | n :: _ => stepFail 0x03 n 0xFF t
    | [] => if w then seqWait (.enable w tmo mask) t else stepDone t

/-- DISABLE (R189). -/
def seqDisable (w : Bool) (tmo : BitVec 8) (mask : BitVec 16) (s : State) : State :=
  if mask.getLsbD 12 && s.bk.l0On then stepFail 0x08 12 0xFF s
  else
    let t := each (railsOf mask) (fun n u => railDisable n 0x02 u) s
    if w then seqWait (.disable w tmo mask) t else stepDone t

/-- WAIT_TIME (R190): a count of 0 completes in its start beat. -/
def seqWaitTime (ticks : Bool) (n : BitVec 27) (s : State) : State :=
  if n = 0 then stepDone s else seqWait (.waitTime ticks n) s

/-- WAIT_STRIDE (R191). -/
def seqWaitStride (lock : Bool) (skip : BitVec 8) (unit : BitVec 12) (s : State) : State :=
  if lock && s.strideState != .locked then stepFail 0x0B 0xFF 0xFF s
  else
    let n := skip.toNat + if unit.toNat ≤ s.stride.phase then 1 else 0
    seqWait (.waitStride lock skip unit) { s with seq := { s.seq with stridesLeft := n } }

/-- CHECK (R198) starts with no toggle counted. -/
def seqCheck (soft pol : Bool) (pset : Fin 32) (kind : BitVec 4) (op : BitVec 16) (s : State) : State :=
  let t := s.put K.seqChkToggles 0
  seqWait (.check soft pol pset kind op) { t with seq := { t.seq with stable := 0, stableAt := none, chatRail := 0xFF } }

/-- JUMP (R193). -/
def seqJump (cond : BitVec 2) (count target : BitVec 8) (s : State) : State :=
  let go (u : State) : State := { u with seq := { u.seq with nextPc := target.toNat } }
  let flag := s.get K.seqFlag = 1
  let loop := s.get K.seqLoop
  stepDone (match cond.toNat with
    | 0 => go s
    | 1 => if flag then go s else s
    | 2 => if flag then s else go s
    | _ => if loop < count.toNat then go (s.put K.seqLoop (loop + 1)) else s.put K.seqLoop 0)

/-- GAIT (R203, R206, R207). -/
def seqGait (tmo : BitVec 8) (target : BitVec 6) (s : State) : State :=
  let g := s.get K.seqGaitState
  let t := target.toNat
  let step (u : State) : State :=
    if u.gait.en then seqWait (.gait tmo target) { u with gait := { u.gait with released := true, pullAt := none } }
    else stepDone (u.put K.seqGaitState t)
  match s.seqState with
  | .powerUp => if t = g + 1 then step s else stepFail 0x07 0xFF 0xFF s
  | .powerDown =>
    if t + 1 = g then step s
    else if g ≤ t then stepDone s
    else stepFail 0x07 0xFF 0xFF (s.put K.seqGaitState t)
  | _ => s

/-- SETOUT (R195). -/
def seqSetout (mask value : BitVec 8) (s : State) : State :=
  let m := mask &&& s.pins.gpMask
  let t := { s with pins := { s.pins with gpOut := (s.pins.gpOut &&& ~~~m) ||| (value &&& m) } }
  stepDone (if m = mask then t else t.flag K.seqStatus 0x40)

/-- MARK (R196). -/
def seqMark (log : Bool) (id : BitVec 16) (s : State) : State :=
  let t := s.put K.seqLastMark id.toNat
  stepDone (if log then fireTrigger (.mark id.toNat) t else t)

/-- SLEW (R197). -/
def seqSlew (rail : Fin 16) (w : Bool) (code : BitVec 13) (s : State) : State :=
  let n := rail.val
  if s.alwaysOn n then stepFail 0x08 n 0xFF s
  else if (s.rail n).regulating = false then stepFail 0x09 n 0xFF s
  else
    let t := newTarget n code.toNat s
    if w then seqWait (.slew rail w code) t else stepDone t

/-- END (R183, R205). -/
def seqFinish (s : State) : State :=
  let t := s.flag K.seqStatus 2
  match t.seqState with
  | .powerDown =>
    let u := t.put K.seqGaitState 0
    settleGait { u with seq := { u.seq with atEnd := true, waiting := none } }
  | .user =>
    let off := t.seq.offAfter
    let u := endUser 0 t
    match off with
    | some c => enterPowerDown c u
    | none => u
  | .powerUp =>
    let off := t.seq.offAfter
    let u := seqIdle t
    match off with
    | some c => enterPowerDown c (u.flag K.seqStatus 0x10)
    | none => u
  | _ => t

/-- What an instruction does in its start beat. -/
def seqEffect (i : SeqInstr) (s : State) : State :=
  match i with
  | .nop => stepDone s
  | .enable w tmo mask => seqEnable w tmo mask s
  | .disable w tmo mask => seqDisable w tmo mask s
  | .waitTime u n => seqWaitTime u n s
  | .waitStride lock skip unit => seqWaitStride lock skip unit s
  | .check soft pol pset kind op => seqCheck soft pol pset kind op s
  | .jump cond count target => seqJump cond count target s
  | .gait tmo target => seqGait tmo target s
  | .setout mask value => seqSetout mask value s
  | .mark _ log _ id => seqMark log id s
  | .slew rail w code => seqSlew rail w code s
  | .seqEnd => seqFinish s

/-- An instruction starts at this boundary and acts in its beat. -/
def seqStart (i : SeqInstr) (s : State) : State := seqEffect i (seqBegin i s)

/-- The instruction that the store holds next. -/
def State.nextInstr (s : State) : SeqInstr := s.instrAt (s.get K.seqProg) s.seq.nextPc

/-- Step 5 of R34: a pending off request or alarm starts power-down in a tick after the one that entered ACTIVE, unless a lockout that is
due discards it (R22); a program gives way, and the next instruction of the store starts, unless one has started at this boundary. -/
def seqTick (s : State) : State :=
  let t := giveWay s
  let t := match t.power.offPending, t.seqState, t.dev with
    | some c, .idle, .active => if t.power.since < t.tick ∧ t.fc.lockoutDue = false then enterPowerDown c t else t
    | _, _, _ => t
  if t.canStart then seqStart t.nextInstr t else t

/-! ## Conditions of waiting steps -/

/-- Level of a GP pin: what the device drives, the watchdog's reset pin among it (R348), or what it samples. -/
def State.gpLevel (s : State) (p : Nat) : Bool :=
  if s.get K.wdgRstGp = p then s.wdg.pulseEnd.isNone
  else if s.pins.gpMask.getLsbD p then s.pins.gpOut.getLsbD p else s.pins.gpIn.getLsbD p

/-- The signals that a CHECK names, with the number of channel, pin or rail (R192). -/
def State.signals (s : State) (kind : BitVec 4) (op : BitVec 16) : List (Nat × Bool) :=
  let good (m : Nat) : Nat × Bool := (m, s.get (K.supGood m) == 1)
  match kind.toNat with
  | 0 => [good op.toNat]
  | 1 => (maskList 16 op.toNat).map good
  | 2 => (maskList 8 op.toNat).map (fun j => good (16 + j))
  | 3 => [(op.toNat, s.gpLevel op.toNat)]
  | 4 => [(0, s.get K.fdIbusGood == 1)]
  | 5 => [(0, s.strideState == .locked)]
  | 6 => (maskList 16 op.toNat).map (fun n => (n, s.discharged n))
  | _ => []

/-- The signals of a waiting CHECK that are sampled at ticks: pin levels and discharged rails (R198, kinds 3 and 6). -/
def State.tickSignals (s : State) : List (Nat × Bool) :=
  match s.seq.waiting with
  | some (.check _ _ _ kind op) => if kind = 3 ∨ kind = 6 then s.signals kind op else []
  | _ => []

/-- The sampled signals that changed are toggles of the waiting CHECK (R198), each with the number of its signal. -/
def tickToggles (was : List (Nat × Bool)) (s : State) : State :=
  each ((was.zip s.tickSignals).filter (fun e => e.1.2 != e.2.2)) (fun e u => offerToggle e.1.1 (fun _ => true) u) s

/-- The condition of a CHECK holds (R192). -/
def State.checkHolds (s : State) (pol : Bool) (kind : BitVec 4) (op : BitVec 16) : Bool :=
  (s.signals kind op).all (fun e => e.2 == !pol)

/-- `FFR.RAIL` and `FFR.CHAN` of a failed CHECK (R213): for a timeout the lowest signal that was false, whatever POL asks, for chatter the
one whose toggle reached the limit. -/
def State.checkPlace (s : State) (kind : BitVec 4) (op : BitVec 16) (chatter : Option Nat) : Nat × Nat :=
  let first := match chatter with
    | some m => m
    | none => match (s.signals kind op).find? (fun e => !e.2) with
      | some e => e.1
      | none => 0xFF
  let m := if kind = 0 then op.toNat else first
  if kind.toNat ≤ 2 then (if m < 16 then m else 0xFF, m)
  else if kind = 6 then (first, 0xFF)
  else (0xFF, 0xFF)

/-! ## Commands: instructions -/

/-! ## Commands: waits -/

/-- What a beat does to a step that waits; without such a step nothing happens. -/
def onWaiting (f : SeqInstr → State → State) (s : State) : State :=
  if s.fastUp then
    match s.seq.waiting with
    | some i => f i s
    | none => s
  else s

/-- A wait of ENABLE or SLEW ends with cause 0x0A where its rail has left the awaited states (R188, R197). -/
def waitBroken (s : State) : State :=
  onWaiting (fun i u =>
    match i with
    | .enable _ _ mask =>
      match (railsOf mask).find? (fun n => u.rail n == .fault || u.rail n == .off) with
      | some n => stepFail 0x0A n 0xFF u
      | none => u
    | .slew rail _ _ => if (u.rail rail.val).regulating then u else stepFail 0x0A rail.val 0xFF u
    | _ => u) s

/-- Every rail of a waiting ENABLE is ON or READY (R188). -/
def doEnableWaitDone : State → State :=
  onWaiting (fun i u =>
    match i with
    | .enable _ _ mask =>
      if (railsOf mask).all (fun n => u.rail n == .on || u.rail n == .ready) then stepDone u else u
    | _ => u)

def execEnableWaitDone (s : State) : Host.Outcome State Fault Refusal := event doEnableWaitDone s

/-- The limit of a waiting ENABLE is reached (R188), or one of its rails has entered FAULT or OFF. -/
def doEnableWaitTmo : State → State :=
  onWaiting (fun i u =>
    match i with
    | .enable _ tmo mask =>
      match (railsOf mask).find? (fun n => u.rail n == .fault || u.rail n == .off) with
      | some n => stepFail 0x0A n 0xFF u
      | none =>
        if u.seq.startBeat + u.waitLimit tmo ≤ u.beat then
          match (railsOf mask).find? (fun n => !(u.rail n == .on || u.rail n == .ready)) with
          | some n => stepFail 0x04 n 0xFF u
          | none => u
        else u
    | _ => u)

def execEnableWaitTmo (s : State) : Host.Outcome State Fault Refusal := event doEnableWaitTmo s

/-- A rail of a DISABLE has come to rest (R189). -/
def State.rests (s : State) (n : Nat) : Bool := s.rail n == .off || (s.rail n == .fault && s.discharged n)

/-- Every rail of a waiting DISABLE is OFF, or in FAULT and discharged (R189). -/
def doDisableWaitDone : State → State :=
  onWaiting (fun i u =>
    match i with
    | .disable _ _ mask => if (railsOf mask).all u.rests then stepDone u else u
    | _ => u)

def execDisableWaitDone (s : State) : Host.Outcome State Fault Refusal := event doDisableWaitDone s

/-- The limit of a waiting DISABLE is reached (R189). -/
def doDisableWaitTmo : State → State :=
  onWaiting (fun i u =>
    match i with
    | .disable _ tmo mask =>
      if u.seq.startBeat + u.waitLimit tmo ≤ u.beat then
        match (railsOf mask).find? (fun n => !u.rests n) with
        | some n => stepFail 0x05 n 0xFF u
        | none => u
      else u
    | _ => u)

def execDisableWaitTmo (s : State) : Host.Outcome State Fault Refusal := event doDisableWaitTmo s

/-- The time of a WAIT_TIME has passed (R184). -/
def doWaitTimeDone : State → State :=
  onWaiting (fun i u =>
    match i with
    | .waitTime ticks n =>
      let due := if ticks then (u.seq.startBeat / 1000 + n.toNat) * 1000 else u.seq.startBeat + n.toNat
      if due ≤ u.beat then stepDone u else u
    | _ => u)

def execWaitTimeDone (s : State) : Host.Outcome State Fault Refusal := event doWaitTimeDone s

/-- The awaited occurrence of the stride unit takes effect (R191), at a beat after the start beat. -/
def doWaitStrideDone : State → State :=
  onWaiting (fun i u =>
    match i with
    | .waitStride _ _ unit => if u.seq.stridesLeft = 0 ∧ u.unitDue unit.toNat K.seqInstr ∧ u.seq.startBeat < u.beat then stepDone u else u
    | _ => u)

def execWaitStrideDone (s : State) : Host.Outcome State Fault Refusal := event doWaitStrideDone s

/-- A CHECK of a pin that the device does not drive: between ticks only the command knows its level (DEDUCED, assumption 38). -/
def State.freePin (s : State) (kind : BitVec 4) (op : BitVec 16) : Bool :=
  kind == 3 && !s.pins.gpMask.getLsbD op.toNat && s.get K.wdgRstGp != op.toNat

/-- A beat of a waiting CHECK: its condition is judged and counted once (R198). -/
def countStable : State → State :=
  onWaiting (fun i u =>
    match i with
    | .check _ pol _ kind op =>
      if u.checkHolds pol kind op = false then { u with seq := { u.seq with stable := 0, stableAt := some u.beat } }
      else if u.seq.stableAt = some u.beat then u
      else { u with seq := { u.seq with stable := u.seq.stable + 1, stableAt := some u.beat } }
    | _ => u)

/-- The condition of a CHECK has held for STABLE beats without interruption (R198, R199). For a pin that only the command sees between
ticks, `n` are the beats up to this one. -/
def doCheckPass (n : Nat) : State → State :=
  onWaiting (fun i u =>
    match i with
    | .check _ _ pset kind op =>
      let lim := u.get (K.seqChkStable pset.val)
      if (if u.freePin kind op then lim ≤ n ∧ u.seq.startBeat + n ≤ u.beat + 1 else lim ≤ u.seq.stable) then stepDone (u.put K.seqFlag 0)
      else u
    | _ => u)

def execCheckPass (n : Nat) (s : State) : Host.Outcome State Fault Refusal := event (fun u => doCheckPass n (countStable u)) s

/-- The toggles of a CHECK reach CHAT (R198): cause 0x02. For a pin that only the command sees between ticks, `n` are its toggles since
the step's start beat. -/
def doCheckChatter (n : Nat) : State → State :=
  onWaiting (fun i u =>
    match i with
    | .check soft _ pset kind op =>
      let lim := u.get (K.seqChkChat pset.val)
      let u := if u.freePin kind op ∧ u.get K.seqChkToggles < n then u.putFit K.seqChkToggles n else u
      if lim ≠ 0 ∧ lim ≤ u.get K.seqChkToggles then
        let (r, c) := u.checkPlace kind op (some u.seq.chatRail)
        checkFail soft 0x02 r c u
      else u
    | _ => u)

def execCheckChatter (n : Nat) (s : State) : Host.Outcome State Fault Refusal := event (doCheckChatter n) s

/-- A CHECK has not passed within TIMEOUT (R198): cause 0x01. -/
def doCheckTimeout : State → State :=
  onWaiting (fun i u =>
    match i with
    | .check soft _ pset kind op =>
      if u.seq.startBeat + u.get (K.seqChkTimeout pset.val) * 1000 ≤ u.beat then
        let (r, c) := u.checkPlace kind op none
        checkFail soft 0x01 r c u
      else u
    | _ => u)

def execCheckTimeout (s : State) : Host.Outcome State Fault Refusal := event doCheckTimeout s

/-- The reference of a waiting SLEW equals CODE (R197). -/
def doSlewWaitDone : State → State :=
  onWaiting (fun i u =>
    match i with
    | .slew rail _ code =>
      if (u.rail rail.val).regulating ∧ u.railRef rail.val = code.toNat then stepDone u else u
    | _ => u)

def execSlewWaitDone (s : State) : Host.Outcome State Fault Refusal := event doSlewWaitDone s

/-! ## Commands: GAIT -/

/-- The line advances for this member at its `n`th consecutive high sample, all of them after the start beat (R206). -/
def doGaitAdvance (n : Nat) : State → State :=
  onWaiting (fun i u =>
    match i with
    | .gait _ target =>
      if n < u.get K.gaitAckN ∨ u.beat < u.seq.startBeat + n ∨ u.gait.released = false then u else
      let t := ((u.put K.seqGaitState target.toNat).bump K.gaitStepCnt).flag K.gaitStatus 1
      let t := t.put K.gaitLastWait ((u.beat - u.seq.startBeat) % 2 ^ 32)
      stepDone { t with gait := { t.gait with pullAt := some (u.beat + u.get K.gaitHold) } }
    | _ => u)

def execGaitAdvance (n : Nat) (s : State) : Host.Outcome State Fault Refusal := event (doGaitAdvance n) s

/-- The limit of a GAIT step is reached before the line advances (R206): cause 0x06, the line is pulled at once. In
power-down the gait state becomes TARGET first (R201). -/
def doGaitTmo : State → State :=
  onWaiting (fun i u =>
    match i with
    | .gait tmo target =>
      if u.seq.startBeat + u.gaitLimit tmo ≤ u.beat then
        let t := pullGait (u.flag K.gaitStatus 2)
        let t := if t.seqState = .powerDown then t.put K.seqGaitState target.toNat else t
        stepFail 0x06 0xFF 0xFF t
      else u
    | _ => u)

def execGaitTmo (s : State) : Host.Outcome State Fault Refusal := event doGaitTmo s

/-- GAIT.HOLD beats after the advance the member pulls GAIT low again (R206). -/
def doGaitHoldEnd (s : State) : State :=
  match s.gait.pullAt with
  | some b => if b ≤ s.beat then pullGait s else s
  | none => s

def execGaitHoldEnd (s : State) : Host.Outcome State Fault Refusal := event doGaitHoldEnd s

/-- Consecutive low samples of GAITALRM that the device's own assertion has made, from the beat after it on (R209, DEDUCED,
assumption 108). -/
def State.ownLow (s : State) : Nat := if s.gait.alarm then s.beat - s.gait.alarmFrom else 0

/-- GAITALRM is detected at its `n`th consecutive low sample (R209, R210). -/
def doGaitalrmDetect (n : Nat) (s : State) : State :=
  if s.fastUp && s.gait.en && !s.gait.detected && decide (s.get K.gaitAlrmDeglitch ≤ max n s.ownLow) then
    let t := (s.bump K.gaitAlrmCnt).flag K.gaitStatus 4
    let t := { t with gait := { t.gait with detected := true } }
    let t := if t.gait.alarm then t else takeSource .gaitAlrmIn 0 t
    alarmActs t
  else s

def execGaitalrmDetect (n : Nat) (s : State) : Host.Outcome State Fault Refusal := event (doGaitalrmDetect n) s

/-- The line rises when the last member releases it, and the alarm stops being detected (R209). -/
def doGaitalrmLineHigh (s : State) : State :=
  if s.gait.alarm then s
  else endCondition (SrcKind.gaitAlrmIn.number 0) { s with gait := { s.gait with detected := false } }

def execGaitalrmLineHigh (s : State) : Host.Outcome State Fault Refusal := event doGaitalrmLineHigh s

/-- A write to `GAIT.ALRM_CMD` (R208, R217). -/
def wrGaitAlrmCmd (v : Nat) (s : State) : Written :=
  if v ≠ 1 then refuse Abort.value s
  else if s.gait.en = false then refuse Abort.state s
  else accept (assertAlarm s)

/-- The device releases GAITALRM (R208): the minimum time has passed and no program runs, or power-down stands at END. -/
def doGaitalrmRelease (s : State) : State :=
  if s.gait.alarm ∧ s.gait.alarmSince + s.get K.gaitAlrmMin * 1000 ≤ s.beat ∧ (s.programRuns = false ∨ s.seq.atEnd = true) then
    { s with gait := { s.gait with alarm := false } }
  else s

/-- What the sequencer and the GAIT lines do by themselves at a beat (R184, R188, R189, R197, R198, R206, R209): at one beat chatter is
decided before a pass, a pass before the timeout. -/
def seqBeat (s : State) : State :=
  let t := doWaitTimeDone (doGaitHoldEnd (waitBroken (doGaitalrmDetect 0 s)))
  let t := doDisableWaitDone (doSlewWaitDone (doEnableWaitDone t))
  let t := doCheckTimeout (doCheckPass 0 (doCheckChatter 0 (countStable t)))
  doGaitTmo (doDisableWaitTmo (doEnableWaitTmo t))

def execGaitalrmRelease (s : State) : Host.Outcome State Fault Refusal := event doGaitalrmRelease s

/-! ## Commands: host -/

/-- A write of `SEQ.IMAGE` (R181, R182): verified whole, in use from step 2 of the next tick. -/
def wrSeqImage (b : List Byte) (s : State) : Written :=
  if s.programRuns then refuse Abort.state s
  else if okImage b = false then refuse Abort.store s
  else accept { s with staging := { s.staging with seqImage := some b } }

/-- A write of `SEQ.RUN` (R214): a job that runs a user program. -/
def wrSeqRun (port : Port) (v : Nat) (s : State) : Written :=
  if v < 2 ∨ 7 < v then refuse Abort.value s
  else if s.dev ≠ .active ∨ s.programRuns = true ∨ (imageDir s.seq.image v).2 = 0 then refuse Abort.state s
  else startJob port K.seqRun (fun i u => beginProgram .user v { u with seq := { u.seq with job := some i } }) s

/-- A write of `SEQ.STOP` (R205): the user program ends after its current step. -/
def wrSeqStop (v : Nat) (s : State) : Written :=
  if v ≠ 1 then refuse Abort.value s
  else if s.seqState ≠ .user then refuse Abort.state s
  else accept (giveWay { s with seq := { s.seq with stopAfter := true } })

/-- A write of `FFR.REARM` (R213). -/
def wrFfrRearm (v : Nat) (s : State) : Written :=
  if v ≠ 1 then refuse Abort.value s else accept (emptyFfr s)

end Sys2Proof.Machine
end

