-- ==== Sys2Proof/Machine/Store.lean ====
section
/-! DEFINITION. The configuration as one set (R10, R48, R411, R428, R457 to R464): its CRC, its payload, the image, the
choice of a stored copy, and an image coming into use. -/

namespace Sys2Proof.Machine

/-! ## The stored entries in order -/

/-- Every key of a dictionary row. -/
def EntryRow.keys (r : EntryRow) : List Nat := (upto r.n).map (fun i => (r.idx + i * r.di) * 256 + r.sub + i * r.ds)

/-- A number put at its place in a rising list. -/
def insertNat (a : Nat) : List Nat → List Nat
  | [] => [a]
  | b :: t => if a ≤ b then a :: b :: t else b :: insertNat a t

/-- The keys of the rows that a test accepts, in ascending order of index and subindex. -/
def keysWhere (p : EntryRow → Bool) : List Nat :=
  dictPages.flatMap (fun g => (((rowsOf (g * 256)).filter p).flatMap EntryRow.keys).foldr insertNat [])

/-- Stored entries of number type: what `CFG.CRC` covers (R48). -/
def crcKeys : List Nat := keysWhere (fun r => r.per == .s && r.ty != .str && r.ty != .domain)

/-- Stored entries with access rw, rwl or rwp: the items of the payload (R462). -/
def itemKeys : List Nat := keysWhere (fun r => r.per == .s && (r.acc == .rw || r.acc == .rwl || r.acc == .rwp))

/-- Bytes of the values that `g` gives the stored entries (R48). -/
def crcBytes (g : Nat → Nat) : List Byte := crcKeys.flatMap (fun k => leBytes (widthOf k) (g k))

/-- `CFG.CRC` of a set of values. -/
def cfgCrc (g : Nat → Nat) : Nat := (crc32 (crcBytes g)).toNat

/-- `CFG.CRC` is recomputed where a stored value has come into use since the last publication; the value is for the next tick
(R48). -/
def computeCrc (s : State) : State :=
  if s.staging.crcDue then
    { s with staging := { s.staging with crcDue := false, crcNext := some (cfgCrc s.get) } }
  else s

/-- The CRC that an earlier tick recomputed becomes valid, and a new one is recomputed for the next tick (R48). -/
def updateCrc (s : State) : State :=
  match s.staging.crcNext with
  | some v => computeCrc { s.put K.cfgCrc v with staging := { s.staging with crcNext := none } }
  | none => computeCrc s

/-! ## The payload (R462) -/

/-- A set of configuration values: the numbers that differ from their Defaults, and the sequencer image. -/
structure ConfigSet where
  values : List (Nat × Nat)
  image : List Byte
  deriving DecidableEq, Repr

/-- The value of an entry in a set. The derived sequencer entries follow the image (R182). -/
def ConfigSet.get (c : ConfigSet) (k : Nat) : Nat :=
  let n := field (imageWord c.image 1) 0 16
  if k = K.seqImageWords then (if c.image.isEmpty then 0 else n)
  else if k = K.seqImageCrc then (if c.image.isEmpty then 0 else imageWord c.image (10 + n))
  else if K.seqDir 0 ≤ k ∧ k ≤ K.seqDir 7 then (if c.image.isEmpty then 0 else imageWord c.image (2 + (k - K.seqDir 0)))
  else lookupD c.values k (dflt k)

/-- One item: index, subindex, 0, length, value. -/
def itemBytes (k : Nat) (v : List Byte) : List Byte :=
  leBytes 2 (k / 256) ++ leBytes 1 (k % 256) ++ [0#8] ++ leBytes 2 v.length ++ v

/-- The payload of a configuration record for values and an image. -/
def cfgPayload (g : Nat → Nat) (image : List Byte) : List Byte :=
  leBytes 4 (cfgCrc g) ++ leBytes 4 itemKeys.length ++
    itemKeys.flatMap (fun k => itemBytes k (if k = K.seqImage then image else leBytes (widthOf k) (g k)))

/-- The configuration image (R463). -/
def cfgImageBytes (payload : List Byte) : List Byte :=
  let b := leBytes 4 0x4B434647 ++ leBytes 2 1 ++ leBytes 2 0 ++ leBytes 4 payload.length ++ payload
  b ++ leBytes 4 (crc32 b).toNat

/-- `n` items, and nothing after them. -/
def parseItems : Nat → List Byte → Option (List (Nat × List Byte))
  | 0, [] => some []
  | 0, _ => none
  | n + 1, b =>
    let k := leNat (b.take 2) * 256 + leNat ((b.drop 2).take 1)
    let len := leNat ((b.drop 4).take 2)
    if b.length < 6 + len ∨ leNat ((b.drop 3).take 1) ≠ 0 then none
    else (parseItems n (b.drop (6 + len))).map (fun r => (k, (b.drop 6).take len) :: r)

/-- An item names a stored entry with the right length (R462). -/
def okItem (e : Nat × List Byte) : Bool :=
  match entryAt e.1 with
  | some r => r.per == .s && (r.acc == .rw || r.acc == .rwl || r.acc == .rwp) &&
      (r.ty == .domain || e.2.length == r.ty.bits / 8)
  | none => false

/-- The keys rise strictly. -/
def keysRise : List (Nat × List Byte) → Bool
  | a :: b :: t => decide (a.1 < b.1) && keysRise (b :: t)
  | _ => true

/-- The set that a payload holds, with its keys and its CRC field (R462); reserved bits are ignored (R5). -/
def parsePayload (p : List Byte) : Option (ConfigSet × List Nat × Nat) :=
  match parseItems (leNat ((p.drop 4).take 4)) (p.drop 8) with
  | none => none
  | some l =>
    if l.all okItem && keysRise l then
      let nums := l.filter (fun e => e.1 != K.seqImage)
      let vals := (nums.map (fun e => (e.1, clearMask (leNat e.2) (reservedBits e.1)))).filter (fun e => e.2 != dflt e.1)
      let img := match l.find? (fun e => e.1 == K.seqImage) with
        | some e => e.2
        | none => []
      some (⟨vals, img⟩, l.map Prod.fst, leNat (p.take 4))
    else none

/-! ## Process-data mapping (R428, R459, R460) -/

/-- The entries that start a job by a write (R447). -/
def jobStarters : List Nat :=
  [K.comSave, K.comRestore, K.stRetry, K.rhRun, K.rhCommission, K.seqRun, K.faultLockoutClear, K.estZRun, K.rtcCalRun,
   K.recFlush, K.recClear]

/-- The key and command entries that no output may name (R428). -/
def commandEntries : List Nat :=
  [K.wdgKey, K.cfgUnlock, K.cfgCommit, K.cfgDiscard, K.faultLockoutClear, K.estReset, K.recClear, K.stRetry]

/-- The key a mapping value names. -/
def mapKey (w : Nat) : Nat := w / 2 ^ 16 * 256 + field w 8 8

/-- A mapping value may stand in an output object (R428, R459). -/
def okOutput (w : Nat) : Bool :=
  w == 0 ||
  match entryAt (mapKey w) with
  | some r => (r.acc == .rw || r.acc == .wo) && r.ty != .str && r.ty != .domain && field w 0 8 == r.ty.bits &&
      !jobStarters.contains (mapKey w) && !commandEntries.contains (mapKey w)
  | none => false

/-- A mapping value may stand in an input object (R428, R459). -/
def okInput (w : Nat) : Bool :=
  w == 0 ||
  match entryAt (mapKey w) with
  | some r => r.acc != .wo && r.ty != .str && r.ty != .domain && mapKey w != K.chgFault && field w 0 8 == r.ty.bits
  | none => false

/-- The mapping values in use in an object: entry words 0 to N − 1. -/
def mapped (g : Nat → Nat) (out : Bool) (i : Nat) : List Nat :=
  if out then (upto (g (K.pdoRxMapN i))).map (fun j => g (K.pdoRxMapE i j))
  else (upto (g (K.pdoTxMapN i))).map (fun j => g (K.pdoTxMapE i j))

/-- Size in bytes of a list of mapping values. -/
def mapSize (l : List Nat) : Nat := (l.map (fun w => field w 0 8 / 8)).sum

/-- The numbers 0 to 3 of the assigned objects of a direction, in order. -/
def assigned (g : Nat → Nat) (out : Bool) : List Nat :=
  if out then (upto (g K.pdoRxAssignN)).map (fun j => g (K.pdoRxAssign j) - 0x1600)
  else (upto (g K.pdoTxAssignN)).map (fun j => g (K.pdoTxAssign j) - 0x1A00)

/-- The mapping values of the assigned objects of a direction, in the order of the image (R460). -/
def assignedMap (g : Nat → Nat) (out : Bool) : List Nat := (assigned g out).flatMap (mapped g out)

/-- Whether an assign value names a mapping object of its direction; 0 names none. -/
def okAssign (out : Bool) (v : Nat) : Bool := v == 0 || v / 4 == (if out then 0x1600 else 0x1A00) / 4

/-- The assigned subindices of a direction each name an object (R460). -/
def named (g : Nat → Nat) (out : Bool) : Bool :=
  if out then (upto (g K.pdoRxAssignN)).all (fun j => g (K.pdoRxAssign j) != 0)
  else (upto (g K.pdoTxAssignN)).all (fun j => g (K.pdoTxAssign j) != 0)

/-- The assigned output objects map an entry once only (R459). -/
def mapOnce (g : Nat → Nat) : Bool := distinct ((assignedMap g true).map mapKey)

/-- The whole mapping of a set obeys R428, R459 and R460. -/
def okMapping (g : Nat → Nat) : Bool :=
  (upto 4).all (fun i =>
    (upto 32).all (fun j => okOutput (g (K.pdoRxMapE i j)) && okInput (g (K.pdoTxMapE i j))) &&
    (mapped g true i).all (fun w => w != 0) && (mapped g false i).all (fun w => w != 0) &&
    decide (mapSize (mapped g true i) ≤ 1024 ∧ mapSize (mapped g false i) ≤ 1024) &&
    okAssign true (g (K.pdoRxAssign i)) && okAssign false (g (K.pdoTxAssign i))) &&
  named g true && named g false &&
  distinct (assigned g true) && distinct (assigned g false) && mapOnce g &&
  decide (mapSize (assignedMap g true) ≤ 1024 ∧ mapSize (assignedMap g false) ≤ 1024)

/-- Every value of a set meets the range and consistency rules of its entry (R411, R464). `QW[k].CTRL` at its Default 0 passes: a
copy saved with windows that were never set up can be used (DEDUCED, assumption 34). -/
def ConfigSet.ok (c : ConfigSet) : Bool :=
  itemKeys.all (fun k =>
    match entryAt k with
    | some r => r.ty == .domain || (k / 256 == 0x2490 && c.get k == 0) || (r.rule.ok r.ty (c.get k) && consistent k c.get)
    | none => false) &&
  (c.image.isEmpty || okImage c.image) && okMapping c.get

/-! ## Choosing a stored copy (R385, R411) -/

/-- The outcome of the selection: the set and its copy (1 A, 2 B) and sequence number, the rejected copies, how many copies are
damaged, and whether a good copy stands beside a damaged one. -/
structure Selection where
  use : Option (ConfigSet × Nat × Nat)
  rejected : Nat
  damaged : Nat
  copyLost : Bool
  deriving DecidableEq, Repr

/-- The set that a good copy holds, if it can be used (R411). -/
def usableCopy (f : Found) : Option ConfigSet :=
  match f with
  | .good _ version _ _ p =>
    if version = 1 then
      match parsePayload p with
      | some (c, _, _) => if c.ok then some c else none
      | none => none
    else none
  | _ => none

/-- The selection of stage 3 (R411): the good copy with the higher sequence number first. -/
def selectConfig (m : List Host.Cell) : Selection :=
  let a := Ring.cfg.slot m 0
  let b := Ring.cfg.slot m 1
  let first := match a.seq?, b.seq? with
    | some p, some q => if p < q then 1 else 0
    | none, some _ => 1
    | _, _ => 0
  let order := if first = 0 then [(0, a), (1, b)] else [(1, b), (0, a)]
  let tried := order.map (fun e => (e.1, e.2, usableCopy e.2))
  let use := tried.findSome? (fun e => e.2.2.map (fun c => (c, e.1 + 1, e.2.1.seq?.getD 0)))
  let seen := match tried with
    | [x, y] => if x.2.2.isSome then [x] else [x, y]
    | l => l
  let rejected := seen.foldl (fun r e => if e.2.1.seq?.isSome && e.2.2.isNone then r + 2 ^ e.1 else r) 0
  let nd := (if a.isDamaged then 1 else 0) + (if b.isDamaged then 1 else 0)
  ⟨use, rejected, nd, (a.isDamaged && b.seq?.isSome) || (b.isDamaged && a.seq?.isSome)⟩

/-- The values of a set stand in the dictionary from boot on (R10, R412). -/
def installSet (c : ConfigSet) (s : State) : State := setImage c.image (each c.values (fun e u => u.put e.1 e.2) s)

/-! ## Image writes (R464) -/

/-- The set that an image holds, where every test of R464 passes. -/
def parseImage (b : List Byte) : Option ConfigSet :=
  let p := leNat ((b.drop 8).take 4)
  if leNat (b.take 4) = 0x4B434647 ∧ leNat ((b.drop 4).take 2) = 1 ∧ b.length = 16 + p ∧
      leNat ((b.drop 6).take 2) = 0 ∧ leNat (b.drop (12 + p)) = (crc32 (b.take (12 + p))).toNat then
    match parsePayload ((b.drop 12).take p) with
    | some (c, keys, crc) => if keys = itemKeys ∧ crc = cfgCrc c.get ∧ c.ok then some c else none
    | none => none
  else none

/-- The values of a set, entry by entry. -/
def ConfigSet.items (c : ConfigSet) : List (Nat × Nat) := (itemKeys.filter (fun k => k != K.seqImage)).map (fun k => (k, c.get k))

/-- Those of some values that differ from the ones in use. -/
def State.changes (s : State) (l : List (Nat × Nat)) : List (Nat × Nat) := l.filter (fun e => s.get e.1 != e.2)

/-- A write of `CFG.IMAGE` (R464): verified whole, due at this tick, or at stride k + 2 where a stride-scheduled entry
changes. Whatever waited before to come into use at that instant gives way to it (R35). -/
def wrCfgImage (b : List Byte) (s : State) : Written :=
  match parseImage b with
  | none => refuse Abort.store s
  | some c =>
    if s.get K.ecatAlState ≠ 2 ∨ s.programRuns ∨ !s.staging.set.isEmpty then refuse Abort.state s
    else
      if (s.changes c.items).any (fun e => strideScheduled e.1) then
        accept { s with staging := { s.staging with
          image := some (.stride s.strideTarget, c.items, some c.image)
          direct := s.staging.direct.filter (fun e => e.1 != s.strideTarget) } }
      else accept { s with staging := { s.staging with image := some (.tick, c.items, some c.image), seqImage := none } }

/-- An image comes into use whole (R464): every value that differs from the one in use by then, and its sequencer image likewise. -/
def applyImage (l : List (Nat × Nat)) (img : Option (List Byte)) (s : State) : State :=
  let t := each (s.changes l) (fun e u => applyValue e.1 e.2 u) { s with staging := { s.staging with image := none } }
  match img with
  | some b => if b = t.seq.image then t else useImage b t
  | none => t

/-! ## Save and restore (R457, R458) -/

/-- The signatures of `COM.SAVE` and `COM.RESTORE`. -/
def saveSignature : Nat := 0x65766173
def restoreSignature : Nat := 0x64616F6C

/-- A write of `COM.SAVE` (R457, R414): the job takes its snapshot in step 1. -/
def wrComSave (port : Port) (v : Nat) (s : State) : Written :=
  if v ≠ saveSignature then refuse Abort.store s
  else if s.stalled && s.power.mramFailed then refuse Abort.store s
  else if s.saving then refuse Abort.state s
  else startJob port K.comSave (fun i u =>
    { u with log := { u.log with save := some ⟨i, cfgPayload u.get u.seq.image, u.tick⟩ } }) s

/-- A write of `COM.RESTORE` (R458, R414, R446): the defaults become a record; the values in use stay. -/
def wrComRestore (port : Port) (v : Nat) (s : State) : Written :=
  if v ≠ restoreSignature then refuse Abort.store s
  else if s.get K.cfgLock = 1 ∨ s.stalled ∨ s.saving then refuse Abort.state s
  else startJob port K.comRestore (fun i u =>
    { u with log := { u.log with save := some ⟨i, cfgPayload dflt [], u.tick⟩ } }) s

/-- The save or restore record is committed (R457), or abandoned after a failed write (R383). -/
def doCfgSaveDone (fail : Bool) (s : State) : State :=
  match s.log.save with
  | none => s
  | some j =>
    let t := { s with log := { s.log with save := none } }
    if fail then jobEnd j.job .done 2 (t.nvAbandon Ring.cfg j.payload)
    else
      let (i, q) := Ring.cfg.next t.store
      jobEnd j.job .done 0 (((t.nvCommit Ring.cfg j.payload).put K.nvCfgCopy (i + 1)).put K.nvCfgSeq q)

def execCfgSaveDone (fail : Bool) (s : State) : Host.Outcome State Fault Refusal := eventNv (doCfgSaveDone fail) s

/-- A save or restore has ended 20 ticks after its start at the latest (R457, DESIGN CHOICE, assumption 124). -/
def saveTick (s : State) : State :=
  match s.log.save with
  | some j => if j.since + 20 ≤ s.tick then doCfgSaveDone (s.log.failing.testBit Ring.cfg.kind) s else s
  | none => s

/-! ## The configuration lock (R446) -/

/-- A write of `CFG.LOCK`: 1 locks, 0 is refused. -/
def wrCfgLock (v : Nat) (s : State) : Written :=
  if v = 0 then refuse Abort.state s
  else if v = 1 then accept (applyValue K.cfgLock 1 s)
  else refuse Abort.value s

/-- A write of the key to `CFG.UNLOCK` in PREOP clears the lock. -/
def wrCfgUnlock (v : Nat) (s : State) : Written :=
  if v ≠ 0x554C then refuse Abort.value s
  else if s.get K.ecatAlState ≠ 2 then refuse Abort.state s
  else accept (applyValue K.cfgLock 0 s)

end Sys2Proof.Machine
end

