-- ==== Sys2Proof/Machine/Time.lean ====
section
/-! DEFINITION. Time bases, the stride clock, commits and captures (R30 to R57). -/

namespace Sys2Proof.Machine

/-! ## The clock monitor (R32) -/

/-- The crystal is lost: the time base goes to the fallback oscillator once between resets; the beat counter runs on. During boot, from
stage 1 on, the collector receives the source at its end (R405, R408). -/
def doClkXtalLost (s : State) : State :=
  if s.get K.timeClkSrc = 0 then
    let t := (s.put K.timeClkSrc 1).bump K.timeClkSwitchCnt
    match s.power.boot with
    | some b => { t with power := { t.power with boot := some { b with found := b.found ++ [(.clkXtalLost, 0)] } } }
    | none => if s.fastUp then takeSource .clkXtalLost 0 t else s
  else s

def execClkXtalLost (s : State) : Host.Outcome State Fault Refusal := event doClkXtalLost s

/-! ## The stride clock (R36 to R43) -/

/-- A stride state is entered (R38, R43). ACQUIRING and HOLDOVER run without a correction; the phase does not jump (R40). A change of lock is a toggle
of a CHECK of kind 5 (R198). -/
def enterStride (x : StrideState) (s : State) : State :=
  let c := s.stride
  let t := s.put K.strideState x.code
  let t := if (s.strideState == .locked) != (x == .locked) then
      offerToggle 0xFF (fun i => match i with | .check _ _ _ kind _ => kind == 5 | _ => false) t
    else t
  match x with
  | .holdover =>
    let t := (setPeriod c.period 0 t).put K.strideHoldStrides 0
    let t := { t with stride := { t.stride with intervals := [], holdLong := false } }
    takeSource .strideHold 0 (t.flag K.strideStatus 1)
  | .acquiring =>
    let t := (setPeriod c.period 0 t).put K.strideHoldStrides 0
    { t with stride := { t.stride with intervals := [] } }
  | .locked =>
    let t := if c.everLocked then t.flag K.strideStatus 2 else t
    { t with stride := { t.stride with everLocked := true, badRun := 0 } }
  | .free => t

/-- The phase at a captured instant in 10 ns, rounded to the nearest unit, half up (R39). -/
def StrideClock.phaseAt (c : StrideClock) (now x : Int) : Int :=
  if c.length = 0 then 0
  else
    let e : Int := (c.elapsed : Int) - (now - x) * 2 ^ 28
    roundDiv (e * 4096) c.length

/-- A number of units wrapped to −2,048 to +2,047. -/
def wrapUnits (e : Int) : Int := (e + 2048) % 4096 - 2048

/-- The phase error of an edge and the correction it sets, limited to 1/64 (R39), with the period. -/
def correctStride (x : Int) (period : Nat) (s : State) : State :=
  let e := wrapUnits (s.stride.phaseAt (s.beat * 100) x + s.get K.strideOffset)
  (setPeriod period (clampInt (-64) 64 (-e)) s).putI K.stridePhaseErr e

/-- The last `n` intervals agree (R38): the largest less the smallest is at most TOL of the smallest. -/
def intervalsAgree (n tol : Nat) (l : List Nat) : Bool :=
  let l := l.take n
  let lo := l.foldl min (l.headD 0)
  let hi := l.foldl max 0
  l.length == n && decide ((hi - lo) * 10000 ≤ lo * tol)

/-- An edge is rejected (R38, R39). -/
def rejectEdge (s : State) : State :=
  let t := (s.bump K.strideRejectCnt).flag K.strideStatus 4
  match t.strideState with
  | .locked =>
    let t := { t with stride := { t.stride with badRun := t.stride.badRun + 1 } }
    if t.get K.strideMissN ≤ t.stride.badRun then enterStride .holdover t else t
  | .acquiring => if t.stride.measured then enterStride .holdover t else t
  | _ => t

/-- An edge becomes the last accepted stride-starting one. -/
def acceptEdge (x : Int) (s : State) : State :=
  { s with stride := { s.stride with lastEdge := some x, missed := 0 } }

/-- A stride-starting edge with its captured instant in 10 ns (R38, R39). In ACQUIRING the newest measured interval is the held period
at which the clock runs (DESIGN CHOICE, assumption 93); an interval longer than 60 s measures nothing and starts the measurement
anew. In LOCKED an edge after missing ones corrects the phase however long its interval is (R39). -/
def startingEdge (x : Int) (s : State) : State :=
  let c := s.stride
  let tol := s.get K.strideTol
  match s.strideState with
  | .free => s
  | .holdover => acceptEdge x s
  | st =>
    match c.lastEdge with
    | none => acceptEdge x s
    | some y =>
      let m := (x - y).toNat
      let mp := m * 65536
      if m < 100000 ∨ (c.measured ∧ mp * 10000 < c.period * (10000 - tol)) then rejectEdge s
      else if 6000000000 < m ∧ (st ≠ .locked ∨ c.missed = 0) then acceptEdge x s
      else if st = .locked then
        let p := if c.missed = 0 then
            ((c.period : Int) + ((mp : Int) - c.period) / 2 ^ s.get K.strideLoopK).toNat
          else c.period
        let t := correctStride x p s
        acceptEdge x { t with stride := { t.stride with badRun := 0 } }
      else
        let l := mp :: c.intervals
        let t := setPeriod mp c.corr s
        let t := { t with stride := { t.stride with measured := true, intervals := l.take 16 } }
        if intervalsAgree (s.get K.strideLockN) tol l then acceptEdge x (enterStride .locked (correctStride x mp t))
        else acceptEdge x t

/-- An accepted edge: every `STRIDE.DIV`-th is a stride-starting one (R36, R39). Any edge captured in HOLDOVER leads to ACQUIRING
(R38); it counts as a stride-starting one. A DIV-th edge that R39 then rejects still ends its count of DIV: the next stride-starting
edge is DIV edges later (DESIGN CHOICE, assumption 94). -/
def referenceEdge (x : Int) (s : State) : State :=
  if s.strideState = .holdover then
    let t := enterStride .acquiring s
    acceptEdge x { t with stride := { t.stride with div := 0 } }
  else if s.get K.strideDiv ≤ s.stride.div + 1 then startingEdge x { s with stride := { s.stride with div := 0 } }
  else { s with stride := { s.stride with div := s.stride.div + 1 } }

/-- An edge at the reference that `STRIDE.SOURCE` selected at boot (R36); at the others edges mean nothing. STRIDE_IN is filtered, and its
glitches are counted, whatever the source is (R37). -/
def doStrideEdge (e : StrideEdge) (s : State) : State :=
  if s.fastUp then
    match e with
    | .strideIn rising x =>
      if s.stride.source < 2 ∧ (s.get K.strideEdge = 0 ↔ rising = true) then referenceEdge ((s.clock.lastTick : Int) * 100 + x) s
      else s
    | .sync0 x =>
      if s.stride.source = 2 ∧ s.get K.ecatDcActive = 1 then referenceEdge ((s.clock.lastTick : Int) * 100 + x) s else s
    | .glitch => (s.bump K.strideRejectCnt).flag K.strideStatus 4
  else s

def execStrideEdge (e : StrideEdge) (s : State) : Host.Outcome State Fault Refusal := event (doStrideEdge e) s

/-- The next expected edge is missing: j P (1 + T) has passed since the last accepted edge (R39). -/
def State.edgeMissing (s : State) : Bool :=
  let c := s.stride
  match c.lastEdge with
  | some y => s.fastUp && s.strideState != .free && c.measured &&
      decide (((c.missed + 1) * c.period * (10000 + s.get K.strideTol) : Int) ≤ ((s.beat : Int) * 100 - y) * 65536 * 10000)
  | none => false

/-- A missing edge (R38, R39). -/
def doStrideMissingEdge (s : State) : State :=
  if s.edgeMissing then
    let t := (s.bump K.strideMissCnt).flag K.strideStatus 8
    let t := { t with stride := { t.stride with missed := t.stride.missed + 1 } }
    match t.strideState with
    | .locked =>
      let t := { t with stride := { t.stride with badRun := t.stride.badRun + 1 } }
      if t.get K.strideMissN ≤ t.stride.badRun then enterStride .holdover t else t
    | .acquiring => enterStride .holdover t
    | _ => t
  else s

def execStrideMissingEdge (s : State) : Host.Outcome State Fault Refusal := event doStrideMissingEdge s

/-- HOLDOVER has lasted `STRIDE.HOLD_WARN` strides (R43). -/
def doStrideHoldLong (s : State) : State :=
  if s.fastUp ∧ s.strideState = .holdover ∧ s.stride.holdLong = false ∧ s.get K.strideHoldWarn ≠ 0 ∧
      s.get K.strideHoldWarn ≤ s.get K.strideHoldStrides then
    takeSource .strideHoldLong 0 { s with stride := { s.stride with holdLong := true } }
  else s

def execStrideHoldLong (s : State) : Host.Outcome State Fault Refusal := event doStrideHoldLong s

/-- A configuration image due at the start of stride `n` comes into use (R464). -/
def imageDue (n : Nat) (s : State) : State :=
  match s.staging.image with
  | some (.stride m, l, img) => if m = n then applyImage l img s else s
  | _ => s

/-- What comes into use at the start of stride `n` (R44, R47, R464): a due image, the direct writes made since in their order, a due
commit. -/
def strideDue (n : Nat) (s : State) : State :=
  let t := imageDue n s
  let due := t.staging.direct.filter (fun e => e.1 == n)
  let t := { t with staging := { t.staging with direct := t.staging.direct.filter (fun e => e.1 != n) } }
  let t := each due (fun e u => applyValue e.2.1 e.2.2 u) t
  if t.staging.commit = some (.stride n) then applyStaging t else t

/-- The phase has passed 4,095: a new stride is due (R40, R41). -/
def State.strideEnds (s : State) : Bool := s.fastUp && decide (0 < s.stride.length ∧ s.stride.length ≤ s.stride.elapsed)

/-- Unit 0 of a new stride (R40, R41, R43, R44). A time-based window taken in this beat stays taken. -/
def newStride (s : State) : State :=
  let n := nextStride (s.get K.strideCount)
  let t := { s with
      stride := { s.stride with elapsed := s.stride.elapsed - s.stride.length, prev := -1
                                acted := s.stride.acted.filter (fun e => e.1 == 4096) }
      seq := { s.seq with stridesLeft := s.seq.stridesLeft - 1 } }
  let t := t.put K.strideCount n
  let t := if t.strideState = .holdover then t.bump K.strideHoldStrides else t
  strideDue n t

/-- The stride clock at boot (R38): source and state from the configuration, unit 0 of stride 0, the period nominal. -/
def startStride (s : State) : State :=
  let src := s.get K.strideSource
  let t := { s with stride := { StrideClock.reset with source := src, period := nominalPeriod (s.get K.strideNominal) } }
  (t.put K.strideState (if src = 3 then StrideState.free.code else StrideState.acquiring.code)).put K.stridePeriod
    (s.get K.strideNominal * 1000)

/-! ## Captures and commits -/

/-- A write of 1 to `TIME.CAPTURE` (R55): all values of the beat at which it takes effect. -/
def wrTimeCapture (v dc : Nat) (s : State) : Written :=
  if v ≠ 1 then refuse Abort.value s
  else accept (((((s.put K.timeCapBeat s.beat).put K.timeCapStrideCount (s.get K.strideCount)).put
    K.timeCapStridePhase s.stride.phase).put K.timeCapDc (if s.get K.ecatDcActive = 1 then dc else 0)).put
    K.timeCapEpoch (s.beat / 1000000 % 2 ^ 32))

/-- How many strides lie from one stride number to another, counting across the wrap (R47). -/
def stridesAhead (a n : Nat) : Nat := (n + 2 ^ 32 - a) % 2 ^ 32

/-- The staging set holds an entry that the watchdog's lock protects (R353). -/
def State.lockedSet (s : State) : Bool :=
  s.get K.wdgLock == 1 && s.staging.set.any (fun e => decide (K.wdgEn ≤ e.1 ∧ e.1 ≤ K.wdgStartDelay))

/-- A write of `CFG.COMMIT` (R47, R353). -/
def wrCfgCommit (n : Nat) (s : State) : Written :=
  if s.staging.set.isEmpty ∨ s.staging.commit.isSome ∨ s.lockedSet then refuse Abort.state s
  else if n = 0 then
    let due : DueAt := if s.staging.set.any (fun e => strideScheduled e.1) then .stride s.strideTarget else .tick
    accept (showStaging { s with staging := { s.staging with commit := some due } })
  else if 2 ^ 31 ≤ stridesAhead s.strideTarget n then refuse Abort.value s
  else accept (showStaging { s with staging := { s.staging with commit := some (.stride n) } })

/-- A write of 1 to `CFG.DISCARD` empties the staging set and cancels its commit (R46). -/
def wrCfgDiscard (v : Nat) (s : State) : Written :=
  if v ≠ 1 then refuse Abort.value s
  else accept (showStaging { s with staging := { s.staging with set := [], commit := none } })

/-- Step 2 of R34: an accepted sequencer image, a commit and a configuration image due at this tick come into use. -/
def tickCommits (s : State) : State :=
  let t := if s.staging.commit = some .tick then applyStaging s else s
  let t := match t.staging.image with
    | some (.tick, l, img) => applyImage l img t
    | _ => t
  match t.staging.seqImage with
  | some b => useImage b { t with staging := { t.staging with seqImage := none } }
  | none => t

end Sys2Proof.Machine
end

