-- ==== Sys2Proof/Machine/Boot.lean ====
section
/-! DEFINITION. The reset of the main domain and the stages of boot (R26, R50, R361, R404 to R412, R477). -/

namespace Sys2Proof.Machine

/-! ## What a reset of the main domain keeps -/

/-- Entries that live in the backup domain (R361, R418) and the state of an always-on L0. -/
def keptKey (l0 : Bool) (k : Nat) : Bool :=
  (match entryAt k with | some r => r.per == .b | none => false) || (l0 && k == K.railState 12)

/-- The reference of an always-on L0 goes on from where it is. -/
def keepL0 (s : State) : Vector RailEngine 16 :=
  let e := s.railE 12
  if s.bk.l0On then
    (Vector.replicate 16 RailEngine.reset).setIfInBounds 12 { e with refFrom := s.railRef 12, refBeat := 0, entered := 0 }
  else Vector.replicate 16 RailEngine.reset

/-- The main domain goes down: every entry and engine outside the backup domain returns to its reset value, events in flight at
crossing 4 are discarded (R50). The pins, the store, the queue and an always-on L0 remain, and the BAT path where a battery start turned it on;
that of a running device turns off (R251). -/
def mainReset (s : State) : State :=
  let t : State := { State.reset with
    od := s.od.filter (fun e => keptKey s.bk.l0On e.1)
    bk := { s.bk with ops := [], vbakLow := false, oscDue := false }
    ao := if s.bk.l0On then { AlwaysOn.reset with blockedBy := s.ao.blockedBy } else AlwaysOn.reset
    rails := keepL0 s
    pins := { Pins.reset with en := s.pins.en, wake := s.pins.wake, wakeSeen := s.pins.wakeSeen, vddioGood := s.pins.vddioGood, link := s.pins.link }
    path := { PowerPath.reset with
      batOn := s.path.batOn && !s.fastUp, batStarted := s.path.batStarted
      diodes := if s.fastUp then s.diodesAt (s.get K.pathVin) (s.get K.pathAuxin) else s.path.diodes }
    power := { Power.reset with held := s.power.held, coreTripped := s.power.coreTripped }
    mram := s.mram
    ecc := s.ecc
    pending := s.pending }
  t.put K.devState DevState.backup.code

/-- The rails and the main domain go down in one beat (R26). -/
def mainDown (s : State) : State := mainReset (railsLost (calEnd 6 (estOff s)))

/-! ## The stages of boot (R405) -/

/-- Stage 1 (R32, R405, R421, R477): the time base, the straps, the ports with link open their loops. -/
def stage1 (x : BootInputs) (s : State) : State :=
  let same := fun i => x.straps.all (fun b => b.getLsbD i == (x.straps.headD 0).getLsbD i)
  let v := (upto 4).foldl (fun m i => if same i && (x.straps.headD 0).getLsbD i then m + 2 ^ i else m) 0
  let t := (s.put K.devStrap (v + if (upto 4).all same then 0 else 128)).put K.ecatLink (s.pins.link.toNat * 5)
  if x.findings.getLsbD 4 then (t.put K.timeClkSrc 1).bump K.timeClkSwitchCnt else t

/-- The first test that fails, of a mask. -/
def firstTest (m : Nat) : Option Nat := (upto 10).find? (fun i => m.testBit i)

/-- The tests that a self-test counts as failed: one of 0 to 3 ends it at once (R410). -/
def failedTests (m : Nat) : Nat :=
  match firstTest m with
  | some i => if i < 4 then 2 ^ i else m
  | none => 0

/-- The findings of the tests that ran (R409): those of tests 4 and 9. -/
def foundTests (failed found : Nat) : Nat :=
  match firstTest failed with
  | some i => if i < 4 then 0 else found &&& 0x210
  | none => found &&& 0x210

/-- Stage 2: the self-test (R409, R410, R418). -/
def stage2 (x : BootInputs) (s : State) : State :=
  let f := failedTests x.failed.toNat
  let g := foundTests f x.findings.toNat
  let t := ((s.put K.stResult f).put K.stFindings g).put K.stDuration (x.duration % 2 ^ 16)
  let t := match firstTest f with
    | some i => (t.put K.stFirst i).put K.stDetail (Config.testDetail i).toNat
    | none => (t.put K.stFirst 0xFF).put K.stDetail 0
  if g.testBit 9 then
    (setBk (fun b => { b with internalOsc := true, crystalGood := false, valid := false }) t).flag K.rtcStatus 4
  else t

/-- The sources that stages 1 and 2 leave for the end of boot. -/
def stageSources (x : BootInputs) (s : State) : List (SrcKind × Nat) :=
  let g := s.get K.stFindings
  (if x.findings.getLsbD 4 then [(SrcKind.clkXtalLost, 0)] else []) ++
  (if g.testBit 9 then [(SrcKind.rtcOscFail, 0)] else []) ++
  (if s.get K.stResult = 0 then [] else [(SrcKind.stFail, s.get K.stFirst)]) ++
  (maskList 10 g).map (fun i => (SrcKind.stFinding, i))

/-- Entries "effective at boot" reach their engines (R38, R82, R116, R195, R207, R341, R412, R421). -/
def takeEffect (s : State) : State :=
  let t := each (upto 8) (fun p u =>
    let r := u.get (K.phaseRail p)
    (u.setPhaseE p { PhaseEngine.reset with rail := r }).putPhase p (if r < 8 then .idle else .unused)) s
  let t := each (upto 16) (fun n u => u.setRailE n { u.railE n with pairMode := u.get (K.railPairMode n) }) t
  let t := startStride t
  { (t.put K.wdgClkNow (t.get K.wdgClk)) with
    ecat := { t.ecat with phyAddr := t.get K.ecatPhyAddr }
    gait := { GaitLines.reset with en := t.get K.gaitEn == 1 }
    pins := { t.pins with gpMask := BitVec.ofNat 8 (t.get K.seqGpOutMask) } }

/-- Stage 3: the configuration, the first-failure record, the watchdog record, the log position (R386, R395, R411). -/
def stage3 (x : BootInputs) (s : State) : State × List (SrcKind × Nat) :=
  let s := { s with ecc := s.ecc ++ x.eccBad.filter (fun w => !s.ecc.contains w) }
  let m := s.store
  let sel := selectConfig m
  let t := match sel.use with
    | some (c, copy, q) => ((installSet c s).put K.nvCfgCopy copy).put K.nvCfgSeq q
    | none => s
  let t := countDamaged sel.damaged (t.put K.stCfgReject sel.rejected)
  let t := if sel.copyLost then t.flag K.nvStatus 8 else t
  let t := restoreRing m Ring.wdg wdgRecordKeys (restoreRing m Ring.ffr ffrKeys (restoreLog m t))
  let t := if x.eccCorr = 0 then t
    else
      let u := (t.bumpBy K.nvEccCorrCnt x.eccCorr).flag K.nvStatus 1
      { u with log := { u.log with eccRaised := true } }
  let t := takeEffect t
  (computeCrc { t with staging := { t.staging with crcDue := true } },
    (if x.eccCorr = 0 then [] else [(SrcKind.nvEccCorr, 0)]) ++
    List.replicate (t.get K.nvDamagedCnt) (SrcKind.nvDamaged, 0) ++
    (if sel.copyLost then [(SrcKind.nvCopyLost, 0)] else []) ++
    (if sel.rejected.testBit 0 then [(SrcKind.cfgReject, 1)] else []) ++
    (if sel.rejected.testBit 1 then [(SrcKind.cfgReject, 2)] else []) ++
    (if sel.use.isNone then [(SrcKind.cfgDefault, 0)] else []))

/-- Boot begins with a cause (R404, R408), from whatever the main domain was doing, and its stages run. Every boot but the first since
OFF has reset the main side of crossing 4 (R50). -/
def beginBoot (cause : Nat) (x : BootInputs) (s : State) : State :=
  let t := mainReset (bkEdges x.edges s)
  let t := if t.bk.mainRan then t.flag K.xingFlushed 0x10 else setBk (fun b => { b with mainRan := true }) t
  let t := pwronEvent 0 (t.bumpSat K.stBootCnt)
  let t := stage2 x (stage1 x t)
  let l := stageSources x t
  let (u, m) := stage3 x t
  let f := u.get K.stResult
  { u with power := { u.power with held := false, boot := some ⟨cause, f != 0, f.testBit 3, l ++ m⟩ } }

/-- A reset of the device from a main-domain state or during boot, and the boot that follows it (R26, R348, R354). -/
def deviceReset (cause : Nat) (x : BootInputs) (s : State) : State :=
  beginBoot cause x (if s.fastUp then railsLost (calEnd 6 (estOff s)) else s)

/-- The clock of a boot: `TIME.BEAT` starts at 0 (R30). -/
def Clock.restart (_ : Clock) : Clock := Clock.reset

end Sys2Proof.Machine
end

