-- ==== Sys2Proof/Machine/Watchdog.lean ====
section
/-! DEFINITION. The watchdog (R341 to R358): check-ins, periods and verdicts, actions, evidence, the key sequence, the lock, and
the watchdog of the management core. -/

namespace Sys2Proof.Machine

/-! ## States (R350, R351) -/

def wdgOff : Nat := 0
def wdgStart : Nat := 1
def wdgRun : Nat := 2
def wdgPaused : Nat := 3
def wdgDisabled : Nat := 4

def State.wdgSt (s : State) : Nat := s.get K.wdgState
def setWdg (f : Watchdog → Watchdog) (s : State) : State := { s with wdg := f s.wdg }

/-- START: the start delay begins. -/
def wdgToStart (s : State) : State :=
  setWdg (fun w => { w with startBeat := s.beat }) (s.put K.wdgState wdgStart)

/-- A period starts at W = `w` with the settings in use from now on; `WDG.SEEN` clears (R345, R347). -/
def wdgPeriodFrom (w : Nat) (s : State) : State :=
  let t := (s.put K.wdgPeriodStart w).put K.wdgSeen 0
  setWdg (fun g => { g with period := s.get K.wdgPeriod, winN := s.get K.wdgWinN, early := 0, double := 0, stamped := w }) t

/-- `WDG.START_DELAY` ms after START: RUN, with S_0 now. -/
def doWdgStartDelayEnd (s : State) : State :=
  if s.fastUp ∧ s.wdgSt = wdgStart ∧ s.wdg.startBeat + s.get K.wdgStartDelay * 1000 ≤ s.beat then
    wdgPeriodFrom s.wdg.w ((s.put K.wdgState wdgRun).flag K.wdgStatus 1)
  else s

def execWdgStartDelayEnd (s : State) : Host.Outcome State Fault Refusal := event doWdgStartDelayEnd s

/-- The device enters DOZE: a running period or start delay ends without a verdict. -/
def wdgPause (s : State) : State :=
  if s.wdgSt = wdgStart ∨ s.wdgSt = wdgRun then s.put K.wdgState wdgPaused else s

/-- The device leaves DOZE. -/
def wdgResume (s : State) : State := if s.wdgSt = wdgPaused then wdgToStart s else s

/-! ## Check-ins (R343 to R346) -/

/-- The window's opening in the running period. -/
def State.wdgOpen (s : State) : Nat := s.get K.wdgPeriodStart + s.wdg.winN * s.wdg.period / 16

/-- A check-in with its stamp is classed; its sources have no instance (R355). -/
def classCheckin (t w : Nat) (s : State) : State :=
  let m : BitVec 16 := BitVec.ofNat 16 (2 ^ t)
  if w < s.wdgOpen then
    takeSource .wdgEarly 0 ((setWdg (fun g => { g with early := g.early ||| m }) s).flag K.wdgStatus 4)
  else if s.bit K.wdgSeen t then
    if s.get K.wdgMode = 0 then
      takeSource .wdgDouble 0 ((setWdg (fun g => { g with double := g.double ||| m }) s).flag K.wdgStatus 4)
    else s.flag K.wdgStatus 8
  else s.putBit K.wdgSeen t true

/-! ## Verdicts (R347 to R349) -/

/-- What an expiry captures (R349). -/
def wdgCapture (cause missing early double w : Nat) (s : State) : State :=
  let t := ((((s.put K.wdgExpCause cause).put K.wdgExpMissing missing).put K.wdgExpEarly early).put K.wdgExpDouble double).put
    K.wdgExpW w
  let t := each (upto 16) (fun i u => (u.put (K.wdgEvTag i) (u.get (K.wdgLastTag i))).put (K.wdgEvTime i)
    (u.get (K.wdgLastTime i))) t
  setWdg (fun g => { g with recordDue := true }) t

/-- The reset pulse of action 1 starts, unless one runs. -/
def wdgPulse (s : State) : State :=
  if s.get K.wdgRstGp = 0xFF ∨ s.wdg.pulseEnd.isSome then s
  else setWdg (fun g => { g with pulseEnd := some (s.beat + s.get K.wdgRstMs * 1000) }) s

/-- The verdict on the running period at W = `w`; `clock`: the monitor tripped. Without an enabled task only that expires it. With action 2
the rails go off here, and the reset is still to come. Answers whether the period expired. -/
def wdgVerdict (clock : Bool) (w : Nat) (s : State) : Bool × State :=
  let missing := clearMask (s.get K.wdgTasks) (s.get K.wdgSeen)
  let early := s.wdg.early.toNat
  let double := s.wdg.double.toNat
  let cause := (if missing = 0 then 0 else 1) + (if early = 0 then 0 else 2) + (if double = 0 then 0 else 4) +
    (if clock then 8 else 0)
  if cause = 0 ∨ (s.get K.wdgTasks = 0 ∧ clock = false) then (false, s)
  else
    let t := ((s.bump K.wdgExpCnt).flag K.wdgStatus 2).flag K.wdgResetCause 1
    let t := if t.get K.wdgEvidence = 0 then wdgCapture cause missing early double w t else t
    let t := takeSource .wdgExpire 0 t
    (true, if t.get K.wdgAction = 1 then wdgPulse t else if t.get K.wdgAction = 2 then railsLost t else t)

/-- Action 2 (R348): the record is committed, the device resets and boots. -/
def wdgReset (x : BootInputs) (s : State) : State :=
  deviceReset 0x0F x (commitWdg (s.flag K.wdgResetCause 2))

/-- Whether an expiry resets the device. -/
def State.wdgResets (s : State) : Bool := s.get K.wdgAction == 2

/-- E_k is reached. -/
def State.periodOver (s : State) : Bool :=
  s.fastUp && s.wdgSt == wdgRun && decide (s.get K.wdgPeriodStart + s.wdg.period ≤ s.wdg.w)

/-- An expiry with action 2 leaves its reset due. -/
def noteReset (hit : Bool) (s : State) : State :=
  if hit && s.wdgResets then setWdg (fun g => { g with resetDue := true }) s else s

/-- The verdict of a period that is over, and the next period from E_k. -/
def wdgPeriodEnd (s : State) : State :=
  if s.periodOver then
    let e := s.get K.wdgPeriodStart + s.wdg.period
    let (x, t) := wdgVerdict false e s
    noteReset x (wdgPeriodFrom e t)
  else s

/-- The monitor trips (R342), once until the next boot: W goes on from its count with the other clock, the period expires with cause
CLOCK, the next starts at the trip. The expiry has the lower source number and is taken first (R225). -/
def wdgClkTrip (s : State) : State :=
  let t := setWdg (fun g => { g with tripped := true, lag := 0 })
    ((s.put K.wdgClkNow (1 - s.get K.wdgClkNow)).flag K.wdgResetCause 8)
  if t.wdgSt = wdgRun then
    let (x, u) := wdgVerdict true t.wdg.w t
    noteReset x (wdgPeriodFrom u.wdg.w (takeSource .wdgClk 0 u))
  else takeSource .wdgClk 0 t

/-- The clock monitor watches the clock in use. -/
def State.clkWatched (s : State) : Bool := s.fastUp && s.wdg.tripped == false && s.wdgSt != wdgOff

/-- The outcome of an expiry: an event, or the reset of action 2, which comes with this command (DESIGN CHOICE, assumption 114). -/
def wdgOutcome (x : BootInputs) (f : State → State) (s : State) : Host.Outcome State Fault Refusal :=
  let t := f s
  if t.wdg.resetDue then retimed Clock.restart (fun _ => wdgReset x t) s else event (fun _ => t) s

def execWdgPeriodEnd (x : BootInputs) (s : State) : Host.Outcome State Fault Refusal :=
  if s.fastUp then wdgOutcome x wdgPeriodEnd s else .next s

/-- No edge of the clock in use has come in `n` cycles of the other clock, 8 of which trip the monitor (R342). -/
def execWdgClk (n : Nat) (x : BootInputs) (s : State) : Host.Outcome State Fault Refusal :=
  if s.fastUp then wdgOutcome x (fun t => if t.clkWatched ∧ 8 ≤ n then wdgClkTrip t else t) s else .next s

/-- The pulse of action 1 ends (R348): the pin goes high, a running watchdog starts anew. -/
def doWdgRstPulseEnd (s : State) : State :=
  match s.wdg.pulseEnd with
  | some b =>
    if b ≤ s.beat then
      let t := setWdg (fun g => { g with pulseEnd := none }) s
      if t.wdgSt = wdgRun then wdgToStart t else t
    else s
  | none => s

def execWdgRstPulseEnd (s : State) : Host.Outcome State Fault Refusal := event doWdgRstPulseEnd s

/-- What falls due on the watchdog in a beat: the start delay, the period, the pulse. -/
def wdgBeat (s : State) : State :=
  if s.fastUp then doWdgStartDelayEnd (doWdgRstPulseEnd (wdgPeriodEnd (doWdgStartDelayEnd s))) else s

/-! ## Check-ins by the host (R343, R344) -/

/-- W has stamped a host access. -/
def stampNow (s : State) : State := setWdg (fun g => { g with stamped := g.w }) s

/-- A write of a tag to `WDG.CHECKIN[t]`: stamped with W at its completion, never refused; a period that ends at its
stamp is judged first (R346). -/
def wrWdgCheckin (t tag : Nat) (s : State) : Written :=
  let s := wdgBeat s
  if s.bit K.wdgTasks t ∧ s.wdgSt = wdgRun then
    accept (classCheckin t s.wdg.w (stampNow ((s.put (K.wdgLastTag t) tag).put (K.wdgLastTime t) s.wdg.w)))
  else accept (s.bump K.wdgIgnoredCnt)

def execWdgCheckin (port : Port) (t : Fin 16) (tag : BitVec 32) (s : State) : Host.Outcome State Fault Refusal :=
  event (hostDo port (K.wdgCheckin t.val) (wrWdgCheckin t.val tag.toNat)) s

/-! ## Key and lock (R352, R353) -/

/-- `WDG_KEY` is raised. -/
def keyBad (s : State) : State := takeSource .wdgKey 0 (s.flag K.wdgStatus 0x20)

/-- The watchdog listens to key words. -/
def State.keyHears (s : State) : Bool := s.wdgSt == wdgStart || s.wdgSt == wdgRun || s.wdgSt == wdgPaused

/-- A write of a word to `WDG.KEY`, judged at its stamp; a write of the lock before it refuses it although the lock is set at the tick. -/
def wrWdgKey (v : Nat) (s : State) : Written :=
  let s := stampNow (wdgBeat s)
  if s.get K.wdgLock = 1 ∨ s.wdg.lockAsked then (Abort.state, keyBad s)
  else if s.keyHears = false then accept s
  else
    let now := s.wdg.w
    let clear := setWdg (fun g => { g with keyFirst := none }) s
    if v = 0x4B1D then accept (setWdg (fun g => { g with keyFirst := some now }) s)
    else
      match s.wdg.keyFirst with
      | some w =>
        if v = 0xB4E2 ∧ now ≤ w + 100 then accept ((clear.put K.wdgState wdgDisabled).flag K.wdgStatus 0x10)
        else accept (keyBad clear)
      | none => accept (keyBad clear)

def execWdgKey (port : Port) (v : BitVec 16) (s : State) : Host.Outcome State Fault Refusal :=
  event (hostDo port K.wdgKey (wrWdgKey v.toNat)) s

/-- The lock is set. -/
def setLock (s : State) : State := (s.put K.wdgLock 1).flag K.wdgStatus 0x40

/-- A write of `WDG.LOCK` as it takes effect. -/
def wrWdgLock (v : Nat) (s : State) : Written :=
  if v = 1 then accept (setLock s)
  else if v = 0 then refuse Abort.state s
  else refuse Abort.value s

/-- A write of 1 to `WDG.LOCK` completes before its tick: the lock waits for the tick, key words after the write are refused already
(R352). -/
def askLock (s : State) : Written := accept (setWdg (fun g => { g with lockAsked := true }) s)

/-- A lock that waits for its tick is set. -/
def takeLock (s : State) : State := if s.wdg.lockAsked then setWdg (fun g => { g with lockAsked := false }) (setLock s) else s

/-- A write of `WDG.CMD` (R351). -/
def wrWdgCmd (v : Nat) (s : State) : Written :=
  if v = 1 ∧ s.wdgSt = wdgDisabled then accept (wdgToStart s) else refuse Abort.state s

/-! ## The watchdog of the management core (R354) -/

/-- It has not been restarted: the device resets and boots. It runs in every main-domain state and in boot. -/
def doWdgCoreTrip (x : BootInputs) (s : State) : State :=
  let t := (s.flag K.wdgResetCause 4).bumpSat K.wdgCoreTripCnt
  deviceReset 0x0E x { t with power := { t.power with coreTripped := true } }

/-- The core completes step 10 of a tick and restarts it. -/
def coreRestart (s : State) : State := setWdg (fun g => { g with coreIdle := 0 }) s

/-- W takes the oscillator's cycles of a tick (R341): it goes ahead by what they are over its beats; where they are fewer it is set to the
oscillator's count, but to no less than the last W that has stamped something, and what it then stands ahead passes before it counts
on (DESIGN CHOICE, assumption 117). -/
def Watchdog.correct (g : Watchdog) (osc : Nat) : Watchdog :=
  if 1000 ≤ osc then { g with w := g.w + (osc - 1000 - g.lag), lag := g.lag - (osc - 1000) }
  else
    let back := min (1000 - osc) (g.w - g.stamped)
    { g with w := g.w - back, lag := g.lag + (1000 - osc) - back }

/-- The watchdog in step 8 of a tick: the oscillator's cycles count, fewer than 900 or more than 1,100 trip the monitor (R342); a start
delay of 0 that began in the tick is over (R351); `WDG.NOW` shows W. -/
def wdgTick (i : TickInputs) (s : State) : State :=
  let t := if s.get K.wdgClkNow = 0 then
      let u := wdgBeat (setWdg (fun g => g.correct i.oscCycles) s)
      if u.clkWatched ∧ (i.oscCycles < 900 ∨ 1100 < i.oscCycles) then wdgClkTrip u else u
    else doWdgStartDelayEnd s
  t.put K.wdgNow (t.wdg.w % 2 ^ 64)

end Sys2Proof.Machine
end

