-- ==== Sys2Proof/Machine/Pair.lean ====
section
/-! DEFINITION. The redundant pair (R312 to R340): frames sent and received, the link, roles, carriage and takeover, handback,
remount, and the comparisons of the two halves. -/

namespace Sys2Proof.Machine

def setPair (f : Pair → Pair) (s : State) : State := { s with pair := f s.pair }

/-! ## States (R317, R328) -/

def pairWait : Nat := 1
def pairSolo : Nat := 2
def pairBulk : Nat := 3
def pairCatchup : Nat := 4
def pairShadow : Nat := 5
def pairPaired : Nat := 6

def State.pairSt (s : State) : Nat := s.get K.pairState
def State.linkUp (s : State) : Bool := s.get K.pairLink == 2
def State.primary (s : State) : Bool := s.get K.pairRole == 1

/-- The pair link works on this device. -/
def State.pairs (s : State) : Bool := s.fastUp && s.pairSt != 0

/-- The device takes pair decisions: not in STALL (R20, R414). -/
def State.decides (s : State) : Bool := s.pairs && s.dev != .stall

/-- The rails in a pairing mode, as a mask. -/
def State.modeMask (s : State) (m : Nat) : Nat := maskOf ((upto 16).filter (fun n => (s.railE n).pairMode == m))

/-- State code of rail `n` in a frame. -/
def peerRail (f : FastFrame) (n : Nat) : Nat := field f.railStates.toNat (4 * n) 4

/-- The partner is live (R328). -/
def State.peerLive (s : State) (f : FastFrame) : Bool :=
  f.devState == 3 || f.devState == 4 || (upto 16).any (fun n => (s.railE n).pairMode != 0 && peerRail f n != 0)

/-- The partner's last frame shows it live. -/
def State.partnerLive (s : State) : Bool := match s.pair.peer with | some f => s.peerLive f | none => false

/-- The partner's last slow frame shows the same configuration. -/
def State.cfgEqual (s : State) : Bool :=
  match s.pair.peerSlow with
  | some f => f.cfgCrc.toNat == s.get K.cfgCrc
  | none => false

/-! ## Frames sent (R314 to R316, R330) -/

/-- A frame around a payload. -/
def frameBytes (type_ seq : Nat) (payload : List Byte) : List Byte :=
  let b := leBytes 1 type_ ++ leBytes 1 1 ++ leBytes 2 seq ++ payload
  b ++ leBytes 4 (crc32 b).toNat

/-- The bytes at even places. -/
def evens : List Byte → List Byte
  | a :: _ :: t => a :: evens t
  | l => l

/-- A frame on the lanes (R313): even bytes on lane 0, odd bytes on lane 1, each between a start and a stop symbol; the bits of the
symbols are not shown (DESIGN CHOICE, assumption 144). -/
def wire (b : List Byte) : LaneFrame :=
  let lane (l : List Byte) : List Symbol := .start :: l.map .data ++ [.stop]
  ⟨lane (evens b), lane (evens (b.drop 1))⟩

/-- The rails whose stop is announced and that are not OFF yet (R322). -/
def State.announced (s : State) : Nat :=
  maskOf ((maskList 16 s.pair.announce.toNat).filter (fun n => s.rail n != .off))

/-- The payload of a fast frame from its fields (R315). -/
def fastBytes (f : FastFrame) : List Byte :=
  leBytes 8 f.beat.toNat ++ leBytes 1 f.devState.toNat ++ leBytes 1 f.pairState.toNat ++
  leBytes 1 ((if f.secondary then 1 else 0) + (if f.pfw then 2 else 0) + (if f.shadowDone then 4 else 0)) ++
  leBytes 1 f.seqState.toNat ++ leBytes 1 f.gaitState.toNat ++ leBytes 1 f.prog.toNat ++ leBytes 2 f.pc.toNat ++
  leBytes 8 f.railStates.toNat ++ leBytes 2 f.carry.toNat ++ leBytes 2 f.release.toNat ++ leBytes 2 f.announce.toNat ++
  leBytes 3 f.good.toNat ++ leBytes 3 f.faultMap.toNat ++ leBytes 1 f.unack.toNat ++ leBytes 1 f.faultState.toNat ++
  leBytes 2 f.heldCnt.toNat ++ leBytes 4 f.quietCnt.toNat ++ leBytes 2 f.lastSrc.toNat ++ leBytes 2 f.stridePhase.toNat ++
  leBytes 4 f.strideCount.toNat ++ leBytes 4 f.cfgCrc.toNat ++ leBytes 2 f.hbRequest.toNat ++ leBytes 2 f.hbGrant.toNat ++
  leBytes 4 0

/-- The fast frame of the present beat (R315). -/
def State.fastFrame (s : State) : FastFrame :=
  { seq := BitVec.ofNat 16 s.pair.txFast, beat := BitVec.ofNat 64 s.beat, devState := BitVec.ofNat 8 (s.get K.devState),
    pairState := BitVec.ofNat 8 s.pairSt, secondary := s.get K.pairRole == 2, pfw := s.divider.pfw,
    shadowDone := s.pair.shadowDone, seqState := BitVec.ofNat 8 (s.get K.seqState),
    gaitState := BitVec.ofNat 8 (s.get K.seqGaitState), prog := BitVec.ofNat 8 (s.get K.seqProg),
    pc := BitVec.ofNat 16 (s.get K.seqPc),
    railStates := BitVec.ofNat 64 (((upto 16).map (fun n => s.get (K.railState n) % 16 * 16 ^ n)).sum),
    carry := BitVec.ofNat 16 (s.get K.pairCarry), release := s.pair.release, announce := BitVec.ofNat 16 s.announced,
    good := BitVec.ofNat 24 (s.get K.supGoodMap),
    faultMap := BitVec.ofNat 24 (maskOf ((upto 24).filter (fun m => (s.supE m).standing &&& 0x38 != 0))),
    unack := BitVec.ofNat 8 (s.get K.faultUnack), faultState := BitVec.ofNat 8 (s.get K.faultState),
    heldCnt := BitVec.ofNat 16 (s.get K.faultHeldCnt), quietCnt := BitVec.ofNat 32 (s.get K.faultQuietCnt),
    lastSrc := BitVec.ofNat 16 s.fc.lastSrc, stridePhase := BitVec.ofNat 16 s.stride.phase,
    strideCount := BitVec.ofNat 32 (s.get K.strideCount), cfgCrc := BitVec.ofNat 32 (s.get K.cfgCrc),
    hbRequest := s.pair.hbRequest, hbGrant := s.pair.hbGrant }

/-- The payload of the slow frame of the present beat (R316). -/
def State.slowBytes (s : State) : List Byte :=
  leBytes 4 Config.serial.toNat ++ leBytes 1 (s.get K.pairRoleReq) ++ leBytes 1 (s.get K.pairRole) ++ leBytes 2 s.pairSt ++
  leBytes 4 (s.get K.cfgCrc) ++ leBytes 4 (s.get K.seqImageCrc) ++ leBytes 4 (s.get K.stridePeriod % 2 ^ 32) ++
  leBytes 1 (s.get K.strideState) ++ leBytes 1 (s.get K.faultRetryCnt) ++ leBytes 2 (s.get K.faultLockout) ++
  (upto 32).flatMap (fun i => leBytes 4 (s.get (K.faultHeld i))) ++
  (upto 16).flatMap (fun n => leBytes 2 (s.railE n).target) ++ List.replicate 72 0#8

/-- The entries of an index in a range of subindices that carry a value, in ascending order. -/
def imageKeys (idx lo hi : Nat) : List Nat :=
  ((upto (hi + 1 - lo)).map (fun i => idx * 256 + lo + i)).filter (fun k =>
    match entryAt k with
    | some r => r.acc != .wo
    | none => false)

/-- The values that the bulk image holds after its sequence number (R330). -/
def bulkKeys : List Nat :=
  (upto 16).flatMap (fun n => imageKeys (0x2500 + 16 * n) 0x20 0x2A) ++ imageKeys 0x2900 0x01 0x0D ++
    imageKeys 0x2A00 0x10 0x1B ++ imageKeys 0x2A20 0x01 0x08 ++ imageKeys 0x2A50 0x01 0x20 ++ [K.pairCarry]

/-- The bulk image of the present beat, with its CRC (R330). -/
def State.bulkImage (s : State) : List Byte :=
  let b := leBytes 2 s.pair.txFast ++ bulkKeys.flatMap (fun k => leBytes (widthOf k) (s.get k))
  b ++ leBytes 4 (crc32 b).toNat

/-- Segment `i` of `n` of an image, as the payload of a bulk frame. -/
def bulkPayload (b : List Byte) (n i : Nat) : List Byte :=
  let d := (b.drop (252 * i)).take 252
  leBytes 2 i ++ leBytes 2 n ++ d ++ List.replicate (252 - d.length) 0#8

/-- What is sent at a sampling beat: the fast frame, and in the gap after it a slow frame or a bulk frame. -/
def sendFrames (s : State) : State :=
  let s := if s.pair.bulkDue then
      let b := s.bulkImage
      let n := (b.length + 251) / 252
      setPair (fun p => { p with bulkDue := false, bulkOut := (upto n).map (bulkPayload b n) }) s
    else s
  let fast := wire (frameBytes 1 s.pair.txFast (fastBytes s.fastFrame))
  let p := { s.pair with
    txFast := (s.pair.txFast + 1) % 2 ^ 16, txBeat := some s.beat
    announce := BitVec.ofNat 16 s.announced
    stops := s.pair.stops.map (fun (e : Nat × Nat × Nat) => if e.2.2 = 0 then (e.1, e.2.1, s.beat + 3) else e) }
  if s.beat % 1000 = 0 then
    { s with pair := { p with
      sent := [fast, wire (frameBytes 2 p.txSlow s.slowBytes)], txSlow := (p.txSlow + 1) % 2 ^ 16, slowCrc := some (s.get K.cfgCrc) } }
  else
    match p.bulkOut with
    | b :: rest =>
      { s with pair := { p with sent := [fast, wire (frameBytes 3 p.txBulk b)], txBulk := (p.txBulk + 1) % 2 ^ 16, bulkOut := rest } }
    | [] => { s with pair := { p with sent := [fast] } }

/-- A sampling beat (R315): every tenth, once; no frame is sent while the link is DOWN (R322). -/
def doFastFrameSend (s : State) : State :=
  if s.pairs ∧ s.get K.pairLink ≠ 0 ∧ s.beat % 10 = 0 ∧ s.pair.txBeat ≠ some s.beat then sendFrames s else s

def execFastFrameSend (s : State) : Host.Outcome State Fault Refusal := event doFastFrameSend s

/-! ## Carriage (R320 to R324) -/

/-- Carriage at a cold join and on a device without a partner (R320). -/
def takeCarriage (s : State) : State :=
  let m := if s.primary then s.modeMask 2 else 0
  each (maskList 16 m) (fun n u => { u with pair := { u.pair with tookAt := u.pair.tookAt.setIfInBounds n s.beat } })
    (s.put K.pairCarry m)

/-- A rail is taken over; `raise` but for a handback (R324, R326). Its source waits for its place among the beat's (R223). -/
def takeOver (n : Nat) (raise : Bool) (s : State) : State :=
  let t := railTakeover n s
  if raise then raiseLater .pairTakeover n ((t.bump K.pairTakeCnt).flag K.pairStatus 4) else t

/-- FBn at `fb` mV is at or above the takeover threshold VSET (1,000 − TAKE_TH) / 1,000 (R323). -/
def State.aboveTake (s : State) (n fb : Nat) : Bool :=
  decide (5 * (s.railE n).vsetUse * (1000 - s.get (K.pairTakeTh n)) ≤ 2000 * fb)

/-- FBn has been at `fb` mV or more in the last `beats` beats: at or above the takeover threshold for `PAIR.ARM_TIME` beats in READY,
takeover by evidence is armed (R323). -/
def doTakeoverArm (n fb beats : Nat) (s : State) : State :=
  if s.decides ∧ s.rail n = .ready ∧ (s.railE n).pairMode = 2 ∧ s.aboveTake n fb = true ∧ s.get K.pairArmTime ≤ beats ∧
      (s.railE n).entered + s.get K.pairArmTime ≤ s.beat then
    setPair (fun p => { p with armed := p.armed ||| BitVec.ofNat 16 (2 ^ n) }) s
  else s

def execTakeoverArm (n : Fin 16) (fb beats : Nat) (s : State) : Host.Outcome State Fault Refusal :=
  event (doTakeoverArm n.val fb beats) s

/-- The last slow frames of both devices show equal configurations (R335). -/
def State.slowEqual (s : State) : Bool :=
  match s.pair.peerSlow with
  | some f => s.pair.slowCrc == some f.cfgCrc.toNat
  | none => false

/-- `PAIR.HEALTHY` (R335). -/
def State.healthy (s : State) : Bool :=
  s.linkUp && s.pairSt == pairPaired && s.slowEqual &&
    (match s.pair.peer with | some f => f.pairState == 6 | none => false)

/-- Armed physical evidence (R323, R324): FBn has been at `fb` mV or less in the last `beats` beat samples. A stop that the last frame used
from a healthy link announced makes it void, also once that link is lost (DEDUCED, assumption 145). -/
def doTakeoverEvidence (n fb beats : Nat) (s : State) : State :=
  if s.decides ∧ s.rail n = .ready ∧ s.pair.armed.getLsbD n ∧ s.aboveTake n fb = false ∧ s.get K.pairTakeDeglitch ≤ beats ∧
      s.pair.stopSeen.getLsbD n = false then
    collectDue (takeOver n true s)
  else s

def execTakeoverEvidence (n : Fin 16) (fb beats : Nat) (s : State) : Host.Outcome State Fault Refusal :=
  event (doTakeoverEvidence n.val fb beats) s

/-- The announced stop of a rail starts (R322). -/
def doAnnouncedStop (n : Nat) (s : State) : State :=
  match s.pair.stops.find? (fun e => e.1 == n) with
  | some (_, cause, due) => if s.fastUp ∧ due ≠ 0 ∧ due ≤ s.beat then railStopAnnounced n cause s else s
  | none => s

/-- The announced stops that are due in this beat start (R322). -/
def announcedBeat (s : State) : State := each s.pair.stops (fun e u => doAnnouncedStop e.1 u) s

def execAnnouncedStop (n : Fin 16) (s : State) : Host.Outcome State Fault Refusal := event (doAnnouncedStop n.val) s

/-- Stops that no frame can announce any more start at once (R322). -/
def stopsAtOnce (s : State) : State :=
  each (s.pair.stops.filter (fun e => e.2.2 == 0)) (fun e u => railStopAnnounced e.1 e.2.1 u) s

/-! ## Roles (R318, R319) -/

/-- The role that an own and a partner's request give: 1 PRIMARY, 2 SECONDARY. -/
def roleFor (own peer : Nat) (lower : Bool) : Nat :=
  if own = peer then (if lower then 1 else 2)
  else if own ≠ 0 then own
  else if peer = 1 then 2
  else 1

/-- A role is fixed once the link is UP and the partner's side is known; a device that has gone to SOLO before takes its carriage
with it (R318, R320). -/
def fixRole (s : State) : State :=
  if s.pair.roleFixed ∨ s.linkUp = false ∨ s.decides = false then s
  else
    let set (r : Nat) : State :=
      let t := setPair (fun p => { p with roleFixed := true }) (s.put K.pairRole r)
      if s.pairSt = pairSolo then takeCarriage t else t
    match s.pair.peer, s.pair.peerSlow with
    | some f, slow =>
      if f.pairState = 2 ∨ f.pairState = 6 then set (if f.secondary then 1 else 2)
      else
        match slow with
        | some g => set (roleFor (s.get K.pairRoleReq) g.roleReq.toNat (decide (Config.serial.toNat < g.serial.toNat)))
        | none => s
    | none, _ => s

/-- The role of a device without a link. -/
def roleAlone (s : State) : State :=
  if s.pair.roleFixed then s
  else setPair (fun p => { p with roleFixed := true }) (s.put K.pairRole (if s.get K.pairRoleReq = 2 then 2 else 1))

/-- Both hold the same role (R319): the higher serial number yields. A rising link finds a conflict once. -/
def roleConflict (f : SlowFrame) (s : State) : State :=
  if s.decides ∧ s.pair.roleFixed ∧ s.pair.conflict = false ∧ s.get K.pairRole ≠ 0 ∧ f.role.toNat = s.get K.pairRole ∧
      s.pairSt ≠ pairPaired then
    let t := setPair (fun p => { p with conflict := true }) s
    let t := if f.serial.toNat < Config.serial.toNat then t.put K.pairRole 2 else t
    takeSource .pairRoleConflict 0 (t.flag K.pairStatus 0x80)
  else s

/-! ## Leaving and joining (R327 to R334) -/

/-- A joiner's work is dropped. -/
def dropJoin (s : State) : State :=
  setPair (fun p => { p with
    bulkIn := [], bulkNext := 0, bulkSkip := false, buffered := [], mirror := none, predicted := none, shadowDone := false, agree := 0, restarts := 0,
    bulkOut := [], bulkDue := false, coldFrames := 0, diverge := 0, skew := 0, hbRequest := 0, hbGrant := 0 }) s

/-- The link is gone: SOLO, with role and carriage kept. -/
def toSolo (s : State) : State :=
  let t := (s.put K.pairLink 0).put K.pairPeerValid 0
  let t := if 3 ≤ t.pairSt then t.put K.pairState pairSolo else t
  stopsAtOnce (dropJoin (setPair (fun p => { p with
    goodRun := 0, rxSeq := none, lastGood := none, conflict := false
    bothCarry := Vector.replicate 16 0, bothReady := Vector.replicate 16 0 }) t))

/-- 31 beats have passed since the last good fast frame. -/
def doPairLinkLost (s : State) : State :=
  match s.pair.lastGood with
  | some b =>
    if s.pairs ∧ s.get K.pairLink ≠ 0 ∧ b + 31 ≤ s.beat then
      if s.linkUp then takeSource .pairLinkLost 0 (((toSolo s).bump K.pairLostCnt).flag K.pairStatus 2)
      else toSolo s
    else s
  | none => s

def execPairLinkLost (s : State) : Host.Outcome State Fault Refusal := event doPairLinkLost s

/-- The longest run of K28.5 symbols per lane in the last 100 beats is below 8: the link goes DOWN. -/
def doLinkSymbolLoss (symbols : Nat) (s : State) : State :=
  if s.pairs ∧ s.get K.pairLink ≠ 0 ∧ symbols < 8 then toSolo s else s

def execLinkSymbolLoss (symbols : Nat) (s : State) : Host.Outcome State Fault Refusal := event (doLinkSymbolLoss symbols) s

/-- Idle symbols on both lanes: no good frame lies behind yet. -/
def doLinkAlign (s : State) : State :=
  if s.pairs ∧ s.get K.pairLink = 0 then
    setPair (fun p => { p with goodRun := 0, rxSeq := none, lastGood := none }) (s.put K.pairLink 1)
  else s

def execLinkAlign (s : State) : Host.Outcome State Fault Refusal := event doLinkAlign s

/-- A frame is discarded (R314). -/
def doTetherFrameDiscarded (s : State) : State := if s.pairs then s.bump K.pairCrcErrCnt else s

def execTetherFrameDiscarded (s : State) : Host.Outcome State Fault Refusal := event doTetherFrameDiscarded s

/-- A source that the next tick raises. -/
def pairDue (k : SrcKind) (s : State) : State := setPair (fun p => { p with due := p.due ++ [k] }) s

/-- A remount has failed (R334): `DEV.AUTOSTART` applies in STANDBY as at the end of boot. -/
def remountFail (s : State) : State :=
  let t := (s.put K.pairState pairSolo).flag K.pairStatus 0x40
  let t := if t.dev = .standby then
      { t with power := { t.power with autostartDue := t.power.autostartDue || t.get K.devAutostart == 1 } }
    else t
  pairDue .pairRemountFail (dropJoin (setPair (fun p => { p with noRetry := true, rejoin := false, cfgMiss := 0 }) t))

/-- This device wants to join a live partner. -/
def State.joins (s : State) : Bool :=
  s.decides && !s.pair.noRetry && (s.pairSt == pairWait ||
    (s.pairSt == pairSolo && (s.pair.rejoin || s.get K.pairRole == 2)))

/-- BULK is entered (R330): an alarm of this device ends, for it keeps both lines released until admission (R208). -/
def enterBulk (s : State) : State :=
  let t := (s.put K.pairState pairBulk).flag K.pairStatus 0x10
  let t := { t with gait := { t.gait with alarm := false } }
  setPair (fun p => { p with bulkTries := 0, cfgMiss := 0, rejoin := true }) (dropJoin t)

/-- Rail `n` is carried by both: who took it last keeps it, the PRIMARY on equal evidence (R333). -/
def yieldConflict (n : Nat) (s : State) : State :=
  let mine := s.pair.tookAt.toArray.getD n 0
  let his := s.pair.peerTookAt.toArray.getD n 0
  if mine < his ∨ (mine = his ∧ s.primary = false) then railYield n s else s

/-- Entry into PAIRED by admission (R332), where no rail stays carried by both (R333). -/
def enterPaired (f : FastFrame) (s : State) : State :=
  let t := ((s.put K.pairState pairPaired).bump K.pairRemountCnt).flag K.pairStatus 0x20
  let t := setPair (fun p => { p with rejoin := false, cfgMiss := 0, shadowDone := false }) (dropJoin t)
  each ((upto 16).filter (fun n => (t.railE n).pairMode == 2 && t.bit K.pairCarry n && f.carry.getLsbD n)) yieldConflict t

/-- What a joiner in STANDBY does at admission (R332): ACTIVE with its partner, the gait state, the rails. -/
def admitted (f : FastFrame) (s : State) : State :=
  let t := enterPaired f s
  if t.dev = .standby then
    let t := if f.devState = 4 then enterDev .active 0x0D t else t
    let t := (t.put K.seqGaitState f.gaitState.toNat)
    let t := { t with power := { t.power with autostartDue := false } }
    let shared := (upto 16).filter (fun n => (t.railE n).pairMode == 1 && (peerRail f n == 3 || peerRail f n == 4))
    let standby := (upto 16).filter (fun n => (t.railE n).pairMode == 2 && f.carry.getLsbD n)
    -- what the partner carries starts into READY, whatever this device carried before
    let t := each standby (fun n u => u.putBit K.pairCarry n false) t
    if t.dev = .active then each (shared ++ standby) railEnable t else t
  else t

/-- The state that R91 gives a mirrored rail after the frame that shows it (R331): a fault condition, a release, an announced stop and GOOD
move it; what R91 makes depend on anything else no frame tells, so the state stays (DEDUCED, assumption 30). -/
def mirrorNext (s : State) (f : FastFrame) (n : Nat) : Nat :=
  let x := peerRail f n
  if f.faultMap.getLsbD n ∧ ((1 ≤ x ∧ x ≤ 5) ∨ x = 8) then 7
  else if f.announce.getLsbD n ∧ x = 1 then 0
  else if f.announce.getLsbD n ∧ 2 ≤ x ∧ x ≤ 4 then (if s.get (K.railDisMode n) = 2 then 5 else 6)
  else if f.release.getLsbD n ∧ (x = 3 ∨ x = 4) then 6
  else if f.good.getLsbD n ∧ x = 2 then 3
  else x

/-- The rail states that the joiner predicts of the next frame: its paired rails, the others 0. -/
def State.predict (s : State) (f : FastFrame) : BitVec 64 :=
  BitVec.ofNat 64 (((upto 16).map (fun n => if (s.railE n).pairMode = 0 then 0 else mirrorNext s f n * 16 ^ n)).sum)

/-- The rail states of a frame at the places that a prediction covers. -/
def State.pairedStates (s : State) (f : FastFrame) : BitVec 64 :=
  BitVec.ofNat 64 (((upto 16).map (fun n => if (s.railE n).pairMode = 0 then 0 else peerRail f n * 16 ^ n)).sum)

/-- A fast frame is applied to the joiner's image of the partner (R330, R331), which then predicts the next. -/
def mirrorFrame (f : FastFrame) (s : State) : State :=
  setPair (fun p => { p with mirror := some f, predicted := some (s.predict f) }) s

/-- A frame in SHADOW is compared with its prediction (R331, R334). -/
def shadowFrame (f : FastFrame) (s : State) : State :=
  let ok := s.pair.predicted == some (s.pairedStates f)
  let t := mirrorFrame f s
  if ok then
    let a := t.pair.agree + 1
    setPair (fun p => { p with agree := a, shadowDone := p.shadowDone || decide (t.get K.pairShadowFrames ≤ a) }) t
  else
    let t := t.bump K.pairShadowMismatchCnt
    let r := t.pair.restarts + 1
    if t.get K.pairShadowTries ≤ r then remountFail t
    else setPair (fun p => { p with agree := 0, restarts := r, shadowDone := false }) t

/-- The bulk is repeated, up to 3 times (R330). -/
def bulkAgain (s : State) : State :=
  if 3 ≤ s.pair.bulkTries then remountFail s
  else
    setPair (fun p => { p with bulkIn := [], bulkNext := 0, bulkTries := p.bulkTries + 1 }) (s.flag K.pairStatus 0x800)

/-- A transmission of the bulk image begins with segment 0: one that broke off before its last segment has failed. -/
def bulkBegins (s : State) : State :=
  setPair (fun p => { p with bulkSkip := false }) (if s.pair.bulkNext = 0 then s else bulkAgain s)

/-- A segment of the bulk image in BULK (R330). A transmission that misses a segment counts once; its rest is passed over. -/
def doBulkFrameRx (g : BulkSegment) (s : State) : State :=
  if s.decides ∧ s.linkUp ∧ s.pairSt = pairBulk then
    let t := if g.index = 0 then bulkBegins s else s
    if t.pairSt ≠ pairBulk ∨ t.pair.bulkSkip then t
    else if g.index.toNat ≠ t.pair.bulkNext then bulkAgain (setPair (fun p => { p with bulkSkip := true }) t)
    else
      let b := t.pair.bulkIn ++ g.data.take 252
      if g.index.toNat + 1 < g.count.toNat then setPair (fun p => { p with bulkIn := b, bulkNext := p.bulkNext + 1 }) t
      else
        let img := b.take 536
        if img.length = 536 ∧ leNat (img.drop 532) = (crc32 (img.take 532)).toNat then
          setPair (fun p => { p with bulkIn := img }) (t.put K.pairState pairCatchup)
        else bulkAgain t
  else s

def execBulkFrameRx (f : BulkSegment) (s : State) : Host.Outcome State Fault Refusal := event (doBulkFrameRx f) s

/-- A fast frame lies after the snapshot of the bulk image (R330). -/
def State.afterSnapshot (s : State) (f : FastFrame) : Bool :=
  let d := (f.seq.toNat + 2 ^ 16 - leNat (s.pair.bulkIn.take 2)) % 2 ^ 16
  decide (0 < d ∧ d < 2 ^ 15)

/-- A frame is buffered while the bulk comes in; 32 are held (R330). -/
def bufferFrame (f : FastFrame) (s : State) : State := setPair (fun p => { p with buffered := (f :: p.buffered).take 32 }) s

/-- A frame in CATCHUP: those buffered after the snapshot are applied in their order, with it the newest: SHADOW (R330). -/
def catchUp (f : FastFrame) (s : State) : State :=
  let t := bufferFrame f s
  let l := t.pair.buffered.reverse.filter s.afterSnapshot
  if l.isEmpty then t
  else setPair (fun p => { p with buffered := [], agree := 0, restarts := 0, shadowDone := false })
    ((each l mirrorFrame t).put K.pairState pairShadow)

/-! ## A fast frame is used (R315, R317, R319 to R336) -/

/-- The partner entries (R339). -/
def showPeer (f : FastFrame) (s : State) : State :=
  let t := (((s.put K.pairPeerState f.devState.toNat).put K.pairPeerPairState f.pairState.toNat).put K.pairPeerGait
    f.gaitState.toNat).put K.pairPeerSeqState f.seqState.toNat
  let t := (((t.put K.pairPeerCarry f.carry.toNat).put K.pairPeerGood f.good.toNat).put K.pairPeerUnack f.unack.toNat).put
    K.pairPeerHeldCnt f.heldCnt.toNat
  ((t.put K.pairPeerCfgCrc f.cfgCrc.toNat).put K.pairPeerLastSrc f.lastSrc.toNat).put K.pairPeerRailState f.railStates.toNat

/-- STALL, LOCKOUT or BACKUP at the partner (R321), once for each report that begins. -/
def peerDownFrame (f : FastFrame) (s : State) : State :=
  let down := f.devState == 5 || f.devState == 6 || f.devState == 1
  let was := s.pair.peerDown
  let t := setPair (fun p => { p with peerDown := down }) s
  if down && !was then raiseLater .pairPeerDown 0 t else t

/-- READY rails whose RELEASE bit is set are taken over (R324). -/
def releaseFrame (f : FastFrame) (s : State) : State :=
  each ((upto 16).filter (fun n => f.release.getLsbD n)) (fun n u =>
    if u.rail n = .ready ∧ (u.railE n).pairMode = 2 then takeOver n true u else u) s

/-- Handback on both sides (R326). -/
def handbackFrame (f : FastFrame) (s : State) : State :=
  if s.pairSt ≠ pairPaired then s
  else
    -- the requester uses the grant
    let got := s.pair.hbRequest &&& f.hbGrant
    let t := if got = 0 then s
      else
        let u := each ((upto 16).filter (fun n => got.getLsbD n)) (fun n u =>
          if u.rail n = .ready then takeOver n false u else u) s
        setPair (fun p => { p with hbRequest := p.hbRequest &&& ~~~got }) (u.flag K.pairStatus 8)
    -- the carrier uses the CARRY bits that follow its grant
    let done := t.pair.hbGrant &&& f.carry
    let t := if done = 0 then t
      else
        let u := each ((upto 16).filter (fun n => done.getLsbD n)) railYield t
        setPair (fun p => { p with hbGrant := p.hbGrant &&& ~~~done }) (u.flag K.pairStatus 8)
    -- the carrier grants what is asked of it
    let ask := f.hbRequest &&& BitVec.ofNat 16 (t.get K.pairCarry) &&& BitVec.ofNat 16 (t.modeMask 2)
    if ask = 0 then t else setPair (fun p => { p with hbGrant := p.hbGrant ||| ask }) t

/-- When the partner took each rail (R333; DESIGN CHOICE, assumption 115): a CARRY bit that the last used frame of the same run of the
partner did not show counts from this frame. Where this device too took the rail since that frame, the evidence is equal. -/
def noteCarry (f : FastFrame) (s : State) : State :=
  let last := match s.pair.seenCarry with | some e => e.1 | none => 0
  let was : BitVec 16 := match s.pair.seenCarry with
    | some (_, b, c) => if b ≤ f.beat.toNat then c else 0
    | none => 0
  let fresh := (upto 16).filter (fun n => f.carry.getLsbD n && !was.getLsbD n)
  let t := each fresh (fun n u =>
    setPair (fun p => { p with
      peerTookAt := p.peerTookAt.setIfInBounds n u.beat
      tookAt := if last < p.tookAt.toArray.getD n 0 then p.tookAt.setIfInBounds n u.beat else p.tookAt }) u) s
  setPair (fun p => { p with seenCarry := some (s.beat, f.beat.toNat, f.carry) }) t

/-- Conflicts of carriage while PAIRED (R333). -/
def carryFrame (f : FastFrame) (n : Nat) (s : State) : State :=
  if (s.railE n).pairMode ≠ 2 then s
  else
    let c := if s.bit K.pairCarry n && f.carry.getLsbD n then s.pair.bothCarry.toArray.getD n 0 + 1 else 0
    let r := if s.rail n == .ready && peerRail f n == 8 then s.pair.bothReady.toArray.getD n 0 + 1 else 0
    let t := setPair (fun p => { p with
      bothCarry := p.bothCarry.setIfInBounds n (if c = 3 then 0 else c)
      bothReady := p.bothReady.setIfInBounds n (if r = 3 then 0 else r) }) s
    let t := if c = 3 then yieldConflict n t else t
    if r = 3 ∧ t.primary then takeOver n true t else t

/-- The stride phase some beats ago, wrapped (R336). -/
def StrideClock.phaseAgo (c : StrideClock) (beats : Nat) : Int :=
  if c.length = 0 then 0 else (((c.elapsed : Int) - beats * beatUnits) * 4096 / c.length) % 4096

/-- The comparisons of the two halves while PAIRED (R336). -/
def compareFrame (f : FastFrame) (s : State) : State :=
  let apart := s.seqState == .idle && f.seqState == 0 && f.gaitState.toNat != s.get K.seqGaitState
  let d := if apart then s.pair.diverge + 1 else 0
  let t := setPair (fun p => { p with diverge := d }) s
  let t := if d = 100 then pairDue .pairDiverge (t.flag K.pairStatus 0x200) else t
  let locked := t.strideState == .locked &&
    (match t.pair.peerSlow with | some g => g.strideState == 2 | none => false)
  if locked then
    let k := wrapUnits ((f.stridePhase.toNat : Int) - t.stride.phaseAgo 3)
    let off := decide (t.get K.pairStrideTol < k.natAbs)
    let n := if off then t.pair.skew + 1 else 0
    let t := setPair (fun p => { p with skew := n }) (t.putI K.pairStrideSkew k)
    if n = 100 then pairDue .pairStrideSkew (t.flag K.pairStatus 0x400) else t
  else setPair (fun p => { p with skew := 0 }) t

/-- Cold join (R329): the third frame of a partner that is not live, with equal configurations. -/
def coldJoin (f : FastFrame) (s : State) : State :=
  if s.pairSt ≠ pairWait then s
  else
    let c := if s.peerLive f then 0 else s.pair.coldFrames + 1
    let t := setPair (fun p => { p with coldFrames := c }) s
    if 3 ≤ c ∧ t.cfgEqual ∧ t.pair.roleFixed then
      takeCarriage (setPair (fun p => { p with coldFrames := 0 }) (t.put K.pairState pairPaired))
    else t

/-- Admission on both sides (R332). -/
def admission (f : FastFrame) (s : State) : State :=
  if s.pairSt = pairSolo ∧ f.shadowDone ∧ f.pairState = 5 ∧
      (s.dev = .standby ∨ (s.dev = .active ∧ s.seqState = .idle)) then enterPaired f s
  else if s.pairSt = pairShadow ∧ f.pairState = 6 then admitted f s
  else s

/-- What a fast frame does on a link that is UP. The partner's first frame that shows PAIRED admits a joiner in SHADOW and is not compared
(R332). -/
def useFrame (f : FastFrame) (s : State) : State :=
  let t := noteCarry f (peerDownFrame f s)
  if t.decides = false then t
  else
    let t := handbackFrame f (releaseFrame f t)
    let t := coldJoin f t
    let t := if t.pairSt = pairSolo ∧ f.pairState = 3 ∧ t.pair.bulkOut.isEmpty then
        setPair (fun p => { p with bulkDue := true }) t
      else t
    let t := if t.pairSt = pairBulk then bufferFrame f t
      else if t.pairSt = pairCatchup then catchUp f t
      else if t.pairSt = pairShadow ∧ f.pairState ≠ 6 then shadowFrame f t
      else t
    let t := admission f t
    if t.pairSt = pairPaired then compareFrame f (each (upto 16) (carryFrame f) t) else t

/-- The link reaches UP (R317). -/
def linkUpNow (s : State) : State := fixRole (((s.put K.pairLink 2).flag K.pairStatus 1).put K.pairPeerValid 1)

/-- A frame used: its sources in their order (R223); from a healthy link, the stops that it announces are kept (R323). -/
def frameUsed (f : FastFrame) (s : State) : State :=
  let t := collectDue (useFrame f s)
  if t.healthy then setPair (fun p => { p with stopSeen := f.announce }) t else t

/-- A good fast frame (R315, R317): misses are counted, the link comes UP after three in sequence, an UP link uses it. -/
def doFastFrameRx (f : FastFrame) (s : State) : State :=
  if s.pairs ∧ s.get K.pairLink ≠ 0 then
    let q := f.seq.toNat
    let gap := match s.pair.rxSeq with | some p => (q + 2 ^ 16 - p - 1) % 2 ^ 16 | none => 0
    let inSeq := match s.pair.rxSeq with | some p => q == (p + 1) % 2 ^ 16 | none => false
    let t := s.bumpBy K.pairMissCnt gap
    let t := setPair (fun p => { p with
      goodRun := if inSeq then p.goodRun + 1 else 1, rxSeq := some q, lastGood := some s.beat, peer := some f }) t
    let t := showPeer f t
    if t.linkUp then frameUsed f (fixRole t)
    else if 3 ≤ t.pair.goodRun then frameUsed f (linkUpNow t)
    else t
  else s

def execFastFrameRx (f : FastFrame) (s : State) : Host.Outcome State Fault Refusal := event (doFastFrameRx f) s

/-! ## A slow frame is used (R316, R318, R319, R330, R334, R336) -/

/-- The configurations are compared (R334, R336). -/
def compareCfg (s : State) : State :=
  let counts := s.pairSt == pairPaired || (s.joins && s.partnerLive)
  if s.cfgEqual ∨ counts = false then setPair (fun p => { p with cfgMiss := 0 }) s
  else
    let n := s.pair.cfgMiss + 1
    let t := setPair (fun p => { p with cfgMiss := n }) s
    if n = t.get K.pairCfgGrace then
      let t := pairDue .pairCfgMismatch (t.flag K.pairStatus 0x100)
      if t.pairSt = pairPaired then t else remountFail t
    else t

def doSlowFrameRx (f : SlowFrame) (s : State) : State :=
  if s.pairs ∧ s.get K.pairLink ≠ 0 then
    let t := setPair (fun p => { p with peerSlow := some f }) (s.put K.pairPeerSerial f.serial.toNat)
    if t.linkUp then
      let t := roleConflict f (fixRole t)
      if t.joins ∧ t.cfgEqual ∧ t.partnerLive then enterBulk t
      else if t.decides then compareCfg t
      else t
    else t
  else s

def execSlowFrameRx (f : SlowFrame) (s : State) : Host.Outcome State Fault Refusal := event (doSlowFrameRx f) s

/-! ## Host commands and waits -/

/-- A write of `PAIR.HANDBACK` (R326). -/
def wrPairHandback (v : Nat) (s : State) : Written :=
  let peer : Nat := match s.pair.peer with | some f => f.carry.toNat | none => 0
  if s.healthy ∧
      (maskList 16 v).all (fun n => (s.railE n).pairMode == 2 && s.rail n == .ready && peer.testBit n) then
    accept (setPair (fun p => { p with hbRequest := p.hbRequest ||| BitVec.ofNat 16 v }) s)
  else refuse Abort.state s

/-- A write of `PAIR.CMD` (R334). -/
def wrPairCmd (v : Nat) (s : State) : Written :=
  if v ≠ 1 then refuse Abort.value s
  else if s.pairSt ≠ pairSolo ∨ s.linkUp = false then refuse Abort.state s
  else accept (setPair (fun p => { p with noRetry := false, rejoin := true }) s)

/-- `PAIR.JOIN_WAIT` ms have passed in WAIT (R318, R320, R329): SOLO, unless a live partner is being joined. With the link UP the
role still waits for the partner's. -/
def doJoinWaitExpire (s : State) : State :=
  if s.decides ∧ s.pairSt = pairWait ∧ s.pair.joinFrom + s.get K.pairJoinWait ≤ s.tick ∧ (s.linkUp && s.partnerLive) = false then
    let t := s.put K.pairState pairSolo
    if t.linkUp ∧ t.pair.roleFixed = false then t else takeCarriage (roleAlone t)
  else s

/-- The pair at the end of boot (R320, R329). With `PAIR.EN` = 0 there is no partner to carry anything. -/
def pairBoot (s : State) : State :=
  if s.get K.pairEn = 1 then setPair (fun p => { p with joinFrom := s.tick }) (s.put K.pairState pairWait)
  else s.put K.pairCarry (s.modeMask 2)

/-- Whether the pair defers autostart and refuses state requests (R329, R330). -/
def State.joining (s : State) : Bool := s.pairSt == pairWait || (3 ≤ s.pairSt && s.pairSt ≤ 5)

/-- The pair in step 4 of a tick: sources that fell due, in their order (R223), and its health. -/
def pairTick (s : State) : State :=
  let t := collectDue (each s.pair.due (fun k u => raiseLater k 0 u) (setPair (fun p => { p with due := [] }) s))
  t.put K.pairHealthy (if t.healthy then 1 else 0)

end Sys2Proof.Machine
end

