-- ==== Sys2Proof/Machine/Beat.lean ====
section
/-! DEFINITION. What the block does by itself in a beat (R30, R31, R40, R41, R184): the counts of a beat, the work that falls due in
it, the step to the next beat, and the beats up to a tick boundary. -/

namespace Sys2Proof.Machine

/-! ## Scheduled stride events (R41) -/

/-- A scheduled event of the stride: a quiet window, with whether it may open (R100, R102), a burst slot of a rail (R98), the end of a
WAIT_STRIDE (R191), the start of an injection (R164), of an impedance point (R287), an angle trigger of the recorder (R388). -/
inductive StrideItem where
  | window (may : Bool) (k : Fin 8)
  | slot (n : Nat)
  | wait
  | rh
  | est
  | angle (k : Nat)
  deriving DecidableEq, Repr

/-- What an event does where it is due. -/
def StrideItem.act : StrideItem → State → State
  | .window may k => openWindow may k
  | .slot n => doBurstSlot n
  | .wait => fun s => if s.coreUp then doWaitStrideDone s else s
  | .rh => doRhSettleStart
  | .est => doEstZPointStart
  | .angle k => doAngleTrigger k

/-- The windows due in this beat (R100): of several the lowest k may open, whatever their units (R102 against R41, DEDUCED, assumption
106). A time-based one stands before the units. -/
def State.windowItems (s : State) : List (Nat × Nat × StrideItem) :=
  let l := s.dueWindows
  l.map (fun k => (if s.windowUnit k.val = 4096 then 0 else s.windowUnit k.val, K.qwCtrl k.val, .window (l.head? == some k) k))

/-- The stride events that some unit is given to, with their unit and the key of the entry that gives it. -/
def State.strideItems (s : State) : List (Nat × Nat × StrideItem) :=
  ((upto 8).filter (fun n => (s.railE n).burstPending)).map (fun n =>
      (s.gridUnit (s.get (K.railBurstOfs n)) (s.get K.paBurstPitch), K.railBurstOfs n, .slot n)) ++
  (match s.seq.waiting with | some (.waitStride _ _ u) => [(u.toNat, K.seqInstr, .wait)] | _ => []) ++
  (match s.rh.run with | some r => [(s.get (K.rhPos r.rail), K.rhPos r.rail, .rh)] | none => []) ++
  (match s.est.measure with | some _ => [(s.get K.estZPos, K.estZPos, .est)] | none => []) ++
  ((upto 8).filter (fun k => bitOf (s.get (K.recTrig k)) 31)).map (fun k =>
      (field (s.get (K.recTrig k)) 0 12, K.recTrig k, .angle k))

/-- An event at its place: ascending unit, then ascending key of the entry. -/
def insertItem (e : Nat × Nat × StrideItem) : List (Nat × Nat × StrideItem) → List (Nat × Nat × StrideItem)
  | [] => [e]
  | f :: t => if e.1 < f.1 ∨ (e.1 = f.1 ∧ e.2.1 ≤ f.2.1) then e :: f :: t else f :: insertItem e t

/-- The stride events that are due in this beat, in their order. -/
def State.itemsDue (s : State) : List (Nat × Nat × StrideItem) :=
  (s.windowItems ++ s.strideItems.filter (fun e => s.unitDue e.1 e.2.1)).foldr insertItem []

/-- The quiet windows and the other stride events of the beat in the order of R41; a window that has ended closes first. The sources of
the windows wait for their place (R223). -/
def strideWork (s : State) : State :=
  let t := closeBy (s.beat * 100) s
  raiseBreach (each t.itemsDue (fun e u => e.2.2.act u) t)

/-- A window is due in this beat: every event due in it takes its place (R41, R102). Where window `k` opens, its held phases and channels
make the edges given. -/
def doQwOpen (k : Fin 8) (edges xbEdges : List Nat) (s : State) : State :=
  let t := strideWork s
  collectDue (if s.qw.openK ≠ some k ∧ t.qw.openK = some k then windowEdges edges xbEdges t else t)

def execQwOpen (k : Fin 8) (edges xbEdges : List Nat) (s : State) : Host.Outcome State Fault Refusal :=
  event (doQwOpen k edges xbEdges) s

/-- A new stride starts where the phase has passed its last unit: the units that the old stride had left take effect first (R40,
R41). -/
def doStrideStart (s : State) : State := if s.strideEnds then newStride (strideWork s) else s

def execStrideStart (s : State) : Host.Outcome State Fault Refusal := event (fun t => collectDue (doStrideStart t)) s

/-! ## One beat -/

/-- What counts in each beat once: the regions of the channels (R127), the path that is left (R248), a point of an impedance measurement
(R290), the backup clock (R364). -/
def beatCount (s : State) : State := bkBeat (estCount (pathBeat (each (upto 4) xbBeat s)))

/-- What falls due in a beat, its sources in ascending number (R223): the stride clock, announced stops, the divider, the rails, windows
and stride events, the health engine, waits of the sequencer where the core runs (R354), the pair link, the watchdog. -/
def beatCheck (s : State) : State :=
  let t := doStrideHoldLong (doStrideStart (doStrideMissingEdge s))
  let t := collectDue (strideWork (railBeat (dividerBeat (announcedBeat t))))
  let t := when (t.get K.paBurstBase != 0) (each (upto 8) doBurstSlot) t
  wdgBeat (doPairLinkLost (when t.coreUp seqBeat (rhBeat t)))

/-- The present beat's own work, done: its counts once, what is due as often as it is asked. A beat leaves the queue and the store alone. -/
def closeBeat (s : State) : State :=
  if s.fastUp then
    let t := beatCheck (if s.clock.done then s else beatCount s)
    { t with clock := { s.clock with done := true }, pending := s.pending, mram := s.mram }
  else s

/-- The next beat begins: the frame of the beat that ends is sent (R315), time passes, the stride's units go on from where they are, a window
that has ended is closed (R101). -/
def nextBeat (s : State) : State :=
  let t := doFastFrameSend s
  let u := t.passBeats 1
  let v := closeBy (s.clock.beat * 100 + 100) { u with
    clock := { s.clock with beat := s.clock.beat + 1, done := false }
    stride := { u.stride with prev := t.stride.phase, acted := [] } }
  { v with clock := { s.clock with beat := s.clock.beat + 1, done := false }, pending := s.pending, mram := s.mram }

/-- `n` beats pass, each with its work. -/
def passMany : Nat → State → State
  | 0, s => s
  | n + 1, s => passMany n (nextBeat (closeBeat s))

/-- Where time still has beats to pass to the boundary, the stride it stands in is kept: a host write completed in it (R35, R47). -/
def State.setOut (s : State) : State :=
  if s.clock.beat < s.clock.next then { s with stride := { s.stride with outset := s.get K.strideCount } } else s

/-- The next tick boundary, at which the beat-level work is done before step 1 of R34 (R184), as the commands before the tick find it. The
commands that act there one after another find the same boundary; a lock asked for in a beat before them is set (R353). Without a running
core it is the present state. -/
def State.openTick (s : State) : State :=
  if s.coreUp then
    let t := passMany (s.clock.next - s.clock.beat) s.setOut
    takeLock (if t.clock.done then t else closeBeat t)
  else s

/-- Time passes on the clock. -/
def State.ticking (s : State) : Bool := s.dev.main || s.power.boot.isSome

/-- One beat with no command (R31): it passes with its work. The beat of a tick boundary stays until the tick is commanded, and its own work is
done no sooner: what happens in it can still be given, before step 1 of R34 (R184). In OFF and BACKUP the management clock stands
(R30, R33). -/
def State.idle (s : State) : State := if s.ticking && decide (s.clock.beat < s.clock.next) then nextBeat (closeBeat s) else s

/-! ## The fast plane without the core (R354) -/

/-- A tick boundary that the present beat stands at is left without its tick. -/
def State.leaveBoundary (s : State) : State :=
  if s.clock.next ≤ s.clock.beat then { s with clock := { s.clock with lastTick := s.clock.next } } else s

/-- `n` beats of the fast plane; a tick boundary among them passes without its tick. -/
def lapse : Nat → State → State
  | 0, s => s
  | n + 1, s => lapse n (nextBeat (closeBeat s.leaveBoundary))

/-- The core has stopped and has not restarted its watchdog for `n` cycles of the oscillator, which are the beats since (DESIGN CHOICE,
assumption 116): the fast plane runs on, nothing is decided at ticks; 10,000 of them trip the watchdog, and the device resets and boots. In
a boot there is no fast plane, and the trip alone counts (DESIGN CHOICE, assumption 17). -/
def execWdgCoreTrip (n : Nat) (x : BootInputs) (s : State) : Host.Outcome State Fault Refusal :=
  if s.fastUp then
    let t := lapse (min n 10000 - s.wdg.coreIdle) { s with power := { s.power with stopped := true } }
    if 10000 ≤ n then .next { doWdgCoreTrip x t with clock := Clock.restart t.clock, pending := s.pending }
    else .next { t with pending := s.pending, mram := s.mram }
  else if 10000 ≤ n ∧ s.power.boot.isSome ∧ s.power.held = false then retimed Clock.restart (doWdgCoreTrip x) s
  else .next s

/-! ## Outcomes at a tick boundary -/

/-- The outcome of an effect at the next tick boundary; time stands there, and the store is left alone. -/
def atTick (f : State → State) (s : State) : Host.Outcome State Fault Refusal :=
  let b := s.openTick
  if b.coreUp then .next { f b with clock := b.clock, pending := s.pending, mram := s.mram } else .next s

/-- The same with an effect that writes the store. -/
def atTickNv (f : State → State) (s : State) : Host.Outcome State Fault Refusal :=
  let b := s.openTick
  if b.coreUp then .next { f b with clock := b.clock, pending := s.pending } else .next s

/-- The outcome of a host write with a row of its own: it takes effect at the next tick boundary, in the order of the queue, which is that
of completion; writes of one beat stand in it EtherCAT first (R35, DESIGN CHOICE, assumption 122). Without a running core nobody
answers. -/
def hostRow (port : Port) (k : Nat) (wr : State → Written) (s : State) : Host.Outcome State Fault Refusal :=
  let b := s.openTick
  if b.coreUp then .next { hostDo port k wr b with clock := b.clock, pending := s.pending, mram := s.mram }
  else .next { s with reply := none }

/-- The outcome of a host write that also writes the MRAM: that of `REC.CLEAR` (R394). -/
def hostRowNv (port : Port) (k : Nat) (wr : State → Written) (s : State) : Host.Outcome State Fault Refusal :=
  let b := s.openTick
  if b.coreUp then .next { hostDo port k wr b with clock := b.clock, pending := s.pending } else .next { s with reply := none }

/-- The outcome of a sequencer instruction given as a command: it starts at the next tick boundary in step 5 (R184). Where no
program stands ready for an instruction there, nothing happens. -/
def seqRow (i : SeqInstr) (s : State) : Host.Outcome State Fault Refusal :=
  let b := s.openTick
  if b.canStart && b.seq.offAfter.isNone && !b.seq.stopAfter then
    .next { seqStart i b with clock := b.clock, pending := s.pending, mram := s.mram }
  else .next s

end Sys2Proof.Machine
end

