-- ==== Sys2Proof/Machine/Publish.lean ====
section
/-! DEFINITION. Publication: what the live dictionary shows of the engines, and the one instant at which the host's view of it
changes (R8, R34, R443). -/

namespace Sys2Proof.Machine

/-- The slots that hold a job, and those of them that are PENDING (R453). -/
def showJobs (s : State) : State :=
  (s.put K.jobInUse (maskOf ((upto 32).filter (fun i => s.jobCode i ≠ 0)))).put K.jobPending
    (maskOf ((upto 32).filter (fun i => s.jobCode i = 1)))

/-- This device pulls GAIT low (R208): while it is busy, and in the rest of boot once the configuration copy is selected. -/
def State.pullsGait (s : State) : Bool :=
  (s.power.boot.isSome && s.gait.en) || (s.drivesGait && !s.gait.released)

/-- `GAIT.LINE`: levels and own pulls at the tick (R217); with `GAIT.EN` = 0 the lines are neither sampled nor driven (R207). -/
def showGait (s : State) : State :=
  let bit (b : Bool) (v : Nat) : Nat := if b then v else 0
  s.put K.gaitLine
    (if s.gait.en then
      bit s.pins.gaitHigh 1 + bit s.pullsGait 2 + bit s.pins.alarmHigh 4 + bit s.gait.alarm 8
    else 0)

/-- `VREF_NOW` (R119): the reference code at the tick; 0 on a rail that regulates to none (DEDUCED, assumption 36). -/
def showRef (n : Nat) (s : State) : State :=
  s.putFit (K.railVrefNow n) (if (s.rail n).driven || s.rail n == .ready then s.railRef n else 0 : Nat)

/-- The entries of R310 and R311, which the estimator publishes (R282). -/
def estReadout (k : Nat) : Bool := decide (0x2D2000 ≤ k ∧ k < 0x2D5000)

/-- The estimator's readouts as they were published last, between the other entries as they are now (R282). -/
def withOldEst (pub od : List (Nat × Nat)) : List (Nat × Nat) :=
  od.filter (fun e => decide (e.1 < 0x2D2000)) ++ pub.filter (fun e => estReadout e.1) ++
    od.filter (fun e => decide (0x2D5000 ≤ e.1))

/-- Everything that the host reads is published together; the sets of w1c bits before it are old (R8, R34). The estimator's readouts are
published in the tick that follows its update, each time with a new `EST.SEQ` (R282). -/
def publishLive (s : State) : State :=
  let t := each (upto 16) showRef s
  let t := showGait (showJobs (showStaging (showFault (updateCrc t))))
  let t := { t with fresh := [] }
  if t.est.pubDue then
    let t := { t.bump K.estSeq with est := { t.est with pubDue := false } }
    { t with pub := t.od, fresh := [] }
  else { t with pub := withOldEst t.pub t.od }

/-- The first publication, at the end of boot: all of the dictionary. -/
def publishFirst (s : State) : State :=
  let t := publishLive s
  { t with pub := t.od, fresh := [] }

end Sys2Proof.Machine
end

