-- ==== Sys2Proof/Machine/Rows.lean ====
section
/-! DEFINITION. The commands that act at a tick boundary: the rows of single registers that the host writes (R35) and the sequencer's
instructions (R184). Each is one line over the write or the effect of its family. -/

namespace Sys2Proof.Machine

/-! ## Time -/

def execTimeCapture (port : Port) (v : BitVec 8) (dc : BitVec 64) (s : State) : Host.Outcome State Fault Refusal :=
  hostRow port K.timeCapture (wrTimeCapture v.toNat dc.toNat) s

def execCfgCommit (port : Port) (v : BitVec 32) (s : State) : Host.Outcome State Fault Refusal :=
  hostRow port K.cfgCommit (wrCfgCommit v.toNat) s

def execCfgDiscard (port : Port) (v : BitVec 8) (s : State) : Host.Outcome State Fault Refusal :=
  hostRow port K.cfgDiscard (wrCfgDiscard v.toNat) s

/-! ## Divider -/

def execFdRatioMode (port : Port) (v : BitVec 8) (s : State) : Host.Outcome State Fault Refusal :=
  hostRow port K.fdRatioMode (wrFdRatioMode v.toNat) s

/-! ## Phases -/

def execRailEnable (port : Port) (n : Fin 16) (s : State) : Host.Outcome State Fault Refusal :=
  hostRow port (K.railCmd n.val) (wrRailEnable n.val) s

def execRailDisable (port : Port) (n : Fin 16) (s : State) : Host.Outcome State Fault Refusal :=
  hostRow port (K.railCmd n.val) (wrRailDisable n.val) s

/-- A rail is found discharged at the tick boundary: a toggle for a CHECK that names it (R94, R198). -/
def execRailDischarged (n : Fin 16) (vout : Nat) (s : State) : Host.Outcome State Fault Refusal :=
  atTick (fun t => tickToggles t.tickSignals (doRailDischarged n.val vout t)) s

def execPhaseTakeOut (port : Port) (p : Fin 8) (s : State) : Host.Outcome State Fault Refusal :=
  hostRow port (K.phaseCmd p.val) (wrPhaseTakeOut p.val) s

def execPhaseReturn (port : Port) (p : Fin 8) (s : State) : Host.Outcome State Fault Refusal :=
  hostRow port (K.phaseCmd p.val) (wrPhaseReturn p.val) s

/-! ## Health -/

def execRhRun (port : Port) (v : BitVec 8) (s : State) : Host.Outcome State Fault Refusal :=
  hostRow port K.rhRun (wrRhRun port v.toNat) s

def execRhCommission (port : Port) (v : BitVec 16) (s : State) : Host.Outcome State Fault Refusal :=
  hostRow port K.rhCommission (wrRhCommission port v.toNat) s

/-- A grant starts its user where nothing else is waited for (R164, R287). -/
def execArbGrant (s : State) : Host.Outcome State Fault Refusal :=
  atTick (fun t => doEstZPointStart (doRhSettleStart (doArbGrant t))) s

/-- The results of a run are published by a tick (R166), before its step 4. -/
def execRhResults (s : State) : Host.Outcome State Fault Refusal := atTick doRhResults s

/-! ## Seq -/

/-- NOP (R186): occupies one tick. -/
def execNop (s : State) : Host.Outcome State Fault Refusal := seqRow .nop s
/-- ENABLE (R188). -/
def execEnable (w : Bool) (tmo : BitVec 8) (mask : BitVec 16) (s : State) : Host.Outcome State Fault Refusal :=
  seqRow (.enable w tmo mask) s
/-- DISABLE (R189). -/
def execDisable (w : Bool) (tmo : BitVec 8) (mask : BitVec 16) (s : State) : Host.Outcome State Fault Refusal :=
  seqRow (.disable w tmo mask) s
/-- WAIT_TIME (R190). -/
def execWaitTime (ticks : Bool) (n : BitVec 27) (s : State) : Host.Outcome State Fault Refusal :=
  seqRow (.waitTime ticks n) s
/-- WAIT_STRIDE (R191). -/
def execWaitStride (lock : Bool) (skip : BitVec 8) (unit : BitVec 12) (s : State) : Host.Outcome State Fault Refusal :=
  seqRow (.waitStride lock skip unit) s
/-- CHECK (R198). -/
def execCheck (soft pol : Bool) (pset : Fin 32) (kind : BitVec 4) (op : BitVec 16) (s : State) :
    Host.Outcome State Fault Refusal := seqRow (.check soft pol pset kind op) s
/-- JUMP (R193). -/
def execJump (cond : BitVec 2) (count target : BitVec 8) (s : State) : Host.Outcome State Fault Refusal :=
  seqRow (.jump cond count target) s
/-- GAIT (R206, R207). -/
def execGait (tmo : BitVec 8) (target : BitVec 6) (s : State) : Host.Outcome State Fault Refusal :=
  seqRow (.gait tmo target) s
/-- SETOUT (R195). -/
def execSetout (mask value : BitVec 8) (s : State) : Host.Outcome State Fault Refusal := seqRow (.setout mask value) s
/-- MARK (R196). -/
def execMark (entry log : Bool) (gs : BitVec 6) (id : BitVec 16) (s : State) : Host.Outcome State Fault Refusal :=
  seqRow (.mark entry log gs id) s
/-- SLEW (R197). -/
def execSlew (rail : Fin 16) (w : Bool) (code : BitVec 13) (s : State) : Host.Outcome State Fault Refusal :=
  seqRow (.slew rail w code) s
/-- END (R183). -/
def execSeqEnd (s : State) : Host.Outcome State Fault Refusal := seqRow .seqEnd s

def execGaitAlrmCmd (port : Port) (v : BitVec 8) (s : State) : Host.Outcome State Fault Refusal :=
  hostRow port K.gaitAlrmCmd (wrGaitAlrmCmd v.toNat) s

def execSeqImage (port : Port) (data : List Byte) (s : State) : Host.Outcome State Fault Refusal :=
  hostRow port K.seqImage (wrSeqImage data) s

def execSeqRun (port : Port) (v : BitVec 8) (s : State) : Host.Outcome State Fault Refusal :=
  hostRow port K.seqRun (wrSeqRun port v.toNat) s

def execSeqStop (port : Port) (v : BitVec 8) (s : State) : Host.Outcome State Fault Refusal :=
  hostRow port K.seqStop (wrSeqStop v.toNat) s

def execFfrRearm (port : Port) (v : BitVec 8) (s : State) : Host.Outcome State Fault Refusal :=
  hostRow port K.ffrRearm (wrFfrRearm v.toNat) s

/-! ## Faults -/

def execFaultAck (port : Port) (v : BitVec 8) (s : State) : Host.Outcome State Fault Refusal :=
  hostRow port K.faultAck (wrFaultAck v.toNat) s

def execAutoAck (s : State) : Host.Outcome State Fault Refusal := atTick doAutoAck s

def execRelease (s : State) : Host.Outcome State Fault Refusal := atTick doRelease s

def execAutoRestartEnable (s : State) : Host.Outcome State Fault Refusal := atTick doAutoRestartEnable s

def execRetryWinExpire (s : State) : Host.Outcome State Fault Refusal := atTick doRetryWinExpire s

def execFaultRearm (port : Port) (v : BitVec 8) (s : State) : Host.Outcome State Fault Refusal :=
  hostRow port K.faultRearm (wrFaultRearm v.toNat) s

def execLockoutClear (port : Port) (v : BitVec 16) (s : State) : Host.Outcome State Fault Refusal :=
  hostRow port K.faultLockoutClear (wrLockoutClear port v.toNat) s

/-! ## Charger -/

/-- A read of `CHG.FAULT` over a port. -/
def execChgFaultRead (port : Port) (s : State) : Host.Outcome State Fault Refusal :=
  let b := s.openTick
  if b.coreUp then
    let t := if b.answers port then { readFault b with reply := some ⟨port, 0⟩ } else { b with reply := none }
    .next { t with clock := b.clock, pending := s.pending, mram := s.mram }
  else .next { s with reply := none }

def execRevStart (port : Port) (s : State) : Host.Outcome State Fault Refusal := hostRow port K.revCmd wrRevStart s

def execRevStop (port : Port) (s : State) : Host.Outcome State Fault Refusal := hostRow port K.revCmd wrRevStop s

/-! ## Estimator -/

def execEstZRun (port : Port) (v : BitVec 8) (s : State) : Host.Outcome State Fault Refusal :=
  hostRow port K.estZRun (wrEstZRun port v.toNat) s

def execEstReset (port : Port) (v : BitVec 16) (s : State) : Host.Outcome State Fault Refusal :=
  hostRow port K.estReset (wrEstReset v.toNat) s

def execEstZPointAbandon (cv : Bool) (s : State) : Host.Outcome State Fault Refusal :=
  atTick (fun t => collectDue (doEstZPointAbandon cv t)) s

/-! ## Pair -/

def execPairHandback (port : Port) (v : BitVec 16) (s : State) : Host.Outcome State Fault Refusal :=
  hostRow port K.pairHandback (wrPairHandback v.toNat) s

def execPairCmd (port : Port) (v : BitVec 8) (s : State) : Host.Outcome State Fault Refusal :=
  hostRow port K.pairCmd (wrPairCmd v.toNat) s

def execJoinWaitExpire (s : State) : Host.Outcome State Fault Refusal := atTick doJoinWaitExpire s

/-! ## Watchdog -/

/-- A write of the lock: one of 1 that completes before its tick is noted in its beat, so that key words after it are refused (R352). -/
def execWdgLock (port : Port) (v : BitVec 8) (s : State) : Host.Outcome State Fault Refusal :=
  if v = 1 ∧ s.coreUp ∧ s.clock.beat < s.clock.next then event (hostDo port K.wdgLock askLock) s
  else hostRow port K.wdgLock (wrWdgLock v.toNat) s

def execWdgCmd (port : Port) (v : BitVec 8) (s : State) : Host.Outcome State Fault Refusal :=
  hostRow port K.wdgCmd (wrWdgCmd v.toNat) s

/-! ## Backup -/

def execRtcCapture (port : Port) (v : BitVec 8) (s : State) : Host.Outcome State Fault Refusal :=
  hostRow port K.rtcCapture (wrRtcCapture v.toNat) s

def execRtcSet (port : Port) (v : BitVec 64) (s : State) : Host.Outcome State Fault Refusal :=
  hostRow port K.rtcSet (wrRtcSet v.toNat) s

def execRtcCalRun (port : Port) (v : BitVec 32) (dc : Nat) (s : State) : Host.Outcome State Fault Refusal :=
  hostRow port K.rtcCalRun (wrRtcCalRun port v.toNat dc) s

def execPwronSet (port : Port) (s : State) : Host.Outcome State Fault Refusal := hostRow port K.bkPwronCmd wrPwronSet s

def execPwronClear (port : Port) (s : State) : Host.Outcome State Fault Refusal :=
  hostRow port K.bkPwronCmd wrPwronClear s

/-! ## Record -/

def execRecFlush (port : Port) (v : BitVec 8) (s : State) : Host.Outcome State Fault Refusal :=
  hostRow port K.recFlush (wrRecFlush port v.toNat) s

def execRecClear (port : Port) (v : BitVec 16) (s : State) : Host.Outcome State Fault Refusal :=
  hostRowNv port K.recClear (wrRecClear port v.toNat) s

def execRecTrigCmd (port : Port) (v : BitVec 8) (s : State) : Host.Outcome State Fault Refusal :=
  hostRow port K.recTrigCmd (wrRecTrigCmd v.toNat) s

/-! ## Store -/

def execCfgImage (port : Port) (data : List Byte) (s : State) : Host.Outcome State Fault Refusal :=
  hostRow port K.cfgImage (wrCfgImage data) s

def execComSave (port : Port) (v : BitVec 32) (s : State) : Host.Outcome State Fault Refusal :=
  hostRow port K.comSave (wrComSave port v.toNat) s

def execComRestore (port : Port) (v : BitVec 32) (s : State) : Host.Outcome State Fault Refusal :=
  hostRow port K.comRestore (wrComRestore port v.toNat) s

def execCfgLock (port : Port) (v : BitVec 8) (s : State) : Host.Outcome State Fault Refusal :=
  hostRow port K.cfgLock (wrCfgLock v.toNat) s

def execCfgUnlock (port : Port) (v : BitVec 16) (s : State) : Host.Outcome State Fault Refusal :=
  hostRow port K.cfgUnlock (wrCfgUnlock v.toNat) s

end Sys2Proof.Machine
end

