-- ==== Sys2Proof/Machine/Power.lean ====
section
/-! DEFINITION. The device power states (R20 to R29, R204, R404 to R416): requests, transitions, boot from end to end, SYSRST_N,
STALL and the retry, the supplies. -/

namespace Sys2Proof.Machine

/-! ## Transitions -/

/-- A state is entered at this tick. A health run ends with ACTIVE (R157, R163), an impedance measurement with the states that allow
it (R286). -/
def moveDev (d : DevState) (cause : Nat) (s : State) : State :=
  let t := if s.dev = .active ∧ d ≠ .active then rhLeaves s else s
  let t := if s.dev.live ∧ d.live = false then endMeasure 5 t else t
  let t := enterDev d cause t
  { t with power := { t.power with since := t.tick } }

/-- STANDBY to ACTIVE: the power-up program starts (R21). -/
def startUp (cause : Nat) (s : State) : State :=
  let t := (moveDev .active cause s).put K.seqOnLatch 0
  startPowerUp { t with power := { t.power with autostartDue := false } }

/-- DOZE to ACTIVE (R21): no program starts; a paused watchdog starts anew (R351). -/
def leaveDoze (cause : Nat) (s : State) : State :=
  let t := wdgResume (moveDev .active cause s)
  { t with fc := { t.fc with dozeWake := false }, power := { t.power with alarmWake := false } }

/-- ACTIVE to DOZE (R21, R351). -/
def enterDoze (s : State) : State := wdgPause (moveDev .doze 1 s)

/-- DOZE may be entered (R21, R29): no program runs, no fault of class F2 or higher is unacknowledged. -/
def State.dozeAllowed (s : State) : Bool := !s.programRuns && s.get K.faultUnack &&& 0x3C == 0

/-- `DEV.AUTOSTART` applies at the next tick (R24, R234, R408). -/
def autostartNext (s : State) : State := { s with power := { s.power with autostartDue := s.get K.devAutostart == 1 } }

/-- EN as the device treats it: low while VDDIO is below its good threshold (R471). -/
def State.enHigh (s : State) : Bool := s.pins.en && s.pins.vddioGood

/-- VSYS in mV as the last beat sampled it; where none has been sampled, as it was published. -/
def State.vsysNow (s : State) : Nat := match s.divider.hist with | v :: _ => v | [] => s.get K.fdVsys

/-- Entry into BACKUP (R21, R24) with VSYS at `vsys` mV: the rails go down and the main domain stops; a pair's last frame tells the partner
(R28, R321); the backup domain goes on from the first source that holds, VBAK and the pack as the last tick found them (R359). -/
def enterBackup (vsys cause : Nat) (s : State) : State :=
  let t := railsLost (enterDev .backup cause s)
  let t := setPair (fun p => { p with release := p.release ||| BitVec.ofNat 16 (t.get K.pairCarry) }) t
  let last := if s.pairs ∧ s.get K.pairLink ≠ 0 then [wire (frameBytes 1 t.pair.txFast (fastBytes t.fastFrame))] else []
  let u := setPair (fun p => { p with sent := last }) ((mainDown t).put K.devStateCause cause)
  supplyBackup vsys (s.get K.bkVbak) (s.get K.chgVbat) u

/-- The front divider is off in STANDBY and LOCKOUT (R20): its FETs are off from entry on, and IBUS is discharged. -/
def fdHalt (s : State) : State :=
  if s.fd = .balance ∨ s.fd = .softstart ∨ s.fd = .run ∨ s.fd = .swap then
    let t := setIbusGood false (setFd .stopping s)
    { t with divider := { t.divider with changeTo := none } }
  else s

/-- Entry into LOCKOUT (R20, R21, R183, R208, R321): a rail that came on after the F5 reaction goes off as that reaction turns rails off
(R227, DEDUCED, assumption 128), the sequencer and the divider halt, the alarm is asserted on entry from ACTIVE or DOZE. -/
def enterLockout (s : State) : State :=
  let ran := (s.dev == .active || s.dev == .doze) && s.drivesGait
  let t := railsFault (upto 16) s.fc.lastSrc 0xFF (moveDev .lockout 7 s)
  let t := fdHalt (seqHalt (wdgResume t))
  let t := setPair (fun p => { p with release := p.release ||| BitVec.ofNat 16 (t.get K.pairCarry) }) t
  let t := if ran then raiseAlarm t else t
  { t with
    fc := { t.fc with lockoutDue := false, offCause := false, restartDev := false, restart := 0, dozeWake := false }
    power := { t.power with offPending := none, autostartDue := false } }

/-- The power-down program stands at END and every rail is discharged (R21, R25). -/
def State.downDone (s : State) : Bool := s.dev == .active && s.seqState == .powerDown && s.seq.atEnd && s.allDischarged

/-- The end of power-down: STANDBY, in which the divider is off (R20), with the cause of its program, or BACKUP where EN is low (R21, R24,
R28). After EN low or an F4 restart, `DEV.AUTOSTART` applies. -/
def finishDown (s : State) : State :=
  if s.enHigh then
    let cause := s.seq.cause
    let again := cause == 3 || s.fc.restartDev
    let t := fdHalt (moveDev .standby cause (seqIdle s))
    let t := { t with fc := { t.fc with restartDev := false, offCause := false } }
    if again then autostartNext t else t
  else enterBackup s.vsysNow 3 s

/-- Why DOZE is left at a tick (R21, R28). Where several grounds hold at one tick, `DEV.STATE_CAUSE` is that of the first in this order: a
fault of F2 or higher, a host request, EN low, WAKE_N, the RTC alarm, an off request of the collector (DESIGN CHOICE, assumption 129:
R22 orders no grounds of one transition). -/
def State.dozeExit (s : State) : Option Nat :=
  if s.fc.dozeWake then some 6
  else if s.power.req = some 4 ∨ s.power.req = some 2 then some 1
  else if s.enHigh = false then some 3
  else if s.pins.wake then some 4
  else if s.power.alarmWake then some 5
  else if s.power.offPending = some 0x10 then some 6
  else none

/-- Step 6 in DOZE. -/
def dozeTick (s : State) : State := match s.dozeExit with | some c => leaveDoze c s | none => s

/-- EN is low (R24): an off request in ACTIVE, where power-down starts at this tick with the cause of the first request (R204); out of
DOZE first; BACKUP from the other states. A lockout that is due goes before it (R22). -/
def enActsLow (s : State) : State :=
  if s.fc.lockoutDue ∧ s.dev.live then s
  else
    match s.dev with
    | .active => if s.seqState = .idle then enterPowerDown (s.power.offPending.getD 3) s else offRequest 3 s
    | .doze => dozeTick (offRequest 3 s)
    | .standby | .stall | .lockout => enterBackup s.vsysNow 3 s
    | _ => s

/-- The outcome of an event of step 6 at the next tick boundary; a fall to BACKUP stops the beat counter. -/
def powerRow (f : State → State) (s : State) : Host.Outcome State Fault Refusal :=
  let b := s.openTick
  if b.coreUp then
    let t := f b
    .next { t with clock := if t.dev = .backup then Clock.reset else b.clock, pending := s.pending, mram := s.mram }
  else .next s

/-! ## Requests (R21, R22, R25, R29, R204)

A write notes its request; step 6 of the tick acts on it, or discards it where something of a higher place comes first (R22). -/

/-- A request for a state is noted for step 6. -/
def noteRequest (x : Nat) (s : State) : State := { s with power := { s.power with req := some x } }

/-- A request is refused: in STALL and LOCKOUT, and while the pair is being joined (R29, R329, R330). -/
def State.refusesRequest (s : State) : Bool := s.dev == .stall || s.dev == .lockout || s.joining

/-- A write of ACTIVE. -/
def wrReqActive (s : State) : Written :=
  if s.refusesRequest then refuse Abort.state s
  else
    match s.dev with
    | .standby | .doze => accept (noteRequest 4 s)
    | .active =>
      accept (if s.seqState = .powerDown ∧ s.get K.seqOnLatch = 0 then (s.put K.seqOnLatch 1).flag K.seqStatus 0x20 else s)
    | _ => refuse Abort.state s

def execStateReqActive (port : Port) (s : State) : Host.Outcome State Fault Refusal := hostRow port K.devStateReq wrReqActive s

/-- A write of DOZE. -/
def wrReqDoze (s : State) : Written :=
  if s.refusesRequest then refuse Abort.state s
  else
    match s.dev with
    | .doze => accept s
    | .active =>
      if s.dozeAllowed then accept (noteRequest 3 s) else refuse Abort.state s
    | _ => refuse Abort.state s

def execStateReqDoze (port : Port) (s : State) : Host.Outcome State Fault Refusal := hostRow port K.devStateReq wrReqDoze s

/-- A write of STANDBY: an off request (R204), whose power-down starts in step 5 of the tick; out of DOZE first. -/
def wrReqStandby (s : State) : Written :=
  if s.refusesRequest then refuse Abort.state s
  else
    match s.dev with
    | .standby => accept s
    | .active => accept (offRequest 1 s)
    | .doze => accept (noteRequest 2 (offRequest 1 s))
    | _ => refuse Abort.state s

def execStateReqStandby (port : Port) (s : State) : Host.Outcome State Fault Refusal := hostRow port K.devStateReq wrReqStandby s

/-- A write of `DEV.STATE_REQ` (R28). -/
def wrStateReq (v : Nat) (s : State) : Written :=
  if v = 4 then wrReqActive s else if v = 3 then wrReqDoze s else if v = 2 then wrReqStandby s else refuse Abort.value s

/-- `DEV.AUTOSTART` at the first tick after entry into STANDBY, or after a release in it (R234), once the pair lets it (R21, R329, R408). -/
def doAutostart (s : State) : State :=
  if s.dev = .standby ∧ s.power.autostartDue ∧ s.joining = false ∧ s.power.since < s.tick ∧ s.fc.lockoutDue = false then
    startUp 2 s
  else s

def execAutostart (s : State) : Host.Outcome State Fault Refusal := atTick doAutostart s

/-- A latched on request is honoured at a later tick in STANDBY (R204), where gait state 0 has been reached and every rail is discharged
(R25). -/
def State.latchDue (s : State) : Bool :=
  s.dev == .standby && s.get K.seqOnLatch == 1 && decide (s.power.since < s.tick) && s.get K.seqGaitState == 0 && s.allDischarged

/-- The end of power-down, and a latched on request (R21, R204); a lockout that is due goes before them (R22). -/
def doEnterStandby (s : State) : State :=
  if s.fc.lockoutDue then s
  else if s.downDone then finishDown s
  else if s.latchDue then startUp 1 s
  else s

def execEnterStandby (s : State) : Host.Outcome State Fault Refusal := powerRow doEnterStandby s

/-- EN sampled low. -/
def doEnLow (s : State) : State := enActsLow { s with pins := { s.pins with en := false } }

def execEnLow (s : State) : Host.Outcome State Fault Refusal := powerRow doEnLow s

/-! ## Supplies (R20, R21, R361, R407) -/

/-- VSYS below its undervoltage threshold: BACKUP from every main-domain state, and from boot. -/
def doVsysUv (vsys : Nat) (s : State) : State :=
  if s.fastUp then enterBackup vsys 0 s
  else
    supplyBackup vsys (s.get K.bkVbak) (s.get K.chgVbat)
      { mainReset s with power := { Power.reset with coreTripped := s.power.coreTripped } }

/-- VSYS stands at `vsys` mV (R483). A main-domain state is left at the tick (R21), boot and reset at once (R407). -/
def execVsysUv (vsys : Nat) (s : State) : Host.Outcome State Fault Refusal :=
  let b := s.openTick
  if vsys < vsysUvMv ∧ (b.dev.main ∨ b.power.boot.isSome ∨ b.power.held) then
    .next { doVsysUv vsys b with clock := Clock.reset, pending := s.pending, mram := s.mram }
  else .next s

/-- The first backup supply that has reached its start threshold, by its code of `BK.SUPPLY` (R21, R359, R483). -/
def startSupply (vsys vbak vbat : Nat) : Option Nat :=
  if vsysStartMv ≤ vsys then some 3
  else if vbakStartMv ≤ vbak then some 1
  else if packStartMv ≤ vbat then some 2
  else none

/-- A backup supply rises above its start threshold: OFF to BACKUP. -/
def doBackupStart (vsys vbak vbat : Nat) (s : State) : State :=
  match startSupply vsys vbak vbat with
  | some x => if s.dev = .off then setBk (fun b => { b with supply := x }) (s.put K.devState DevState.backup.code) else s
  | none => s

def execBackupStart (vsys vbak vbat : Nat) (s : State) : Host.Outcome State Fault Refusal :=
  event (doBackupStart vsys vbak vbat) s

/-- Every backup supply is below its hold threshold: OFF, the backup domain is cleared (R361). The store and the pins keep theirs. -/
def doFallToOff (s : State) : State :=
  { State.reset with mram := s.mram, ecc := s.ecc, pending := s.pending, pins := { Pins.reset with vddioGood := s.pins.vddioGood, link := s.pins.link } }

def execFallToOff (vsys vbak vbat : Nat) (s : State) : Host.Outcome State Fault Refusal :=
  if s.dev = .backup ∧ s.power.boot = none ∧ s.power.held = false ∧ supplyOf vsys vbak vbat = none then
    retimed Clock.restart doFallToOff s
  else .next s

/-- VDDIO stands at `mv`: it is good from its rising to its falling threshold (R471, R483). -/
def doVddioLoss (mv : Nat) (s : State) : State :=
  { s with pins := { s.pins with vddioGood := decide ((if s.pins.vddioGood then vddioFallMv else vddioRiseMv) ≤ mv) } }

def execVddioLoss (mv : Nat) (s : State) : Host.Outcome State Fault Refusal := event (doVddioLoss mv) s

/-! ## Boot -/

/-- VSYS good and EN high have held for 4 backup-clock edges (R404): boot with cause 0x00. From OFF, the backup domain powers up from
VSYS first. Boot does not begin without VDDIO (R471). -/
def doBootBegin (x : BootInputs) (s : State) : State :=
  let t := if s.dev = .off then setBk (fun b => { b with supply := 3 }) s else s
  beginBoot 0 x { t with pins := { t.pins with en := true } }

/-- VSYS stands at `vsys` mV and EN high, both found so at `edges` consecutive edges. -/
def execBootBegin (vsys edges : Nat) (x : BootInputs) (s : State) : Host.Outcome State Fault Refusal :=
  if s.dev.main = false ∧ s.power.boot = none ∧ s.power.held = false ∧ s.pins.vddioGood ∧ vsysGoodMv ≤ vsys ∧ 4 ≤ edges then
    retimed Clock.restart (doBootBegin x) s
  else .next s

/-- The backup domain takes its copies (R136, R251, R373, R408); an L0 that is no longer always-on goes off. A running L0 keeps the target it
regulates to until it starts again, whatever `VSET` the new copy holds (DESIGN CHOICE, assumption 139). -/
def takeCopies (s : State) : State :=
  let t := setBk (fun b => { b with
    l0On := s.get K.ldoAlwaysOn == 1, l0Vset := s.get (K.railVset 12), l0SsTime := s.get (K.railSsTime 12)
    l0Ilim := s.get (K.ldoIlim 0), auxSys := s.get K.pathAuxSysEn == 1, batStart := s.get K.pathBatStart == 1
    restartLevel := s.restartLevel, pwronSrc := s.get K.bkPwronSrc, pwronHold := s.get K.bkPwronHold }) s
  if t.bk.l0On ∨ t.rail 12 = .off then t else (railToOff 12 t).put (K.railCause 12) 3

/-- Sources in ascending number. -/
def insertSource (e : SrcKind × Nat) : List (SrcKind × Nat) → List (SrcKind × Nat)
  | [] => [e]
  | f :: t => if e.1.number e.2 ≤ f.1.number f.2 then e :: f :: t else f :: insertSource e t

/-- The sources that the end of boot raises (R32, R354, R370, R371, R376, R384, R417). -/
def bootSources (b : Boot) (s : State) : List (SrcKind × Nat) :=
  (b.found ++ (if s.power.coreTripped then [(SrcKind.wdgCore, 0)] else []) ++
    (if s.bk.alarmDue then [(SrcKind.rtcAlarm, 0)] else []) ++
    (if s.bk.valid then [] else [(SrcKind.rtcInvalid, 0)])).foldr insertSource []

/-- One source of the end of boot; a failed self-test fills the first-failure record (R413). -/
def raiseBoot (e : SrcKind × Nat) (s : State) : State :=
  let t := takeSource e.1 e.2 s
  if e.1 = .stFail then fillFfr 3 0xFF 0xFF 0 (e.1.number e.2) 0 t else t

/-- Which state a boot ends in, with its cause (R21, R28, R408). -/
def bootEnds (b : Boot) (s : State) : DevState × Nat :=
  if b.failed then (.stall, 8) else if s.get K.faultLockout = 1 then (.lockout, 0x0C) else (.standby, b.cause)

/-- What starts at the end of boot (R283, R329, R341, R351, R387, R390, R500); the first stride after boot begins here (R47,
DEDUCED, assumption 39). -/
def startUnits (s : State) : State :=
  let t := { setWdg (fun w => { w with w := 0, coreIdle := 0 }) s with stride := { s.stride with elapsed := 0 } }
  let t := if t.get K.wdgEn = 1 ∧ t.dev ≠ .stall then doWdgStartDelayEnd (wdgToStart t) else t
  let t := t.put K.chgITherm 10000
  let t := { t with fc := { t.fc with lastSevere := t.beat }, est := { t.est with lastEpoch := t.clock.epochs } }
  bootRecord (pairBoot (t.put K.recState t.recorderState))

/-- The end of boot (R408), in one beat at a tick boundary, at which the dictionary is published for the first time (DEDUCED,
assumption 35). -/
def doEndOfBoot (b : Boot) (s : State) : State :=
  let (d, cause) := bootEnds b s
  let t := { s with power := { s.power with boot := none, mramFailed := b.failMram } }
  let t := moveDev d cause t
  let t := if d = .stall then (t.bumpSat K.stStallCnt).put K.seqState SeqState.halted.code
    else takeCopies (if d = .lockout then t.put K.seqState SeqState.halted.code else t)
  let t := if t.path.batStarted then { t.flag K.pathStatus 0x40 with path := { t.path with batStarted := false } } else t
  let t := each (bootSources b t) raiseBoot t
  let t := { setBk (fun k => { k with alarmDue := false }) t with power := { t.power with coreTripped := false } }
  let t := startUnits (capture t)
  let t := if d = .standby then autostartNext t else t
  publishFirst (if t.fc.lockoutDue ∧ t.dev = .standby then t else { t with fc := { t.fc with lockoutDue := false } })

/-- Boot takes whole ticks; its end is the next tick boundary. -/
def execEndOfBoot (s : State) : Host.Outcome State Fault Refusal :=
  match s.power.boot with
  | some b => retimed Clock.ticked (doEndOfBoot b) s.atBoundary
  | none => .next s

/-! ## SYSRST_N (R26) -/

/-- Sampled low: rails off, the main domain held in reset. -/
def doSysrstNAssert (s : State) : State :=
  let t := mainReset (if s.fastUp then railsLost (calEnd 6 (estOff s)) else s)
  { t.flag K.xingFlushed 0x10 with power := { t.power with held := true } }

def execSysrstNAssert (s : State) : Host.Outcome State Fault Refusal :=
  if s.dev.main ∨ s.power.boot.isSome then retimed Clock.restart doSysrstNAssert s else .next s

/-- Sampled high again: boot with cause 0x0A. -/
def execSysrstNRelease (x : BootInputs) (s : State) : Host.Outcome State Fault Refusal :=
  if s.power.held then retimed Clock.restart (beginBoot 0x0A x) s else .next s

/-! ## STALL (R413 to R416) -/

/-- A write of `ST.RETRY`: a job that is done at once, and boot ten ticks later. -/
def wrStRetry (port : Port) (v : Nat) (s : State) : Written :=
  if v ≠ 0x7E57 then refuse Abort.value s
  else if s.dev ≠ .stall then refuse Abort.state s
  else startJob port K.stRetry (fun i u =>
    jobEnd i .done 0 { u.bumpSat K.stRetryCnt with power := { u.power with retryAt := some (u.power.retryAt.getD (u.tick + 10)) } }) s

def execStRetry (port : Port) (v : BitVec 16) (s : State) : Host.Outcome State Fault Refusal :=
  hostRow port K.stRetry (wrStRetry port v.toNat) s

/-- The retry job has come due at this tick boundary. -/
def State.retryDue (s : State) : Bool :=
  s.coreUp && s.dev == .stall && (match s.power.retryAt with | some k => decide (k ≤ s.tick) | none => false)

def execRetryBoot (x : BootInputs) (s : State) : Host.Outcome State Fault Refusal :=
  let b := s.openTick
  if b.retryDue then .next { deviceReset 9 x b with clock := Clock.reset, pending := s.pending, mram := s.mram } else .next s

/-! ## PREOP after boot (R405) -/

/-- The application layer leaves INIT by itself, once after a boot; it listens for emergencies from then on (R440). -/
def doEcatPreopReached (s : State) : State :=
  if s.fastUp ∧ s.get K.ecatAlState = 1 ∧ s.ecat.leftInit = false then
    ecatTakes { (s.put K.ecatAlState 2).flag K.hostAlert 0x10 with ecat := { s.ecat with leftInit := true } }
  else s

def execEcatPreopReached (s : State) : Host.Outcome State Fault Refusal := event doEcatPreopReached s

/-! ## The tick -/

/-- EN and the other pins in step 3; an off request by EN acts before the sequencer, EN returning high is an on request (R24,
R204). -/
def enSample (i : TickInputs) (s : State) : State :=
  let was := s.enHigh
  let t := { s with pins := { s.pins with en := i.en, gpIn := i.gpIn, gaitHigh := i.gaitHigh, alarmHigh := i.alarmHigh } }
  if t.enHigh = false ∧ (t.dev = .active ∨ t.dev = .doze) then offRequest 3 t
  else if t.enHigh ∧ was = false ∧ t.seqState = .powerDown ∧ t.get K.seqOnLatch = 0 then
    (t.put K.seqOnLatch 1).flag K.seqStatus 0x20
  else t

/-- The main domain finds the last sample of VSYS below its undervoltage threshold (R21, R483). -/
def State.vsysLost (s : State) : Bool := match s.divider.hist with | v :: _ => decide (v < vsysUvMv) | [] => false

/-- Step 6 of R34 in the order of R22: loss of VSYS, LOCKOUT, any other condition. Among these others EN low comes first, then the end of
the lockout-clear job, then the requests (DESIGN CHOICE, assumption 130). A request is honoured or discarded here. -/
def powerTick (s : State) : State :=
  let t :=
    if s.vsysLost then enterBackup s.vsysNow 0 s
    else if s.fc.lockoutDue ∧ s.dev.live then enterLockout s
    else if s.enHigh = false ∧ (s.dev = .standby ∨ s.dev = .stall ∨ s.dev = .lockout) then enterBackup s.vsysNow 3 s
    else
      match s.dev with
      | .lockout => if s.get K.faultLockout = 0 then moveDev .standby 0x0B (seqIdle s) else s
      | .doze => dozeTick s
      | .standby => if s.power.req = some 4 then startUp 1 s else s
      | .active => if s.power.req = some 3 ∧ s.dozeAllowed then enterDoze s else s
      | _ => s
  { t with power := { t.power with alarmWake := false, req := none } }

end Sys2Proof.Machine
end

