-- ==== Sys2Proof/Machine/Entry.lean ====
section
/-! DEFINITION. One entry as a host sees it (R6, R7, R425, R428, R443, R455 to R467): the bytes a read returns, the effect
of a write of any entry, and the rows that name an entry by its index. -/

namespace Sys2Proof.Machine

/-! ## Process-data mapping writes (R428, R459, R460) -/

/-- The values with one entry replaced. -/
def State.with1 (s : State) (k v : Nat) : Nat → Nat := fun j => if j = k then v else s.get j

/-- The mapping of the values `g` fits into its images and maps no output twice: the abort that refuses it, 0 for none. -/
def mapAbort (g : Nat → Nat) : Nat :=
  if 1024 < mapSize (assignedMap g true) ∨ 1024 < mapSize (assignedMap g false) then Abort.tooLong
  else if mapOnce g then 0 else Abort.mapping

/-- A write that a test may refuse, else the plain write. -/
def guarded (abort k v : Nat) (s : State) : Written := if abort = 0 then plainWrite k v s else refuse abort s

/-- A write of a mapping entry: only while the object's count is 0 (R459). -/
def wrMapEntry (out : Bool) (i k v : Nat) (s : State) : Written :=
  if s.get (if out then K.pdoRxMapN i else K.pdoTxMapN i) ≠ 0 then refuse Abort.state s
  else guarded (if (if out then okOutput v else okInput v) then 0 else Abort.mapping) k v s

/-- A write of a mapping object's count (R459). -/
def wrMapN (out : Bool) (i k v : Nat) (s : State) : Written :=
  let g := s.with1 k v
  if 32 < v then refuse Abort.value s
  else if (mapped g out i).all (fun w => w != 0) = false then refuse Abort.mapping s
  else if 1024 < mapSize (mapped g out i) then refuse Abort.tooLong s
  else guarded (mapAbort g) k v s

/-- A write of an assign subindex: only while the count is 0, an object of its direction, none twice (R460). -/
def wrAssign (out : Bool) (k v : Nat) (s : State) : Written :=
  if s.get (if out then K.pdoRxAssignN else K.pdoTxAssignN) ≠ 0 then refuse Abort.state s
  else
    let others := ((upto 4).map (fun j => if out then K.pdoRxAssign j else K.pdoTxAssign j)).filter (fun j => j != k)
    if okAssign out v = false ∨ (v ≠ 0 ∧ others.any (fun j => s.get j == v)) then refuse Abort.value s
    else plainWrite k v s

/-- A write of an assign object's count (R460). -/
def wrAssignN (out : Bool) (k v : Nat) (s : State) : Written :=
  let g := s.with1 k v
  if 4 < v ∨ named g out = false then refuse Abort.value s else guarded (mapAbort g) k v s

/-- A write in the mapping and assign objects; nothing where the key names no such entry. -/
def wrMapping (k v : Nat) (s : State) : Option Written :=
  let idx := k / 256
  let sub := k % 256
  if 0x1600 ≤ idx ∧ idx < 0x1604 then
    some (if sub = 0 then wrMapN true (idx - 0x1600) k v s else wrMapEntry true (idx - 0x1600) k v s)
  else if 0x1A00 ≤ idx ∧ idx < 0x1A04 then
    some (if sub = 0 then wrMapN false (idx - 0x1A00) k v s else wrMapEntry false (idx - 0x1A00) k v s)
  else if idx = 0x1C12 then some (if sub = 0 then wrAssignN true k v s else wrAssign true k v s)
  else if idx = 0x1C13 then some (if sub = 0 then wrAssignN false k v s else wrAssign false k v s)
  else none

/-! ## The error history (R456) -/

/-- The history empties. -/
def clearHistory (s : State) : State := (each (upto 16) (fun i u => u.put (K.comErrHist i) 0) s).put K.comErrCnt 0

/-- A write of `COM.ERR_CNT`. -/
def wrErrCnt (v : Nat) (s : State) : Written := if v = 0 then accept (clearHistory s) else refuse Abort.value s

def execErrHistoryClear (port : Port) (v : BitVec 8) (s : State) : Host.Outcome State Fault Refusal :=
  hostRow port K.comErrCnt (wrErrCnt v.toNat) s

def execJobRelease (port : Port) (v : BitVec 16) (s : State) : Host.Outcome State Fault Refusal :=
  hostRow port K.jobRelease (wrJobRelease v.toNat) s

/-! ## A write of any entry -/

/-- The entries of the indices 0x2000 to 0x22FF, 0x2E00 to 0x2FFF and of the communication area whose writes act by rules of their
own; nothing where the key names none. -/
def wrSystem (port : Port) (k v dc : Nat) (s : State) : Option Written :=
  if k = K.comErrCnt then some (wrErrCnt v s)
  else if k = K.comSave then some (wrComSave port v s)
  else if k = K.comRestore then some (wrComRestore port v s)
  else if k = K.devStateReq then some (wrStateReq v s)
  else if k = K.stRetry then some (wrStRetry port v s)
  else if k = K.cfgCommit then some (wrCfgCommit v s)
  else if k = K.cfgDiscard then some (wrCfgDiscard v s)
  else if k = K.cfgLock then some (wrCfgLock v s)
  else if k = K.cfgUnlock then some (wrCfgUnlock v s)
  else if k = K.jobRelease then some (wrJobRelease v s)
  else if k = K.timeCapture then some (wrTimeCapture v dc s)
  else if k = K.rtcCapture then some (wrRtcCapture v s)
  else if k = K.rtcSet then some (wrRtcSet v s)
  else if k = K.rtcCalRun then some (wrRtcCalRun port v dc s)
  else if k = K.bkPwronCmd then some (wrPwronCmd v s)
  else if k = K.recTrigCmd then some (wrRecTrigCmd v s)
  else if k = K.recFlush then some (wrRecFlush port v s)
  else if k = K.recClear then some (wrRecClear port v s)
  else none

/-- The entries of the indices 0x2300 to 0x2DFF and 0x3000 whose writes act by rules of their own. -/
def wrUnit (port : Port) (k v : Nat) (s : State) : Option Written :=
  let idx := k / 256
  let sub := k % 256
  if k = K.fdRatioMode then some (wrFdRatioMode v s)
  else if 0x2400 ≤ idx ∧ idx < 0x2480 ∧ sub = 7 then some (wrPhaseCmd ((idx - 0x2400) / 16) v s)
  else if 0x2500 ≤ idx ∧ idx < 0x2600 ∧ sub = 9 then some (wrRailCmd ((idx - 0x2500) / 16) v s)
  else if k = K.rhRun then some (wrRhRun port v s)
  else if k = K.rhCommission then some (wrRhCommission port v s)
  else if k = K.seqRun then some (wrSeqRun port v s)
  else if k = K.seqStop then some (wrSeqStop v s)
  else if k = K.ffrRearm then some (wrFfrRearm v s)
  else if k = K.gaitAlrmCmd then some (wrGaitAlrmCmd v s)
  else if k = K.faultAck then some (wrFaultAck v s)
  else if k = K.faultLockoutClear then some (wrLockoutClear port v s)
  else if k = K.faultRearm then some (wrFaultRearm v s)
  else if k = K.wdgKey then some (wrWdgKey v s)
  else if k = K.wdgLock then some (wrWdgLock v s)
  else if k = K.wdgCmd then some (wrWdgCmd v s)
  else if idx = 0x2B10 then some (wrWdgCheckin (sub - 1) v s)
  else if k = K.revCmd then some (wrRevCmd v s)
  else if k = K.estReset then some (wrEstReset v s)
  else if k = K.estZRun then some (wrEstZRun port v s)
  else if k = K.pairCmd then some (wrPairCmd v s)
  else if k = K.pairHandback then some (wrPairHandback v s)
  else none

/-- A write of a number to any entry, its access already checked; `dc` is the distributed-clock time at the tick. -/
def wrEntry (port : Port) (k v dc : Nat) (s : State) : Written :=
  match wrMapping k v s with
  | some w => w
  | none =>
    match wrSystem port k v dc s with
    | some w => w
    | none =>
      match wrUnit port k v s with
      | some w => w
      | none => plainWrite k v s

/-- A write of bytes to any entry (R6, R437): a number has its type's width; the two images are taken whole. -/
def wrBytes (port : Port) (k : Nat) (data : List Byte) (dc : Nat) (s : State) : Written :=
  if k = K.seqImage then wrSeqImage data s
  else if k = K.cfgImage then wrCfgImage data s
  else if widthOf k < data.length then refuse Abort.tooLong s
  else if data.length < widthOf k then refuse Abort.length s
  else wrEntry port k (leNat data) dc s

/-- Entries whose writes act at their completion, not at the tick: a check-in and a key word carry their stamp (R343, R352). -/
def stamped (k : Nat) : Bool := k == K.wdgKey || decide (K.wdgCheckin 0 ≤ k ∧ k ≤ K.wdgCheckin 15)

/-- A write of 1 to `WDG.LOCK` that completes before its tick (R352). -/
def State.locksEarly (s : State) (k : Nat) (data : List Byte) : Bool :=
  k == K.wdgLock && data == [1] && s.coreUp && decide (s.clock.beat < s.clock.next)

/-- Such a write waits for its tick; any other has its effect. -/
def wrNow (port : Port) (k : Nat) (data : List Byte) (dc : Nat) (s : State) : Written :=
  if s.locksEarly k data then askLock s else wrBytes port k data dc s

/-- A host write of bytes as an outcome. -/
def execHostWrite (port : Port) (index : BitVec 16) (sub : BitVec 8) (data : List Byte) (dc : BitVec 64) (s : State) :
    Host.Outcome State Fault Refusal :=
  let k := index.toNat * 256 + sub.toNat
  if stamped k || s.locksEarly k data then event (hostDo port k (wrNow port k data dc.toNat)) s
  else if k = K.recClear then hostRowNv port k (wrBytes port k data dc.toNat) s
  else hostRow port k (wrBytes port k data dc.toNat) s

/-! ## A read of any entry (R7, R443, R463, R467) -/

/-- The bytes of the ASCII text "CSG-6416" (R455). -/
def deviceName : List Byte := [0x43, 0x53, 0x47, 0x2D, 0x36, 0x34, 0x31, 0x36]

/-- The bytes of "B0" (R455). -/
def hardwareVersion : List Byte := [0x42, 0x30]

/-- Size in bytes of an image: that of its assigned objects (R467). -/
def State.imageSize (s : State) (out : Bool) : Nat := mapSize (assignedMap s.get out)

/-- Bytes cut or filled with zeros to a length. -/
def sized (n : Nat) (l : List Byte) : List Byte := l.take n ++ List.replicate (n - l.length) 0

/-- The highest subindex of an index: what subindex 0x00 of a record or array holds. -/
def highestSub (idx : Nat) : Nat :=
  ((rowsOf idx).flatMap EntryRow.keys).foldl (fun m k => if k / 256 = idx then max m (k % 256) else m) 0

/-- The configuration image of the values in use (R463). -/
def State.cfgImageNow (s : State) : List Byte :=
  cfgImageBytes (cfgPayload (fun k => lookupD s.pub k (dflt k)) s.seq.image)

/-- The records of the log whose own sequence number is at or above a number, in their stored form: bytes and count (R398). -/
def logFrom (m : List Host.Cell) (first : Nat) : Nat → Nat → List Byte × Nat
  | 0, _ => ([], 0)
  | n + 1, a =>
    let size := recordSize (leNat (Mram.readBytes m (a + 4) 2))
    let r := logFrom m first n (a + size)
    if first ≤ leNat (Mram.readBytes m a 4) then (Mram.readBytes m a size ++ r.1, r.2 + 1) else r

/-- The upload image of the log (R398). -/
def State.logImage (s : State) : List Byte :=
  let b := s.get K.recBaseSeq
  let r := logFrom s.store (s.get K.recUpFrom) (s.get K.recLogRecords) Part.log
  let h := leBytes 4 0x4B4C4F47 ++ leBytes 2 1 ++ leBytes 2 0 ++ leBytes 4 Config.serial.toNat ++ leBytes 4 (s.get K.cfgCrc) ++
    leBytes 4 b ++ leBytes 4 r.2 ++ leBytes 4 r.1.length ++ leBytes 4 0 ++ r.1
  h ++ leBytes 4 (crc32 h).toNat

/-- The bytes that a read of an entry returns, or the abort that refuses it. -/
def readEntry (k : Nat) (s : State) : Except Nat (List Byte) :=
  match entryAt k with
  | none =>
    if indexExists (k / 256) = false then .error Abort.noEntry
    else if k % 256 = 0 then .ok (leBytes 1 (highestSub (k / 256)))
    else .error Abort.noSub
  | some r =>
    if r.acc = .wo then .error Abort.readWo
    else if k = K.comDevName then .ok deviceName
    else if k = K.comHwVer then .ok hardwareVersion
    else if k = K.comSwVer then .ok Config.swVersion
    else if k = K.seqImage then .ok s.seq.image
    else if k = K.cfgImage then .ok s.cfgImageNow
    else if k = K.recLog then .ok s.logImage
    else if k = K.piIn then .ok s.ecat.inImage
    else if k = K.piOut then .ok s.ecat.outPub
    else .ok (leBytes (widthOf k) (s.shown k))

/-- One entry in a complete-access image: subindex 0x00 takes two bytes, a write-only entry reads as zeros, images and texts
are not part of it (PRESUMED from CoE; assumption 32). -/
def imagePart (k : Nat) (s : State) : List Byte :=
  match entryAt k with
  | some r =>
    if r.ty = .str ∨ r.ty = .domain then []
    else
      let b := if r.acc = .wo then List.replicate (widthOf k) 0 else leBytes (widthOf k) (s.shown k)
      if k % 256 = 0 then sized 2 b else b
  | none => if k % 256 = 0 then sized 2 (leBytes 1 (highestSub (k / 256))) else []

/-- The complete-access image of an object from one publication (R444), or the abort that refuses it. A single entry is its own
image. -/
def readObject (idx sub : Nat) (s : State) : Except Nat (List Byte) :=
  if indexExists idx = false then .error Abort.noEntry
  else if highestSub idx = 0 then (if sub = 0 then readEntry (idx * 256) s else .error Abort.noSub)
  else .ok ((upto (highestSub idx + 1)).flatMap (fun i => if i < sub then [] else imagePart (idx * 256 + i) s))

/-- The image as an SPI answer holds it: at most 256 bytes (R435). -/
def readAll (idx sub : Nat) (s : State) : Except Nat (List Byte) :=
  match readObject idx sub s with
  | .ok b => if 256 < b.length then .error Abort.tooLong else .ok b
  | .error c => .error c

/-- A read that clears `CHG.FAULT` does so at the next tick boundary (R269). -/
def readOutcome (clears : Bool) (f : State → State) (s : State) : Host.Outcome State Fault Refusal :=
  if clears then atTick readFault (f s) else event f s

/-! ## The log upload (R398, R447) -/

/-- An upload starts over a port: one at a time; its image is fixed at this tick. -/
def startUpload (port : Port) (s : State) : Written :=
  if s.log.upload.isSome then refuse Abort.state s
  else startJob port K.recLog (fun i u => { u with log := { u.log with upload := some ⟨i, port, u.logImage, 0⟩ } }) s

/-- An upload ends: DONE with the bytes delivered, or ABORTED. -/
def endUpload (st : JobStatus) (s : State) : State :=
  match s.log.upload with
  | some u => jobEnd u.job st u.sent { s with log := { s.log with upload := none } }
  | none => s

/-! ## SDO uploads (R425, R443, R444) -/

/-- The mailbox answers, where it is open. -/
def mail (a : MailAnswer) (s : State) : State :=
  if s.answers .ecat then { s with ecat := { s.ecat with mailbox := some a } } else s

/-- Bytes of a value in the first answer of an upload and in each further segment: the mailbox of 512 bytes less its headers (R425; the
segment's from CoE, PRESUMED, assumption 149). -/
def sdoFirst : Nat := 496
def sdoPart : Nat := 503

/-- The master has begun another transfer in place of an upload of the log: its job ends ABORTED (R449). -/
def sdoReplaces (k : Nat) (s : State) : State :=
  if k ≠ K.recLog ∧ s.ecat.sdo.any (fun u => u.key == K.recLog) then endUpload .aborted s else s

/-- An upload's first answer: expedited up to 4 bytes, normal up to 496, else segmented; any earlier transfer is over. -/
def sdoStart (k : Nat) (b : List Byte) (s0 : State) : State :=
  let s := sdoReplaces k s0
  let t := { s with ecat := { s.ecat with sdo := if b.length ≤ sdoFirst then none else some ⟨k, b.drop sdoFirst, false⟩ } }
  mail (if b.length ≤ 4 then .expedited b else .normal b.length (b.take sdoFirst)) t

/-- Bytes of a log upload over EtherCAT are delivered; with the last one its job ends DONE (R447). -/
def uploadSent (k n : Nat) (last : Bool) (s : State) : State :=
  if k = K.recLog then
    let t := { s with log := { s.log with upload := s.log.upload.map (fun u => { u with sent := u.sent + n }) } }
    if last then endUpload .done t else t
  else s

/-- The next segment of an upload; one with a wrong toggle, or without an upload, is answered with the general error (DESIGN CHOICE,
assumption 152). -/
def sdoSegment (toggle : Bool) (s : State) : State :=
  match s.ecat.sdo with
  | some u =>
    if toggle ≠ u.toggle then mail (.abort Abort.general) s
    else
      let part := u.rest.take sdoPart
      let rest := u.rest.drop sdoPart
      let t := { s with ecat := { s.ecat with sdo := if rest.isEmpty then none else some ⟨u.key, rest, !u.toggle⟩ } }
      mail (.segment toggle rest.isEmpty part) (uploadSent u.key part.length rest.isEmpty t)
  | none => mail (.abort Abort.general) s

/-- A read of `REC.LOG` over a port: the job starts, and over EtherCAT the image is uploaded. -/
def doRecLogUpload (port : Port) (s : State) : State :=
  if s.answers port then
    let w := startUpload port s
    let t := answer port w
    if port = .spi then t
    else if w.1 = 0 then
      let b := (t.log.upload.map (fun u => u.image)).getD []
      uploadSent K.recLog (min sdoFirst b.length) (decide (b.length ≤ sdoFirst)) (sdoStart K.recLog b t)
    else mail (.abort w.1) t
  else { s with reply := none }

def execRecLogUpload (port : Port) (s : State) : Host.Outcome State Fault Refusal :=
  if s.coreUp then atTick (doRecLogUpload port) s else .next { s with reply := none }

/-- The master aborts the transfer (R449). -/
def doMasterUploadAbort (s : State) : State :=
  match s.log.upload with
  | some u => if u.port = .ecat then endUpload .aborted s else s
  | none => s

def execMasterUploadAbort (s : State) : Host.Outcome State Fault Refusal := event doMasterUploadAbort s

/-- The master has taken the whole upload by this tick: the job ends DONE with its length. -/
def uploadTick (taken : Bool) (s : State) : State :=
  match s.log.upload with
  | some u =>
    if taken && u.port == .ecat then
      endUpload .done { s with log := { s.log with upload := some { u with sent := u.image.length } } }
    else s
  | none => s

end Sys2Proof.Machine
end

