-- ==== Sys2Proof/Machine/Ecat.lean ====
section
/-! DEFINITION. The EtherCAT slave (R420 to R431): links, the application layer, distributed clocks, the SII, the mailbox
services, FoE, and the completion of an output image. -/

namespace Sys2Proof.Machine

/-! ## Links (R421) -/

/-- MIIn_LINK changes: the port's loop closes without link and opens with it; ports forward from the end of boot stage 1 on. -/
def doPortLinkChange (p : Nat) (up : Bool) (s : State) : State :=
  let t := { s with pins := { s.pins with link := BitVec.ofNat 2 (withBit s.pins.link.toNat p up) } }
  if (s.dev.main || s.power.boot.isSome) && !s.power.held then
    (t.putBit K.ecatLink p up).putBit K.ecatLink (p + 2) up
  else t

def execPortLinkChange (port : Fin 2) (up : Bool) (s : State) : Host.Outcome State Fault Refusal :=
  event (doPortLinkChange port.val up) s

/-! ## Application layer (R422, R423, R431) -/

/-- The codes of `ECAT.AL_STATE`. -/
def alInit : Nat := 1
def alPreop : Nat := 2
def alSafeop : Nat := 4
def alOp : Nat := 8

/-- The changes that the application layer knows between its four states. -/
def alAllowed (now req : Nat) : Bool :=
  if now = alInit then req == alPreop
  else if now = alPreop then req == alInit || req == alSafeop
  else if now = alSafeop then req == alInit || req == alPreop || req == alOp
  else req == alInit || req == alPreop || req == alSafeop

/-- The output mapping obeys R428: every entry may be an output, and a write-only one comes with `PD.STROBE`. -/
def State.outputsOk (s : State) : Bool :=
  let l := assignedMap s.get true
  l.all okOutput && mapOnce s.get &&
  (!l.any (fun w => match entryAt (mapKey w) with | some r => r.acc == .wo | none => false) ||
    l.any (fun w => mapKey w == K.pdStrobe))

/-- The mailbox SyncManagers are set as R423 fixes them. -/
def mailboxOk (c : SmConfig) : Bool :=
  c.sm0 == ⟨0x1000, 512, true, true⟩ && c.sm1 == ⟨0x1200, 512, true, true⟩

/-- A process-data SyncManager is set as R423 fixes it: start, three-buffer mode, the mapped size; one without bytes may be disabled. -/
def smFits (r : SmReg) (start size : Nat) : Bool :=
  decide (r.start.toNat = start ∧ r.length.toNat = size) && !r.mailbox && (r.enabled || size == 0)

/-- The AL status code that refuses a change, 0 for none (R422). -/
def State.alRefusal (s : State) (req : Nat) (sm : SmConfig) : Nat :=
  let now := s.get K.ecatAlState
  if req = 3 then 0x0013
  else if s.dev = .stall ∧ (req = alSafeop ∨ req = alOp) then 0x8001
  else if alAllowed now req = false then 0x0011
  else if now = alInit ∧ req = alPreop ∧ mailboxOk sm = false then 0x0016
  else if now = alPreop ∧ req = alSafeop then
    if (smFits sm.sm2 0x1400 (s.imageSize true) && smFits sm.sm3 0x2000 (s.imageSize false)) = false then 0x0017
    else if s.outputsOk = false then 0x001D
    else if (assignedMap s.get false).all okInput = false then 0x001E
    else if s.get K.ecatDcActive = 1 ∧ s.ecat.dc.sync0.toNat < 10000 then 0x0030
    else 0
  else 0

/-- The application layer is in a new state: the ECAT alert sets (R441), ports that start or cease to listen settle the emergency
queue (R440), SAFEOP and OP wake the estimator (R284), the first completion after SAFEOP is still to come (R429), and
leaving for INIT ends an upload over the mailbox. -/
def enterAl (st : Nat) (s : State) : State :=
  let t := (s.put K.ecatAlState st).flag K.hostAlert 0x10
  let t := { t with
    ecat := { t.ecat with pdFirst := t.ecat.pdFirst || st == alSafeop, leftInit := t.ecat.leftInit || st != alInit }
    est := { t.est with wakeDue := t.est.wakeDue || st == alSafeop || st == alOp } }
  let t := if st = alInit then doMasterUploadAbort { t with ecat := { t.ecat with sdo := none } } else t
  ecatTakes (dropTaken t)

/-- The master asks for the identification (R477), in bit 5 of AL control (PRESUMED, assumption 123): the straps' position code. -/
def answerIdent (asks : Bool) (s : State) : State :=
  { s with ecat := { s.ecat with ident := if asks then some (BitVec.ofNat 3 (s.get K.devStrap)) else none } }

/-- A master's request: made, or refused with the error indication and the AL status code (R422). A request for the present
state changes nothing but the indication. The settings of the SyncManagers and FMMUs are the master's. -/
def doAlStateRequest (req : Nat) (sm : SmConfig) (s : State) : State :=
  if s.coreUp = false then s
  else
    let e := if req = s.get K.ecatAlState then 0 else s.alRefusal req sm
    let t := { s.put K.ecatAlCode e with ecat := { s.ecat with alError := e != 0, sm := sm } }
    if e ≠ 0 ∨ req = s.get K.ecatAlState then t else enterAl req t

def execAlStateRequest (req : BitVec 8) (sm : SmConfig) (s : State) : Host.Outcome State Fault Refusal :=
  event (fun t => if t.coreUp then answerIdent (req.getLsbD 5) (doAlStateRequest (req.toNat % 16) sm t) else t) s

/-- The SyncManager watchdog expires in OP (R431). -/
def doSmWdgExpire (s : State) : State :=
  if s.coreUp ∧ s.get K.ecatAlState = alOp then
    enterAl alSafeop { (s.put K.ecatAlCode 0x001B).bump K.ecatSmWdgCnt with ecat := { s.ecat with alError := true } }
  else s

def execSmWdgExpire (s : State) : Host.Outcome State Fault Refusal := event doSmWdgExpire s

/-! ## Distributed clocks (R427) -/

/-- The master starts or stops the cyclic unit with SYNC0, with the DC registers as it has set them: while it is stopped both outputs are
low, and a calibration ends. -/
def doDcActivate (on : Bool) (dc : DcConfig) (s : State) : State :=
  if s.fastUp then
    let t := { s.put K.ecatDcActive (if on then 1 else 0) with
      ecat := { s.ecat with dc := dc }, pins := { s.pins with sync := on } }
    if on then t else calEnd 4 t
  else s

def execDcActivate (on : Bool) (dc : DcConfig) (s : State) : Host.Outcome State Fault Refusal := event (doDcActivate on dc) s

/-! ## SII and mailbox services (R420, R424, R425) -/

/-- A word of the SII image (R424): the station alias, the identity of R1, the mailbox layout of R423 and the protocols CoE and FoE, at
the places that the EtherCAT SII gives them (PRESUMED, assumption 27); any other word is the factory's own. -/
def State.siiWord (s : State) (w : Nat) : BitVec 16 :=
  let half (v h : Nat) : BitVec 16 := BitVec.ofNat 16 (v / 2 ^ (16 * h))
  if w = 0x04 then s.bk.station
  else if w / 2 = 0x08 / 2 then half (dflt K.idVendor) (w % 2)
  else if w / 2 = 0x0A / 2 then half (dflt K.idProduct) (w % 2)
  else if w / 2 = 0x0C / 2 then half (dflt K.idRevision) (w % 2)
  else if w / 2 = 0x0E / 2 then half Config.serial.toNat (w % 2)
  else if w = 0x18 then 0x1000
  else if w = 0x19 ∨ w = 0x1B then 512
  else if w = 0x1A then 0x1200
  else if w = 0x1C then 0x000C
  else Config.siiWord w

/-- The master reads an SII word. -/
def doSiiRead (word : Nat) (s : State) : State :=
  if s.coreUp then { s with ecat := { s.ecat with siiData := some (s.siiWord word), siiError := false } } else s

/-- A master writes an SII word: the station alias is stored in the backup domain, any other word is an error. -/
def doSiiWrite (word : Nat) (v : BitVec 16) (s : State) : State :=
  if s.coreUp = false then s
  else if word = 4 then
    { s with bk := { s.bk with station := v }, ecat := { s.ecat with siiError := false } }
  else { s with ecat := { s.ecat with siiError := true } }

def execSiiWrite (word : BitVec 16) (v : Option (BitVec 16)) (s : State) : Host.Outcome State Fault Refusal :=
  event (match v with | some x => doSiiWrite word.toNat x | none => doSiiRead word.toNat) s

/-- A mailbox of a protocol other than CoE (3) and FoE (4). -/
def doMailboxUnsupported (type_ : Nat) (s : State) : State :=
  if type_ = 3 ∨ type_ = 4 then s else mail (.mailboxError 2) s

def execMailboxUnsupported (type_ : BitVec 8) (s : State) : Host.Outcome State Fault Refusal :=
  event (doMailboxUnsupported type_.toNat) s

/-- Every index of the dictionary, in ascending order. -/
def allIndices : List Nat :=
  (((dictPages.flatMap (fun g => rowsOf (g * 256))).flatMap EntryRow.keys).map (fun k => k / 256)).foldr
    (fun i l => if l.contains i then l else insertNat i l) []

/-- An upload starts with the value of an entry or the image of an object, or is refused. -/
def sdoRead (i j : Nat) (complete : Bool) (s : State) : State :=
  match (if complete then (if j ≤ 1 then readObject i j s else .error Abort.general) else readEntry (i * 256 + j) s) with
  | .ok b => sdoStart (i * 256 + j) b s
  | .error c => mail (.abort c) s

/-- SDO information: the object list, an object, an entry with its type, access and Default; and the reads (R425). -/
def doSdoInfo (req : SdoInfoReq) (s : State) : State :=
  match req with
  | .list => mail (.objectList allIndices) s
  | .object i =>
    if indexExists i.toNat then mail (.objectInfo i.toNat (highestSub i.toNat)) s else mail (.abort Abort.noEntry) s
  | .entry i j =>
    let k := i.toNat * 256 + j.toNat
    match entryAt k with
    | some r => mail (.entryInfo k r) s
    | none =>
      if indexExists i.toNat = false then mail (.abort Abort.noEntry) s
      else if j = 0 then mail (.entryInfo k ⟨i.toNat, 0, 1, 0, 0, .u8, .ro, .v, highestSub i.toNat, .any⟩) s
      else mail (.abort Abort.noSub) s
  | .upload i j c => sdoRead i.toNat j.toNat c s
  | .segment g => sdoSegment g s

/-- A request that reads `CHG.FAULT`. -/
def readsFault : SdoInfoReq → Bool
  | .upload i j c => i.toNat == K.chgFault / 256 && (c || j.toNat == K.chgFault % 256)
  | _ => false

/-- A read of `REC.LOG` starts an upload job (R447), one of `CHG.FAULT` clears it (R269); any other request changes nothing but the
mailbox. -/
def execSdoInfo (req : SdoInfoReq) (s : State) : Host.Outcome State Fault Refusal :=
  if req = .upload (BitVec.ofNat 16 (K.recLog / 256)) (BitVec.ofNat 8 (K.recLog % 256)) false then
    if s.coreUp then atTick (doRecLogUpload .ecat) s else .next s
  else readOutcome (readsFault req && s.answers .ecat) (doSdoInfo req) s

/-! ## FoE (R426) -/

/-- A hex digit as a text byte. -/
def hexDigit (n : Nat) : Byte := BitVec.ofNat 8 (if n < 10 then 48 + n else 55 + n)

/-- The text "ABORT 0x" with eight hex digits. -/
def abortText (code : Nat) : List Byte :=
  [0x41, 0x42, 0x4F, 0x52, 0x54, 0x20, 0x30, 0x78] ++ ((upto 8).reverse.map (fun i => hexDigit (code / 16 ^ i % 16)))

/-- The entry behind a file name. -/
def foeKey : FoeFile → Option Nat
  | .seqImg => some K.seqImage
  | .cfgImg => some K.cfgImage
  | .logBin => some K.recLog
  | .other => none

/-- Bytes of a file in an FoE packet: the mailbox of 512 bytes less its header of 6 and that of FoE, of 6 (R426, PRESUMED from FoE,
assumption 149). -/
def foePart : Nat := 500

/-- The packets of a file, each full but the last, for at most `fuel` full ones; the last one is shorter than a full one. -/
def foePackets : Nat → List Byte → List (List Byte)
  | 0, b => [b]
  | fuel + 1, b => if b.length < foePart then [b] else b.take foePart :: foePackets fuel (b.drop foePart)

/-- A file goes out in its packets. -/
def foeSend (b : List Byte) (s : State) : State := mail (.foeData (foePackets (b.length / foePart) b)) s

/-- A file received whole, in its packets, applied as one write of its entry in step 1 of the tick; the last packet is acknowledged then. -/
def doFoeWrite (file : FoeFile) (password : Nat) (data : List Byte) (s : State) : State :=
  match foeKey file with
  | none => mail (.foeError 0x8001 []) s
  | some k =>
    if k = K.recLog ∨ s.get K.cfgLock = 1 then mail (.foeError 0x8002 []) s
    else if password ≠ 0 then mail (.foeError 0x800A []) s
    else if s.answers .ecat then
      let w := checked k (wrBytes .ecat k data 0) s
      mail (if w.1 = 0 then .foeAck (data.length / foePart + 1) else .foeError 0x800B (abortText w.1)) w.2
    else s

def execFoeWrite (file : FoeFile) (password : BitVec 32) (data : List Byte) (s : State) :
    Host.Outcome State Fault Refusal :=
  atTick (doFoeWrite file password.toNat data) s

/-- A file read, at once from what is published (R443); that of the log starts an upload job in step 1 of the next tick (R447, R448). -/
def doFoeRead (file : FoeFile) (password : Nat) (s : State) : State :=
  match file with
  | .other => mail (.foeError 0x8001 []) s
  | .seqImg => if password ≠ 0 then mail (.foeError 0x800A []) s else foeSend s.seq.image s
  | .cfgImg => if password ≠ 0 then mail (.foeError 0x800A []) s else foeSend s.cfgImageNow s
  | .logBin =>
    if password ≠ 0 then mail (.foeError 0x800A []) s
    else if s.answers .ecat then
      let w := startUpload .ecat s
      if w.1 = 0 then foeSend ((w.2.log.upload.map (fun u => u.image)).getD []) w.2
      else mail (.foeError 0x800B (abortText w.1)) w.2
    else s

def execFoeRead (file : FoeFile) (password : BitVec 32) (s : State) : Host.Outcome State Fault Refusal :=
  if file = .logBin then atTick (doFoeRead file password.toNat) s
  else event (doFoeRead file password.toNat) s

/-! ## A completed output image (R429) -/

/-- The values of mapping words in an image, in order: key and value. -/
def imageValues : List Nat → List Byte → List (Nat × Nat)
  | [], _ => []
  | w :: t, b => (mapKey w, leNat (b.take (field w 0 8 / 8))) :: imageValues t (b.drop (field w 0 8 / 8))

/-- The values of a completed image that are written: a changed rw entry; a wo entry when the strobe changed; at the first
completion every rw entry and no wo entry. -/
def toWrite (first : Bool) (prev now : List (Nat × Nat)) : List (Nat × Nat) :=
  let differs := fun (e : Nat × Nat) => !prev.any (fun p => p.1 == e.1 && p.2 == e.2)
  let strobed := now.any (fun e => e.1 == K.pdStrobe && differs e)
  now.filter (fun e =>
    match entryAt e.1 with
    | some r => if r.acc = .wo then !first && strobed else first || differs e
    | none => false)

/-- A mapped entry is written; a refusal changes nothing, is counted, and its place is kept. -/
def writeMapped (port : Port) (dc : Nat) (e : Nat × Nat) (s : State) : State :=
  let w := checked e.1 (wrEntry port e.1 e.2 dc) s
  if w.1 = 0 then w.2 else (w.2.bump K.ecatPdRefusedCnt).put K.ecatPdRefusedLast (e.1 * 256)

/-- The values to write of a completed image. -/
def State.completion (s : State) (data : List Byte) : List (Nat × Nat) :=
  toWrite (s.ecat.pdFirst || s.ecat.pdPrev.isEmpty) s.ecat.pdPrev (imageValues (assignedMap s.get true) data)

/-- What a completion does in its own beat: the image is kept, check-ins take their stamp. -/
def completeNow (port : Port) (dc : Nat) (data : List Byte) (s : State) : State :=
  let t := each ((s.completion data).filter (fun e => stamped e.1)) (writeMapped port dc) s
  { t with ecat := { t.ecat with
    pdFirst := false, pdPrev := imageValues (assignedMap s.get true) data, outImage := data } }

/-- An output image completed over a port: its writes take effect at the next tick boundary, in mapping order. -/
def complete (port : Port) (dc : Nat) (data : List Byte) (after : State → State) (s : State) :
    Host.Outcome State Fault Refusal :=
  let l := (s.completion data).filter (fun e => !stamped e.1)
  atTick (fun u => after (each l (writeMapped port dc) u)) (completeNow port dc data s)

/-- The master has written SM2 whole; the SyncManager is open in SAFEOP and OP. -/
def execPdOutputComplete (data : List Byte) (dc : BitVec 64) (s : State) : Host.Outcome State Fault Refusal :=
  if s.coreUp ∧ 4 ≤ s.get K.ecatAlState ∧ data.length = s.imageSize true then complete .ecat dc.toNat data id s
  else .next s

end Sys2Proof.Machine
end

