-- ==== Sys2Proof/Machine/Spi.lean ====
section
/-! DEFINITION. The SPI host port (R432 to R440): one frame, the answer it carries, and the request it brings. -/

namespace Sys2Proof

open Machine

/-! ## The request in a frame (R433, R434) -/

def SpiFrame.cmd (r : SpiFrame) : BitVec 8 := r.bytes.getD 0 0
def SpiFrame.tag (r : SpiFrame) : BitVec 8 := r.bytes.getD 1 0
def SpiFrame.index (r : SpiFrame) : BitVec 16 := r.bytes.getD 3 0 ++ r.bytes.getD 2 0
def SpiFrame.sub (r : SpiFrame) : BitVec 8 := r.bytes.getD 4 0

/-- N, the number of data bytes. -/
def SpiFrame.n (r : SpiFrame) : Nat := (r.bytes.getD 6 0).toNat * 256 + (r.bytes.getD 5 0).toNat

/-- The data bytes. -/
def SpiFrame.data (r : SpiFrame) : List Byte := (r.bytes.drop 7).take r.n

/-- Bytes that the host clocks in the frame; those after the CRC are ignored. -/
def SpiFrame.clocked (r : SpiFrame) : Nat := r.bytes.length

/-- The CRC stands at byte 7 + N and is that of the bytes before it; a frame too short for it has none (DEDUCED, assumption 150). -/
def SpiFrame.crcOk (r : SpiFrame) : Bool :=
  decide (8 + r.n ≤ r.bytes.length) && r.bytes.getD (7 + r.n) 0 == crc8 (r.bytes.take (7 + r.n))

/-- A CMD that R435 does not list. -/
def SpiFrame.badCmd (r : SpiFrame) : Bool := decide (9 < r.cmd.toNat)

/-- The frame of a request: its fields, the CRC over them, and `pad` bytes after it. -/
def SpiFrame.of (cmd tag : BitVec 8) (index : BitVec 16) (sub : BitVec 8) (data : List Byte) (pad : Nat := 0) : SpiFrame :=
  let b := [cmd, tag] ++ leBytes 2 index.toNat ++ [sub] ++ leBytes 2 data.length ++ data
  { bytes := b ++ [crc8 b] ++ List.replicate pad 0 }

end Sys2Proof

namespace Sys2Proof.Machine

/-! ## Answers (R436, R437) -/

/-- The answer of a frame while none is pending. -/
def SpiAnswer.idle : SpiAnswer := ⟨0, 0, 0x02, []⟩

/-- The answer of every frame during boot (R406). -/
def SpiAnswer.notReady : SpiAnswer := ⟨0, 0, 0x03, []⟩

/-- STATUS of an abort code (R437). -/
def spiStatus (code : Nat) : Nat :=
  if code = 0 then 0
  else if code = Abort.readWo then 0x10
  else if code = Abort.writeRo then 0x11
  else if code = Abort.noEntry then 0x12
  else if code = Abort.noSub then 0x13
  else if code = Abort.value then 0x14
  else if code = Abort.mapping then 0x15
  else if code = Abort.length then 0x16
  else if code = Abort.tooLong then 0x17
  else if code = Abort.store then 0x18
  else if code = Abort.noSlot then 0x19
  else if code = Abort.state then 0x1A
  else 0x1F

/-- The answer to a request that is refused with an abort, or done with data. -/
def spiAnswer (cmd tag : Nat) (r : Except Nat (List Byte)) : SpiAnswer :=
  match r with
  | .ok b => ⟨cmd, tag, 0, b⟩
  | .error c => ⟨cmd, tag, spiStatus c, leBytes 4 c⟩

/-- The bytes of an answer on SPI_SDO (R436), without its CRC. -/
def SpiAnswer.body (a : SpiAnswer) : List Byte :=
  leBytes 1 a.cmd ++ leBytes 1 a.tag ++ leBytes 1 a.status ++ [0#8] ++ leBytes 2 a.data.length ++ a.data

/-- The bytes of an answer with its CRC (R433). -/
def SpiAnswer.bytes (a : SpiAnswer) : List Byte := a.body ++ [crc8 a.body]

/-- The bytes on SPI_SDO while the host clocks `n` of them: the answer with its CRC, then 0xFF (R436). -/
def SpiAnswer.shifted (a : SpiAnswer) (n : Nat) : List Byte := (a.bytes ++ List.replicate n 0xFF#8).take n

/-- The index, key and offset fields of a request (R434). -/
def frameKey (r : SpiFrame) : Nat := r.index.toNat * 256 + r.sub.toNat

/-! ## What a frame carries out (R436) -/

/-- The answer on SPI_SDO in a frame that arrives now, for a device that serves requests. -/
def State.spiOut (s : State) : SpiAnswer :=
  if s.spi.repeatNext then s.spi.delivered.getD .idle
  else
    match s.spi.pending with
    | some a => if s.spi.knownAt ≤ s.beat then a else ⟨a.cmd, a.tag, 0x01, []⟩
    | none => .idle

/-- Whether a frame accepts a request: nothing is pending, or the frame delivers it. -/
def State.spiAccepts (s : State) (r : SpiFrame) : Bool :=
  match s.spi.pending with
  | some a => !s.spi.repeatNext && decide (s.spi.knownAt ≤ s.beat ∧ 7 + a.data.length ≤ r.clocked)
  | none => true

/-- A frame is counted and carries its answer out. -/
def spiShift (r : SpiFrame) (s : State) : State :=
  let out := s.spiOut
  let gone := s.spi.pending.isSome && s.spiAccepts r
  { s.bump K.hostSpiFrames with spi := { s.spi with
    repeatNext := false
    lastSent := some out
    sdoBytes := out.shifted r.clocked
    delivered := if gone then some out else s.spi.delivered
    pending := if gone then none else s.spi.pending } }

/-- An answer becomes pending, known from a beat on. -/
def spiPend (a : SpiAnswer) (known : Nat) (s : State) : State :=
  { s with spi := { s.spi with pending := some a, knownAt := known } }

/-- The beat at which the answer to a read in this frame is known: within 20 µs (R436). -/
def State.readKnown (s : State) : Nat := s.beat + Config.spiDelay (s.get K.hostSpiFrames) % 21

/-- The answer to a read is pending. -/
def spiReadAnswer (a : SpiAnswer) (s : State) : State := spiPend a s.readKnown s

/-- A CRC or frame error: its counter, the alert and the error register's window (R437, R441, R442). -/
def spiError (counter : Nat) (s : State) : State :=
  { (s.bump counter).flag K.hostAlert 0x20 with ecat := { s.ecat with spiErrTick := some s.tick } }

/-- A request that is not served: a CRC error (0x04), a frame error (0x05) or a busy frame. Where the frame accepts a request the
error is its answer, with the received CMD and TAG, else it is discarded and counted. -/
def spiBad (r : SpiFrame) (accepts : Bool) (s : State) : State :=
  let t := if r.crcOk then s else spiError K.hostSpiCrcErr s
  if accepts then spiReadAnswer ⟨r.cmd.toNat, r.tag.toNat, if r.crcOk then 0x05 else 0x04, []⟩ t else t.bump K.hostSpiBusyCnt

/-- A frame during boot. -/
def spiNotReady (r : SpiFrame) (s : State) : State :=
  { s with spi := { s.spi with lastSent := some .notReady, sdoBytes := SpiAnswer.notReady.shifted r.clocked } }

/-- Who answers a frame: nobody while SYSRST_N holds, VDDIO is bad or the main domain is down; "not ready"
during boot, whose time counts from the end of stage 1 on (R405, R406). -/
def State.spiAlive (s : State) : Bool :=
  !s.power.held && s.pins.vddioGood && (s.power.boot.isSome || s.dev.main)

/-- The outcome of a frame: not answered, answered "not ready", a CRC error, a frame error where its CMD is unknown or its fields are
wrong, busy, or served by `act`, which gets the state after the answer of this frame has gone out. -/
def spiRow (fields : Bool) (r : SpiFrame) (act : State → Host.Outcome State Fault Refusal) (s : State) :
    Host.Outcome State Fault Refusal :=
  if s.spiAlive = false then .next s
  else if s.power.boot.isSome then event (spiNotReady r) s
  else
    let ok := s.spiAccepts r
    let t := spiShift r s
    if r.crcOk = false then event (spiBad r ok) t
    else if fields = false ∨ r.badCmd ∨ 261 < r.n then event (fun u => spiBad r ok (spiError K.hostSpiFrameErr u)) t
    else if ok then act t
    else event (fun u => u.bump K.hostSpiBusyCnt) t

/-- The outcome of a NOP or REPEAT, which a frame that accepts no request ignores. -/
def spiQuiet (r : SpiFrame) (act : State → State) (s : State) : Host.Outcome State Fault Refusal :=
  if r.crcOk && r.data.isEmpty && !r.badCmd && !s.spiAccepts r && s.spiAlive && s.power.boot.isNone then event (spiShift r) s
  else spiRow r.data.isEmpty r (event act) s

/-! ## NOP and REPEAT -/

/-- A NOP creates no pending answer. -/
def execSpiNop (r : SpiFrame) (s : State) : Host.Outcome State Fault Refusal := spiQuiet r id s

/-- The last answer delivered goes out once more in the next frame. -/
def execSpiRepeat (r : SpiFrame) (s : State) : Host.Outcome State Fault Refusal :=
  spiQuiet r (fun t => { t with spi := { t.spi with repeatNext := t.spi.delivered.isSome } }) s

/-! ## Reads -/

/-- The value of a READ: one that is too long for an answer takes READ_SEG (assumption 33). -/
def spiValue (k : Nat) (s : State) : Except Nat (List Byte) :=
  match readEntry k s with
  | .ok b => if 256 < b.length ∨ k = K.recLog then .error Abort.tooLong else .ok b
  | .error c => .error c

def execSpiRead (r : SpiFrame) (s : State) : Host.Outcome State Fault Refusal :=
  spiRow r.data.isEmpty r (fun t =>
    readOutcome (frameKey r == K.chgFault)
      (fun u => spiReadAnswer (spiAnswer 0x01 r.tag.toNat (spiValue (frameKey r) u)) u) t) s

def execSpiReadAll (r : SpiFrame) (s : State) : Host.Outcome State Fault Refusal :=
  spiRow (r.data.isEmpty && decide (r.sub.toNat ≤ 1)) r (fun t =>
    readOutcome (r.index.toNat == K.chgFault / 256)
      (fun u => spiReadAnswer (spiAnswer 0x03 r.tag.toNat (readAll r.index.toNat r.sub.toNat u)) u) t) s

/-- `count` bytes of a value from an offset on, fewer at its end. -/
def segment (b : List Byte) (off count : Nat) : List Byte := (b.drop off).take count

/-- A segment of a value already fixed: the transfer ends with its last byte, and an upload counts its bytes (R438, R447). -/
def nextSegment (cmd tag k : Nat) (b : List Byte) (off count : Nat) (s : State) : State :=
  let part := segment b off count
  let done := decide (b.length ≤ off + count ∧ (off < b.length ∨ b.isEmpty))
  let t := { s with spi := { s.spi with rseg := if done then none else some (k, b, s.tick) } }
  let t := if k = K.recLog then
      let u := { t with log := { t.log with upload := t.log.upload.map (fun u => { u with sent := u.sent + part.length }) } }
      if done then endUpload .done u else u
    else t
  spiReadAnswer ⟨cmd, tag, 0, part⟩ t

/-- A segmented transfer of another entry that was running is over; an upload ends ABORTED. -/
def dropSegments (s : State) : State :=
  let t := { s with spi := { s.spi with rseg := none } }
  match t.log.upload with
  | some u => if u.port = .spi then endUpload .aborted t else t
  | none => t

/-- The first segment of a value fixes it (R438). -/
def firstSegment (cmd tag k off count : Nat) (s : State) : State :=
  let t := dropSegments s
  if k = K.recLog then
    let w := startUpload .spi t
    if w.1 = 0 then nextSegment cmd tag k ((w.2.log.upload.map (fun u => u.image)).getD []) off count w.2
    else spiReadAnswer (spiAnswer cmd tag (.error w.1)) w.2
  else
    match readEntry k t with
    | .ok b => nextSegment cmd tag k b off count t
    | .error c => spiReadAnswer (spiAnswer cmd tag (.error c)) t

def execSpiReadSeg (r : SpiFrame) (s : State) : Host.Outcome State Fault Refusal :=
  let off := leNat (r.data.take 4)
  let count := leNat (r.data.drop 4)
  let k := frameKey r
  let tag := r.tag.toNat
  spiRow (r.data.length == 6 && decide (1 ≤ count ∧ count ≤ 256)) r (fun t =>
    match t.spi.rseg with
    | some (j, b, _) =>
      if j = k then event (nextSegment 0x04 tag k b off count) t
      else if k = K.recLog then atTick (firstSegment 0x04 tag k off count) t
      else readOutcome (k == K.chgFault) (firstSegment 0x04 tag k off count) t
    | none =>
      if k = K.recLog then atTick (firstSegment 0x04 tag k off count) t
      else readOutcome (k == K.chgFault) (firstSegment 0x04 tag k off count) t) s

/-- 10,000 ticks have passed without a segment (R438). -/
def doSegReadTimeout (s : State) : State :=
  match s.spi.rseg with
  | some (_, _, n) => if n + 10000 ≤ s.tick then dropSegments s else s
  | none => s

def execSegReadTimeout (s : State) : Host.Outcome State Fault Refusal := event doSegReadTimeout s

/-! ## Writes -/

/-- A write of bytes to an entry, and its answer: known after step 1 of the tick at which it takes effect. -/
def spiWriteDone (cmd tag k : Nat) (data : List Byte) (dc known : Nat) (s : State) : State :=
  let w := checked k (wrNow .spi k data dc) s
  spiPend (spiAnswer cmd tag (if w.1 = 0 then .ok [] else .error w.1)) known w.2

/-- The outcome of a write: at the next tick boundary; a stamped entry acts at once, and a lock is noted at once (R343, R352). -/
def spiWrite (cmd tag k : Nat) (data : List Byte) (dc : Nat) (s : State) : Host.Outcome State Fault Refusal :=
  let known := s.clock.next
  if stamped k || s.locksEarly k data then event (spiWriteDone cmd tag k data dc known) s
  else if k = K.recClear then atTickNv (spiWriteDone cmd tag k data dc known) s
  else atTick (spiWriteDone cmd tag k data dc known) s

def execSpiWrite (r : SpiFrame) (s : State) : Host.Outcome State Fault Refusal :=
  spiRow (decide (r.data.length ≤ 261)) r
    (spiWrite 0x02 r.tag.toNat (frameKey r) r.data r.dc.toNat) s

/-- A segment that breaks the order ends the transfer (R438). -/
def breakSegments (tag : Nat) (s : State) : State :=
  spiReadAnswer ⟨0x05, tag, 0x05, []⟩ (spiError K.hostSpiFrameErr { s with spi := { s.spi with wseg := none } })

/-- A segmented write: from offset 0 without gap; the segment flagged last writes the whole value. -/
def execSpiWriteSeg (r : SpiFrame) (s : State) : Host.Outcome State Fault Refusal :=
  let off := leNat (r.data.take 4)
  let last := (r.data.getD 4 0).getLsbD 0
  let part := r.data.drop 5
  let k := frameKey r
  let tag := r.tag.toNat
  spiRow (decide (6 ≤ r.data.length ∧ r.data.length ≤ 261)) r (fun t =>
    let have_ := if off = 0 then some (k, []) else t.spi.wseg
    match have_ with
    | some (j, b) =>
      if j ≠ k ∨ b.length ≠ off then event (breakSegments tag) t
      else if last then spiWrite 0x05 tag k (b ++ part) r.dc.toNat { t with spi := { t.spi with wseg := none } }
      else event (fun u =>
        spiReadAnswer ⟨0x05, tag, 0, []⟩ { u with spi := { u.spi with wseg := some (k, b ++ part) } }) t
    | none => event (breakSegments tag) t) s

/-! ## The process image (R439) -/

/-- `count` bytes of the input image; past its end the request is refused (assumption 33). -/
def piValue (off count : Nat) (s : State) : Except Nat (List Byte) :=
  if off + count ≤ s.ecat.inImage.length then .ok (segment s.ecat.inImage off count) else .error Abort.tooLong

def execSpiPiRead (r : SpiFrame) (s : State) : Host.Outcome State Fault Refusal :=
  let count := leNat r.data
  spiRow (r.data.length == 2 && decide (1 ≤ count ∧ count ≤ 256)) r (fun t =>
    event (fun u => spiReadAnswer (spiAnswer 0x06 r.tag.toNat (piValue r.index.toNat count u)) u) t) s

/-- Bytes laid over an image at an offset. -/
def overlay (img : List Byte) (off : Nat) (b : List Byte) : List Byte := img.take off ++ b ++ img.drop (off + b.length)

/-- The output image is written at an offset, as one completion (R429); not while the EtherCAT master owns it. -/
def execSpiPiWrite (r : SpiFrame) (s : State) : Host.Outcome State Fault Refusal :=
  let tag := r.tag.toNat
  spiRow (decide (1 ≤ r.data.length ∧ r.data.length ≤ 256)) r (fun t =>
    let size := t.imageSize true
    let known := t.clock.next
    if 4 ≤ t.get K.ecatAlState then event (spiPend (spiAnswer 0x07 tag (.error Abort.state)) known) t
    else if size < r.index.toNat + r.data.length then event (spiPend (spiAnswer 0x07 tag (.error Abort.tooLong)) known) t
    else complete .spi r.dc.toNat (overlay (sized size t.ecat.outImage) r.index.toNat r.data)
      (spiPend (spiAnswer 0x07 tag (.ok [])) known) t) s

/-! ## Emergencies (R440) -/

/-- The oldest message that SPI has not taken is taken from a queue. -/
def takeSpi : List Emcy → List Emcy × List Byte
  | [] => ([], [])
  | e :: t => if e.takenSpi then let r := takeSpi t; (e :: r.1, r.2) else ({ e with takenSpi := true } :: t, e.bytes)

/-- SPI takes a message while it listens; none otherwise. -/
def emcyTaken (tag : Nat) (s : State) : State :=
  if s.spiListens then
    let q := takeSpi s.fc.emcy
    spiReadAnswer ⟨0x08, tag, 0, q.2⟩ (dropTaken { s with fc := { s.fc with emcy := q.1 } })
  else spiReadAnswer ⟨0x08, tag, 0, []⟩ s

def execSpiEmcyRead (r : SpiFrame) (s : State) : Host.Outcome State Fault Refusal :=
  spiRow r.data.isEmpty r (event (emcyTaken r.tag.toNat)) s

end Sys2Proof.Machine
end

