-- ==== Sys2Proof/Machine/Tick.lean ====
section
/-! DEFINITION. The management tick: the ten steps of R34 at a tick boundary, in their order. Step 1 has been done by the host
writes' own commands, which act at the boundary before the tick. -/

namespace Sys2Proof.Machine

/-! ## Step 3: samples -/

/-- A rail in DISCHARGE that this boundary finds discharged goes OFF (R91, R94). -/
def dischargeEnd (i : TickInputs) (n : Nat) (s : State) : State := doRailDischarged n (nthN i.vout n) s

/-- The rails, phases and channels in step 3: what the beats of the tick brought comes before the tick's own readings. -/
def sampleRails (i : TickInputs) (s : State) : State :=
  let t := budgetSample i (dividerSample i (thermSample i s))
  let t := each (upto 8) (phaseSample i) (each (upto 16) (railSample i) t)
  auxSample i (phaseSources i t)

/-- The path, the charger and the pack in step 3: the beats of the tick are judged by the readings before it (R262). -/
def samplePack (i : TickInputs) (s : State) : State := chargerSample i (packBeats i.pack (pathSample i s))

/-- Everything that a tick samples (step 3), with the rails that it finds discharged and the DISABLE that waits for them. -/
def sampleAll (i : TickInputs) (s : State) : State :=
  let was := s.tickSignals
  let t := samplePack i (sampleRails i (bkTick i.backupEdges s))
  let t := each (upto 24) (supSample i) t
  let t := each (upto 16) (dischargeEnd i) (bkSample i (enSample i t))
  doDisableWaitDone (tickToggles was t)

/-! ## Steps 4 to 9

What the state shows to be due at a tick (a count of ticks, a limit of ticks, a mean over the tick) is done by the tick in its
step. Its own command does the same earlier; the tick then finds it done. -/

/-- Slow sources of step 4 whose numbers lie below those of the supervisors (R59, R94, R106, R223), ascending. -/
def railSources (i : TickInputs) (s : State) : State :=
  let t := each (upto 8) (fun p u => phaseCool p (phaseWarn p u)) (doFdSurgeLong s)
  auxSources i (each (upto 16) doRailDisSlow t)

/-- The shared injection arbiter and its users at a tick (R159, R164, R287). -/
def injectTick (s : State) : State :=
  rhComputeTick (doEstZPointStart (doRhSettleStart (doArbGrant (estAsk (rhTick s)))))

/-- The recovery rules of step 4 (R233 to R237). -/
def recoveryTick (s : State) : State :=
  let t := quietTick (doRetryWinExpire (doAutoAck (lockoutClearTick s)))
  restartTick (doAutoRestartEnable (releaseAt (t.get K.faultQuietCnt) t))

/-- Step 4: the slow sources in ascending number (R223), then the recovery rules. -/
def slowSources (i : TickInputs) (s : State) : State :=
  let t := each (upto 24) chatterTick (railSources i s)
  let t := collectDue (doEstZPointAbandon i.cvClamp (injectTick t))
  let t := pairTick (doJoinWaitExpire t)
  let t := bkSources i (each (upto 12) doThermSensor t)
  recoveryTick (eccCorrected i.eccCorr t)

/-- Step 6: the transitions of R21 in the order of R22. -/
def stateTick (s : State) : State :=
  let t := powerTick s
  if t.dev.main then doGaitalrmRelease (doAutostart (doEnterStandby t)) else t

/-- Step 7: the thermal manager, rails and channels, the divider, the path, the limiter and the charger; then the sources that waited
for the end of the step (R223, R500). -/
def regulate (i : TickInputs) (s : State) : State :=
  let t := auxTick (phaseTick (doThermShed (thermTick i s)))
  let t := pathTick i (doFdOffDelay (dividerTick t))
  thermEnd (chargerTick i (doBudgetOver (budgetTick i t)))

/-- Step 8: the watchdog; what steps 7 and 8 did to rails meets the step that waits in this same beat (R188, R197). -/
def stepEight (i : TickInputs) (s : State) : State := seqBeat (wdgTick i s)

/-- Step 9: a running flush, periodic triggers and the tick's records, a flush that was asked for, the records that fell
due, a save, the upload. -/
def recorderTick (i : TickInputs) (s : State) : State :=
  let t := flushAsked (takeRecords (fireTrigger .period (flushTick s)))
  let t := commitLearned (doEstCheckpoint (commitWdg (commitFfr t)))
  doSegReadTimeout (uploadTick i.uploadTaken (saveTick t))

/-! ## Step 10: publication -/

/-- The mask of the rails whose state a test accepts. -/
def State.railsWhere (s : State) (p : RailState → Bool) : Nat := maskOf ((upto 16).filter (fun n => p (s.rail n)))

/-- The telemetry record (R466). -/
def showTelemetry (i : TickInputs) (s : State) : State :=
  let out := i.power.foldl (fun a r => a + r.1 * r.2) 0
  let t := { s with tlm := ⟨s.tlm.eIn + i.pIn * 1000, s.tlm.eOut + out⟩ }
  let t := (t.put K.tlmTick (t.tick % 2 ^ 32)).putFit K.tlmPIn i.pIn
  let t := t.put K.tlmEff (if i.pIn = 0 then 0 else min 1000 (t.get K.budgetPTotal * 1000 / i.pIn))
  let t := t.put K.tlmRailsOn (t.railsWhere (fun x => x == .on || x == .slewing))
  let t := t.put K.tlmRailsFault (t.railsWhere (fun x => x == .fault))
  (t.put K.tlmEIn (t.tlm.eIn / 3600000000 % 2 ^ 64)).put K.tlmEOut (t.tlm.eOut / 3600000000 % 2 ^ 64)

/-- The input image of the assigned objects (R430). -/
def State.inputs (s : State) : List Byte :=
  (assignedMap s.get false).flatMap (fun w => leBytes (field w 0 8 / 8) (s.shown (mapKey w)))

/-- Step 10: publication with the tick's telemetry and the process images; then the core restarts its watchdog (R354). -/
def publish (i : TickInputs) (s : State) : State :=
  let t := publishLive (showTelemetry i s)
  coreRestart { t with ecat := { t.ecat with inImage := t.inputs, outPub := sized (t.imageSize true) t.ecat.outImage } }

/-- ALERT_N is pulled low (R441): it follows the published flags, and is released where the main domain does not run. -/
def State.alertLow (s : State) : Bool :=
  s.fastUp && s.pins.vddioGood &&
    lookupD s.pub K.hostAlert 0 &&& lookupD s.pub K.hostAlertMask (dflt K.hostAlertMask) != 0

/-! ## The tick -/

/-- Steps 7 to 10. -/
def tickRest (i : TickInputs) (s : State) : State := publish i (emcyClear (recorderTick i (stepEight i (regulate i s))))

/-- The work of one tick at its boundary (R34), with the items whose MRAM writes fail from here to the next (R383). A fall to BACKUP in
step 6 leaves no main domain for the rest. -/
def tickWork (i : TickInputs) (s : State) : State :=
  let t := { s with log := { s.log with failing := i.nvFail.toNat } }
  let t := stateTick (seqTick (slowSources i (sampleAll i (tickCommits t))))
  if t.dev.main then tickRest i t else t

/-- What the backup domain does where no management core takes the tick; it runs from the first source that the tick finds to hold
(R359). -/
def backupTick (i : TickInputs) (s : State) : State :=
  let t := doBackupSupplyChange ((i.vsys.getLast?.map (fun r => r.1)).getD 0) i.vbak i.vbat (diodeTick i s)
  if t.bkUp then bkPins i (bkTick i.backupEdges t) else t

/-- A management tick: at the next boundary, with the core running; with a stopped core the beats of the fast plane pass and nothing is
decided (R354); during boot only time and the backup domain go on, and without a running clock the backup domain alone. -/
def execManagementTick (i : TickInputs) (s : State) : Host.Outcome State Fault Refusal :=
  let b := s.openTick
  if b.coreUp then
    let t := tickWork i b
    .next { t with clock := if t.dev.main then b.clock.ticked else Clock.reset, pending := s.pending }
  else if s.fastUp then
    .next { backupTick i (closeBeat (lapse (s.clock.next - s.clock.beat) s)) with clock := s.clock.ticked, pending := s.pending, mram := s.mram }
  else if s.power.boot.isSome then retimed Clock.ticked (backupTick i) s.atBoundary
  else event (backupTick i) s

end Sys2Proof.Machine
end

