-- ==== Sys2Proof/Machine/Dispatch.lean ====
section
/-! DEFINITION. The meaning of each command: one arm per constructor of `Instr`. -/

namespace Sys2Proof.Machine

def exec (i : Instr) (s : State) : Host.Outcome State Fault Refusal :=
  match i with
  | .hostWrite port index sub data dc => Sys2Proof.Machine.execHostWrite port index sub data dc s
  | .managementTick inp => Sys2Proof.Machine.execManagementTick inp s
  | .estimatorEpoch inp => Sys2Proof.Machine.execEstimatorEpoch inp s
  | .stateReqActive port => Sys2Proof.Machine.execStateReqActive port s
  | .stateReqDoze port => Sys2Proof.Machine.execStateReqDoze port s
  | .stateReqStandby port => Sys2Proof.Machine.execStateReqStandby port s
  | .autostart => Sys2Proof.Machine.execAutostart s
  | .enterStandby => Sys2Proof.Machine.execEnterStandby s
  | .enLow => Sys2Proof.Machine.execEnLow s
  | .vsysUv vsys => Sys2Proof.Machine.execVsysUv vsys s
  | .backupStart vsys vbak vbat => Sys2Proof.Machine.execBackupStart vsys vbak vbat s
  | .fallToOff vsys vbak vbat => Sys2Proof.Machine.execFallToOff vsys vbak vbat s
  | .bootBegin vsys edges inp => Sys2Proof.Machine.execBootBegin vsys edges inp s
  | .endOfBoot => Sys2Proof.Machine.execEndOfBoot s
  | .sysrstNAssert => Sys2Proof.Machine.execSysrstNAssert s
  | .sysrstNRelease inp => Sys2Proof.Machine.execSysrstNRelease inp s
  | .clkXtalLost => Sys2Proof.Machine.execClkXtalLost s
  | .strideEdge e => Sys2Proof.Machine.execStrideEdge e s
  | .strideMissingEdge => Sys2Proof.Machine.execStrideMissingEdge s
  | .strideHoldLong => Sys2Proof.Machine.execStrideHoldLong s
  | .strideStart => Sys2Proof.Machine.execStrideStart s
  | .timeCapture port v dc => Sys2Proof.Machine.execTimeCapture port v dc s
  | .cfgCommit port v => Sys2Proof.Machine.execCfgCommit port v s
  | .cfgDiscard port v => Sys2Proof.Machine.execCfgDiscard port v s
  | .fdSurge vsys => Sys2Proof.Machine.execFdSurge vsys s
  | .fdSurgeLong => Sys2Proof.Machine.execFdSurgeLong s
  | .vsysPfw vsys => Sys2Proof.Machine.execVsysPfw vsys s
  | .pfwClear vsys => Sys2Proof.Machine.execPfwClear vsys s
  | .fdRatioMode port v => Sys2Proof.Machine.execFdRatioMode port v s
  | .fdRisingChange vsys => Sys2Proof.Machine.execFdRisingChange vsys s
  | .fdFallingChange vsys => Sys2Proof.Machine.execFdFallingChange vsys s
  | .fdForcedChange vsys => Sys2Proof.Machine.execFdForcedChange vsys s
  | .fdSwapDone => Sys2Proof.Machine.execFdSwapDone s
  | .fdBalanceDone dev => Sys2Proof.Machine.execFdBalanceDone dev s
  | .fdCflyImbal dev cycles => Sys2Proof.Machine.execFdCflyImbal dev cycles s
  | .fdSoftstartDone ibus => Sys2Proof.Machine.execFdSoftstartDone ibus s
  | .fdStart => Sys2Proof.Machine.execFdStart s
  | .fdOffDelay => Sys2Proof.Machine.execFdOffDelay s
  | .fdStopped ibus => Sys2Proof.Machine.execFdStopped ibus s
  | .fdVsysOv vsys => Sys2Proof.Machine.execFdVsysOv vsys s
  | .fdIbusOv ibus => Sys2Proof.Machine.execFdIbusOv ibus s
  | .fdIbusUv ibus => Sys2Proof.Machine.execFdIbusUv ibus s
  | .fdOc cycles => Sys2Proof.Machine.execFdOc cycles s
  | .fdGate => Sys2Proof.Machine.execFdGate s
  | .budgetPeak power => Sys2Proof.Machine.execBudgetPeak power s
  | .budgetOver => Sys2Proof.Machine.execBudgetOver s
  | .railEnable port n => Sys2Proof.Machine.execRailEnable port n s
  | .railDisable port n => Sys2Proof.Machine.execRailDisable port n s
  | .railSoftstartDone n vout => Sys2Proof.Machine.execRailSoftstartDone n vout s
  | .railSs n => Sys2Proof.Machine.execRailSs n s
  | .railSlewDone n => Sys2Proof.Machine.execRailSlewDone n s
  | .railRampdownDone n vout => Sys2Proof.Machine.execRailRampdownDone n vout s
  | .railDischarged n vout => Sys2Proof.Machine.execRailDischarged n vout s
  | .railDisSlow n => Sys2Proof.Machine.execRailDisSlow n s
  | .phaseShed n => Sys2Proof.Machine.execPhaseShed n s
  | .fastAdd n p iv => Sys2Proof.Machine.execFastAdd n p iv s
  | .burstEntry n => Sys2Proof.Machine.execBurstEntry n s
  | .burstStart n vout => Sys2Proof.Machine.execBurstStart n vout s
  | .burstSlot n => Sys2Proof.Machine.execBurstSlot n s
  | .burstEnd n vout => Sys2Proof.Machine.execBurstEnd n vout s
  | .burstExit n cause => Sys2Proof.Machine.execBurstExit n cause s
  | .qwOpen k edges xbEdges => Sys2Proof.Machine.execQwOpen k edges xbEdges s
  | .qwClose => Sys2Proof.Machine.execQwClose s
  | .phOc p cycles iv beats => Sys2Proof.Machine.execPhOc p cycles iv beats s
  | .phOvl p runs => Sys2Proof.Machine.execPhOvl p runs s
  | .phNeg p cycles => Sys2Proof.Machine.execPhNeg p cycles s
  | .phTsd p temp => Sys2Proof.Machine.execPhTsd p temp s
  | .phSw p cycles => Sys2Proof.Machine.execPhSw p cycles s
  | .phDrv p => Sys2Proof.Machine.execPhDrv p s
  | .phImbal p diff cycles => Sys2Proof.Machine.execPhImbal p diff cycles s
  | .railPhLost n => Sys2Proof.Machine.execRailPhLost n s
  | .railReverse n sum beats => Sys2Proof.Machine.execRailReverse n sum beats s
  | .remountShadowEnd p dutyDiff => Sys2Proof.Machine.execRemountShadowEnd p dutyDiff s
  | .remountRampEnd p => Sys2Proof.Machine.execRemountRampEnd p s
  | .phaseTakeOut port p => Sys2Proof.Machine.execPhaseTakeOut port p s
  | .phaseReturn port p => Sys2Proof.Machine.execPhaseReturn port p s
  | .xbRegionChange c ibus beats => Sys2Proof.Machine.execXbRegionChange c ibus beats s
  | .xbSkipEntry c => Sys2Proof.Machine.execXbSkipEntry c s
  | .xbCl c => Sys2Proof.Machine.execXbCl c s
  | .xbPk c cycles => Sys2Proof.Machine.execXbPk c cycles s
  | .xbTsd c temp => Sys2Proof.Machine.execXbTsd c temp s
  | .xbSw c cycles => Sys2Proof.Machine.execXbSw c cycles s
  | .xbDrv c => Sys2Proof.Machine.execXbDrv c s
  | .xbNeg c cycles => Sys2Proof.Machine.execXbNeg c cycles s
  | .ldoInUv l ldoin beats => Sys2Proof.Machine.execLdoInUv l ldoin beats s
  | .ldoCl l => Sys2Proof.Machine.execLdoCl l s
  | .ldoTsd temp => Sys2Proof.Machine.execLdoTsd temp s
  | .aoRestart ldoin temp ms => Sys2Proof.Machine.execAoRestart ldoin temp ms s
  | .supOvWarn m v n => Sys2Proof.Machine.execSupOvWarn m v n s
  | .supUvWarn m v n => Sys2Proof.Machine.execSupUvWarn m v n s
  | .supOcWarn m iv n => Sys2Proof.Machine.execSupOcWarn m iv n s
  | .supOv m v n => Sys2Proof.Machine.execSupOv m v n s
  | .supUv m v n => Sys2Proof.Machine.execSupUv m v n s
  | .supOc m iv n => Sys2Proof.Machine.execSupOc m iv n s
  | .supConditionEnd m cond v => Sys2Proof.Machine.execSupConditionEnd m cond v s
  | .goodRise m v n => Sys2Proof.Machine.execGoodRise m v n s
  | .goodFall m v n => Sys2Proof.Machine.execGoodFall m v n s
  | .rhRun port v => Sys2Proof.Machine.execRhRun port v s
  | .rhCommission port v => Sys2Proof.Machine.execRhCommission port v s
  | .rhDue n => Sys2Proof.Machine.execRhDue n s
  | .arbGrant => Sys2Proof.Machine.execArbGrant s
  | .rhSettleStart => Sys2Proof.Machine.execRhSettleStart s
  | .rhSettleDone => Sys2Proof.Machine.execRhSettleDone s
  | .rhPointDone e y u => Sys2Proof.Machine.execRhPointDone e y u s
  | .rhPointAbandon => Sys2Proof.Machine.execRhPointAbandon s
  | .rhResults => Sys2Proof.Machine.execRhResults s
  | .seqImage port data => Sys2Proof.Machine.execSeqImage port data s
  | .seqRun port v => Sys2Proof.Machine.execSeqRun port v s
  | .seqStop port v => Sys2Proof.Machine.execSeqStop port v s
  | .nop => Sys2Proof.Machine.execNop s
  | .enable w tmo mask => Sys2Proof.Machine.execEnable w tmo mask s
  | .enableWaitDone => Sys2Proof.Machine.execEnableWaitDone s
  | .enableWaitTmo => Sys2Proof.Machine.execEnableWaitTmo s
  | .disable w tmo mask => Sys2Proof.Machine.execDisable w tmo mask s
  | .disableWaitDone => Sys2Proof.Machine.execDisableWaitDone s
  | .disableWaitTmo => Sys2Proof.Machine.execDisableWaitTmo s
  | .waitTime ticks n => Sys2Proof.Machine.execWaitTime ticks n s
  | .waitTimeDone => Sys2Proof.Machine.execWaitTimeDone s
  | .waitStride lock skip unit => Sys2Proof.Machine.execWaitStride lock skip unit s
  | .waitStrideDone => Sys2Proof.Machine.execWaitStrideDone s
  | .check soft pol pset kind operand => Sys2Proof.Machine.execCheck soft pol pset kind operand s
  | .checkPass n => Sys2Proof.Machine.execCheckPass n s
  | .checkChatter n => Sys2Proof.Machine.execCheckChatter n s
  | .checkTimeout => Sys2Proof.Machine.execCheckTimeout s
  | .jump cond count target => Sys2Proof.Machine.execJump cond count target s
  | .gait tmo target => Sys2Proof.Machine.execGait tmo target s
  | .gaitAdvance n => Sys2Proof.Machine.execGaitAdvance n s
  | .gaitTmo => Sys2Proof.Machine.execGaitTmo s
  | .gaitHoldEnd => Sys2Proof.Machine.execGaitHoldEnd s
  | .setout mask value => Sys2Proof.Machine.execSetout mask value s
  | .mark entry log gs id => Sys2Proof.Machine.execMark entry log gs id s
  | .slew rail w code => Sys2Proof.Machine.execSlew rail w code s
  | .slewWaitDone => Sys2Proof.Machine.execSlewWaitDone s
  | .seqEnd => Sys2Proof.Machine.execSeqEnd s
  | .gaitalrmDetect n => Sys2Proof.Machine.execGaitalrmDetect n s
  | .gaitAlrmCmd port v => Sys2Proof.Machine.execGaitAlrmCmd port v s
  | .gaitalrmRelease => Sys2Proof.Machine.execGaitalrmRelease s
  | .ffrRearm port v => Sys2Proof.Machine.execFfrRearm port v s
  | .faultAck port v => Sys2Proof.Machine.execFaultAck port v s
  | .autoAck => Sys2Proof.Machine.execAutoAck s
  | .release => Sys2Proof.Machine.execRelease s
  | .autoRestartEnable => Sys2Proof.Machine.execAutoRestartEnable s
  | .retryWinExpire => Sys2Proof.Machine.execRetryWinExpire s
  | .faultRearm port v => Sys2Proof.Machine.execFaultRearm port v s
  | .lockoutClear port v => Sys2Proof.Machine.execLockoutClear port v s
  | .pathSourceValid src => Sys2Proof.Machine.execPathSourceValid src s
  | .pathSwitch src mv beats => Sys2Proof.Machine.execPathSwitch src mv beats s
  | .pathAuxOv mv => Sys2Proof.Machine.execPathAuxOv mv s
  | .batTakeover mv => Sys2Proof.Machine.execBatTakeover mv s
  | .batDisarm mv beats => Sys2Proof.Machine.execBatDisarm mv beats s
  | .pathBatCutoff => Sys2Proof.Machine.execPathBatCutoff s
  | .batteryStart alarm vbat => Sys2Proof.Machine.execBatteryStart alarm vbat s
  | .detectDone packid => Sys2Proof.Machine.execDetectDone packid s
  | .prechargeDone => Sys2Proof.Machine.execPrechargeDone s
  | .cvEntry => Sys2Proof.Machine.execCvEntry s
  | .cvToCc => Sys2Proof.Machine.execCvToCc s
  | .endOfCharge => Sys2Proof.Machine.execEndOfCharge s
  | .recharge => Sys2Proof.Machine.execRecharge s
  | .chgTempRegain => Sys2Proof.Machine.execChgTempRegain s
  | .chgTimer => Sys2Proof.Machine.execChgTimer s
  | .chgPreTmo => Sys2Proof.Machine.execChgPreTmo s
  | .collapseConfirm pack => Sys2Proof.Machine.execCollapseConfirm pack s
  | .removalProbeDone pack => Sys2Proof.Machine.execRemovalProbeDone pack s
  | .chgBatShort pack => Sys2Proof.Machine.execChgBatShort pack s
  | .chgBatOv pack => Sys2Proof.Machine.execChgBatOv pack s
  | .chgConv peak drv sw => Sys2Proof.Machine.execChgConv peak drv sw s
  | .chgFaultRead port => Sys2Proof.Machine.execChgFaultRead port s
  | .chgDetRetry => Sys2Proof.Machine.execChgDetRetry s
  | .mpptSweep => Sys2Proof.Machine.execMpptSweep s
  | .mpptStep => Sys2Proof.Machine.execMpptStep s
  | .revStart port => Sys2Proof.Machine.execRevStart port s
  | .revStop port => Sys2Proof.Machine.execRevStop port s
  | .revOtherSource auxin beats => Sys2Proof.Machine.execRevOtherSource auxin beats s
  | .revVbatLow => Sys2Proof.Machine.execRevVbatLow s
  | .chgRevShort => Sys2Proof.Machine.execChgRevShort s
  | .estHibernate => Sys2Proof.Machine.execEstHibernate s
  | .estWake iv beats => Sys2Proof.Machine.execEstWake iv beats s
  | .estZDue => Sys2Proof.Machine.execEstZDue s
  | .estZRun port v => Sys2Proof.Machine.execEstZRun port v s
  | .estZPointDone v iv => Sys2Proof.Machine.execEstZPointDone v iv s
  | .estZPointAbandon cv => Sys2Proof.Machine.execEstZPointAbandon cv s
  | .estReset port v => Sys2Proof.Machine.execEstReset port v s
  | .estCheckpoint => Sys2Proof.Machine.execEstCheckpoint s
  | .estAdc beats => Sys2Proof.Machine.execEstAdc beats s
  | .fastFrameSend => Sys2Proof.Machine.execFastFrameSend s
  | .fastFrameRx f => Sys2Proof.Machine.execFastFrameRx f s
  | .slowFrameRx f => Sys2Proof.Machine.execSlowFrameRx f s
  | .bulkFrameRx f => Sys2Proof.Machine.execBulkFrameRx f s
  | .linkAlign => Sys2Proof.Machine.execLinkAlign s
  | .pairLinkLost => Sys2Proof.Machine.execPairLinkLost s
  | .takeoverArm n fb beats => Sys2Proof.Machine.execTakeoverArm n fb beats s
  | .takeoverEvidence n fb beats => Sys2Proof.Machine.execTakeoverEvidence n fb beats s
  | .announcedStop n => Sys2Proof.Machine.execAnnouncedStop n s
  | .pairHandback port v => Sys2Proof.Machine.execPairHandback port v s
  | .joinWaitExpire => Sys2Proof.Machine.execJoinWaitExpire s
  | .pairCmd port v => Sys2Proof.Machine.execPairCmd port v s
  | .wdgCheckin port t tag => Sys2Proof.Machine.execWdgCheckin port t tag s
  | .wdgPeriodEnd inp => Sys2Proof.Machine.execWdgPeriodEnd inp s
  | .wdgClk n inp => Sys2Proof.Machine.execWdgClk n inp s
  | .wdgRstPulseEnd => Sys2Proof.Machine.execWdgRstPulseEnd s
  | .wdgStartDelayEnd => Sys2Proof.Machine.execWdgStartDelayEnd s
  | .wdgKey port v => Sys2Proof.Machine.execWdgKey port v s
  | .wdgLock port v => Sys2Proof.Machine.execWdgLock port v s
  | .wdgCmd port v => Sys2Proof.Machine.execWdgCmd port v s
  | .wdgCoreTrip n inp => Sys2Proof.Machine.execWdgCoreTrip n inp s
  | .rtcCapture port v => Sys2Proof.Machine.execRtcCapture port v s
  | .rtcSet port v => Sys2Proof.Machine.execRtcSet port v s
  | .rtcWrap => Sys2Proof.Machine.execRtcWrap s
  | .trimWindow => Sys2Proof.Machine.execTrimWindow s
  | .rtcCalRun port v dc => Sys2Proof.Machine.execRtcCalRun port v dc s
  | .rtcCalDone dc => Sys2Proof.Machine.execRtcCalDone dc s
  | .rtcOscFail us => Sys2Proof.Machine.execRtcOscFail us s
  | .rtcAlarm => Sys2Proof.Machine.execRtcAlarm s
  | .wakeNAssert n => Sys2Proof.Machine.execWakeNAssert n s
  | .pwronSet port => Sys2Proof.Machine.execPwronSet port s
  | .pwronClear port => Sys2Proof.Machine.execPwronClear port s
  | .pwronHoldExpire => Sys2Proof.Machine.execPwronHoldExpire s
  | .recTrigCmd port v => Sys2Proof.Machine.execRecTrigCmd port v s
  | .recFlush port v => Sys2Proof.Machine.execRecFlush port v s
  | .recFlushDone fail => Sys2Proof.Machine.execRecFlushDone fail s
  | .recClear port v => Sys2Proof.Machine.execRecClear port v s
  | .recLogUpload port => Sys2Proof.Machine.execRecLogUpload port s
  | .comSave port v => Sys2Proof.Machine.execComSave port v s
  | .comRestore port v => Sys2Proof.Machine.execComRestore port v s
  | .cfgSaveDone fail => Sys2Proof.Machine.execCfgSaveDone fail s
  | .cfgImage port data => Sys2Proof.Machine.execCfgImage port data s
  | .cfgLock port v => Sys2Proof.Machine.execCfgLock port v s
  | .cfgUnlock port v => Sys2Proof.Machine.execCfgUnlock port v s
  | .stRetry port v => Sys2Proof.Machine.execStRetry port v s
  | .retryBoot inp => Sys2Proof.Machine.execRetryBoot inp s
  | .alStateRequest req sm => Sys2Proof.Machine.execAlStateRequest req sm s
  | .smWdgExpire => Sys2Proof.Machine.execSmWdgExpire s
  | .portLinkChange port up => Sys2Proof.Machine.execPortLinkChange port up s
  | .dcActivate on cycle => Sys2Proof.Machine.execDcActivate on cycle s
  | .siiWrite word v => Sys2Proof.Machine.execSiiWrite word v s
  | .mailboxUnsupported type_ => Sys2Proof.Machine.execMailboxUnsupported type_ s
  | .sdoInfo req => Sys2Proof.Machine.execSdoInfo req s
  | .foeWrite file password data => Sys2Proof.Machine.execFoeWrite file password data s
  | .foeRead file password => Sys2Proof.Machine.execFoeRead file password s
  | .pdOutputComplete data dc => Sys2Proof.Machine.execPdOutputComplete data dc s
  | .spiNop r => Sys2Proof.Machine.execSpiNop r s
  | .spiRead r => Sys2Proof.Machine.execSpiRead r s
  | .spiWrite r => Sys2Proof.Machine.execSpiWrite r s
  | .spiReadAll r => Sys2Proof.Machine.execSpiReadAll r s
  | .spiReadSeg r => Sys2Proof.Machine.execSpiReadSeg r s
  | .spiWriteSeg r => Sys2Proof.Machine.execSpiWriteSeg r s
  | .spiPiRead r => Sys2Proof.Machine.execSpiPiRead r s
  | .spiPiWrite r => Sys2Proof.Machine.execSpiPiWrite r s
  | .spiEmcyRead r => Sys2Proof.Machine.execSpiEmcyRead r s
  | .spiRepeat r => Sys2Proof.Machine.execSpiRepeat r s
  | .segReadTimeout => Sys2Proof.Machine.execSegReadTimeout s
  | .jobRelease port v => Sys2Proof.Machine.execJobRelease port v s
  | .errHistoryClear port v => Sys2Proof.Machine.execErrHistoryClear port v s
  | .thermShed => Sys2Proof.Machine.execThermShed s
  | .thermSensor x => Sys2Proof.Machine.execThermSensor x s
  | .angleTrigger k => Sys2Proof.Machine.execAngleTrigger k s
  | .estZPointStart => Sys2Proof.Machine.execEstZPointStart s
  | .backupSupplyChange vsys vbak vbat => Sys2Proof.Machine.execBackupSupplyChange vsys vbak vbat s
  | .vddioLoss vddio => Sys2Proof.Machine.execVddioLoss vddio s
  | .ecatPreopReached => Sys2Proof.Machine.execEcatPreopReached s
  | .tetherFrameDiscarded => Sys2Proof.Machine.execTetherFrameDiscarded s
  | .linkSymbolLoss symbols => Sys2Proof.Machine.execLinkSymbolLoss symbols s
  | .gaitalrmLineHigh => Sys2Proof.Machine.execGaitalrmLineHigh s
  | .harvestLost auxin beats => Sys2Proof.Machine.execHarvestLost auxin beats s
  | .masterUploadAbort => Sys2Proof.Machine.execMasterUploadAbort s
  | .ldoin0Good ldoin => Sys2Proof.Machine.execLdoin0Good ldoin s

end Sys2Proof.Machine
end

