-- ==== Sys2Proof/Safety.lean ====
section
/-! DEFINITION. What counts as a sound state of the block, and the words that statements about commands use: what an
outcome is, and which part of a state a command leaves alone. -/

namespace Sys2Proof

/-! ## Kinds of commands -/

/-- The commands that are events within a beat: nothing in them waits for a tick boundary or restarts time. -/
def Instr.beatEvent (c : Instr) : Bool :=
  match c with
  | .estimatorEpoch _ | .backupStart _ _ _ | .clkXtalLost | .strideEdge _ | .strideMissingEdge | .strideHoldLong
  | .strideStart | .fdSurge _ | .fdSurgeLong | .vsysPfw _ | .pfwClear _ | .fdRisingChange _ | .fdFallingChange _
  | .fdForcedChange _ | .fdSwapDone | .fdBalanceDone _ | .fdCflyImbal _ _ | .fdSoftstartDone _ | .fdStart
  | .fdOffDelay | .fdStopped _ | .fdVsysOv _ | .fdIbusOv _ | .fdIbusUv _ | .fdOc _ | .fdGate | .budgetPeak _
  | .budgetOver | .railSoftstartDone _ _ | .railSs _ | .railSlewDone _ | .railRampdownDone _ _ | .railDisSlow _
  | .phaseShed _ | .fastAdd _ _ _ | .burstEntry _ | .burstStart _ _ | .burstSlot _ | .burstEnd _ _ | .burstExit _ _
  | .qwOpen _ _ _ | .qwClose | .phOc _ _ _ _ | .phOvl _ _ | .phNeg _ _ | .phTsd _ _ | .phSw _ _ | .phDrv _
  | .phImbal _ _ _ | .railPhLost _ | .railReverse _ _ _ | .remountShadowEnd _ _ | .remountRampEnd _
  | .xbRegionChange _ _ _ | .xbSkipEntry _ | .xbCl _ | .xbPk _ _ | .xbTsd _ _ | .xbSw _ _ | .xbDrv _ | .xbNeg _ _
  | .ldoInUv _ _ _ | .ldoCl _ | .ldoTsd _ | .aoRestart _ _ _ | .supOvWarn _ _ _ | .supUvWarn _ _ _
  | .supOcWarn _ _ _ | .supOv _ _ _ | .supUv _ _ _ | .supOc _ _ _ | .supConditionEnd _ _ _ | .goodRise _ _ _
  | .goodFall _ _ _ | .rhDue _ | .rhSettleStart | .rhSettleDone | .rhPointDone _ _ _ | .rhPointAbandon
  | .enableWaitDone | .enableWaitTmo | .disableWaitDone | .disableWaitTmo | .waitTimeDone | .waitStrideDone
  | .checkPass _ | .checkChatter _ | .checkTimeout | .gaitAdvance _ | .gaitTmo | .gaitHoldEnd | .slewWaitDone
  | .gaitalrmDetect _ | .gaitalrmRelease | .pathSourceValid _ | .pathSwitch _ _ _ | .pathAuxOv _ | .batTakeover _
  | .batDisarm _ _ | .pathBatCutoff | .batteryStart _ _ | .detectDone _ | .prechargeDone | .cvEntry | .cvToCc
  | .endOfCharge | .recharge | .chgTempRegain | .chgTimer | .chgPreTmo | .collapseConfirm _ | .removalProbeDone _
  | .chgBatShort _ | .chgBatOv _ | .chgConv _ _ _ | .chgDetRetry | .mpptSweep | .mpptStep | .revOtherSource _ _
  | .revVbatLow | .chgRevShort | .estHibernate | .estWake _ _ | .estZDue | .estZPointDone _ _ | .estAdc _
  | .fastFrameSend | .fastFrameRx _ | .slowFrameRx _ | .bulkFrameRx _ | .linkAlign | .pairLinkLost
  | .takeoverArm _ _ _ | .takeoverEvidence _ _ _ | .announcedStop _ | .wdgCheckin _ _ _ | .wdgRstPulseEnd
  | .wdgStartDelayEnd | .wdgKey _ _ | .rtcWrap | .trimWindow | .rtcCalDone _ | .rtcOscFail _ | .rtcAlarm
  | .wakeNAssert _ | .pwronHoldExpire | .alStateRequest _ _ | .smWdgExpire | .portLinkChange _ _ | .dcActivate _ _
  | .siiWrite _ _ | .mailboxUnsupported _ | .segReadTimeout | .thermShed | .thermSensor _ | .angleTrigger _
  | .estZPointStart | .backupSupplyChange _ _ _ | .vddioLoss _ | .ecatPreopReached | .tetherFrameDiscarded
  | .linkSymbolLoss _ | .gaitalrmLineHigh | .harvestLost _ _ | .masterUploadAbort | .ldoin0Good _ => true
  | .hostWrite _ _ _ _ _ | .managementTick _ | .stateReqActive _ | .stateReqDoze _ | .stateReqStandby _
  | .autostart | .enterStandby | .enLow | .vsysUv _ | .fallToOff _ _ _ | .bootBegin _ _ _ | .endOfBoot
  | .sysrstNAssert | .sysrstNRelease _ | .timeCapture _ _ _ | .cfgCommit _ _ | .cfgDiscard _ _ | .fdRatioMode _ _
  | .railEnable _ _ | .railDisable _ _ | .railDischarged _ _ | .phaseTakeOut _ _ | .phaseReturn _ _ | .rhRun _ _
  | .rhCommission _ _ | .arbGrant | .rhResults | .seqImage _ _ | .seqRun _ _ | .seqStop _ _ | .nop | .enable _ _ _
  | .disable _ _ _ | .waitTime _ _ | .waitStride _ _ _ | .check _ _ _ _ _ | .jump _ _ _ | .gait _ _ | .setout _ _
  | .mark _ _ _ _ | .slew _ _ _ | .seqEnd | .gaitAlrmCmd _ _ | .ffrRearm _ _ | .faultAck _ _ | .autoAck | .release
  | .autoRestartEnable | .retryWinExpire | .faultRearm _ _ | .lockoutClear _ _ | .chgFaultRead _ | .revStart _
  | .revStop _ | .estZRun _ _ | .estZPointAbandon _ | .estReset _ _ | .estCheckpoint | .pairHandback _ _
  | .joinWaitExpire | .pairCmd _ _ | .wdgPeriodEnd _ | .wdgClk _ _ | .wdgLock _ _ | .wdgCmd _ _ | .wdgCoreTrip _ _
  | .rtcCapture _ _ | .rtcSet _ _ | .rtcCalRun _ _ _ | .pwronSet _ | .pwronClear _ | .recTrigCmd _ _
  | .recFlush _ _ | .recFlushDone _ | .recClear _ _ | .recLogUpload _ | .comSave _ _ | .comRestore _ _
  | .cfgSaveDone _ | .cfgImage _ _ | .cfgLock _ _ | .cfgUnlock _ _ | .stRetry _ _ | .retryBoot _ | .sdoInfo _
  | .foeWrite _ _ _ | .foeRead _ _ | .pdOutputComplete _ _ | .spiNop _ | .spiRead _ | .spiWrite _ | .spiReadAll _
  | .spiReadSeg _ | .spiWriteSeg _ | .spiPiRead _ | .spiPiWrite _ | .spiEmcyRead _ | .spiRepeat _ | .jobRelease _ _
  | .errHistoryClear _ _ => false

/-- The commands whose work may reach the MRAM: the tick, the work of the store, and an expiry that commits its record. -/
def Instr.writesMram (c : Instr) : Bool :=
  match c with
  | .hostWrite _ _ _ _ _ | .managementTick _ | .fdSurge _ | .vsysPfw _ | .pfwClear _ | .fdRisingChange _
  | .fdFallingChange _ | .fdForcedChange _ | .fdVsysOv _ | .estCheckpoint | .wdgPeriodEnd _ | .wdgClk _ _
  | .recFlushDone _ | .recClear _ _ | .cfgSaveDone _ | .spiWrite _ => true
  | .estimatorEpoch _ | .stateReqActive _ | .stateReqDoze _ | .stateReqStandby _ | .autostart | .enterStandby
  | .enLow | .vsysUv _ | .backupStart _ _ _ | .fallToOff _ _ _ | .bootBegin _ _ _ | .endOfBoot | .sysrstNAssert
  | .sysrstNRelease _ | .clkXtalLost | .strideEdge _ | .strideMissingEdge | .strideHoldLong | .strideStart
  | .timeCapture _ _ _ | .cfgCommit _ _ | .cfgDiscard _ _ | .fdSurgeLong | .fdRatioMode _ _ | .fdSwapDone
  | .fdBalanceDone _ | .fdCflyImbal _ _ | .fdSoftstartDone _ | .fdStart | .fdOffDelay | .fdStopped _ | .fdIbusOv _
  | .fdIbusUv _ | .fdOc _ | .fdGate | .budgetPeak _ | .budgetOver | .railEnable _ _ | .railDisable _ _
  | .railSoftstartDone _ _ | .railSs _ | .railSlewDone _ | .railRampdownDone _ _ | .railDischarged _ _
  | .railDisSlow _ | .phaseShed _ | .fastAdd _ _ _ | .burstEntry _ | .burstStart _ _ | .burstSlot _ | .burstEnd _ _
  | .burstExit _ _ | .qwOpen _ _ _ | .qwClose | .phOc _ _ _ _ | .phOvl _ _ | .phNeg _ _ | .phTsd _ _ | .phSw _ _
  | .phDrv _ | .phImbal _ _ _ | .railPhLost _ | .railReverse _ _ _ | .remountShadowEnd _ _ | .remountRampEnd _
  | .phaseTakeOut _ _ | .phaseReturn _ _ | .xbRegionChange _ _ _ | .xbSkipEntry _ | .xbCl _ | .xbPk _ _
  | .xbTsd _ _ | .xbSw _ _ | .xbDrv _ | .xbNeg _ _ | .ldoInUv _ _ _ | .ldoCl _ | .ldoTsd _ | .aoRestart _ _ _
  | .supOvWarn _ _ _ | .supUvWarn _ _ _ | .supOcWarn _ _ _ | .supOv _ _ _ | .supUv _ _ _ | .supOc _ _ _
  | .supConditionEnd _ _ _ | .goodRise _ _ _ | .goodFall _ _ _ | .rhRun _ _ | .rhCommission _ _ | .rhDue _
  | .arbGrant | .rhSettleStart | .rhSettleDone | .rhPointDone _ _ _ | .rhPointAbandon | .rhResults | .seqImage _ _
  | .seqRun _ _ | .seqStop _ _ | .nop | .enable _ _ _ | .enableWaitDone | .enableWaitTmo | .disable _ _ _
  | .disableWaitDone | .disableWaitTmo | .waitTime _ _ | .waitTimeDone | .waitStride _ _ _ | .waitStrideDone
  | .check _ _ _ _ _ | .checkPass _ | .checkChatter _ | .checkTimeout | .jump _ _ _ | .gait _ _ | .gaitAdvance _
  | .gaitTmo | .gaitHoldEnd | .setout _ _ | .mark _ _ _ _ | .slew _ _ _ | .slewWaitDone | .seqEnd
  | .gaitalrmDetect _ | .gaitAlrmCmd _ _ | .gaitalrmRelease | .ffrRearm _ _ | .faultAck _ _ | .autoAck | .release
  | .autoRestartEnable | .retryWinExpire | .faultRearm _ _ | .lockoutClear _ _ | .pathSourceValid _
  | .pathSwitch _ _ _ | .pathAuxOv _ | .batTakeover _ | .batDisarm _ _ | .pathBatCutoff | .batteryStart _ _
  | .detectDone _ | .prechargeDone | .cvEntry | .cvToCc | .endOfCharge | .recharge | .chgTempRegain | .chgTimer
  | .chgPreTmo | .collapseConfirm _ | .removalProbeDone _ | .chgBatShort _ | .chgBatOv _ | .chgConv _ _ _
  | .chgFaultRead _ | .chgDetRetry | .mpptSweep | .mpptStep | .revStart _ | .revStop _ | .revOtherSource _ _
  | .revVbatLow | .chgRevShort | .estHibernate | .estWake _ _ | .estZDue | .estZRun _ _ | .estZPointDone _ _
  | .estZPointAbandon _ | .estReset _ _ | .estAdc _ | .fastFrameSend | .fastFrameRx _ | .slowFrameRx _
  | .bulkFrameRx _ | .linkAlign | .pairLinkLost | .takeoverArm _ _ _ | .takeoverEvidence _ _ _ | .announcedStop _
  | .pairHandback _ _ | .joinWaitExpire | .pairCmd _ _ | .wdgCheckin _ _ _ | .wdgRstPulseEnd | .wdgStartDelayEnd
  | .wdgKey _ _ | .wdgLock _ _ | .wdgCmd _ _ | .wdgCoreTrip _ _ | .rtcCapture _ _ | .rtcSet _ _ | .rtcWrap
  | .trimWindow | .rtcCalRun _ _ _ | .rtcCalDone _ | .rtcOscFail _ | .rtcAlarm | .wakeNAssert _ | .pwronSet _
  | .pwronClear _ | .pwronHoldExpire | .recTrigCmd _ _ | .recFlush _ _ | .recLogUpload _ | .comSave _ _
  | .comRestore _ _ | .cfgImage _ _ | .cfgLock _ _ | .cfgUnlock _ _ | .stRetry _ _ | .retryBoot _
  | .alStateRequest _ _ | .smWdgExpire | .portLinkChange _ _ | .dcActivate _ _ | .siiWrite _ _
  | .mailboxUnsupported _ | .sdoInfo _ | .foeWrite _ _ _ | .foeRead _ _ | .pdOutputComplete _ _ | .spiNop _
  | .spiRead _ | .spiReadAll _ | .spiReadSeg _ | .spiWriteSeg _ | .spiPiRead _ | .spiPiWrite _ | .spiEmcyRead _
  | .spiRepeat _ | .segReadTimeout | .jobRelease _ _ | .errHistoryClear _ _ | .thermShed | .thermSensor _
  | .angleTrigger _ | .estZPointStart | .backupSupplyChange _ _ _ | .vddioLoss _ | .ecatPreopReached
  | .tetherFrameDiscarded | .linkSymbolLoss _ | .gaitalrmLineHigh | .harvestLost _ _ | .masterUploadAbort
  | .ldoin0Good _ => false

end Sys2Proof

namespace Sys2Proof.Machine

/-! ## Invariants -/

/-- Time stands between its last tick boundary and the next (R31): ticks are whole thousands of beats. -/
def State.TimeInv (s : State) : Prop :=
  s.clock.lastTick % 1000 = 0 ∧ s.clock.lastTick ≤ s.clock.beat ∧ s.clock.beat ≤ s.clock.next

/-- The MRAM keeps its canonical form. -/
def State.MramInv (s : State) : Prop := Mram.wf s.mram = true

/-! ## Outcomes -/

/-- An outcome is a next state. -/
def Completes (o : Host.Outcome State Fault Refusal) : Prop := ∃ t, o = .next t

/-- `t` with the time, the queue and the MRAM of `s`: what an event at the present beat leaves. -/
def State.beside (s t : State) : State := { t with clock := s.clock, pending := s.pending, mram := s.mram }

/-- `t` with the queue and the MRAM of `s`, at the next tick boundary after `s`, which `State.openTick` reaches. -/
def State.atTick (s t : State) : State := { t with clock := s.openTick.clock, pending := s.pending, mram := s.mram }

/-- The command completes now; its effect is `t`, while time, queue and MRAM stay. -/
def Gives (c : Instr) (s t : State) : Prop := Machine.exec c s = .next (s.beside t)

/-- The command completes at the next tick boundary (R35); its effect is `t`, while queue and MRAM stay. -/
def GivesAtTick (c : Instr) (s t : State) : Prop := Machine.exec c s = .next (s.atTick t)

/-- A host write is accepted: it takes effect at the next tick boundary, and the answer says so. -/
def Accepts (c : Instr) (port : Port) (s t : State) : Prop := GivesAtTick c s { t with reply := some ⟨port, 0⟩ }

/-- A host write is refused with an abort code and changes nothing (R9). -/
def Refuses (c : Instr) (port : Port) (code : Nat) (s : State) : Prop :=
  GivesAtTick c s { s.openTick with reply := some ⟨port, code⟩ }

/-! ## Frames -/

/-- Every dictionary entry that the list does not name reads the same. -/
def SameBut (ks : List Nat) (s t : State) : Prop := ∀ k, k ∉ ks → t.get k = s.get k

/-- Every byte of the MRAM reads the same. -/
def SameMram (s t : State) : Prop := ∀ a, Mram.read t.mram a = Mram.read s.mram a

/-! ## Who serves a command -/

/-- A program stands ready for an instruction at the next tick boundary: none waits, none has started there, and nothing asks the program
to give way. -/
def State.seqReady (s : State) : Prop :=
  s.openTick.canStart = true ∧ s.openTick.seq.offAfter = none ∧ s.openTick.seq.stopAfter = false

/-- An SPI frame brings a request that the device serves: the port is alive and no boot is under way, the CRC is right, and nothing
that the frame does not deliver is pending; its CMD is the row's own. -/
def State.spiServes (s : State) (r : SpiFrame) : Prop :=
  s.spiAlive = true ∧ s.power.boot = none ∧ r.crcOk = true ∧ r.badCmd = false ∧ s.spiAccepts r = true

end Sys2Proof.Machine
end

