-- ==== Sys2Proof/Certificates/Slice0/Obligations.lean ====
section
/-! DEFINITION. The statements about the model that are to be proved. -/

open Sys2Proof Sys2Proof.Machine

/-- A step takes the command at the front of the queue, and is its meaning on the state with the rest of the queue. -/
def Obligations.StepTakesFrontCommand : Prop :=
  ∀ (c : Instr) (rest : List Instr) (s : State), step { s with pending := c :: rest } = exec c { s with pending := rest }

/-- With no command waiting, one beat passes with its work, up to the next tick boundary, whose beat stays until the tick is commanded
(the model's choice for an empty queue, assumption 2); where time stands nothing changes. -/
def Obligations.StepIdlesWhenNothingWaits : Prop :=
  ∀ s : State, s.pending = [] →
    (s.ticking = false → step s = .next s) ∧
    (s.clock.next ≤ s.clock.beat → step s = .next s) ∧
    (s.ticking = true → s.clock.beat < s.clock.next → step s = .next (nextBeat (closeBeat s))) ∧
    (∀ t : State, t = nextBeat (closeBeat s) →
      t.clock.beat = s.clock.beat + 1 ∧ t.clock.lastTick = s.clock.lastTick ∧ t.clock.done = false ∧ t.pending = [] ∧ SameMram s t) ∧
    (s.fastUp = false → closeBeat s = s)

/-- Every command in every state is answered with a next state: none ends in a fault or a refusal. No command touches the queue of the
commands that wait behind it. -/
def Obligations.CommandsAnswerAndKeepTheQueue : Prop :=
  (∀ (c : Instr) (s : State), Completes (exec c s)) ∧
  (∀ (c : Instr) (s t : State), exec c s = .next t → t.pending = s.pending)

/-- Frame of the commands that are events within a beat: they move no time, and but for those that start the power-fail work every
byte of the MRAM reads as before. Every command but the ones named leaves every byte of the MRAM as it was. -/
def Obligations.FrameOfTimeAndStore : Prop :=
  (∀ (c : Instr) (s t : State), c.beatEvent = true → exec c s = .next t →
    t.clock = s.clock ∧ (c.writesMram = false → SameMram s t)) ∧
  (∀ (c : Instr) (s t : State), c.writesMram = false → exec c s = .next t → SameMram s t)

/-- Every step keeps time in order: the last tick boundary is a whole number of thousand beats, and the present beat lies between it
and the next (R31). -/
def Obligations.StepKeepsTimeOrdered : Prop :=
  ∀ s t : State, s.TimeInv → step s = .next t → t.TimeInv

/-- Every step keeps the MRAM in its canonical form: rising addresses inside the array, no byte listed that reads so unlisted. -/
def Obligations.StepKeepsMramForm : Prop :=
  ∀ s t : State, s.MramInv → step s = .next t → t.MramInv

/-- The invariants of time and MRAM hold at reset. At reset the device is OFF, no beat has been counted, every entry but the device's
state reads its Default column, every byte of MRAM reads blank (the blank value is the model's choice, assumption 3), and no
command waits. -/
def Obligations.ResetMeetsInvariantsAndDefaults : Prop :=
  (State.reset.TimeInv ∧ State.reset.MramInv) ∧
  (State.reset.dev = .off ∧ State.reset.clock = ⟨0, 0, 0, false⟩ ∧ State.reset.pending = [] ∧
    (∀ k, k ≠ K.devState → State.reset.get k = dflt k) ∧ (∀ a, Mram.read State.reset.mram a = Mram.blank))

/-- A dictionary value of `n` bytes is carried with its least significant byte first, read and written alike (R6); signed types are
two's complement. -/
def Obligations.LittleEndianValues : Prop :=
  (∀ n v i, i < n → (leBytes n v)[i]? = some (BitVec.ofNat 8 (v / 256 ^ i))) ∧
  (∀ n v, v < 256 ^ n → leNat (leBytes n v) = v) ∧
  (∀ (k : Nat) (s : State) (r : EntryRow), entryAt k = some r → r.acc ≠ .wo → r.ty ≠ .str → r.ty ≠ .domain →
    readEntry k s = .ok (leBytes (r.ty.bits / 8) (s.shown k))) ∧
  (∀ (port : Port) (k : Nat) (d : List Byte) (dc : Nat) (s : State) (r : EntryRow), entryAt k = some r → r.ty ≠ .str →
    r.ty ≠ .domain → d.length = r.ty.bits / 8 → wrBytes port k d dc s = wrEntry port k (leNat d) dc s) ∧
  (∀ (w : Nat) (i : Int), 0 < w → -(2 ^ (w - 1) : Int) ≤ i → i < (2 ^ (w - 1) : Int) → toInt w (ofInt w i) = i)

/-- HOST_WRITE of an entry that is no check-in and no key word, nor WDG.LOCK before its tick: where the access check refuses it or its
own rule does, the abort is answered and nothing changes; where both accept it, its effect stands at the next tick boundary, that
of REC.CLEAR on the store too; where nobody answers, nothing happens. -/
def Obligations.HostWriteAnswers : Prop :=
  ∀ (port : Port) (idx : BitVec 16) (sub : BitVec 8) (d : List Byte) (dc : BitVec 64) (s b : State) (k : Nat),
    k = idx.toNat * 256 + sub.toNat → stamped k = false → s.locksEarly k d = false → b = s.openTick →
    (b.coreUp = false → exec (.hostWrite port idx sub d dc) s = .next { s with reply := none }) ∧
    (b.coreUp = true → b.answers port = false → GivesAtTick (.hostWrite port idx sub d dc) s { b with reply := none }) ∧
    (b.answers port = true → ∀ a, writeCheck k b = some a → Refuses (.hostWrite port idx sub d dc) port a s) ∧
    (b.answers port = true → writeCheck k b = none → ∀ a, wrBytes port k d dc.toNat b = refuse a b →
      Refuses (.hostWrite port idx sub d dc) port a s) ∧
    (b.answers port = true → writeCheck k b = none → ∀ u, wrBytes port k d dc.toNat b = accept u →
      (k ≠ K.recClear → Accepts (.hostWrite port idx sub d dc) port s u) ∧
      (k = K.recClear → exec (.hostWrite port idx sub d dc) s =
        .next { u with reply := some ⟨port, 0⟩, clock := b.clock, pending := s.pending }))

/-- The access checks of R7: a missing index, a missing subindex, a read-only entry, an entry locked by CFG.LOCK, an rwp entry outside
PREOP, and a value of a wrong length. -/
def Obligations.AccessAborts : Prop :=
  (∀ (k : Nat) (s : State), indexExists (k / 256) = false → entryAt k = none → writeCheck k s = some 0x06020000 ∧
    readEntry k s = .error 0x06020000) ∧
  (∀ (k : Nat) (s : State), indexExists (k / 256) = true → entryAt k = none → k % 256 ≠ 0 →
    writeCheck k s = some 0x06090011 ∧ readEntry k s = .error 0x06090011) ∧
  (∀ (k : Nat) (s : State) (r : EntryRow), entryAt k = some r → r.acc = .ro → writeCheck k s = some 0x06010002) ∧
  (∀ (k : Nat) (s : State) (r : EntryRow), entryAt k = some r → r.acc = .wo → readEntry k s = .error 0x06010001) ∧
  (∀ (k : Nat) (s : State) (r : EntryRow), entryAt k = some r → r.acc = .rwl → s.get K.cfgLock = 1 →
    writeCheck k s = some 0x08000022) ∧
  (∀ (k : Nat) (s : State) (r : EntryRow), entryAt k = some r → r.acc = .rwp → s.get K.ecatAlState ≠ 2 →
    writeCheck k s = some 0x08000022) ∧
  (∀ (port : Port) (k : Nat) (d : List Byte) (dc : Nat) (s : State), k ≠ K.seqImage → k ≠ K.cfgImage → d.length < widthOf k →
    wrBytes port k d dc s = refuse 0x06070010 s) ∧
  (∀ (port : Port) (k : Nat) (d : List Byte) (dc : Nat) (s : State), k ≠ K.seqImage → k ≠ K.cfgImage → widthOf k < d.length →
    wrBytes port k d dc s = refuse 0x06070012 s)

/-- A plain write that the staging set does not take: the entry reads the value without its reserved bits, and every other entry reads
as before; one that is stride-scheduled waits for stride k + 2 (R44). A value out of range or against a consistency rule is
refused. While a program runs or the staging set holds something, a configuration entry's write goes to the set: the set holds it,
and every entry but those that show the set reads as before. -/
def Obligations.PlainAndStagedWrites : Prop :=
  (∀ (k v : Nat) (s : State) (r : EntryRow), entryAt k = some r → r.acc ≠ .w1c →
    (r.rule.ok r.ty (clearMask v (reservedBits k)) = false → plainWrite k v s = refuse 0x06090030 s) ∧
    (r.rule.ok r.ty (clearMask v (reservedBits k)) = true → s.programRuns = false → s.staging.set = [] →
      (consistent k (fun j => if j = k then clearMask v (reservedBits k) else s.dueGet j) = false →
        plainWrite k v s = refuse 0x06090030 s) ∧
      (consistent k (fun j => if j = k then clearMask v (reservedBits k) else s.dueGet j) = true →
        (strideScheduled k = true → plainWrite k v s = accept { s with staging := { s.staging with
          direct := s.staging.direct ++ [(s.strideTarget, k, clearMask v (reservedBits k))] } }) ∧
        (strideScheduled k = false → (∀ w u, cameIntoUse k w u = u) →
        ∃ t, plainWrite k v s = accept t ∧ t.get k = clearMask v (reservedBits k) ∧ SameBut [k] s t)))) ∧
  (∀ (k v : Nat) (s : State) (r : EntryRow), entryAt k = some r → r.acc ≠ .w1c → r.staged k = true →
    (s.programRuns = true ∨ s.staging.set ≠ []) →
    r.rule.ok r.ty (clearMask v (reservedBits k)) = true →
    consistent k (fun j => if j = k then clearMask v (reservedBits k) else s.stagedGet j) = true →
    s.staging.set.length < 256 →
    ∃ t, plainWrite k v s = accept t ∧ t.stagedGet k = clearMask v (reservedBits k) ∧
      (∀ j, j ≠ k → lookupD t.staging.set j (s.get j) = s.stagedGet j) ∧
      SameBut [K.cfgStageCount, K.cfgStageState, K.cfgCommitAt] s t)

/-- A w1c entry: a write of 1 clears a bit, unless the hardware set it since the last publication; a hardware set sets it. -/
def Obligations.WriteOneToClear : Prop :=
  ∀ (s : State) (k m i : Nat),
    ((s.clearFlag k m).get k).testBit i = ((s.get k).testBit i && !(m.testBit i && !(lookupD s.fresh k 0).testBit i)) ∧
    ((s.flag k m).get k).testBit i = ((s.get k).testBit i || m.testBit i) ∧
    (∀ n, (((s.flag k m).clearFlag k n).get k).testBit i =
      (((s.flag k m).get k).testBit i && !(n.testBit i && !((lookupD s.fresh k 0).testBit i || m.testBit i)))) ∧
    SameBut [k] s (s.clearFlag k m) ∧ SameBut [k] s (s.flag k m)

/-- TIME_CAPTURE, CFG_COMMIT and CFG_DISCARD. -/
def Obligations.CaptureCommitDiscard : Prop :=
  ∀ (port : Port) (s b : State), b = s.openTick → b.answers port = true →
    (∀ dc : BitVec 64, Accepts (.timeCapture port 1 dc) port s
      (((((b.put K.timeCapBeat b.clock.beat).put K.timeCapStrideCount (b.get K.strideCount)).put K.timeCapStridePhase
        b.stride.phase).put K.timeCapDc (if b.get K.ecatDcActive = 1 then dc.toNat else 0)).put K.timeCapEpoch
        (b.clock.beat / 1000000 % 2 ^ 32))) ∧
    (∀ (v : BitVec 8) (dc : BitVec 64), v ≠ 1 → Refuses (.timeCapture port v dc) port 0x06090030 s) ∧
    (∀ v : BitVec 32, b.staging.set = [] ∨ b.staging.commit ≠ none ∨
      (b.get K.wdgLock = 1 ∧ ∃ e ∈ b.staging.set, K.wdgEn ≤ e.1 ∧ e.1 ≤ K.wdgStartDelay) →
      Refuses (.cfgCommit port v) port 0x08000022 s) ∧
    (b.staging.set ≠ [] → b.staging.commit = none → b.lockedSet = false →
      Accepts (.cfgCommit port 0) port s (showStaging { b with staging := { b.staging with
        commit := some (if b.staging.set.any (fun e => strideScheduled e.1) then .stride b.strideTarget else .tick) } }) ∧
      ∀ v : BitVec 32, v ≠ 0 →
        if stridesAhead b.strideTarget v.toNat < 2 ^ 31 then
          Accepts (.cfgCommit port v) port s (showStaging { b with staging := { b.staging with commit := some (.stride v.toNat) } })
        else Refuses (.cfgCommit port v) port 0x06090030 s) ∧
    Accepts (.cfgDiscard port 1) port s (showStaging { b with staging := { b.staging with set := [], commit := none } }) ∧
    (∀ v : BitVec 8, v ≠ 1 → Refuses (.cfgDiscard port v) port 0x06090030 s)

/-- CLK_XTAL_LOST once between resets: the fallback oscillator, counted, its source raised; in a boot the source is taken at its end.
STRIDE_START after the last unit: the events that the old stride had left take effect (R41), the count goes on (past the last
number to 1), the time since unit 0 keeps what lies past the stride's length, a HOLDOVER stride is counted, what is due at the new
stride comes into use, and the sources of the beat are taken in order. STRIDE_HOLD_LONG raises its source once in a HOLDOVER. -/
def Obligations.CrystalAndStrideStart : Prop :=
  (∀ s t : State, t = (s.put K.timeClkSrc 1).bump K.timeClkSwitchCnt →
    (s.get K.timeClkSrc = 0 → s.fastUp = true → Gives .clkXtalLost s (takeSource .clkXtalLost 0 t)) ∧
    (∀ b, s.get K.timeClkSrc = 0 → s.power.boot = some b →
      Gives .clkXtalLost s { t with power := { t.power with boot := some { b with found := b.found ++ [(.clkXtalLost, 0)] } } }) ∧
    (s.get K.timeClkSrc ≠ 0 → Gives .clkXtalLost s s)) ∧
  (∀ s t : State, s.fastUp = true →
    (0 < s.stride.length → s.stride.length ≤ s.stride.elapsed →
      Gives .strideStart s (collectDue (newStride (strideWork s)))) ∧
    (s.stride.elapsed < s.stride.length → Gives .strideStart s (collectDue s)) ∧
    (t = ({ s with
        stride := { s.stride with elapsed := s.stride.elapsed - s.stride.length, prev := -1
                                  acted := s.stride.acted.filter (fun e => e.1 == 4096) }
        seq := { s.seq with stridesLeft := s.seq.stridesLeft - 1 } } : State).put K.strideCount (nextStride (s.get K.strideCount)) →
      (s.strideState ≠ .holdover → newStride s = strideDue (nextStride (s.get K.strideCount)) t) ∧
      (s.strideState = .holdover → newStride s = strideDue (nextStride (s.get K.strideCount)) (t.bump K.strideHoldStrides))) ∧
    (s.strideState = .holdover → s.stride.holdLong = false → s.get K.strideHoldWarn ≠ 0 →
      s.get K.strideHoldWarn ≤ s.get K.strideHoldStrides →
      Gives .strideHoldLong s (takeSource .strideHoldLong 0 { s with stride := { s.stride with holdLong := true } })))

/-- STRIDE_EDGE counts only the edge that STRIDE.EDGE selects, at the selected reference; a glitch is a rejected edge whatever the
source is. In HOLDOVER any edge leads to ACQUIRING (R38); else the edges before the DIV-th only count (R36). STRIDE_MISSING_EDGE
where the next edge is missing: counted and flagged; LOCKED goes to HOLDOVER with STRIDE.MISS_N missing in a row, ACQUIRING at
once. -/
def Obligations.StrideEdgesFoundAndMissing : Prop :=
  (∀ s : State, s.fastUp = true →
    (∀ (rising : Bool) (x : Int), s.stride.source < 2 → (s.get K.strideEdge = 0 ↔ rising = true) →
      Gives (.strideEdge (.strideIn rising x)) s (referenceEdge ((s.clock.lastTick : Int) * 100 + x) s)) ∧
    (∀ (rising : Bool) (x : Int), 2 ≤ s.stride.source ∨ ¬ (s.get K.strideEdge = 0 ↔ rising = true) →
      Gives (.strideEdge (.strideIn rising x)) s s) ∧
    Gives (.strideEdge .glitch) s ((s.bump K.strideRejectCnt).flag K.strideStatus 4) ∧
    (∀ x, s.stride.source = 2 → s.get K.ecatDcActive = 1 →
      Gives (.strideEdge (.sync0 x)) s (referenceEdge ((s.clock.lastTick : Int) * 100 + x) s)) ∧
    (∀ x, s.stride.source ≠ 2 ∨ s.get K.ecatDcActive ≠ 1 → Gives (.strideEdge (.sync0 x)) s s) ∧
    (s.strideState = .holdover → ∀ x, referenceEdge x s = acceptEdge x { enterStride .acquiring s with
      stride := { (enterStride .acquiring s).stride with div := 0 } }) ∧
    (s.strideState ≠ .holdover → s.stride.div + 1 < s.get K.strideDiv → ∀ x,
      referenceEdge x s = { s with stride := { s.stride with div := s.stride.div + 1 } })) ∧
  (∀ s t : State, s.edgeMissing = true →
    t = { (s.bump K.strideMissCnt).flag K.strideStatus 8 with stride := { s.stride with missed := s.stride.missed + 1 } } →
    (s.strideState = .locked → s.stride.badRun + 1 < s.get K.strideMissN →
      Gives .strideMissingEdge s { t with stride := { t.stride with badRun := t.stride.badRun + 1 } }) ∧
    (s.strideState = .locked → s.get K.strideMissN ≤ s.stride.badRun + 1 →
      Gives .strideMissingEdge s (enterStride .holdover { t with stride := { t.stride with badRun := t.stride.badRun + 1 } })) ∧
    (s.strideState = .acquiring → Gives .strideMissingEdge s (enterStride .holdover t)) ∧
    (s.strideState = .holdover → Gives .strideMissingEdge s t))

/-- The surge, the power-fail warning and its end (R59, R60), as runs of VSYS samples bring them: filtered VSYS is the mean of the
last 8 samples (R58), and a warning that they raise starts the power-fail work (R396). The divider's fault sources (R71): each at
its ground stops it, and the collector takes the source. What a stop of the divider leaves (R69, R71): FAULT, IBUS not good, no
trim, and none of the rails 0 to 11 drives its output. -/
def Obligations.DividerSurgeFaultsAndStop : Prop :=
  (∀ s : State,
    (s.fastUp = true → ∀ (l : List (Nat × Nat)) (t : State), t = { takeVsys l s with clock := s.clock, pending := s.pending } →
      exec (.fdSurge l) s = .next t ∧ exec (.vsysPfw l) s = .next t ∧ exec (.pfwClear l) s = .next t ∧
      exec (.fdRisingChange l) s = .next t ∧ exec (.fdFallingChange l) s = .next t ∧ exec (.fdForcedChange l) s = .next t ∧
      exec (.fdVsysOv l) s = .next t) ∧
    (∀ (r : Nat × Nat) (l : List (Nat × Nat)),
      (s.divider.pfw = false → (vsysRun r s).divider.pfw = true → takeVsys (r :: l) s = takeVsys l (powerFailWork (vsysRun r s))) ∧
      (s.divider.pfw = true ∨ (vsysRun r s).divider.pfw = false → takeVsys (r :: l) s = takeVsys l (vsysRun r s))) ∧
    (∀ (v n : Nat) (h : List Nat), h.length ≤ 8 → (filterRun v n h).2 = (List.replicate (min n 8) v ++ h).take 8 ∧
      mean8 (List.replicate 8 v ++ h) = v) ∧
    (∀ v, 64000 < v → s.divider.surging = false → surgeBegin v s = { (s.flag K.fdStatus 4).bump K.fdSurgeCnt with
        divider := { s.divider with surging := true, surgeTicks := 0, surgeRaised := false } }) ∧
    (∀ v, v ≤ 64000 → surgeBegin v s = s) ∧
    (s.divider.pfw = false → 2 ≤ s.divider.pfwBeats →
      pfwRaise s = takeSource .vsysPfw 0 { s.flag K.fdStatus 2 with divider := { s.divider with pfw := true } }) ∧
    (s.divider.pfw = true → 1000 ≤ s.divider.clearBeats →
      pfwClears s = endCondition 0x1200 { s with divider := { s.divider with pfw := false } }) ∧
    (s.fastUp = true → s.divider.surging = true → s.divider.surgeRaised = false → 100 ≤ s.divider.surgeTicks →
      Gives .fdSurgeLong s (takeSource .fdSurgeLong 0 (fdStop 0x1100
        { s with divider := { s.divider with surgeRaised := true } })))) ∧
  (∀ s : State,
    (∀ v, 80000 ≤ v → s.divider.vsysOver = false → vsysComparator v s =
      takeSource .fdVsysOv 0 (fdStop 0x1000 { s with divider := { s.divider with vsysOver := true } })) ∧
    (∀ v, v < 80000 → s.divider.vsysOver = true →
      vsysComparator v s = endCondition 0x1000 { s with divider := { s.divider with vsysOver := false } }) ∧
    (∀ v n, 17000 < v → 2 ≤ n → s.divider.ibusOvBeats = 0 → ∃ u, ibusRun (v, n) s =
      stopEnds v (softstartEnds v (takeSource .fdIbusOv 0 (fdStop 0x1300 u))) ∧ u.divider.ibusOvBeats = n ∧
      u.od = s.od) ∧
    (∀ v n, v < 7500 → 4 ≤ n → s.divider.ibusUvBeats = 0 → s.fd = .run ∨ s.fd = .swap → ∃ u, ibusRun (v, n) s =
      stopEnds v (softstartEnds v (takeSource .fdIbusUv 0 (fdStop 0x1400 u))) ∧ u.divider.ibusUvBeats = n ∧
      u.od = s.od) ∧
    (s.fastUp = true →
      (∀ n, 32 ≤ n → Gives (.fdOc n) s (takeSource .fdOc 0 (fdStop 0x1500 s))) ∧
      (∀ n, n < 32 → Gives (.fdOc n) s s) ∧
      (∀ d n, s.get K.fdCflyTol < d → (s.fd = .run ∧ 4 ≤ n) ∨ (s.fd = .swap ∧ s.divider.slewEnd = none) ∨
        (s.fd = .balance ∧ s.divider.entered + 4000 ≤ s.clock.beat) →
        Gives (.fdCflyImbal d n) s (takeSource .fdCflyImbal 0 (fdStop 0x1600 s))) ∧
      (∀ d n, d ≤ s.get K.fdCflyTol → Gives (.fdCflyImbal d n) s s) ∧
      Gives .fdGate s (takeSource .fdGate 0 (fdStop 0x1700 s)))) ∧
  (∀ (src : Nat) (s : State), s.fd = .balance ∨ s.fd = .softstart ∨ s.fd = .run ∨ s.fd = .swap →
    (fdStop src s).fd = .fault ∧ (fdStop src s).get K.fdIbusGood = 0 ∧ (fdStop src s).get K.fdTrim = 0 ∧
    ∀ n, n < 12 → ((fdStop src s).rail n).driven = false ∧ (s.rail n = .off → (fdStop src s).rail n = .off) ∧
      (s.rail n ≠ .off → s.rail n ≠ .discharge → (fdStop src s).rail n = .fault ∧ (fdStop src s).get (K.railCause n) = 5 ∨
        s.rail n = .fault))

/-- Ratio changes (R59, R63, R65, R66, R68): rising, falling and forced changes go to SWAP with their ratio; a surge keeps its ratio,
and a forced change does not wait for the hold time. The swap comes once the pre-balance and a slew down are over and no quiet
window is open; it shows the new ratio at once, and ends the change unless IBUS still has to slew up. The divider's states (R69,
R70) and a write of FD.RATIO_MODE (R65). -/
def Obligations.DividerRatioAndStates : Prop :=
  (∀ s : State,
    (s.autoRatio = true → s.holdOver = true → s.get K.fdRatio < 4 → s.get K.fdDwell ≤ s.divider.riseBeats →
      risingChange s = startChange (s.get K.fdRatio + 1) s) ∧
    (s.autoRatio = true → s.holdOver = true → 1 < s.get K.fdRatio → s.get K.fdDwell ≤ s.divider.fallBeats →
      fallingChange s = startChange (s.get K.fdRatio - 1) s) ∧
    (s.autoRatio = true → 1 < s.get K.fdRatio → 2 ≤ s.divider.forceBeats →
      forcedChange s = startChange (s.get K.fdRatio - 1) ((s.flag K.fdStatus 0x20).bump K.fdForcedCnt)) ∧
    (s.autoRatio = false ∨ s.holdOver = false → risingChange s = s ∧ fallingChange s = s) ∧
    (s.divider.surging = true ∨ s.fd ≠ .run ∨ s.get K.fdRatioMode ≠ 0 → autoChange s = s) ∧
    (∀ n, (startChange n s).fd = .swap ∧ (startChange n s).divider.changeTo = some n ∧
      SameBut [K.fdState, K.fdStatus, K.fdTrim] s (startChange n s)) ∧
    (∀ n, s.swapReady 0 = some n → Gives .fdSwapDone s (swapLadder n s)) ∧
    (s.swapReady 0 = none → Gives .fdSwapDone s s) ∧
    (s.qw.openK ≠ none ∨ s.divider.surging = true → ∀ pre, s.swapReady pre = none) ∧
    (∀ n, s.fd = .swap → n < s.get K.fdRatio → (swapLadder n s).get K.fdRatio = n ∧ (swapLadder n s).fd = .swap ∧
      (swapLadder n s).divider.slewEnd = some (s.clock.beat + s.slewBeats n (s.get K.fdRatio))) ∧
    (∀ n, s.get K.fdRatio ≤ n → s.divider.pendingMode = false → (swapLadder n s).get K.fdRatio = n ∧ (swapLadder n s).fd = .run ∧
      (swapLadder n s).divider.lastChange = some s.clock.beat ∧ (swapLadder n s).divider.changeTo = none)) ∧
  (∀ s b : State, b = s.openTick →
    (∀ d, s.fastUp = true → s.fd = .balance → d ≤ s.get K.fdCflyTol → Gives (.fdBalanceDone d) s { setFd .softstart s with
      divider := { (setFd .softstart s).divider with rampFrom := s.divider.ibusNow } }) ∧
    (∀ l : List (Nat × Nat), s.fastUp = true →
      Gives (.fdSoftstartDone l) s (each l ibusRun s) ∧ Gives (.fdStopped l) s (each l ibusRun s) ∧
      Gives (.fdIbusOv l) s (each l ibusRun s) ∧ Gives (.fdIbusUv l) s (each l ibusRun s)) ∧
    (∀ v, s.fd = .softstart → s.rampDone v = true →
      softstartEnds v s = modeAtRun (startWaiting (setIbusGood true (setFd .run s)))) ∧
    (∀ v, s.fd = .softstart → s.rampDone v = false → softstartEnds v s = s) ∧
    (∀ v, s.fd = .stopping → v < 1000 → stopEnds v s = fdBegin (fdToOff s)) ∧
    (s.fastUp = true → s.fd = .softstart → s.divider.entered + 2 * s.get K.fdSsTime ≤ s.clock.beat →
      Gives .fdStart s (takeSource .fdStart 0 (fdStop 0x1800 s))) ∧
    (s.fastUp = true → s.fd = .run → s.dividerUsed = false → s.get K.fdOffDelay < s.divider.offTicks →
      Gives .fdOffDelay s (setIbusGood false (setFd .stopping s))) ∧
    (∀ (port : Port) (v : BitVec 8), b.answers port = true →
      (v.toNat ≤ 4 → b.get K.cfgLock ≠ 1 → b.programRuns = false → b.staging.set = [] →
        Accepts (.fdRatioMode port v) port s (applyValue K.fdRatioMode v.toNat b)) ∧
      (4 < v.toNat → b.get K.cfgLock ≠ 1 → Refuses (.fdRatioMode port v) port 0x06090030 s) ∧
      (b.get K.cfgLock = 1 → Refuses (.fdRatioMode port v) port 0x08000022 s)))

/-- RAIL[n].CMD in ACTIVE with no program running: the enable and the disable of the rail; refused otherwise, and on an always-on L0.
The transitions of a rail (R91, R94): the end of SOFTSTART, its timeout, the end of SLEWING, of RAMPDOWN and of DISCHARGE, and a
discharge that takes too long. -/
def Obligations.RailCommandsAndTransitions : Prop :=
  (∀ (port : Port) (n : Fin 16) (s b : State), b = s.openTick → b.answers port = true →
    (b.dev = .active → b.programRuns = false → b.alwaysOn n.val = false →
      Accepts (.railEnable port n) port s (railEnable n.val b) ∧
      Accepts (.railDisable port n) port s (railDisable n.val 1 b)) ∧
    (b.dev ≠ .active ∨ b.programRuns = true ∨ b.alwaysOn n.val = true →
      Refuses (.railEnable port n) port 0x08000022 s ∧ Refuses (.railDisable port n) port 0x08000022 s)) ∧
  (∀ (n : Fin 16) (v : Nat) (s b : State), b = s.openTick → s.fastUp = true →
    (s.rail n.val = .softstart → s.railRef n.val = (s.railE n.val).target → nearCode v (s.railE n.val).target = true →
      Gives (.railSoftstartDone n v) s (railToOn n.val s)) ∧
    (s.rail n.val = .softstart → (s.railE n.val).raised = false →
      (s.railE n.val).entered + 2 * s.get (K.railSsTime n.val) ≤ s.clock.beat →
      Gives (.railSs n) s (takeSource .railSs n.val (railFault n.val (0x2900 + n.val) 0xFF
        (s.setRailE n.val { s.railE n.val with raised := true })))) ∧
    (s.rail n.val = .slewing → s.railRef n.val = (s.railE n.val).target →
      Gives (.railSlewDone n) s (blankUv n.val (setRail n.val .on s))) ∧
    (s.rail n.val = .rampdown → v < s.get (K.railDisTh n.val) → Gives (.railRampdownDone n v) s (railToDischarge n.val s)) ∧
    (b.coreUp = true → b.rail n.val = .discharge → v < b.get (K.railDisTh n.val) →
      GivesAtTick (.railDischarged n v) s (tickToggles b.tickSignals
        (railToOff n.val (b.setRailE n.val { b.railE n.val with discharged := true })))) ∧
    (s.rail n.val = .discharge → s.discharged n.val = false → (s.railE n.val).raised = false →
      (s.railE n.val).entered + s.get (K.railDisTime n.val) * 1000 ≤ s.clock.beat →
      Gives (.railDisSlow n) s (takeSource .railDisSlow n.val
        ((s.setRailE n.val { s.railE n.val with raised := true }).flag (K.railStatus n.val) 0x100))))

/-- An enable: a rail that is neither OFF nor in DISCHARGE stays; a refused one stays where it is with the code in CAUSE; else it is
READY where the partner carries it, ENABLING where a rail 0 to 11 waits for IBUS, and otherwise in SOFTSTART or, where VOUT has
reached VSET, ON. -/
def Obligations.EnableOutcome : Prop :=
  ∀ (n : Nat) (s : State), n < 16 →
    (s.rail n ≠ .off → s.rail n ≠ .discharge → railEnable n s = s) ∧
    (s.rail n = .off ∨ s.rail n = .discharge →
      (∀ c, s.enableRefusal n = some c →
        (railEnable n s).rail n = s.rail n ∧ (railEnable n s).get (K.railCause n) = c ∧
        SameBut [K.railCause n, K.railStatus n] s (railEnable n s)) ∧
      (s.enableRefusal n = none →
        (s.enableToReady n = true → (railEnable n s).rail n = .ready) ∧
        (s.enableToReady n = false → n < 12 → s.get K.fdIbusGood = 0 → (railEnable n s).rail n = .enabling) ∧
        (s.enableToReady n = false → 12 ≤ n ∨ s.get K.fdIbusGood ≠ 0 →
          (railEnable n s).rail n = if s.startTarget n * 5 ≤ s.railVout n * 2 then .on else .softstart)))

/-- A rail takes a state: it reads that state, its instant is kept, no other rail and no phase changes, and its channel's GOOD is 0
where the state forces it (R149). The reference of a rail moves from where it stands towards its target, never past it, and has
reached it once enough beats have passed (R87). -/
def Obligations.RailStateAndReference : Prop :=
  (∀ (n : Nat) (x : RailState) (s : State), n < 16 →
    (setRail n x s).rail n = x ∧ ((setRail n x s).railE n).entered = s.clock.beat ∧
    (∀ j, j < 16 → j ≠ n → (setRail n x s).rail j = s.rail j) ∧ (∀ p, p < 8 → (setRail n x s).phase p = s.phase p) ∧
    (x.forcesGood = true → (setRail n x s).get (K.supGood n) = 0)) ∧
  (∀ (e : RailEngine) (b : Nat), e.rateDen ≠ 0 →
    (min e.refFrom e.target ≤ e.refAt b ∧ e.refAt b ≤ max e.refFrom e.target) ∧
    (b ≤ e.refBeat → e.refAt b = e.refFrom) ∧
    ((e.refFrom - e.target) + (e.target - e.refFrom) ≤ e.rateNum * (b - e.refBeat) / e.rateDen → e.refAt b = e.target) ∧
    (∀ c, b ≤ c → (e.refFrom ≤ e.target → e.refAt b ≤ e.refAt c) ∧ (e.target ≤ e.refFrom → e.refAt c ≤ e.refAt b)))

/-- Phase sources (R106): the phase goes out with its cause, then the collector takes the source. Switching sources need a phase that
drives its rail, the others an assigned one; each needs its ground: its cycles, its current, its temperature, its overload timer
at 10,000 (R107), which rises by one a beat above 10,000 mA and falls by one for 9 beats that are not. A rail left without a
phase, and reverse current at the ORing FET of any rail (R106, R115, R125). A phase goes out: it reads FAULT with its cause, its
count is one more, its overload timer is 0; outside burst on a rail that does not regulate, every other phase reads as before. A
phase that cannot go out stays. -/
def Obligations.PhaseFaults : Prop :=
  (∀ (p : Fin 8) (s : State), s.fastUp = true →
    (s.drives p.val = true →
      (∀ (cycles : Nat) (i : Int) (beats : Nat), 16 ≤ cycles ∨ (14000 < i ∧ 4 ≤ beats) →
        Gives (.phOc p cycles i beats) s (takeSource .phOc p.val (phaseOut p.val 1 s))) ∧
      (∀ cycles, 16 ≤ cycles → Gives (.phNeg p cycles) s (takeSource .phNeg p.val (phaseOut p.val 3 s))) ∧
      (∀ cycles, 2 ≤ cycles → Gives (.phSw p cycles) s (takeSource .phSw p.val (phaseOut p.val 5 s))) ∧
      (∀ (diff : Int) (cycles : Nat), s.get K.paImbalTol * 100 < diff.natAbs → 64 ≤ cycles →
        Gives (.phImbal p diff cycles) s (takeSource .phImbal p.val (phaseOut p.val 7 s)))) ∧
    (∀ l, Gives (.phOvl p l) s (each l (phaseRun p.val) s)) ∧
    (∀ n t, s.drives p.val = true → s.get (K.phaseOvlBeats p.val) ≠ 0 → 10000 ≤ s.get (K.phaseOvlBeats p.val) + n →
      t = (s.put (K.phaseOvlBeats p.val) (min 65535 (s.get (K.phaseOvlBeats p.val) + n))).setPhaseE p.val
        { s.phaseE p.val with under := 0 } → n ≠ 0 →
      phaseRun p.val (true, n) s = takeSource .phOvl p.val (phaseOut p.val 2 t)) ∧
    (∀ n, s.phase p.val ≠ .fault → s.phase p.val ≠ .unused → n ≠ 0 →
      phaseRun p.val (false, n) s = (s.put (K.phaseOvlBeats p.val)
        (s.get (K.phaseOvlBeats p.val) - ((s.phaseE p.val).under + n) / 9)).setPhaseE p.val
          { s.phaseE p.val with under := ((s.phaseE p.val).under + n) % 9 }) ∧
    (s.phase p.val ≠ .unused →
      (∀ temp : Int, (s.get (K.phaseTSd p.val) : Int) ≤ temp → (s.phaseE p.val).hot = false →
        Gives (.phTsd p temp) s (takeSource .phTsd p.val (phaseOut p.val 4
          (s.setPhaseE p.val { s.phaseE p.val with hot := true })))) ∧
      (∀ temp : Int, temp < s.get (K.phaseTSd p.val) → Gives (.phTsd p temp) s s) ∧
      Gives (.phDrv p) s (takeSource .phDrv p.val (phaseOut p.val 6 s)))) ∧
  (∀ (n : Fin 8) (s : State), s.fastUp = true →
    ((s.rail n.val).driven = true → s.driving n.val = [] →
      Gives (.railPhLost n) s (takeSource .railPhLost n.val (railFault n.val (0x2800 + n.val) 0xFF (s.flag (K.railStatus n.val) 0x40)))) ∧
    (∀ (m : Fin 16) (sum : Int) (beats : Nat),
      (s.get (K.railOrgate m.val) = 1 → sum < -1000 → 2 ≤ beats →
        Gives (.railReverse m sum beats) s (takeSource .railReverse m.val
          ((orgate m.val (s.setRailE m.val { s.railE m.val with reversed := true })).flag (K.railStatus m.val) 0x80)) ∧
        (orgate m.val (s.setRailE m.val { s.railE m.val with reversed := true })).get (K.railOrgate m.val) = 0) ∧
      (-1000 ≤ sum → Gives (.railReverse m sum beats) s s))) ∧
  (∀ (p c : Nat) (s : State), p < 8 → (s.phaseE p).rail < 8 →
    (s.canFault p = true → s.get (K.railSubmode (s.phaseE p).rail) ≠ 1 → (s.rail (s.phaseE p).rail).regulating = false →
      (phaseOut p c s).phase p = .fault ∧ (phaseOut p c s).get (K.phaseFaultCause p) = c ∧
      (phaseOut p c s).get (K.phaseOvlBeats p) = 0 ∧
      (phaseOut p c s).get (K.phaseFaultCnt p) = countUp (K.phaseFaultCnt p) (bitsOf (K.phaseFaultCnt p)) (s.get (K.phaseFaultCnt p)) ∧
      (∀ q, q < 8 → q ≠ p → (phaseOut p c s).phase q = s.phase q) ∧
      (∀ n, n < 16 → (phaseOut p c s).rail n = s.rail n)) ∧
    (s.canFault p = false → phaseOut p c s = s))

/-- Shedding and fast add (R95): the highest ACTIVE phase is shed, the lowest SHED phase starts remount. Burst (R96 to R99, R121):
entry sheds every ACTIVE phase but the lowest; half a band below VSET a burst starts at once in free placement, waits for a slot
in slotted placement, and starts unplaced at one and a half bands, once; above that level none waits; half a band above VSET it
ends; each ground of R97 leaves burst, and STATUS.BURST_OUT says so. -/
def Obligations.SheddingAndBurst : Prop :=
  (∀ (n : Fin 8) (s : State), s.fastUp = true → s.get (K.railShedEn n.val) = 1 → s.ccm n.val = true →
    (∀ p, (s.phasesIn n.val .active).getLast? = some p → s.get (K.railMinPh n.val) < (s.phasesIn n.val .active).length →
      s.get (K.railShedTicks n.val) ≤ (s.railE n.val).shedCount →
      Gives (.phaseShed n) s (reinterleave n.val
        ((shedPhase p s).setRailE n.val { s.railE n.val with shedCount := 0 }))) ∧
    (∀ p, (s.phasesIn n.val .shed).head? = some p → s.remounting n.val = false →
      ∀ (q : Fin 8) (i : Int), (s.phasesIn n.val .active).contains q.val = true → 9500 < i →
        Gives (.fastAdd n q i) s (startRemount p s)) ∧
    (∀ (q : Fin 8) (i : Int), i ≤ 9500 → Gives (.fastAdd n q i) s s) ∧
    (∀ p, p < 8 → (startRemount p s).phase p = .shadow ∧ (shedPhase p s).phase p = .shed)) ∧
  (∀ (n : Fin 8) (s : State), s.fastUp = true →
    (s.ccm n.val = true →
      (s.dev = .doze ∧ s.remounting n.val = false) ∨ (s.get (K.railMode n.val) = 1 ∧ 4 ≤ (s.railE n.val).lowCount) →
      Gives (.burstEntry n) s (burstEnter n.val s)) ∧
    (s.get (K.railSubmode n.val) = 1 → (s.railE n.val).bursting = true ∨ (s.railE n.val).burstHeld = true → ∀ v : Nat,
      Gives (.burstStart n v) s s ∧ Gives (.burstSlot n) s s) ∧
    (s.get (K.railSubmode n.val) = 1 → (s.railE n.val).bursting = false → (s.railE n.val).burstHeld = false → ∀ v : Nat,
      ((s.get (K.railBurstBand n.val) : Int) * 500 ≤ s.below n.val v →
        (s.get (K.railBurstPlace n.val) = 0 → Gives (.burstStart n v) s (burstGo n.val s)) ∧
        (s.get (K.railBurstPlace n.val) ≠ 0 → s.below n.val v < (s.get (K.railBurstBand n.val) : Int) * 1500 →
          Gives (.burstStart n v) s (s.setRailE n.val { s.railE n.val with burstPending := true }))) ∧
      (s.get (K.railBurstPlace n.val) ≠ 0 → (s.get (K.railBurstBand n.val) : Int) * 1500 ≤ s.below n.val v →
        Gives (.burstStart n v) s (burstGo n.val ((s.bump (K.railBurstUnplacedCnt n.val)).flag (K.railStatus n.val) 0x20))) ∧
      (s.below n.val v < (s.get (K.railBurstBand n.val) : Int) * 500 →
        Gives (.burstStart n v) s (s.setRailE n.val { s.railE n.val with burstPending := false }))) ∧
    (s.get (K.railSubmode n.val) = 1 → (s.railE n.val).bursting = false → (s.railE n.val).burstPending = true →
      (s.railE n.val).burstHeld = false →
      s.get (K.railBurstPlace n.val) = 1 → s.slotBeat n.val = true →
      Gives (.burstSlot n) s (burstGo n.val
        (s.unitTaken (s.gridUnit (s.get (K.railBurstOfs n.val)) (s.get K.paBurstPitch)) (K.railBurstOfs n.val)))) ∧
    (s.get (K.railSubmode n.val) = 1 →
      (∀ v : Nat, (s.get (K.railBurstBand n.val) : Int) * 500 ≤ -(s.below n.val v) →
        Gives (.burstEnd n v) s (s.setRailE n.val { s.railE n.val with bursting := false })) ∧
      (2 * s.get (K.railBurstI n.val) < s.get (K.railIout n.val) → Gives (.burstExit n .load) s (burstLeave n.val s)) ∧
      (∀ v : Nat, (s.get (K.railBurstBand n.val) : Int) * 2000 ≤ s.below n.val v →
        Gives (.burstExit n (.undershoot v)) s (burstLeave n.val s)) ∧
      (s.get (K.railMode n.val) = 0 → s.dev ≠ .doze → Gives (.burstExit n .mode) s (burstLeave n.val s)) ∧
      (s.rail n.val ≠ .on → Gives (.burstExit n .target) s (burstLeave n.val s)) ∧
      (s.phasesIn n.val .active = [] → Gives (.burstExit n .fault) s (burstReplace n.val s)) ∧
      (burstLeave n.val s).get (K.railSubmode n.val) = 0 ∧
      ((burstLeave n.val s).get (K.railStatus n.val)).testBit 4 = true))

/-- Quiet windows (R41, R100 to R105): of the windows due in a beat the lowest alone may open; it opens for its length with QUIET
asserted and holds the phases of its mask that drive their rail, at its begin or later; any other, and any while a window is open,
is dropped and counted; a window is due once; at its end QUIET releases and the phases are free; edges of a phase that its mask
names and that drives its rail are breaches, counted each, and the first of a window owes the source. -/
def Obligations.QuietWindows : Prop :=
  ∀ (k : Fin 8) (s : State), s.fastUp = true →
    (∀ (edges xbEdges : List Nat) (t : State), t = strideWork s →
      (s.qw.openK ≠ some k → t.qw.openK = some k → Gives (.qwOpen k edges xbEdges) s (collectDue (windowEdges edges xbEdges t))) ∧
      (s.qw.openK = some k ∨ t.qw.openK ≠ some k → Gives (.qwOpen k edges xbEdges) s (collectDue t))) ∧
    (∀ (u r : Nat) (may : Bool) (j : Fin 8), (u, r, StrideItem.window may j) ∈ s.windowItems ↔
      s.windowDue j.val = true ∧ u = (if s.windowUnit j.val = 4096 then 0 else s.windowUnit j.val) ∧ r = K.qwCtrl j.val ∧
        (may = true ↔ ∀ i : Fin 8, s.windowDue i.val = true → j ≤ i)) ∧
    (s.windowDue k.val = true → s.windowBlocked = false →
      (∀ p, p < 8 → s.drives p = true → (s.windowMask k.val).testBit p = true →
        s.exempt (field (s.get (K.qwCtrl k.val)) 0 8) p = false) →
      ∃ t, openWindow true k s = t ∧ t.qw.openK = some k ∧ t.pins.quiet = true ∧
        t.qw.closeAt = s.clock.beat * 100 + field (s.get (K.qwCtrl k.val)) 0 8 ∧ t.qw.exempt = 0 ∧
        (∀ p, p < 8 → t.heldStill p = (s.drives p && (s.windowMask k.val).testBit p)) ∧
        t.get K.paQwOpenCnt = countUp K.paQwOpenCnt (bitsOf K.paQwOpenCnt) (s.get K.paQwOpenCnt) ∧
        SameBut [K.paQwOpenCnt, K.paQwStatus] s t) ∧
    (∀ (may : Bool) (u : State), s.windowDue k.val = true → u = s.unitTaken (s.windowUnit k.val) (K.qwCtrl k.val) →
      (may = false ∧ s.qw.openK = none) ∨ (s.qw.openK ≠ none ∧ s.clock.beat * 100 < s.qw.closeAt) →
      openWindow may k s = raiseLater .qwDrop k.val ((u.bump K.paQwDropCnt).flag K.paQwStatus 2)) ∧
    (∀ may, s.windowDue k.val = false → openWindow may k s = s) ∧
    ((s.unitTaken (s.windowUnit k.val) (K.qwCtrl k.val)).windowDue k.val = false) ∧
    (s.qw.openK ≠ none → s.qw.closeAt ≤ s.clock.beat * 100 + 100 → Gives .qwClose s (windowEnds s)) ∧
    (s.qw.openK = none ∨ s.clock.beat * 100 + 100 < s.qw.closeAt → Gives .qwClose s s) ∧
    ((∀ n, n < 8 → (s.railE n).burstHeld = false) →
      windowEnds s = { s with
        qw := { s.qw with openK := none, lastClose := some s.qw.closeAt, still := 0, stillXb := 0, exempt := 0 }
        pins := { s.pins with quiet := false } }) ∧
    (∀ p n : Nat, s.qw.openK = some k → n ≠ 0 → s.qw.still.getLsbD p = true → s.drives p = true →
      (phaseBreach p n s).get (K.phaseQwBreachCnt p) = (s.bumpBy (K.phaseQwBreachCnt p) n).get (K.phaseQwBreachCnt p) ∧
      (s.qw.breached = false → (phaseBreach p n s).qw.breachDue = some k) ∧
      (s.qw.breached = true → (phaseBreach p n s).qw.breachDue = none))

/-- Remount (R111, R112): a shadow stage of 64 cycles that agrees within 2 % leads to RAMP, one that does not repeats, the fourth
failure is PH_IMBAL with cause 8; the end of a ramp of 256 cycles is ACTIVE, counted and flagged. PHASE[p].CMD (R113): a phase is
taken out unless it is the last of a rail that drives its output; it returns through remount on a rail that regulates, else to
IDLE, and not while the collector holds it; in any other state it stays as it is. -/
def Obligations.RemountAndPhaseCommands : Prop :=
  (∀ (p : Fin 8) (s : State), s.fastUp = true →
    (s.phase p.val = .shadow → (s.rail (s.phaseE p.val).rail).regulating = true → s.cyclesOver p.val 64 = true → ∀ d : Nat,
      (d ≤ 20 → Gives (.remountShadowEnd p d) s (reinterleave (s.phaseE p.val).rail
        ((s.putPhase p.val .ramp).setPhaseE p.val { s.phaseE p.val with since := s.clock.beat, held := 0 }))) ∧
      (20 < d → (s.phaseE p.val).passes < 3 → Gives (.remountShadowEnd p d) s
        (s.setPhaseE p.val { s.phaseE p.val with passes := (s.phaseE p.val).passes + 1, since := s.clock.beat, held := 0 })) ∧
      (20 < d → 3 ≤ (s.phaseE p.val).passes →
        Gives (.remountShadowEnd p d) s (takeSource .phImbal p.val (phaseOut p.val 8 s)))) ∧
    (s.phase p.val = .ramp → s.cyclesOver p.val 256 = true → Gives (.remountRampEnd p) s (reinterleave (s.phaseE p.val).rail
      (((s.putPhase p.val .active).bump (K.phaseRemountCnt p.val)).flag (K.phaseStatus p.val) 0x80))) ∧
    (s.cyclesOver p.val 64 = false → ∀ d, Gives (.remountShadowEnd p d) s s) ∧
    (s.cyclesOver p.val 256 = false → Gives (.remountRampEnd p) s s)) ∧
  (∀ (port : Port) (p : Fin 8) (s b : State), b = s.openTick → b.answers port = true →
    (b.dev.live = false ∨ b.phase p.val = .unused →
      Refuses (.phaseTakeOut port p) port 0x08000022 s ∧ Refuses (.phaseReturn port p) port 0x08000022 s) ∧
    (b.dev.live = true → b.phase p.val ≠ .unused →
      (b.lastPhase p.val = true → Refuses (.phaseTakeOut port p) port 0x08000022 s) ∧
      (b.lastPhase p.val = false → b.phase p.val ≠ .disabled →
        Accepts (.phaseTakeOut port p) port s (reinterleave (b.phaseE p.val).rail
          ((b.putPhase p.val .disabled).setPhaseE p.val { b.phaseE p.val with passes := 0, released := false }))) ∧
      (b.phasesHeld.testBit p.val = true → b.phase p.val = .disabled ∨ b.phase p.val = .fault → Refuses (.phaseReturn port p) port 0x08000022 s) ∧
      (b.phasesHeld.testBit p.val = false → b.phase p.val = .disabled ∨ b.phase p.val = .fault →
        ((b.rail (b.phaseE p.val).rail).regulating = true →
          Accepts (.phaseReturn port p) port s
            (startRemount p.val (b.setPhaseE p.val { b.phaseE p.val with released := false }))) ∧
        ((b.rail (b.phaseE p.val).rail).regulating = false →
          Accepts (.phaseReturn port p) port s
            ((b.setPhaseE p.val { b.phaseE p.val with released := false }).putPhase p.val .idle))) ∧
      (b.phase p.val ≠ .disabled → b.phase p.val ≠ .fault → Accepts (.phaseReturn port p) port s b)))

/-- Channels X0 to X3 (R127 to R132): region changes by the ratio of reference and the sampled IBUS that has asked for them in 8
beats, pulse skipping, the limit that has held too long, and the channel's fault sources, each of which puts the rail into FAULT
with the channel's cause. LDOs (R134 to R138): input undervoltage and the limit, the shared temperature, and the starts of an
always-on L0: where LDOIN0 is good, and 100 ms after the cause that turned it off has cleared, but not before a standing LDO_TSD
has (the model's reading, assumption 140); with soft-start, or straight to ON where VOUT is at or above VSET, and never with a
target of 0 (R86, R90). -/
def Obligations.AuxiliaryRails : Prop :=
  (∀ (c : Fin 4) (s : State), s.fastUp = true →
    (∀ (ibus beats x : Nat) (u : State), s.xbWorks c.val = true → u = { s with divider := { s.divider with ibusNow := ibus } } →
      x = regionOf (s.get (K.xbRegion c.val)) (s.railRef (8 + c.val)) ibus →
      (x ≠ s.get (K.xbRegion c.val) → 8 ≤ beats → Gives (.xbRegionChange c ibus beats) s (setRegion c.val x u)) ∧
      (x = s.get (K.xbRegion c.val) ∨ beats < 8 → Gives (.xbRegionChange c ibus beats) s u)) ∧
    (s.xbWorks c.val = false → (xbBeat c.val s).get (K.xbRegion c.val) = s.get (K.xbRegion c.val) ∧
      ((xbBeat c.val s).xbE c.val).regBeats = 0) ∧
    (∀ x, x < 3 → (setRegion c.val x s).get (K.xbRegion c.val) = x ∧
      (setRegion c.val x s).get (K.xbRegionCnt c.val) =
        countUp (K.xbRegionCnt c.val) (bitsOf (K.xbRegionCnt c.val)) (s.get (K.xbRegionCnt c.val))) ∧
    (∀ ref ibus : Nat, ibus ≠ 0 →
      regionOf 0 ref ibus = (if 85 * ibus ≤ ref * 250 then 1 else 0) ∧
      regionOf 1 ref ibus = (if ref * 250 ≤ 80 * ibus then 0 else if 120 * ibus ≤ ref * 250 then 2 else 1) ∧
      regionOf 2 ref ibus = (if ref * 250 ≤ 115 * ibus then 1 else 2)) ∧
    ((s.rail (8 + c.val)).driven = true →
      (s.get (K.xbClTime c.val) ≤ (s.railE (8 + c.val)).clCount → Gives (.xbCl c) s (xbSource .xbCl c.val 2 s)) ∧
      (∀ n, 16 ≤ n → Gives (.xbPk c n) s (xbSource .xbPk c.val 1 (s.flag (K.xbStatus c.val) 2))) ∧
      (∀ n, 2 ≤ n → Gives (.xbSw c n) s (xbSource .xbSw c.val 4 s)) ∧
      (∀ n, 16 ≤ n → Gives (.xbNeg c n) s (xbSource .xbNeg c.val 6 s))) ∧
    (∀ temp : Int, (s.get (K.xbTSd c.val) : Int) ≤ temp → (s.xbE c.val).hot = false →
      Gives (.xbTsd c temp) s (xbSource .xbTsd c.val 3 (s.setXbE c.val { s.xbE c.val with hot := true }))) ∧
    Gives (.xbDrv c) s (xbSource .xbDrv c.val 5 s) ∧
    (s.rail (8 + c.val) = .on → (s.xbE c.val).skipping = false →
      s.dev = .doze ∨ (s.get (K.xbMode c.val) = 1 ∧ 4 ≤ (s.xbE c.val).lowCount) →
      Gives (.xbSkipEntry c) s
        ((s.flag (K.xbStatus c.val) 8).setXbE c.val { s.xbE c.val with skipping := true, lowCount := 0 }))) ∧
  (∀ s : State, s.fastUp = true →
    (∀ (l : Fin 4) (ldoin beats : Nat), s.rail (12 + l.val) ≠ .off → ldoin < 1400 → 4 ≤ beats →
      Gives (.ldoInUv l ldoin beats) s (takeSource .ldoInUv l.val (ldoOff (0x3800 + l.val) 1 l.val s))) ∧
    (∀ (l : Fin 4) (ldoin beats : Nat), 1400 ≤ ldoin ∨ beats < 4 → Gives (.ldoInUv l ldoin beats) s s) ∧
    (∀ l : Fin 4, s.get (K.ldoClTime l.val) ≤ (s.railE (12 + l.val)).clCount → (s.railE (12 + l.val)).limited = false →
      s.canRailFault (12 + l.val) = true → s.alwaysOn (12 + l.val) = false →
      Gives (.ldoCl l) s (takeSource .ldoCl l.val (ldoOff (0x3900 + l.val) 2 l.val
        (s.setRailE (12 + l.val) { s.railE (12 + l.val) with limited := true })))) ∧
    (∀ temp : Int, (s.get K.ldoTSd : Int) ≤ temp → s.ao.ldoHot = false → Gives (.ldoTsd temp) s
      (takeSource .ldoTsd 0 (each (upto 4) (fun l u => ldoOff 0x3A00 3 l u) { s with ao := { s.ao with ldoHot := true } }))) ∧
    (∀ (ldoin : Nat) (temp : Int) (ms : Nat), s.bk.l0On = true → 100 ≤ ms →
      (s.ao.blockedBy = some 1 ∧ s.aoGood ldoin = true) ∨
        (∃ x, s.ao.blockedBy = some x ∧ x ≠ 1 ∧ temp ≤ (s.get K.ldoTSd : Int) - 150) →
      Gives (.aoRestart ldoin temp ms) s (aoBegin (if s.ao.ldoHot = true then s else s.flag (K.ldoStatus 0) 8))) ∧
    (∀ ldoin : Nat, s.bk.l0On = true → s.ao.blockedBy = none → s.rail 12 = .off ∨ s.rail 12 = .discharge →
      s.aoGood ldoin = true → Gives (.ldoin0Good ldoin) s (aoBegin s)) ∧
    (s.ao.ldoHot = false → aoBegin s = aoStart s) ∧
    (s.ao.ldoHot = true → aoBegin s = { s with ao := { s.ao with blockedBy := some 3, clearedAt := none } }) ∧
    (s.bk.l0Vset = 0 → aoStart s = s) ∧
    (s.bk.l0Vset ≠ 0 → (aoStart s).ao.blockedBy = none ∧
      (s.bk.l0Vset * 5 ≤ s.get (K.railVout 12) * 2 → (aoStart s).rail 12 = .on) ∧
      (s.get (K.railVout 12) * 2 < s.bk.l0Vset * 5 → (aoStart s).rail 12 = .softstart)))

/-- Supervisor sources (R150 to R152): a level met by the samples of its deglitch stands, is flagged and counted; a fault of an
internal channel turns its rail off; then the collector takes the source, which stays active while its condition stands. Ends of
conditions and GOOD (R149, R150, R154): a condition ends past its hysteresis; GOOD sets and clears with the samples of PG_DEGLITCH
where it is evaluated, each change is a counted toggle, and PGOOD follows its mask. -/
def Obligations.SupervisorSourcesAndGood : Prop :=
  (∀ (s u w : State) (v n : Nat),
    (∀ m : Fin 24, s.canMeet m.val 0 v n = true → u = takeSource .supOvWarn m.val (beginCondition m.val 0 s) →
      Gives (.supOvWarn m v n) s (if u.stands m.val 0 then u else endCondition (0x4000 + m.val) u)) ∧
    (∀ m : Fin 24, s.canMeet m.val 1 v n = true → u = takeSource .supUvWarn m.val (beginCondition m.val 1 s) →
      Gives (.supUvWarn m v n) s (if u.stands m.val 1 then u else endCondition (0x4100 + m.val) u)) ∧
    (∀ m : Fin 16, s.canMeet m.val 2 v n = true → u = takeSource .supOcWarn m.val (beginCondition m.val 2 s) →
      Gives (.supOcWarn m v n) s (if u.stands m.val 2 then u else endCondition (0x4200 + m.val) u)) ∧
    (∀ m : Fin 24, w = (if s.goodEvaluated m.val && s.meetsOv m.val v then setGood m.val false s else s) →
      w.canMeet m.val 3 v n = true → u = takeSource .supOv m.val
        (if m.val < 16
        then railFault m.val (0x4300 + m.val) m.val (beginCondition m.val 3 w) else beginCondition m.val 3 w) →
      Gives (.supOv m v n) s (if u.stands m.val 3 then u else endCondition (0x4300 + m.val) u)) ∧
    (∀ m : Fin 24, s.canMeet m.val 4 v n = true → u = takeSource .supUv m.val
        (if m.val < 16
        then railFault m.val (0x4400 + m.val) m.val (beginCondition m.val 4 s) else beginCondition m.val 4 s) →
      Gives (.supUv m v n) s (if u.stands m.val 4 then u else endCondition (0x4400 + m.val) u)) ∧
    (∀ m : Fin 16, s.canMeet m.val 5 v n = true → u = takeSource .supOc m.val
        (railFault m.val (0x4500 + m.val) m.val (beginCondition m.val 5 s)) →
      Gives (.supOc m v n) s (if u.stands m.val 5 then u else endCondition (0x4500 + m.val) u)) ∧
    (∀ m : Fin 24, s.canMeet m.val 4 v n = false → Gives (.supUv m v n) s s) ∧
    (∀ (m l level : Nat), l < 6 → s.supLevel m l = some level → s.stands m l = false →
      meets l (s.supValue m l v) level = true → s.deglitch m l ≤ n →
      n + max ((s.supE m).since.toArray.getD l 0) (s.uvFrom m l) ≤ s.clock.beat + 1 → s.canMeet m l v n = true)) ∧
  (∀ (m : Fin 24) (s : State),
    (∀ (x : SupCond) (v level : Nat), s.supLevel m.val (condBit x) = some level →
      (s.stands m.val (condBit x) = true → leaves (condBit x) (s.supValue m.val (condBit x) v) level (s.supHyst m.val) = true →
        Gives (.supConditionEnd m x v) s (keepLevels m.val (clearMask (s.supE m.val).standing.toNat (2 ^ condBit x)) s)) ∧
      (leaves (condBit x) (s.supValue m.val (condBit x) v) level (s.supHyst m.val) = false →
        Gives (.supConditionEnd m x v) s s)) ∧
    (∀ (v n level : Nat), s.supLevel m.val 6 = some level → s.get (K.supPgDeglitch m.val) ≤ n →
      n + s.goodSince m.val ≤ s.clock.beat + 1 →
      (s.supVolts m.val v < level → Gives (.goodFall m v n) s (setGood m.val false s)) ∧
      (s.stands m.val 3 = false → s.meetsOv m.val v = false → level + s.supHyst m.val ≤ s.supVolts m.val v →
        Gives (.goodRise m v n) s (setGood m.val true s)) ∧
      (s.stands m.val 3 = true ∨ s.supVolts m.val v < level + s.supHyst m.val → Gives (.goodRise m v n) s s)) ∧
    (∀ level x hyst : Nat, (leaves 0 x level hyst = true ↔ x + hyst < level) ∧ (leaves 1 x level hyst = true ↔ level + hyst < x) ∧
      (leaves 2 x level hyst = true ↔ x * 20 < level * 19)) ∧
    (∀ x : Bool, (setGood m.val x s).get (K.supGood m.val) = (if x then 1 else 0) ∧
      (s.get (K.supGood m.val) = (if x then 1 else 0) → setGood m.val x s = s) ∧
      (s.get (K.supGood m.val) ≠ (if x then 1 else 0) →
        ((setGood m.val x s).get K.supGoodMap).testBit m.val = x ∧
        (setGood m.val x s).get K.supPgood =
          if s.get K.supPgoodMask ≠ 0 ∧ clearMask (s.get K.supPgoodMask) ((setGood m.val x s).get K.supGoodMap) = 0 then 1 else 0)))

/-- RH.RUN, RH.COMMISSION, a rail that is due or no longer, and the arbiter's grant at a tick boundary (R159, R164, R167, R168). What
the engine adds to a rail's reference (R160 to R162): nothing but on the rail and in the states of its point, there the sine of
the point's time, and while a window holds it the sine of the time that the hold is from; its peak is AMP × 0.01 % of VSET. That
the sine's cycles count from the point's begin is the model's choice (assumption 142). The engine of rail health through its
states (R158, R160, R163 to R166): WAIT to SETTLE with the grant at its place, SETTLE to INJECT after 8 periods, each point after
its periods, the end of a run that its pairing, its amplitude or its rail rules out, and COMPUTE with its results: status 3 where
no crossover is found or the fit is too bad, status 2 where there is no baseline to compare with. -/
def Obligations.RailHealth : Prop :=
  (∀ (port : Port) (s b : State), b = s.openTick →
    (b.answers port = true → b.dev = .stall →
      (∀ v : BitVec 8, v.toNat ≤ 11 → Refuses (.rhRun port v) port 0x08000022 s) ∧
      (∀ v : BitVec 16, v ≠ 0 → v.toNat ≤ 0xFFF → Refuses (.rhCommission port v) port 0x08000022 s)) ∧
    (b.answers port = true → b.dev ≠ .stall →
      (∀ v : BitVec 8, 11 < v.toNat → Refuses (.rhRun port v) port 0x06090030 s) ∧
      (∀ v : BitVec 8, v.toNat ≤ 11 → b.rhRunJob = true → Refuses (.rhRun port v) port 0x08000022 s) ∧
      (∀ (v : BitVec 8) (i : Nat), v.toNat ≤ 11 → b.rhRunJob = false → b.jobChoice = some i →
        Accepts (.rhRun port v) port s { b.jobAllot port K.rhRun i with rh := { b.rh with queued := some (v.toNat, i) } }) ∧
      (∀ v : BitVec 16, v = 0 ∨ 0xFFF < v.toNat → Refuses (.rhCommission port v) port 0x06090030 s) ∧
      (∀ (v : BitVec 16) (i : Nat), v ≠ 0 → v.toNat ≤ 0xFFF → b.jobChoice = some i →
        Accepts (.rhCommission port v) port s { b.jobAllot port K.rhCommission i with
          rh := { b.rh with commissions := b.rh.commissions ++ [⟨v.toNat, 0, 0, 0, 0, 0, 0, i⟩] } })) ∧
    (b.coreUp = true → GivesAtTick .arbGrant s (doEstZPointStart (doRhSettleStart (doArbGrant b)))) ∧
    (s.fastUp = true →
      (∀ n : Fin 12, s.get (K.rhEn n.val) = 1 → s.get (K.rhInterval n.val) ≠ 0 →
        s.get (K.rhInterval n.val) ≤ s.clock.epochs - s.rh.lastEnd.toArray.getD n.val 0 →
        Gives (.rhDue n) s { s with rh := { s.rh with due := s.rh.due ||| BitVec.ofNat 12 (2 ^ n.val) } }) ∧
      (∀ n : Fin 12, s.get (K.rhEn n.val) = 0 ∨ s.get (K.rhInterval n.val) = 0 →
        Gives (.rhDue n) s { s with rh := { s.rh with due := s.rh.due &&& ~~~(BitVec.ofNat 12 (2 ^ n.val)) } }) ∧
      (s.get K.rhArbOwner = 0 → ∀ r, s.arb.rhSince = some r → (∀ e, s.arb.estSince = some e → r < e) →
        doArbGrant s = { s.put K.rhArbOwner 1 with arb := { s.arb with rhSince := none } }) ∧
      (s.get K.rhArbOwner = 0 → ∀ e, s.arb.estSince = some e → (∀ r, s.arb.rhSince = some r → e ≤ r) →
        (doArbGrant s).get K.rhArbOwner = 2 ∧ (doArbGrant s).arb.estSince = none ∧
        (doArbGrant s).arb.rhSince = s.arb.rhSince) ∧
      (s.get K.rhArbOwner ≠ 0 → doArbGrant s = s))) ∧
  (∀ (s : State) (n : Nat),
    s.rhPeak n = s.get (K.rhAmp n) * (s.railE n).vsetUse * 25 / 10000 ∧
    (s.rh.run = none → s.injection n = 0) ∧
    (∀ r : RhRun, s.rh.run = some r →
      (r.rail ≠ n ∨ (s.get K.rhState ≠ rhSettle ∧ s.get K.rhState ≠ rhInject) → s.injection n = 0) ∧
      (r.rail = n → s.get K.rhState = rhSettle ∨ s.get K.rhState = rhInject →
        (s.clock.beat * 100 < r.heldFrom ∨ r.heldUntil ≤ s.clock.beat * 100 →
          s.injection n = s.rhSine r (s.clock.beat * 100 - r.began * 100)) ∧
        (r.heldFrom ≤ s.clock.beat * 100 → s.clock.beat * 100 < r.heldUntil →
          s.injection n = s.rhSine r (r.heldFrom - r.began * 100))))) ∧
  (∀ (s : State) (r : RhRun), s.fastUp = true → s.rh.run = some r →
    (s.get K.rhState = rhWait → s.get K.rhArbOwner = 1 →
      (s.pairExcludes r.rail = true → Gives .rhSettleStart s (endRun 7 s)) ∧
      (s.pairExcludes r.rail = false → s.amplitudeOk r.rail = false → r.started = false →
        Gives .rhSettleStart s (endRun 6 s)) ∧
      (s.pairExcludes r.rail = false → s.amplitudeOk r.rail = true → s.injects r.rail = true → r.started = true →
        s.get (K.rhPlace r.rail) = 0 → s.clock.beat % 1000 = 0 → Gives .rhSettleStart s
          ({ s with rh := { s.rh with run := some { r with
            started := true, since := s.clock.beat, began := s.clock.beat, blank := 0 } } }.put K.rhState rhSettle)) ∧
      (s.pairExcludes r.rail = false → r.started = true → s.rhPlaced r.rail = false → Gives .rhSettleStart s s)) ∧
    (s.get K.rhState = rhSettle →
      (∀ u : RhRun, s.periodsOver r 8 = true → u = { r with since := s.clock.beat } → Gives .rhSettleDone s
        ({ s with rh := { s.rh with run := some { u with blank := s.rhHeld u 0 } } }.put K.rhState rhInject)) ∧
      (s.periodsOver r 8 = false → Gives .rhSettleDone s s)) ∧
    (∀ (e y u : Int × Int) (t : State), s.get K.rhState = rhInject →
      t = { s with rh := { s.rh with run := some { r with
        points := r.points ++ [⟨e.1, e.2, y.1, y.2, u.1, u.2⟩], since := s.clock.beat, began := s.clock.beat, blank := 0 } } } →
      (s.periodsOver r (s.get K.rhCycles) = true →
        (r.points.length + 1 < s.get K.rhPoints → Gives (.rhPointDone e y u) s (t.put K.rhState rhSettle)) ∧
        (s.get K.rhPoints ≤ r.points.length + 1 → Gives (.rhPointDone e y u) s (arbRelease 1 (t.put K.rhState rhCompute)))) ∧
      (s.periodsOver r (s.get K.rhCycles) = false → Gives (.rhPointDone e y u) s s)) ∧
    (s.get K.rhState = rhWait → Gives .rhPointAbandon s s) ∧
    (s.get K.rhState = rhSettle ∨ s.get K.rhState = rhInject →
      ((s.rail r.rail).regulating = false ∨ s.dev ≠ .active → Gives .rhPointAbandon s (endRun 5 s)) ∧
      (s.injectable r.rail = true → s.amplitudeOk r.rail = true → s.blankedOut r = false → Gives .rhPointAbandon s s) ∧
      ((s.rail r.rail).regulating = true → s.dev = .active → s.blankedOut r = true → s.get K.rhMaxTries ≤ r.tries + 1 →
        Gives .rhPointAbandon s
          (endRun 4 (arbRelease 1 { s with rh := { s.rh with run := some { r with tries := r.tries + 1 } } })))) ∧
    (∀ b : State, b = s.openTick → b.coreUp = true → GivesAtTick .rhResults s (doRhResults b)) ∧
    (s.dev ≠ .active → doRhResults s = s) ∧
    (∀ (x : Option (Nat × Int)) (cout esr err : Nat) (freq : Nat → Nat), r.rail < 12 → s.rh.commissions = [] →
      s.dev = .active → s.get K.rhState = rhCompute →
      freq = rhFreq (s.get (K.rhFLo r.rail)) (s.get (K.rhFHi r.rail)) (s.get K.rhPoints) →
      x = crossover (s.get (K.rhFLo r.rail)) (s.get (K.rhFHi r.rail)) (s.get K.rhPoints) r.points →
      (cout, esr, err) = loadFit freq r →
      ∃ t, doRhResults s = t ∧
        (x = none ∨ s.get K.rhFitMax < err →
          t.get (K.rhRunStatus r.rail) = 3 ∧ t.rh.run = none ∧ t.get K.rhState = rhIdle ∧ t.get K.rhRail = 0xFF) ∧
        (∀ p, x = some p → err ≤ s.get K.rhFitMax →
          s.get (K.rhBaseValid r.rail) ≠ 1 ∨ (s.railE r.rail).vsetUse ≠ s.get (K.rhBaseVset r.rail) →
          t.get (K.rhRunStatus r.rail) = 2 ∧ t.rh.run = none ∧ t.get K.rhState = rhIdle ∧ t.get K.rhRail = 0xFF ∧
          t.get (K.rhDevFc r.rail) = 0 ∧ t.get (K.rhDevPm r.rail) = 0 ∧
          t.get (K.rhFc r.rail) = fit (K.rhFc r.rail) p.1 ∧ t.get (K.rhPm r.rail) = fit (K.rhPm r.rail) p.2 ∧
          t.get (K.rhCout r.rail) = fit (K.rhCout r.rail) cout ∧ t.get (K.rhEsr r.rail) = fit (K.rhEsr r.rail) esr)))

/-- The raised class of a source is remapped by the lowest enabled entry that names its type and its instance or every instance;
without one it is the class of the Sources tables (R224). The effective class is one higher where the raised one is F2 to F4 and
its bit of FAULT.UNACK stands (R225). The first-source latch (R226): a source below its minimum leaves it; an empty latch takes
the source with its classes and its instant; a full one keeps its first source and counts. -/
def Obligations.FaultClassification : Prop :=
  ((∀ (s : State) (k : SrcKind) (i : Nat), (∀ j, j < 32 → bitOf (s.get (K.faultRemap j)) 31 = false) → s.raisedClass k i = k.cls) ∧
  (∀ (s : State) (k : SrcKind) (i j : Nat), j < 32 → bitOf (s.get (K.faultRemap j)) 31 = true →
    field (s.get (K.faultRemap j)) 8 8 = k.type → field (s.get (K.faultRemap j)) 0 8 = 0xFF →
    (∀ h, h < j → bitOf (s.get (K.faultRemap h)) 31 = false) → s.raisedClass k i = field (s.get (K.faultRemap j)) 16 3) ∧
  (∀ u r, effectiveClass u r = if (r = 2 ∨ r = 3 ∨ r = 4) ∧ u.testBit r = true then r + 1 else r)) ∧
  (∀ (src raised eff : Nat) (s : State),
    (eff < s.get K.faultLatchMin → latchSource src raised eff s = s) ∧
    (s.get K.faultLatchMin ≤ eff → s.get K.faultFirstValid = 0 →
      (latchSource src raised eff s).get K.faultFirstValid = 1 ∧ (latchSource src raised eff s).get K.faultFirstSrc = src ∧
      (latchSource src raised eff s).get K.faultFirstRaised = raised ∧ (latchSource src raised eff s).get K.faultFirstClass = eff ∧
      (latchSource src raised eff s).get K.faultFirstBeat = s.clock.beat ∧
      (latchSource src raised eff s).get K.faultFirstTime = s.stamp) ∧
    (s.get K.faultLatchMin ≤ eff → s.get K.faultFirstValid ≠ 0 →
      (latchSource src raised eff s).get K.faultFirstSrc = s.get K.faultFirstSrc ∧
      (latchSource src raised eff s).get K.faultFirstBeat = s.get K.faultFirstBeat ∧
      (latchSource src raised eff s).get K.faultFirstOvf = 1))

/-- A source of class F0 or F1 is accounted for and turns nothing off: FAULT.UNACK, every rail, every phase, the device's state and
the sequencer read as before, and the count of its class is one more. -/
def Obligations.MildSourcesTurnNothingOff : Prop :=
  ∀ (k : SrcKind) (i : Nat) (s : State), effectiveClass (openBeat s).fc.unackAtStart (s.raisedClass k i) ≤ 1 →
    (takeSource k i s).get K.faultUnack = s.get K.faultUnack ∧ (takeSource k i s).dev = s.dev ∧
    (takeSource k i s).seqState = s.seqState ∧
    (∀ n, n < 16 → (takeSource k i s).rail n = s.rail n) ∧ (∀ p, p < 8 → (takeSource k i s).phase p = s.phase p) ∧
    (takeSource k i s).get (K.faultCnt (effectiveClass (openBeat s).fc.unackAtStart (s.raisedClass k i))) =
      countUp (K.faultCnt (effectiveClass (openBeat s).fc.unackAtStart (s.raisedClass k i))) 32
        (s.get (K.faultCnt (effectiveClass (openBeat s).fc.unackAtStart (s.raisedClass k i))))

/-- The error register 0x1001 as the held sources and the host ports drive its bits (R240, R442). The queue of emergencies holds 16: a
message that finds it full is discarded, counted and flagged, and leaves the messages that wait as they are; one that finds room
joins at the end (R241). -/
def Obligations.ErrorRegisterAndEmergencies : Prop :=
  (∀ s t : State, t = showHeld s →
    ((t.get K.comErrReg).testBit 0 = !s.fc.held.isEmpty) ∧
    ((t.get K.comErrReg).testBit 2 = s.fc.held.any (fun h => match (srcParts h.src).1 with
      | some k => k.emcy / 0x1000 == 3 | none => false)) ∧
    ((t.get K.comErrReg).testBit 3 = s.fc.held.any (fun h => match (srcParts h.src).1 with
      | some k => k.emcy / 0x1000 == 4 | none => false)) ∧
    ((t.get K.comErrReg).testBit 7 = s.fc.held.any (fun h => match (srcParts h.src).1 with
      | some k => k.emcy / 0x1000 == 5 || k.emcy / 0x1000 == 6 || k.emcy / 0x1000 == 8 || k.emcy / 0x100 == 0xFF
      | none => false)) ∧
    ((t.get K.comErrReg).testBit 4 = (s.ecat.alError || (match s.ecat.spiErrTick with
      | some x => decide (s.tick - x ≤ 1000) | none => false))) ∧
    (t.get K.comErrReg).testBit 1 = false ∧ (t.get K.comErrReg).testBit 5 = false ∧ (t.get K.comErrReg).testBit 6 = false) ∧
  (∀ (e : Emcy) (s : State),
    (s.fc.emcy.length = 16 → (queueEmcy e s).fc.emcy = s.fc.emcy ∧
      (queueEmcy e s).get K.faultEmcyLost = countUp K.faultEmcyLost (bitsOf K.faultEmcyLost) (s.get K.faultEmcyLost) ∧
      ((queueEmcy e s).get K.faultStatus).testBit 6 = true) ∧
    (s.fc.emcy.length < 16 → (queueEmcy e s).fc.emcy.length ≤ 16 ∧
      (queueEmcy e s).get K.faultEmcyLost = s.get K.faultEmcyLost))

/-- FAULT.ACK, FAULT.REARM, FAULT.LOCKOUT_CLEAR and FFR.REARM (R213, R225, R226, R237). -/
def Obligations.FaultCommands : Prop :=
  ∀ (port : Port) (s b : State), b = s.openTick → b.answers port = true →
    (∀ v : BitVec 8, Accepts (.faultAck port v) port s (acknowledge v.toNat b)) ∧
    (b.fc.held = [] → Accepts (.faultRearm port 1) port s (((((((b.put K.faultFirstValid 0).put K.faultFirstSrc 0).put
      K.faultFirstRaised 0).put K.faultFirstClass 0).put K.faultFirstBeat 0).put K.faultFirstTime 0).put K.faultFirstOvf 0)) ∧
    (b.fc.held ≠ [] → Refuses (.faultRearm port 1) port 0x08000022 s) ∧
    (∀ v : BitVec 8, v ≠ 1 → Refuses (.faultRearm port v) port 0x06090030 s ∧ Refuses (.ffrRearm port v) port 0x06090030 s) ∧
    (∀ v : BitVec 16, v ≠ 0x5A3C → Refuses (.lockoutClear port v) port 0x06090030 s) ∧
    (b.get K.faultLockout = 0 → Refuses (.lockoutClear port 0x5A3C) port 0x08000022 s) ∧
    (∀ i, b.get K.faultLockout ≠ 0 → b.jobChoice = some i →
      Accepts (.lockoutClear port 0x5A3C) port s { b.jobAllot port K.faultLockoutClear i with
        fc := { b.fc with clearJobs := b.fc.clearJobs ++ [i] } }) ∧
    Accepts (.ffrRearm port 1) port s (emptyFfr b) ∧ (emptyFfr b).get K.ffrValid = 0 ∧ (emptyFfr b).get K.ffrRail = 0xFF

/-- Recovery at a tick (R232 to R236): the acknowledge of every class but F5 a time after a release, the release of every held source
once the quiet count is full, the restart of rails found OFF, and the retry count that starts anew. -/
def Obligations.Recovery : Prop :=
  ∀ (s b : State), b = s.openTick → b.coreUp = true →
    (∀ r, b.fc.lastRelease = some r → b.get K.faultAutoAck ≠ 0 → r + b.get K.faultAutoAck * 1000 ≤ b.tick →
      ∃ t, exec .autoAck s = .next t ∧ (t.get K.faultStatus).testBit 7 = true ∧ t.fc.lastRelease = none ∧
        t.get K.faultUnack = (b.get K.faultUnack &&& 0x20) ||| (openBeat b).fc.takenNow) ∧
    (b.fc.held ≠ [] → b.faultBusy = false → b.get K.faultLockout = 0 → b.get K.faultQuiet ≤ b.get K.faultQuietCnt + 1 →
      b.restartRails = 0 → b.restartsDevice = false →
      GivesAtTick .release s (releaseAll b) ∧ (releaseAll b).fc.held = [] ∧ (releaseAll b).get K.faultQuietCnt = 0 ∧
      (∀ n, n < 16 → (releaseAll b).rail n = if b.rail n = .fault then .discharge else b.rail n)) ∧
    (b.faultBusy = true → GivesAtTick .release s b) ∧
    (∀ n, b.dev = .active → (maskList 16 b.fc.restart).filter (fun j => b.rail j == .off) = [n] →
      GivesAtTick .autoRestartEnable s (railEnable n { b with fc := { b.fc with restart := withBit b.fc.restart n false } })) ∧
    (b.fc.lastSevere + b.get K.faultRetryWin * 1000000 ≤ b.clock.beat →
      GivesAtTick .retryWinExpire s (b.put K.faultRetryCnt 0))

/-- Every instruction whose fields its encoding table allows is what its word decodes to. A word that decodes is the word of what it
decodes to, and that is an instruction with fields that its table allows: no word has a reserved bit read away. -/
def Obligations.SequencerWordsRoundTrip : Prop :=
  (∀ i : SeqInstr, seqWf i = true → decodeSeq (encodeSeq i) = some i) ∧
  (∀ (w : BitVec 32) (i : SeqInstr), decodeSeq w = some i → encodeSeq i = w ∧ seqWf i = true)

/-- NOP and END carry no fields (R186): with bits 27 to 0 at 0 they decode, with any of those reserved bits at 1 the word is none. The
layout of ENABLE and DISABLE (R187). The layout of WAIT_TIME (R190). The layout of GAIT (R194). -/
def Obligations.SequencerWordLayouts : Prop :=
  (∀ f : BitVec 28, decodeSeq (0#4 ++ f) = (if f = 0 then some .nop else none) ∧
    decodeSeq (15#4 ++ f) = (if f = 0 then some .seqEnd else none)) ∧
  (∀ (w : BitVec 1) (r : BitVec 3) (tmo : BitVec 8) (mask : BitVec 16),
    decodeSeq (1#4 ++ w ++ r ++ tmo ++ mask) = (if r = 0 ∧ mask ≠ 0 then some (.enable (w == 1) tmo mask) else none) ∧
    decodeSeq (2#4 ++ w ++ r ++ tmo ++ mask) = (if r = 0 ∧ mask ≠ 0 then some (.disable (w == 1) tmo mask) else none)) ∧
  (∀ (u : BitVec 1) (n : BitVec 27), decodeSeq (3#4 ++ u ++ n) = some (.waitTime (u == 1) n)) ∧
  (∀ (r : BitVec 12) (tmo : BitVec 8) (q : BitVec 2) (target : BitVec 6),
    decodeSeq (7#4 ++ r ++ tmo ++ q ++ target) = if r = 0 ∧ q = 0 then some (.gait tmo target) else none)

/-- Instructions that wait for nothing (R184, R186, R193, R195, R196, R183): each starts at the next tick boundary where the program
stands ready, and completes in its start beat. Instructions that may wait (R188 to R191, R197, R198, R206): the rails are enabled
or disabled at the start; with W the step waits, else it completes in its start beat; a CHECK starts with no toggle; a GAIT
releases the line, and one that power-down need not take completes. -/
def Obligations.SequencerStepsThatStart : Prop :=
  (∀ s b u : State, b = s.openTick → s.seqReady →
    (u = seqBegin .nop b → GivesAtTick .nop s (stepDone u)) ∧
    (∀ (count target : BitVec 8), u = seqBegin (.jump 0 count target) b →
      GivesAtTick (.jump 0 count target) s (stepDone { u with seq := { u.seq with nextPc := target.toNat } })) ∧
    (∀ (count target : BitVec 8), u = seqBegin (.jump 1 count target) b →
      GivesAtTick (.jump 1 count target) s
        (stepDone (if b.get K.seqFlag = 1 then { u with seq := { u.seq with nextPc := target.toNat } } else u))) ∧
    (∀ (count target : BitVec 8), u = seqBegin (.jump 2 count target) b →
      GivesAtTick (.jump 2 count target) s
        (stepDone (if b.get K.seqFlag = 1 then u else { u with seq := { u.seq with nextPc := target.toNat } }))) ∧
    (∀ (count target : BitVec 8), u = seqBegin (.jump 3 count target) b →
      GivesAtTick (.jump 3 count target) s (stepDone (if b.get K.seqLoop < count.toNat
        then { u.put K.seqLoop (b.get K.seqLoop + 1) with seq := { u.seq with nextPc := target.toNat } }
        else u.put K.seqLoop 0))) ∧
    (∀ (mask value m : BitVec 8) (v : State), u = seqBegin (.setout mask value) b → m = mask &&& b.pins.gpMask →
      v = { u with pins := { b.pins with gpOut := (b.pins.gpOut &&& ~~~m) ||| (value &&& m) } } →
      GivesAtTick (.setout mask value) s (stepDone (if m = mask then v else v.flag K.seqStatus 0x40))) ∧
    (∀ (entry log : Bool) (gs : BitVec 6) (id : BitVec 16), u = seqBegin (.mark entry log gs id) b →
      GivesAtTick (.mark entry log gs id) s (stepDone (if log then fireTrigger (.mark id.toNat) (u.put K.seqLastMark id.toNat)
        else u.put K.seqLastMark id.toNat))) ∧
    (u = seqBegin .seqEnd b →
      (b.seqState = .powerUp → GivesAtTick .seqEnd s (seqIdle (u.flag K.seqStatus 2))) ∧
      (b.seqState = .user → GivesAtTick .seqEnd s (endUser 0 (u.flag K.seqStatus 2))) ∧
      (b.seqState = .powerDown → ∃ t, exec .seqEnd s = .next t ∧ t.get K.seqGaitState = 0 ∧ t.seq.atEnd = true ∧
        t.seqState = .powerDown))) ∧
  (∀ s b u : State, b = s.openTick → s.seqReady →
    (∀ (w : Bool) (tmo : BitVec 8) (mask : BitVec 16), u = seqBegin (.enable w tmo mask) b →
      (mask.getLsbD 12 && b.bk.l0On) = false → (∀ n, n ∈ railsOf mask → u.enableRefusal n = none) →
      GivesAtTick (.enable w tmo mask) s (
        let t := each ((railsOf mask).filter (fun n => u.rail n == .off || u.rail n == .discharge || u.rail n == .fault)) tryEnable u
        if w then seqWait (.enable w tmo mask) t else stepDone t)) ∧
    (∀ (w : Bool) (tmo : BitVec 8) (mask : BitVec 16), u = seqBegin (.disable w tmo mask) b →
      (mask.getLsbD 12 && b.bk.l0On) = false →
      GivesAtTick (.disable w tmo mask) s (
        let t := each (railsOf mask) (fun n v => railDisable n 2 v) u
        if w then seqWait (.disable w tmo mask) t else stepDone t)) ∧
    (∀ (x : Bool) (n : BitVec 27), u = seqBegin (.waitTime x n) b →
      GivesAtTick (.waitTime x n) s (if n = 0 then stepDone u else seqWait (.waitTime x n) u)) ∧
    (∀ (lock : Bool) (skip : BitVec 8) (unit : BitVec 12), u = seqBegin (.waitStride lock skip unit) b →
      (lock = true → b.strideState = .locked) →
      GivesAtTick (.waitStride lock skip unit) s (seqWait (.waitStride lock skip unit) { u with seq := { u.seq with
        stridesLeft := skip.toNat + if unit.toNat ≤ u.stride.phase then 1 else 0 } })) ∧
    (∀ (soft pol : Bool) (pset : Fin 32) (kind : BitVec 4) (op : BitVec 16),
      u = seqBegin (.check soft pol pset kind op) b →
      GivesAtTick (.check soft pol pset kind op) s (seqWait (.check soft pol pset kind op) { u.put K.seqChkToggles 0 with
        seq := { u.seq with stable := 0, stableAt := none, chatRail := 0xFF } })) ∧
    (∀ (tmo : BitVec 8) (target : BitVec 6), u = seqBegin (.gait tmo target) b → b.seqState = .powerUp →
      target.toNat = b.get K.seqGaitState + 1 →
      GivesAtTick (.gait tmo target) s (if b.gait.en
        then seqWait (.gait tmo target) { u with gait := { b.gait with released := true, pullAt := none } }
        else stepDone (u.put K.seqGaitState target.toNat))) ∧
    (∀ (tmo : BitVec 8) (target : BitVec 6), u = seqBegin (.gait tmo target) b → b.seqState = .powerDown →
      (target.toNat + 1 = b.get K.seqGaitState → GivesAtTick (.gait tmo target) s (if b.gait.en
        then seqWait (.gait tmo target) { u with gait := { b.gait with released := true, pullAt := none } }
        else stepDone (u.put K.seqGaitState target.toNat))) ∧
      (b.get K.seqGaitState ≤ target.toNat → GivesAtTick (.gait tmo target) s (stepDone u))) ∧
    (∀ (rail : Fin 16) (w : Bool) (code : BitVec 13), u = seqBegin (.slew rail w code) b →
      b.alwaysOn rail.val = false → (b.rail rail.val).regulating = true →
      GivesAtTick (.slew rail w code) s (if w then seqWait (.slew rail w code) (newTarget rail.val code.toNat u)
        else stepDone (newTarget rail.val code.toNat u))))

/-- Steps that fail at their start (R188, R189, R191, R197, R206): an always-on L0 among the rails, a rail whose enable is refused, no
lock, a rail that does not regulate, a gait state out of order. Waiting steps that fail at their limit (R188, R189, R198, R206)
and a CHECK that chatters (R198). -/
def Obligations.SequencerStepsThatFail : Prop :=
  (∀ s b u : State, b = s.openTick → s.seqReady →
    (∀ (w : Bool) (tmo : BitVec 8) (mask : BitVec 16), mask.getLsbD 12 = true → b.bk.l0On = true →
      (u = seqBegin (.enable w tmo mask) b → GivesAtTick (.enable w tmo mask) s (stepFail 8 12 0xFF u)) ∧
      (u = seqBegin (.disable w tmo mask) b → GivesAtTick (.disable w tmo mask) s (stepFail 8 12 0xFF u))) ∧
    (∀ (w : Bool) (tmo : BitVec 8) (mask : BitVec 16) (n : Nat) (rest : List Nat), u = seqBegin (.enable w tmo mask) b →
      (mask.getLsbD 12 && b.bk.l0On) = false →
      ((railsOf mask).filter (fun n => u.rail n == .off || u.rail n == .discharge || u.rail n == .fault)).filter (fun n => (u.enableRefusal n).isSome)
        = n :: rest →
      GivesAtTick (.enable w tmo mask) s (stepFail 3 n 0xFF
        (each ((railsOf mask).filter (fun n => u.rail n == .off || u.rail n == .discharge || u.rail n == .fault)) tryEnable u))) ∧
    (∀ (skip : BitVec 8) (unit : BitVec 12), u = seqBegin (.waitStride true skip unit) b → b.strideState ≠ .locked →
      GivesAtTick (.waitStride true skip unit) s (stepFail 0x0B 0xFF 0xFF u)) ∧
    (∀ (rail : Fin 16) (w : Bool) (code : BitVec 13), u = seqBegin (.slew rail w code) b →
      b.alwaysOn rail.val = false → (b.rail rail.val).regulating = false →
      GivesAtTick (.slew rail w code) s (stepFail 9 rail.val 0xFF u)) ∧
    (∀ (tmo : BitVec 8) (target : BitVec 6), u = seqBegin (.gait tmo target) b → b.seqState = .powerUp →
      target.toNat ≠ b.get K.seqGaitState + 1 → GivesAtTick (.gait tmo target) s (stepFail 7 0xFF 0xFF u))) ∧
  (∀ s : State, s.fastUp = true →
    (∀ (w : Bool) (tmo : BitVec 8) (mask : BitVec 16) (n : Nat), s.seq.waiting = some (.enable w tmo mask) →
      ((railsOf mask).find? (fun n => s.rail n == .fault || s.rail n == .off) = some n →
        Gives .enableWaitTmo s (stepFail 0x0A n 0xFF s)) ∧
      ((railsOf mask).find? (fun n => s.rail n == .fault || s.rail n == .off) = none →
        s.seq.startBeat + s.waitLimit tmo ≤ s.clock.beat →
        (railsOf mask).find? (fun n => !(s.rail n == .on || s.rail n == .ready)) = some n →
        Gives .enableWaitTmo s (stepFail 4 n 0xFF s))) ∧
    (∀ (w : Bool) (tmo : BitVec 8) (mask : BitVec 16) (n : Nat), s.seq.waiting = some (.disable w tmo mask) →
      s.seq.startBeat + s.waitLimit tmo ≤ s.clock.beat → (railsOf mask).find? (fun n => !s.rests n) = some n →
      Gives .disableWaitTmo s (stepFail 5 n 0xFF s)) ∧
    (∀ (soft pol : Bool) (pset : Fin 32) (kind : BitVec 4) (op : BitVec 16),
      s.seq.waiting = some (.check soft pol pset kind op) →
      s.seq.startBeat + s.get (K.seqChkTimeout pset.val) * 1000 ≤ s.clock.beat →
      Gives .checkTimeout s (checkFail soft 1 (s.checkPlace kind op none).1 (s.checkPlace kind op none).2 s)) ∧
    (∀ (soft pol : Bool) (pset : Fin 32) (kind : BitVec 4) (op : BitVec 16) (n : Nat),
      s.seq.waiting = some (.check soft pol pset kind op) → s.get (K.seqChkChat pset.val) ≠ 0 →
      (s.freePin kind op = false → s.get (K.seqChkChat pset.val) ≤ s.get K.seqChkToggles →
        Gives (.checkChatter n) s (checkFail soft 2 (s.checkPlace kind op (some s.seq.chatRail)).1
          (s.checkPlace kind op (some s.seq.chatRail)).2 s)) ∧
      (∀ u, s.freePin kind op = true → s.get K.seqChkToggles < n → u = s.putFit K.seqChkToggles n →
        s.get (K.seqChkChat pset.val) ≤ u.get K.seqChkToggles →
        Gives (.checkChatter n) s (checkFail soft 2 (u.checkPlace kind op (some s.seq.chatRail)).1
          (u.checkPlace kind op (some s.seq.chatRail)).2 u))) ∧
    (∀ (tmo : BitVec 8) (target : BitVec 6), s.seq.waiting = some (.gait tmo target) → s.seqState = .powerUp →
      s.seq.startBeat + s.gaitLimit tmo ≤ s.clock.beat →
      Gives .gaitTmo s (stepFail 6 0xFF 0xFF (pullGait (s.flag K.gaitStatus 2)))))

/-- The ends of waiting steps (R184, R188 to R191, R197 to R199, R206): a CHECK counts the beats in which its condition has held
without interruption, a GAIT advances at its ACK_N-th high sample after the start beat. -/
def Obligations.SequencerWaitsThatEnd : Prop :=
  ∀ s : State, s.fastUp = true →
    (∀ (w : Bool) (tmo : BitVec 8) (mask : BitVec 16), s.seq.waiting = some (.enable w tmo mask) →
      (∀ n, n ∈ railsOf mask → s.rail n = .on ∨ s.rail n = .ready) → Gives .enableWaitDone s (stepDone s)) ∧
    (∀ (w : Bool) (tmo : BitVec 8) (mask : BitVec 16), s.seq.waiting = some (.disable w tmo mask) →
      (∀ n, n ∈ railsOf mask → s.rests n = true) → Gives .disableWaitDone s (stepDone s)) ∧
    (∀ n : BitVec 27, s.seq.waiting = some (.waitTime false n) → s.seq.startBeat + n.toNat ≤ s.clock.beat →
      Gives .waitTimeDone s (stepDone s)) ∧
    (∀ n : BitVec 27, s.seq.waiting = some (.waitTime true n) → (s.seq.startBeat / 1000 + n.toNat) * 1000 ≤ s.clock.beat →
      Gives .waitTimeDone s (stepDone s)) ∧
    (∀ (lock : Bool) (skip : BitVec 8) (unit : BitVec 12), s.seq.waiting = some (.waitStride lock skip unit) →
      s.seq.stridesLeft = 0 → s.unitDue unit.toNat K.seqInstr = true → s.seq.startBeat < s.clock.beat →
      Gives .waitStrideDone s (stepDone s)) ∧
    (∀ (soft pol : Bool) (pset : Fin 32) (kind : BitVec 4) (op : BitVec 16),
      s.seq.waiting = some (.check soft pol pset kind op) →
      (s.checkHolds pol kind op = true → s.seq.stableAt ≠ some s.clock.beat →
        countStable s = { s with seq := { s.seq with stable := s.seq.stable + 1, stableAt := some s.clock.beat } }) ∧
      (s.checkHolds pol kind op = false →
        countStable s = { s with seq := { s.seq with stable := 0, stableAt := some s.clock.beat } }) ∧
      (s.freePin kind op = false → s.get (K.seqChkStable pset.val) ≤ (countStable s).seq.stable → ∀ n,
        Gives (.checkPass n) s (stepDone ((countStable s).put K.seqFlag 0))) ∧
      (∀ n, s.freePin kind op = true → s.get (K.seqChkStable pset.val) ≤ n → s.seq.startBeat + n ≤ s.clock.beat + 1 →
        Gives (.checkPass n) s (stepDone ((countStable s).put K.seqFlag 0)))) ∧
    (∀ (rail : Fin 16) (w : Bool) (code : BitVec 13), s.seq.waiting = some (.slew rail w code) →
      (s.rail rail.val).regulating = true → s.railRef rail.val = code.toNat → Gives .slewWaitDone s (stepDone s)) ∧
    (∀ (tmo : BitVec 8) (target : BitVec 6) (n : Nat) (u : State), s.seq.waiting = some (.gait tmo target) →
      s.get K.gaitAckN ≤ n → s.seq.startBeat + n ≤ s.clock.beat → s.gait.released = true →
      u = (((s.put K.seqGaitState target.toNat).bump K.gaitStepCnt).flag K.gaitStatus 1).put K.gaitLastWait
        ((s.clock.beat - s.seq.startBeat) % 2 ^ 32) →
      Gives (.gaitAdvance n) s (stepDone { u with gait := { u.gait with pullAt := some (s.clock.beat + s.get K.gaitHold) } })) ∧
    (∀ t, s.gait.pullAt = some t → t ≤ s.clock.beat →
      Gives .gaitHoldEnd s { s with gait := { s.gait with released := false, pullAt := none } })

/-- GAITALRM (R208 to R210): its detection at the samples of ALRM_DEGLITCH, the device's own ones among them, its assertion by the
host, its release after the minimum time, and the line that rises. Programs at the host's request (R181, R182, R205, R214):
SEQ.RUN starts a user program as a job, SEQ.STOP ends it after its step, SEQ.IMAGE is verified whole and stands ready for the next
tick. -/
def Obligations.ProgramsAndAlarm : Prop :=
  (∀ s : State,
    (s.fastUp = true → s.gait.en = true → s.gait.detected = false → s.gait.alarm = false → ∀ n,
      s.get K.gaitAlrmDeglitch ≤ n → Gives (.gaitalrmDetect n) s (alarmActs (takeSource .gaitAlrmIn 0
        { (s.bump K.gaitAlrmCnt).flag K.gaitStatus 4 with gait := { s.gait with detected := true } }))) ∧
    (s.fastUp = true → s.gait.en = true → s.gait.detected = false → s.gait.alarm = true → ∀ n,
      s.get K.gaitAlrmDeglitch ≤ s.clock.beat - s.gait.alarmFrom → Gives (.gaitalrmDetect n) s (alarmActs
        { (s.bump K.gaitAlrmCnt).flag K.gaitStatus 4 with gait := { s.gait with detected := true } })) ∧
    (s.gait.en = false → ∀ n, Gives (.gaitalrmDetect n) s s) ∧
    (s.gait.alarm = true → s.gait.alarmSince + s.get K.gaitAlrmMin * 1000 ≤ s.clock.beat → s.programRuns = false →
      Gives .gaitalrmRelease s { s with gait := { s.gait with alarm := false } }) ∧
    (s.gait.alarm = false →
      Gives .gaitalrmLineHigh s (endCondition 0x5400 { s with gait := { s.gait with detected := false } })) ∧
    (∀ (port : Port) (b : State), b = s.openTick → b.answers port = true →
      (b.gait.en = true → b.drivesGait = true → Accepts (.gaitAlrmCmd port 1) port s { b.flag K.gaitStatus 8 with
        gait := { b.gait with alarm := true, alarmFrom := if b.gait.alarm then b.gait.alarmFrom else b.clock.beat
                              alarmSince := b.clock.beat } }) ∧
      (b.gait.en = true → b.drivesGait = false → Accepts (.gaitAlrmCmd port 1) port s b) ∧
      (b.gait.en = false → Refuses (.gaitAlrmCmd port 1) port 0x08000022 s) ∧
      (∀ v : BitVec 8, v ≠ 1 → Refuses (.gaitAlrmCmd port v) port 0x06090030 s))) ∧
  (∀ (port : Port) (s b : State), b = s.openTick → b.answers port = true →
    (∀ (v : BitVec 8) (i : Nat), 2 ≤ v.toNat → v.toNat ≤ 7 → b.dev = .active → b.programRuns = false →
      (imageDir b.seq.image v.toNat).2 ≠ 0 → b.jobChoice = some i →
      Accepts (.seqRun port v) port s (beginProgram .user v.toNat
        { b.jobAllot port K.seqRun i with seq := { b.seq with job := some i } })) ∧
    (∀ v : BitVec 8, v.toNat < 2 ∨ 7 < v.toNat → Refuses (.seqRun port v) port 0x06090030 s) ∧
    (∀ v : BitVec 8, 2 ≤ v.toNat → v.toNat ≤ 7 →
      b.dev ≠ .active ∨ b.programRuns = true ∨ (imageDir b.seq.image v.toNat).2 = 0 →
      Refuses (.seqRun port v) port 0x08000022 s) ∧
    (b.seqState = .user → Accepts (.seqStop port 1) port s (giveWay { b with seq := { b.seq with stopAfter := true } })) ∧
    (b.seqState ≠ .user → Refuses (.seqStop port 1) port 0x08000022 s) ∧
    (∀ d : List Byte, b.get K.cfgLock ≠ 1 →
      (b.programRuns = true → Refuses (.seqImage port d) port 0x08000022 s) ∧
      (b.programRuns = false → okImage d = false → Refuses (.seqImage port d) port 0x08000020 s) ∧
      (b.programRuns = false → okImage d = true →
        Accepts (.seqImage port d) port s { b with staging := { b.staging with seqImage := some d } })))

/-- Requests to DEV.STATE_REQ (R21, R22, R25, R34, R204): each is refused in STALL and LOCKOUT and while the pair is being joined; a
request for ACTIVE from STANDBY and DOZE, for DOZE from ACTIVE with nothing running and no class F2 to F5 unacknowledged, is noted
at its boundary and acts in step 6 of the tick; one for STANDBY is an off request. -/
def Obligations.StateRequests : Prop :=
  (∀ (port : Port) (s b : State), b = s.openTick → b.answers port = true →
    (b.dev = .stall ∨ b.dev = .lockout ∨ b.joining = true →
      Refuses (.stateReqActive port) port 0x08000022 s ∧ Refuses (.stateReqDoze port) port 0x08000022 s ∧
      Refuses (.stateReqStandby port) port 0x08000022 s) ∧
    (b.joining = false →
      (b.dev = .standby → Accepts (.stateReqActive port) port s (noteRequest 4 b) ∧ Accepts (.stateReqStandby port) port s b ∧
        Refuses (.stateReqDoze port) port 0x08000022 s) ∧
      (b.dev = .doze → Accepts (.stateReqActive port) port s (noteRequest 4 b) ∧ Accepts (.stateReqDoze port) port s b ∧
        Accepts (.stateReqStandby port) port s (noteRequest 2 (offRequest 1 b))) ∧
      (b.dev = .active →
        (b.programRuns = false → b.get K.faultUnack &&& 0x3C = 0 → Accepts (.stateReqDoze port) port s (noteRequest 3 b)) ∧
        (b.programRuns = true ∨ b.get K.faultUnack &&& 0x3C ≠ 0 → Refuses (.stateReqDoze port) port 0x08000022 s) ∧
        Accepts (.stateReqStandby port) port s (offRequest 1 b) ∧
        (b.seqState = .powerDown → b.get K.seqOnLatch = 0 →
          Accepts (.stateReqActive port) port s ((b.put K.seqOnLatch 1).flag K.seqStatus 0x20))))) ∧
  (∀ s : State, s.vsysLost = false → s.fc.lockoutDue = false → s.enHigh = true →
    (s.dev = .standby → s.power.req = some 4 →
      powerTick s = { startUp 1 s with power := { (startUp 1 s).power with alarmWake := false, req := none } }) ∧
    (s.dev = .active → s.power.req = some 3 → s.dozeAllowed = true →
      powerTick s = { enterDoze s with power := { (enterDoze s).power with alarmWake := false, req := none } }) ∧
    (s.dev = .doze → s.fc.dozeWake = false → s.power.req = some 4 ∨ s.power.req = some 2 →
      powerTick s = { leaveDoze 1 s with power := { (leaveDoze 1 s).power with alarmWake := false, req := none } }) ∧
    (s.dev = .standby ∨ s.dev = .active → s.power.req = none →
      powerTick s = { s with power := { s.power with alarmWake := false, req := none } }))

/-- Transitions at a tick boundary (R21, R22, R24, R25, R204): automatic start, the end of power-down with EN high, a latched on
request once gait state 0 has been reached and every rail is discharged, EN low in each state; in step 6 loss of VSYS goes before
a lockout, and both before any request, which is discarded. -/
def Obligations.TickTransitions : Prop :=
  (∀ s b : State, b = s.openTick → b.coreUp = true → b.fc.lockoutDue = false →
    (b.dev = .standby → b.power.autostartDue = true → b.joining = false → b.power.since < b.tick →
      GivesAtTick .autostart s (startUp 2 b)) ∧
    (b.latchDue = true →
      ∃ t, exec .enterStandby s = .next t ∧ t.dev = .active ∧ t.get K.seqOnLatch = 0 ∧ t.get K.devStateCause = 1) ∧
    (b.downDone = true → b.enHigh = true → b.seq.cause = 1 → b.fc.restartDev = false →
      ∃ t, exec .enterStandby s = .next t ∧ t.dev = .standby ∧ t.get K.devStateCause = 1 ∧ t.seqState = .idle) ∧
    (b.dev = .standby ∨ b.dev = .stall ∨ b.dev = .lockout →
      ∃ t, exec .enLow s = .next t ∧ t.dev = .backup ∧ t.get K.devStateCause = 3 ∧ t.clock = Clock.reset ∧ t.pins.en = false) ∧
    (b.dev = .active → b.seqState = .idle → b.power.offPending = none →
      ∃ t, exec .enLow s = .next t ∧ t.dev = .active ∧ t.seqState = .powerDown ∧ t.seq.cause = 3 ∧ t.pins.en = false)) ∧
  (∀ s : State, s.vsysLost = true →
    powerTick s = { enterBackup s.vsysNow 0 s with
      power := { (enterBackup s.vsysNow 0 s).power with alarmWake := false, req := none } }) ∧
  (∀ s : State, s.vsysLost = false → s.fc.lockoutDue = true → s.dev.live = true → (powerTick s).dev = .lockout ∧
    (powerTick s).get K.devStateCause = 7 ∧ (powerTick s).seqState = .halted ∧ (powerTick s).power.req = none)

/-- Supplies and resets (R20, R21, R26, R359, R361, R407, R471, R483): VSYS undervoltage takes every main-domain state, and boot, to
BACKUP, a backup supply above its start threshold takes OFF to BACKUP, none above its hold threshold takes BACKUP to OFF and
clears the backup domain; SYSRST_N holds the main domain in reset; none touches a byte of MRAM. The thresholds are the device's
own within the bounds of R483. -/
def Obligations.SuppliesAndReset : Prop :=
  ∀ s : State,
    (∀ (b : State) (v : Nat), b = s.openTick →
      (v < vsysUvMv → b.fastUp = true →
        ∃ t, exec (.vsysUv v) s = .next t ∧ t.dev = .backup ∧ t.get K.devStateCause = 0 ∧ t.clock = Clock.reset ∧ t.mram = s.mram ∧
          ∀ x, supplyOf v (b.get K.bkVbak) (b.get K.chgVbat) = some x → t.bk.supply = x) ∧
      (v < vsysUvMv → b.power.boot ≠ none → ∃ t, exec (.vsysUv v) s = .next t ∧ t.dev = .backup ∧ t.power.boot = none ∧
        t.clock = Clock.reset ∧ t.mram = s.mram) ∧
      (vsysUvMv ≤ v → exec (.vsysUv v) s = .next s)) ∧
    (∀ vsys vbak vbat x : Nat, s.dev = .off → startSupply vsys vbak vbat = some x →
      ∃ t, exec (.backupStart vsys vbak vbat) s = .next t ∧ t.dev = .backup ∧ t.bk.supply = x) ∧
    (∀ vsys vbak vbat : Nat, startSupply vsys vbak vbat = none → Gives (.backupStart vsys vbak vbat) s s) ∧
    (∀ vsys vbak vbat : Nat, s.dev = .backup → s.power.boot = none → s.power.held = false → supplyOf vsys vbak vbat = none →
      ∃ t, exec (.fallToOff vsys vbak vbat) s = .next t ∧ t.dev = .off ∧ t.bk = Backup.reset ∧ t.mram = s.mram ∧
        t.pending = s.pending) ∧
    (s.dev.main = true → ∃ t, exec .sysrstNAssert s = .next t ∧ t.power.held = true ∧ t.dev = .backup ∧ t.mram = s.mram ∧
      t.clock = Clock.reset) ∧
    (∀ mv : Nat, Gives (.vddioLoss mv) s { s with pins := { s.pins with
      vddioGood := decide ((if s.pins.vddioGood then vddioFallMv else vddioRiseMv) ≤ mv) } }) ∧
    (∀ vsys vbak vbat : Nat,
      (s.dev.main = true → Gives (.backupSupplyChange vsys vbak vbat) s (takeSupply 0 s)) ∧
      (∀ x, s.dev.main = false → s.bkUp = true → supplyOf vsys vbak vbat = some x →
        Gives (.backupSupplyChange vsys vbak vbat) s (takeSupply x s))) ∧
    (∀ x, x ≠ s.bk.supply → takeSupply x s = { s.flag K.bkStatus 4 with bk := { s.bk with supply := x } })

/-- Boots (R404, R408): with EN high and VSYS good at 4 edges out of BACKUP, after SYSRST_N, and after a retry from STALL; each starts
time anew and leaves the boot under way with its cause; the end of boot enters STANDBY, LOCKOUT or STALL. -/
def Obligations.Boots : Prop :=
  ∀ (s b : State) (x : BootInputs), b = s.openTick →
    (∀ v n : Nat, s.dev.main = false → s.power.boot = none → s.power.held = false → s.pins.vddioGood = true →
      (vsysGoodMv ≤ v → 4 ≤ n → ∃ t p, exec (.bootBegin v n x) s = .next t ∧ t.clock = Clock.reset ∧ t.power.boot = some p ∧
        p.cause = 0 ∧ t.mram = s.mram) ∧
      (v < vsysGoodMv ∨ n < 4 → exec (.bootBegin v n x) s = .next s)) ∧
    (s.power.held = true → ∃ t p, exec (.sysrstNRelease x) s = .next t ∧ t.clock = Clock.reset ∧ t.power.boot = some p ∧
      p.cause = 0x0A ∧ t.power.held = false) ∧
    (b.retryDue = true → ∃ t p, exec (.retryBoot x) s = .next t ∧ t.power.boot = some p ∧ p.cause = 9 ∧ t.clock = Clock.reset) ∧
    (∀ p, s.power.boot = some p → ∃ t, exec .endOfBoot s = .next t ∧ t.power.boot = none ∧ t.clock = s.clock.ticked ∧
      t.dev = (bootEnds p s.atBoundary).1 ∧ t.pending = s.pending) ∧
    (∀ (port : Port) (i : Nat), b.answers port = true → b.dev = .stall → b.jobChoice = some i →
      Accepts (.stRetry port 0x7E57) port s (jobEnd i .done 0 { (b.jobAllot port K.stRetry i).bumpSat K.stRetryCnt with
        power := { b.power with retryAt := some (b.power.retryAt.getD (b.tick + 10)) } })) ∧
    (∀ (port : Port) (v : BitVec 16), b.answers port = true → v ≠ 0x7E57 → Refuses (.stRetry port v) port 0x06090030 s)

/-- The power path (R247 to R251): qualified sources, the loss of one below its threshold for 4 beats or at its overvoltage
comparator, the pack's takeover below V_take and its disarming, the cutoff latch, the path left that goes off in the next beat,
and a start from the pack. The sources of an event are taken in their order (R223). -/
def Obligations.PowerPath : Prop :=
  ∀ s : State,
    (s.fastUp = true →
      (s.get K.pathQual ≤ s.path.vinQual → Gives (.pathSourceValid .vin) s
        (collectDue (pathUp { s with path := { s.path with vinValid := true } }))) ∧
      (s.get K.pathQual ≤ s.path.auxQual → Gives (.pathSourceValid .auxin) s
        (collectDue (pathUp { s with path := { s.path with auxValid := true } }))) ∧
      Gives (.pathSourceValid .bat) s (collectDue (pathUp s)) ∧
      (∀ mv n : Nat, s.get K.pathVinOvp = 0 ∨ mv < s.get K.pathVinOvp →
        (mv < 15500 → 4 ≤ n → Gives (.pathSwitch .vin mv n) s (collectDue (pathDown (dropSource 1 s)))) ∧
        (15500 ≤ mv ∨ n < 4 → Gives (.pathSwitch .vin mv n) s (collectDue s))) ∧
      (∀ mv n : Nat, s.get K.pathVinOvp ≠ 0 → s.get K.pathVinOvp ≤ mv → n < 4 →
        Gives (.pathSwitch .vin mv n) s (collectDue (cutPath 1 (s.flag K.pathStatus 0x20)))) ∧
      (∀ mv n : Nat, mv < 15500 → 4 ≤ n → Gives (.pathSwitch .auxin mv n) s (collectDue (pathDown (dropSource 2 s)))) ∧
      (∀ mv n : Nat, Gives (.pathSwitch .bat mv n) s (collectDue (pathDown s))) ∧
      (∀ mv : Nat, 64000 < mv →
        Gives (.pathAuxOv mv) s (collectDue (raiseLater .pathAuxOv 0 (cutPath 2 (s.flag K.pathStatus 0x10))))) ∧
      (s.get K.pathSource = 1 ∨ s.get K.pathSource = 2 →
        (∀ mv : Nat, s.batValid = true → s.path.batOn = false → mv < s.get K.pathVTake →
          Gives (.batTakeover mv) s (showGates { s.flag K.pathStatus 4 with path := { s.path with batOn := true } })) ∧
        (∀ mv n : Nat, s.get K.pathVTake + 1000 ≤ mv → 100 ≤ n →
          Gives (.batDisarm mv n) s (showGates { s with path := { s.path with batOn := false } }))) ∧
      (∀ mv : Nat, s.get K.pathVTake ≤ mv → Gives (.batTakeover mv) s s) ∧
      (s.batPathOn = true → s.get K.pathCutoffTicks ≤ s.path.cutoffTicks →
        Gives .pathBatCutoff s (collectDue (showGates (pathDown (raiseLater .pathBatCutoff 0 { s.flag K.pathStatus 8 with
          bk := { s.bk with cutoff := true }, path := { s.path with batOn := false, cutoffTicks := 0 } })))))) ∧
    (∀ (k : SrcKind) (n : Nat), s.fc.due = [] → collectDue (raiseLater k n s) = takeSource k n s) ∧
    (s.path.leaving ≠ 0 → pathBeat s = showGates { s with path := { s.path with leaving := 0 } }) ∧
    (∀ (alarm : Bool) (v : Nat),
      (s.dev.main = false → (if alarm then s.bk.alarmDue else s.pins.wake) = true → s.bk.batStart = true → s.bk.cutoff = false →
        s.bk.restartLevel ≤ v →
        Gives (.batteryStart alarm v) s { s with path := { s.path with batOn := true, batStarted := true } }) ∧
      (s.bk.cutoff = true ∨ v < s.bk.restartLevel → Gives (.batteryStart alarm v) s s))

/-- The charge cycle (R255 to R258): each change of state at its condition, with the end of charge that calls for an anchor, and
DETECT in each of its outcomes. The charger takes a state: it reads it and its counts restart, the count of a collapse where that
state does not charge, the tick under way is none of its own, and no rail and no phase changes. -/
def Obligations.ChargeCycle : Prop :=
  (∀ s : State, s.coreUp = true →
    (s.chgState = .precharge → 10 ≤ s.chg.preTicks → Gives .prechargeDone s (setChg .cc s)) ∧
    (s.chgState = .cc → s.chg.probing = false → Gives .cvEntry s (setChg .cv s)) ∧
    (s.chgState = .cv → 10 ≤ s.chg.cvTicks → Gives .cvToCc s (setChg .cc s)) ∧
    (s.chgState = .cv → s.get K.chgEocTicks ≤ s.chg.eocTicks →
      Gives .endOfCharge s { setChg .done s with est := { s.est with fullDue := true } }) ∧
    (s.chgState = .done → 100 ≤ s.chg.rechgTicks → Gives .recharge s (setChg .detect s)) ∧
    (s.chgState = .suspend → 100 ≤ s.chg.regainTicks → Gives .chgTempRegain s (setChg .detect (regainTemp s))) ∧
    (s.chgState = .missing → s.chgHeld = false → s.get K.chgDetRetry * 1000 ≤ s.chg.stateTicks →
      Gives .chgDetRetry s (showGates (setChg .detect s))) ∧
    (∀ v, s.chgState = .detect → 10 ≤ s.chg.stateTicks → s.rechargeLevel ≤ s.chg.vOpen →
      Gives (.detectDone v) s (collectDue (readPackid v (packFound (setChg .done s))))) ∧
    (∀ v, s.chgState = .detect → 30 ≤ s.chg.stateTicks → s.chg.vOpen < s.rechargeLevel →
      s.get K.chgVbat < s.chg.vOpen + 2000 → s.get K.chgVbat + 100 < s.cvTarget → s.shortLevel ≤ s.get K.chgVbat →
      Gives (.detectDone v) s
        (collectDue (readPackid v (packFound (setChg (if s.get K.chgVbat < s.preLevel then .precharge else .cc) s))))) ∧
    (∀ v, s.chgState = .detect → 30 ≤ s.chg.stateTicks → s.chg.vOpen < s.rechargeLevel → s.chg.vOpen + 2000 ≤ s.get K.chgVbat →
      Gives (.detectDone v) s (collectDue (raiseLater .chgBatMissing 0 (packLost (s.flag K.chgStatus 8)))))) ∧
  (∀ (x : ChgState) (s : State),
    (setChg x s).chgState = x ∧ (setChg x s).chg.stateTicks = 0 ∧ (setChg x s).chg.fresh = true ∧
    (x.charging = false → (setChg x s).chg.probing = false ∧ (setChg x s).chg.collapse = 0) ∧
    (∀ n, n < 16 → (setChg x s).rail n = s.rail n) ∧ (∀ p, p < 8 → (setChg x s).phase p = s.phase p))

/-- Charge stops and removal (R260 to R263, R268): each latches its bit of CHG.FAULT and raises its source in every state, and enters
FAULT from the states of R255 that lead there; 4 beats of a short or an overvoltage, 1,000 beats of a collapse with a step of
VBAT, a probe that finds VBAT below 98.5 % of what it was, and the beats after a probe's last, which are watched again. -/
def Obligations.ChargeStops : Prop :=
  ∀ s : State, s.coreUp = true →
    (∀ (k : SrcKind) (bit : Nat),
      (s.chgState.stoppable = true → s.chgState ≠ .reverse →
        chargeStop k bit s = raiseLater k 0 (setChg .fault (s.flag K.chgFault bit))) ∧
      (s.chgState.stoppable = false → chargeStop k bit s = raiseLater k 0 (s.flag K.chgFault bit))) ∧
    (s.chgState = .cc ∨ s.chgState = .cv →
      (s.get K.chgTimer * 60000 * 2 ^ 32 ≤ s.chg.accFast → Gives .chgTimer s (collectDue (chargeStop .chgTimer 1 s))) ∧
      (s.chg.accFast < s.get K.chgTimer * 60000 * 2 ^ 32 → 2 * (s.get K.chgTimer * 60000) ≤ s.chg.absFast →
        Gives .chgTimer s (collectDue (chargeStop .chgTimer 2 s)))) ∧
    (s.chgState = .precharge → s.get K.chgPreTimer * 60000 * 2 ^ 32 ≤ s.chg.accPre →
      Gives .chgPreTmo s (collectDue (chargeStop .chgPreTmo 4 s))) ∧
    (∀ l : List (Int × Nat × Nat),
      Gives (.chgBatShort l) s (collectDue (each l packRun s)) ∧ Gives (.chgBatOv l) s (collectDue (each l packRun s)) ∧
      Gives (.collapseConfirm l) s (collectDue (each l packRun s)) ∧
      Gives (.removalProbeDone l) s (collectDue (each l packRun s))) ∧
    (∀ (i : Int) (v n : Nat),
      (s.chgState.charging = true → v < s.shortLevel → v ≤ s.ovLevel → 9 * (s.get K.chgILim : Int) ≤ 10 * i →
        s.chg.shortBeats < 4 → 4 ≤ s.chg.shortBeats + n → levelRun i v n s = chargeStop .chgBatShort 8
          { s with chg := { s.chg with shortBeats := s.chg.shortBeats + n, ovBeats := 0 } }) ∧
      (s.ovLevel < v → s.shortLevel ≤ v → s.chg.ovBeats < 4 → 4 ≤ s.chg.ovBeats + n →
        levelRun i v n s = chargeStop .chgBatOv 0x10
          { s with chg := { s.chg with shortBeats := 0, ovBeats := s.chg.ovBeats + n } })) ∧
    (∀ (i : Int) (v f n : Nat), n ≠ 0 →
      (s.chg.probing = true →
        (v * 1000 < s.chg.collapseV * 985 → watchRun i v (f + 1) n s = removal s) ∧
        (s.chg.collapseV * 985 ≤ v * 1000 →
          (n < s.chg.probeLeft → watchRun i v (f + 1) n s = { s with chg := { s.chg with probeLeft := s.chg.probeLeft - n } }) ∧
          (s.chg.probeLeft ≤ n → watchRun i v (f + 1) n s = watchRun i v f (n - s.chg.probeLeft) (probeEnd s)))) ∧
      (s.chg.probing = false → s.collapses i = true →
        (s.chg.collapse + n < 1000 → watchRun i v (f + 1) n s = collapseCount n s) ∧
        (1000 ≤ s.chg.collapse + n →
          ((collapseCount n s).chg.collapseV + s.get K.chgRemoveDv ≤ v → watchRun i v (f + 1) n s = removal (collapseCount n s)) ∧
          (v < (collapseCount n s).chg.collapseV + s.get K.chgRemoveDv → watchRun i v (f + 1) n s =
            watchRun i v f (s.chg.collapse + n - 1000) (probeBegin (collapseCount n s))))) ∧
      (s.chg.probing = false → s.collapses i = false →
        watchRun i v (f + 1) n s = { s with chg := { s.chg with collapse := 0 } })) ∧
    ((probeEnd s).chg.probing = false ∧ (probeEnd s).get K.chgStatus = s.get K.chgStatus ||| 0x40) ∧
    (∀ (peak : Nat) (drv : Bool) (sw : Nat), 64 ≤ peak ∨ drv = true ∨ 2 ≤ sw →
      Gives (.chgConv peak drv sw) s (collectDue (chargeStop .chgConv 0x20 s))) ∧
    (s.chgState = .reverse → 10 ≤ s.chg.revShortTicks →
      Gives .chgRevShort s (collectDue (showGates (chargeStop .chgRevShort 0x40 (s.put K.revStopCause 7)))))

/-- Harvest and reverse mode (R254, R265 to R267, R269): the sweep, the tracker's step, the loss of the harvest, start and stops of
reverse mode, and a read of CHG.FAULT. -/
def Obligations.HarvestAndReverse : Prop :=
  ∀ s b : State, b = s.openTick → s.coreUp = true →
    (s.chg.sweeping = true → 50 ≤ s.chg.sweepTicks → ∀ v, v = s.get K.pathAuxin →
      ∃ t, exec .mpptSweep s = .next t ∧ t.get K.mpptVoc = fit K.mpptVoc v ∧ t.chg.sweeping = false ∧
        t.get K.mpptVset = fit K.mpptVset (max (v * s.get K.mpptFrac / 100) s.vMin) ∧ SameBut [K.mpptVoc, K.mpptVset] s t) ∧
    (∀ p : Int, p = truncDiv s.chg.pSum (1000 * s.chg.periodTicks : Nat) → s.chg.harvesting = true → s.chg.sweeping = false → s.get K.mpptPeriod ≤ s.chg.periodTicks →
      ∃ t, exec .mpptStep s = .next t ∧ t.get K.mpptP = fit K.mpptP p ∧ t.chg.periodTicks = 0 ∧ t.chg.bound = false ∧
        (s.chg.bound = false → t.chg.dir = (if p < s.chg.pPrev then -s.chg.dir else s.chg.dir) ∧ t.chg.pPrev = p) ∧
        SameBut [K.mpptP, K.mpptVset] s t) ∧
    (s.path.harvestValid = true → s.get K.chgInput ≠ 2 →
      (∀ mv n : Nat, mv < 9500 → 4 ≤ n → Gives (.harvestLost mv n) s { s with path := { s.path with harvestValid := false, harvestQual := 0 } })) ∧
    (∀ mv n : Nat, 9500 ≤ mv ∨ n < 4 → Gives (.harvestLost mv n) s s) ∧
    (∀ port : Port, b.answers port = true →
      (b.canReverse = true → Accepts (.revStart port) port s (showGates { setChg .reverse (b.flag K.chgStatus 0x100) with
        path := { b.path with auxValid := false, auxQual := 0 } })) ∧
      (b.canReverse = false → Refuses (.revStart port) port 0x08000022 s) ∧
      Accepts (.revStop port) port s (showGates (revEnd 1 b)) ∧
      Accepts (.chgFaultRead port) port s (b.clearFlag K.chgFault (lookupD b.pub K.chgFault 0))) ∧
    (∀ mv n : Nat,
      (s.get K.revV + 2000 < mv → 4 ≤ n → Gives (.revOtherSource mv n) s (showGates (revEnd 6 s))) ∧
      (mv ≤ s.get K.revV + 2000 ∨ n < 4 → Gives (.revOtherSource mv n) s s)) ∧
    (10 ≤ s.chg.revLowTicks → Gives .revVbatLow s (showGates (revEnd 4 s)))

/-- The budget limiter, the thermal manager (R73, R74, R76, R498, R501): beats above BUDGET.PEAK force the charger and stop reverse
mode, the first of an excursion raises and counts; the store follows P, held to e_max from the first beat on; ten ticks with
nothing to shed, a sensor far from the median, and the shed of one rail, of highest PRIO among those that may be shed. -/
def Obligations.BudgetAndThermal : Prop :=
  ∀ s : State, s.coreUp = true →
    (∀ l : List (Nat × Nat), Gives (.budgetPeak l) s (each l powerRun s)) ∧
    (s.budget.above = false → peakBeat true s = takeSource .budgetPeak 0
      (({ forcePeak s with budget := { (forcePeak s).budget with above := true } } : State).bump K.budgetPeakCnt)) ∧
    (s.budget.above = true → peakBeat true s = { forcePeak s with budget := { (forcePeak s).budget with above := true } }) ∧
    (peakBeat false s = { s with budget := { s.budget with above := false } }) ∧
    (∀ p n : Nat,
      powerRun (p, 1) s = powerBeats p 1 s ∧ (2 ≤ n → powerRun (p, n) s = powerBeats p (n - 1) (powerBeats p 1 s)) ∧
      (powerBeats p n s).budget.e = min s.eMax (s.budget.e + n * p - n * s.get K.budgetCont) ∧
      (s.eMax ≠ 0 → (powerBeats p n s).budget.full = ((powerBeats p n s).budget.e == s.eMax))) ∧
    ((forcePeak s).budget.forced = true ∧ (forcePeak s).chgState ≠ .reverse) ∧
    (10 ≤ s.budget.noneLeft → s.budget.overRaised = false → Gives .budgetOver s (collectDue (raiseLater .budgetOver 0
      (fdStop 0x1B00 { s with budget := { s.budget with overRaised := true } })))) ∧
    (∀ x : Fin 12, 10 ≤ s.therm.counts.toArray.getD x.val 0 → s.excluded x.val = false →
      Gives (.thermSensor x) s (takeSource .thermSensor x.val ((s.putBit K.thermExcluded x.val true).flag K.thermStatus 0x10))) ∧
    (s.thermOver = true → s.get K.chgITherm = 0 → s.get K.thermShedTicks ≤ s.therm.shedCount → ∀ n, s.shedChoice 16 = some n →
      Gives .thermShed s (thermEnd (raiseLater .thermShed n (railShed n 6 true
        (({ s with therm := { s.therm with shedCount := 0 } }.putBit K.thermShedMask n true).flag K.thermStatus 4))))) ∧
    (∀ n, s.shedChoice 16 = some n → n < 16 ∧ (s.rail n).sheddable = true ∧ s.alwaysOn n = false ∧ s.get (K.budgetPrio n) ≠ 0 ∧
      ∀ m, m < 16 → (s.rail m).sheddable = true → s.alwaysOn m = false → s.get (K.budgetPrio m) ≠ 0 →
        s.get (K.budgetPrio m) ≤ s.get (K.budgetPrio n))

/-- Estimator work outside the epochs (R279, R284, R287, R289 to R294, R305, R306): hibernation and wake, a measurement that falls due
in any state but OFF or is asked for, its points, which start at the grant or at their stride unit where the charger is as it was,
give the impedance of their samples or are abandoned, the fit after the last, a reset, a converter that delivers nothing, and a
due checkpoint. ESTIMATOR_EPOCH at an epoch boundary that the estimator has not met (R280, R283, R284): OFF goes to INIT, RUN
updates from the samples, HIBERNATE sums; charge joins the accumulators, whichever its sign. At any other beat it changes nothing. -/
def Obligations.EstimatorEvents : Prop :=
  (∀ s b : State, b = s.openTick →
    (s.fastUp = true →
      (s.estState = estRun → s.get K.estHibT ≠ 0 → s.get K.estHibT ≤ s.est.hibCount → s.est.measure = none →
        s.clock.beat % 1000000 = 0 → Gives .estHibernate s { (s.put K.estState estHib).flag K.estStatus 0x200 with
          est := { s.est with wakeDue := false, sinceUpdate := 0, hibI := 0, hibV := 0 } }) ∧
      (∀ (i : Int) (n : Nat), s.estState = estHib →
        (s.get K.estWakeI ≤ i.natAbs → 4 ≤ n → Gives (.estWake i n) s { s with est := { s.est with wakeDue := true } }) ∧
        (i.natAbs < s.get K.estWakeI ∨ n < 4 → Gives (.estWake i n) s s)) ∧
      (s.estState ≠ estOffCode → s.get K.estZInterval ≠ 0 → s.get K.estZInterval ≤ s.est.sinceZ →
        s.est.measure = none → Gives .estZDue s (beginMeasure none s)) ∧
      (∀ n, s.estState ≠ estOffCode →
        (100 ≤ n → Gives (.estAdc n) s (takeSource .estAdc 0 { s with est := { s.est with adcDue := true } })) ∧
        (n < 100 → Gives (.estAdc n) s s)) ∧
      (s.coreUp = true → s.get K.estCkpt ≤ s.est.ckptAge →
        exec .estCheckpoint s = .next { commitCkpt s with clock := s.clock, pending := s.pending }) ∧
      (∀ m, s.est.measure = some m →
        (m.granted = true → m.started = false → s.chgKept m = true → s.get K.estZPlace = 0 → Gives .estZPointStart s (startPoint m s)) ∧
        (m.granted = true → m.started = false → s.chgKept m = false → Gives .estZPointStart s s) ∧
        (m.granted = true → m.started = false → s.chgKept m = true → s.get K.estZPlace ≠ 0 → s.unitDue (s.get K.estZPos) K.estZPos = true →
          Gives .estZPointStart s ((startPoint m s).unitTaken (s.get K.estZPos) K.estZPos)) ∧
        (∀ (v i : List Int) (z : Int × Int) (u : State) (m' : Measurement), m.started = true →
          m.over s.clock.beat (m.settle + m.periods) = true → z = zOf m.point (m.amplitude v) (m.amplitude i) →
          m' = { m with point := m.point + 1, granted := false, started := false } →
          u = arbRelease 2 { (s.putFit (K.estZRe m.point) z.1).putFit (K.estZIm m.point) z.2 with
            est := { s.est with measure := some m' } } →
          (m.point + 1 < 8 → Gives (.estZPointDone v i) s u) ∧ (8 ≤ m.point + 1 → Gives (.estZPointDone v i) s (fitModel m' u))))) ∧
    (b.coreUp = true → ∀ (m : Measurement) (cv : Bool) (u : State), b.est.measure = some m → m.granted = true →
      b.pointFails m cv = true →
      u = arbRelease 2 { b with est := { b.est with measure := some { m with tries := m.tries + 1, granted := false, started := false } } } →
      (m.tries + 1 < b.get K.estZTries → GivesAtTick (.estZPointAbandon cv) s (collectDue u)) ∧
      (b.get K.estZTries ≤ m.tries + 1 →
        GivesAtTick (.estZPointAbandon cv) s (collectDue (raiseLater .estZAbandon 0 (endMeasure 4 u))))) ∧
    (∀ port : Port, b.answers port = true →
      (∀ i : Nat, b.dev ≠ .stall → b.est.measure = none → b.jobChoice = some i →
        Accepts (.estZRun port 1) port s (beginMeasure (some i) (b.jobAllot port K.estZRun i))) ∧
      (b.est.measure ≠ none → Refuses (.estZRun port 1) port 0x08000022 s) ∧
      (∀ v : BitVec 16, v ≠ 0xA5C3 → Refuses (.estReset port v) port 0x06090030 s) ∧
      (b.est.last = none → Accepts (.estReset port 0xA5C3) port s
        (setEst (fun e => { e with anchorDue := true }) (setEst (fun e => { e with wakeDue := true }) (resetLearned b)))) ∧
      (∀ h, b.est.last = some h → Accepts (.estReset port 0xA5C3) port s
        (voltageStart h.1 h.2 (setEst (fun e => { e with wakeDue := true }) (resetLearned b))))) ∧
    (∀ job, (beginMeasure job s).get K.estZStatus = 2 ∧ (beginMeasure job s).est.wakeDue = true)) ∧
  (∀ (x : EpochInputs) (s u w : State),
    (s.epochDue = false → Gives (.estimatorEpoch x) s (collectDue s)) ∧
    (s.epochDue = true →
      (s.estState = estOffCode → s.dev.estimates = true → Gives (.estimatorEpoch x) s
        (collectDue { s.put K.estState estInit with est := { s.est with
          lastEpoch := s.clock.epochs, ntcSum := Vector.replicate 4 0, ntcNum := Vector.replicate 4 0 } })) ∧
      (s.estState ≠ estOffCode → u = sampleEpoch x s → w = { u with est := { u.est with adcDue := false } } →
        (u.estState = estRun → Gives (.estimatorEpoch x) s (collectDue (doEstZDue
          (update (s.epochI x) (epochV x) 1 (decide (epochV x < 5000000)) u.est.adcDue w)))) ∧
        (∀ v, u.estState = estInit → v = initEpoch (s.epochI x) (epochV x) w →
          (v.est.packGone = true → v.estState = estNoPack →
            Gives (.estimatorEpoch x) s (collectDue (doEstZDue (packRemoved v)))) ∧
          (v.est.packGone = false ∨ v.estState ≠ estNoPack →
            Gives (.estimatorEpoch x) s (collectDue (doEstZDue { v with est := { v.est with packGone := false } })))) ∧
        (u.estState = estHib → Gives (.estimatorEpoch x) s
          (collectDue (doEstZDue (hibEpoch (s.epochI x) (epochV x) u.est.adcDue w)))) ∧
        (u.estState = estNoPack → Gives (.estimatorEpoch x) s
          (collectDue (doEstZDue (noPackEpoch (s.epochI x) (epochV x) w)))))) ∧
    (∀ (d i : Int) (n : Nat), (integrate d i n s).est.a = wrap64 (s.est.a + d) ∧ (integrate d i n s).est.q = s.est.q + d ∧
      (0 < d → (integrate d i n s).est.qIn = s.est.qIn + d.toNat ∧ (integrate d i n s).est.qOut = s.est.qOut) ∧
      (d ≤ 0 → (integrate d i n s).est.qIn = s.est.qIn ∧ (integrate d i n s).est.qOut = s.est.qOut + (-d).toNat)))

/-- Frames of the pair link (R314 to R316, R330): sent every 10 beats, received, aligned, discarded, lost, and the bulk image, of
which a transmission that misses a segment counts once. -/
def Obligations.PairFrames : Prop :=
  ∀ s : State, s.pairs = true →
    (s.get K.pairLink ≠ 0 → s.clock.beat % 10 = 0 → s.pair.txBeat ≠ some s.clock.beat → Gives .fastFrameSend s (sendFrames s)) ∧
    (s.get K.pairLink = 0 → Gives .linkAlign s { s.put K.pairLink 1 with
      pair := { s.pair with goodRun := 0, rxSeq := none, lastGood := some s.clock.beat } }) ∧
    Gives .tetherFrameDiscarded s (s.bump K.pairCrcErrCnt) ∧
    (∀ n, (n < 8 → s.get K.pairLink ≠ 0 → Gives (.linkSymbolLoss n) s (toSolo s)) ∧
      (8 ≤ n ∨ s.get K.pairLink = 0 → Gives (.linkSymbolLoss n) s s)) ∧
    (∀ l, s.pair.lastGood = some l → s.linkUp = true → l + 31 ≤ s.clock.beat →
      Gives .pairLinkLost s (takeSource .pairLinkLost 0 (((toSolo s).bump K.pairLostCnt).flag K.pairStatus 2))) ∧
    (∀ l, s.pair.lastGood = some l → s.clock.beat < l + 31 → Gives .pairLinkLost s s) ∧
    (∀ (f : FastFrame) (p : Nat) (u : State), s.get K.pairLink = 1 → s.pair.rxSeq = some p →
      f.seq.toNat ≠ (p + 1) % 2 ^ 16 ∨ s.pair.goodRun < 2 →
      u = { s.bumpBy K.pairMissCnt ((f.seq.toNat + 2 ^ 16 - p - 1) % 2 ^ 16) with
        pair := { s.pair with
          goodRun := if f.seq.toNat = (p + 1) % 2 ^ 16 then s.pair.goodRun + 1 else 1, rxSeq := some f.seq.toNat,
          lastGood := some s.clock.beat, peer := some f } } →
      Gives (.fastFrameRx f) s (showPeer f u)) ∧
    (∀ f : SlowFrame, s.get K.pairLink = 1 → Gives (.slowFrameRx f) s { s.put K.pairPeerSerial f.serial.toNat with
      pair := { s.pair with peerSlow := some f } }) ∧
    (∀ g : BulkSegment, s.dev ≠ .stall → s.linkUp = true → s.pairSt = pairBulk →
      (g.index ≠ 0 → s.pair.bulkSkip = true → Gives (.bulkFrameRx g) s s) ∧
      (g.index ≠ 0 → s.pair.bulkSkip = false →
        (g.index.toNat ≠ s.pair.bulkNext →
          Gives (.bulkFrameRx g) s (bulkAgain { s with pair := { s.pair with bulkSkip := true } })) ∧
        (g.index.toNat = s.pair.bulkNext → g.index.toNat + 1 < g.count.toNat → Gives (.bulkFrameRx g) s { s with
          pair := { s.pair with bulkIn := s.pair.bulkIn ++ g.data.take 252, bulkNext := s.pair.bulkNext + 1 } })) ∧
      (g.index = 0 → s.pair.bulkNext = 0 → 1 < g.count.toNat → Gives (.bulkFrameRx g) s { s with
        pair := { s.pair with bulkSkip := false, bulkIn := s.pair.bulkIn ++ g.data.take 252, bulkNext := 1 } }) ∧
      (g.index = 0 → s.pair.bulkNext ≠ 0 → 3 ≤ s.pair.bulkTries → Gives (.bulkFrameRx g) s
        { remountFail s with pair := { (remountFail s).pair with bulkSkip := false } }))

/-- Carriage of STANDBY rails (R322 to R329, R333): arming, takeover on evidence, the announced stop, the handback, rejoining, and the
end of the wait for a partner. -/
def Obligations.PairCarriage : Prop :=
  ∀ s b : State, b = s.openTick →
    (∀ (n : Fin 16) (fb beats : Nat), s.decides = true → s.rail n.val = .ready →
      ((s.railE n.val).pairMode = 2 → s.aboveTake n.val fb = true → s.get K.pairArmTime ≤ beats →
        (s.railE n.val).entered + s.get K.pairArmTime ≤ s.clock.beat →
        Gives (.takeoverArm n fb beats) s { s with pair := { s.pair with armed := s.pair.armed ||| BitVec.ofNat 16 (2 ^ n.val) } }) ∧
      (s.aboveTake n.val fb = false ∨ beats < s.get K.pairArmTime → Gives (.takeoverArm n fb beats) s s) ∧
      (s.pair.armed.getLsbD n.val = true → s.aboveTake n.val fb = false → s.get K.pairTakeDeglitch ≤ beats →
        s.pair.stopSeen.getLsbD n.val = false → Gives (.takeoverEvidence n fb beats) s
        (collectDue (raiseLater .pairTakeover n.val (((railTakeover n.val s).bump K.pairTakeCnt).flag K.pairStatus 4)))) ∧
      (s.pair.stopSeen.getLsbD n.val = true ∨ s.aboveTake n.val fb = true ∨ beats < s.get K.pairTakeDeglitch →
        Gives (.takeoverEvidence n fb beats) s s) ∧
      ((railTakeover n.val s).rail n.val = .on ∧ (railTakeover n.val s).bit K.pairCarry n.val = true)) ∧
    (∀ (n : Fin 16) (c due : Nat), s.fastUp = true → s.pair.stops.find? (fun e => e.1 == n.val) = some (n.val, c, due) → due ≠ 0 →
      due ≤ s.clock.beat → Gives (.announcedStop n) s (railStopAnnounced n.val c s)) ∧
    (∀ (port : Port) (v : BitVec 16) (f : FastFrame) (g : SlowFrame), b.answers port = true → b.pairSt = pairPaired → b.linkUp = true →
      b.pair.peerSlow = some g → b.pair.slowCrc = some g.cfgCrc.toNat → b.pair.peer = some f → f.pairState = 6 →
      (∀ n, n ∈ maskList 16 v.toNat → (b.railE n).pairMode = 2 ∧ b.rail n = .ready ∧ f.carry.toNat.testBit n = true) →
      Accepts (.pairHandback port v) port s { b with pair := { b.pair with hbRequest := b.pair.hbRequest ||| v } }) ∧
    (∀ (port : Port) (v : BitVec 16), b.answers port = true → b.healthy = false →
      Refuses (.pairHandback port v) port 0x08000022 s) ∧
    (∀ port : Port, b.answers port = true →
      (b.pairSt = pairSolo → b.linkUp = true →
        Accepts (.pairCmd port 1) port s { b with pair := { b.pair with noRetry := false, rejoin := true } }) ∧
      (b.pairSt ≠ pairSolo ∨ b.linkUp = false → Refuses (.pairCmd port 1) port 0x08000022 s) ∧
      (∀ v : BitVec 8, v ≠ 1 → Refuses (.pairCmd port v) port 0x06090030 s)) ∧
    (b.decides = true → b.pairSt = pairWait → b.pair.joinFrom + b.get K.pairJoinWait ≤ b.tick →
      (b.linkUp && b.partnerLive) = false → (b.linkUp = false ∨ b.pair.roleFixed = true) →
      GivesAtTick .joinWaitExpire s (takeCarriage (roleAlone (b.put K.pairState pairSolo))))

/-- Check-ins (R343 to R346) act in the beat in which they complete, after a period that ends at it is judged: before the window opens
early, a second one double, otherwise seen; one that no task or no period expects is counted. The two sources have no instance.
Key, lock and command (R351 to R353): the first word opens 100 counts for the second, which disables; any other word raises
WDG_KEY; under the lock, also one that still waits for its tick, the key is refused and raises it; the lock sets at its tick and
cannot be taken back. -/
def Obligations.WatchdogCheckInsAndKey : Prop :=
  (∀ (port : Port) (t : Fin 16) (tag : BitVec 32) (s v u : State), s.answers port = true → v = wdgBeat s →
    u = stampNow ((v.put (K.wdgLastTag t.val) tag.toNat).put (K.wdgLastTime t.val) v.wdg.w) →
    (v.bit K.wdgTasks t.val = true → v.wdgSt = wdgRun →
      (v.wdg.w < u.wdgOpen → Gives (.wdgCheckin port t tag) s { takeSource .wdgEarly 0
        (({ u with wdg := { u.wdg with early := v.wdg.early ||| BitVec.ofNat 16 (2 ^ t.val) } } : State).flag K.wdgStatus 4)
        with reply := some ⟨port, 0⟩ }) ∧
      (u.wdgOpen ≤ v.wdg.w → v.bit K.wdgSeen t.val = false →
        Gives (.wdgCheckin port t tag) s { u.putBit K.wdgSeen t.val true with reply := some ⟨port, 0⟩ }) ∧
      (u.wdgOpen ≤ v.wdg.w → v.bit K.wdgSeen t.val = true → v.get K.wdgMode = 0 →
        Gives (.wdgCheckin port t tag) s { takeSource .wdgDouble 0
        (({ u with wdg := { u.wdg with double := v.wdg.double ||| BitVec.ofNat 16 (2 ^ t.val) } } : State).flag K.wdgStatus 4)
        with reply := some ⟨port, 0⟩ }) ∧
      (u.wdgOpen ≤ v.wdg.w → v.bit K.wdgSeen t.val = true → v.get K.wdgMode ≠ 0 →
        Gives (.wdgCheckin port t tag) s { u.flag K.wdgStatus 8 with reply := some ⟨port, 0⟩ })) ∧
    (v.bit K.wdgTasks t.val = false ∨ v.wdgSt ≠ wdgRun →
      Gives (.wdgCheckin port t tag) s { v.bump K.wdgIgnoredCnt with reply := some ⟨port, 0⟩ })) ∧
  (∀ (port : Port) (s v b : State), v = stampNow (wdgBeat s) → b = s.openTick →
    (s.answers port = true →
      (v.get K.wdgLock ≠ 1 → v.wdg.lockAsked = false → v.keyHears = true →
        Gives (.wdgKey port 0x4B1D) s { v with wdg := { v.wdg with keyFirst := some v.wdg.w }, reply := some ⟨port, 0⟩ } ∧
        (∀ w, v.wdg.keyFirst = some w → v.wdg.w ≤ w + 100 → Gives (.wdgKey port 0xB4E2) s
          { (v.put K.wdgState wdgDisabled).flag K.wdgStatus 0x10 with wdg := { v.wdg with keyFirst := none }, reply := some ⟨port, 0⟩ }) ∧
        (v.wdg.keyFirst = none → Gives (.wdgKey port 0xB4E2) s
          { keyBad { v with wdg := { v.wdg with keyFirst := none } } with reply := some ⟨port, 0⟩ })) ∧
      (v.get K.wdgLock = 1 ∨ v.wdg.lockAsked = true → ∀ w : BitVec 16, Gives (.wdgKey port w) s { keyBad v with reply := some ⟨port, 0x08000022⟩ })) ∧
    (s.answers port = true → s.clock.beat < s.clock.next →
      Gives (.wdgLock port 1) s { s with wdg := { s.wdg with lockAsked := true }, reply := some ⟨port, 0⟩ }) ∧
    (s.coreUp = true → b.wdg.lockAsked = false) ∧
    (s.wdg.lockAsked = true → (takeLock s).get K.wdgLock = 1 ∧ (takeLock s).wdg.lockAsked = false) ∧
    (b.answers port = true →
      (s.clock.next ≤ s.clock.beat → Accepts (.wdgLock port 1) port s ((b.put K.wdgLock 1).flag K.wdgStatus 0x40)) ∧
      Refuses (.wdgLock port 0) port 0x08000022 s ∧
      (b.wdgSt = wdgDisabled → Accepts (.wdgCmd port 1) port s (wdgToStart b)) ∧
      (b.wdgSt ≠ wdgDisabled → Refuses (.wdgCmd port 1) port 0x08000022 s)))

/-- Periods and verdicts (R342, R347, R348, R354): a period with every task seen in order, or without a task, leads to the next; one
that expires with action 2 commits the record and boots; the clock monitor's trip after 8 missing edges is an expiry; start delay
and reset pulse end at their time; a stopped core lets the fast plane run on, and 10,000 cycles without a restart reset it. That a
reset comes with the command is the model's choice (log entry 114). -/
def Obligations.WatchdogVerdicts : Prop :=
  ∀ (x : BootInputs) (s : State), s.wdg.resetDue = false →
    (s.periodOver = true →
      s.get K.wdgTasks = 0 ∨ (clearMask (s.get K.wdgTasks) (s.get K.wdgSeen) = 0 ∧ s.wdg.early = 0 ∧ s.wdg.double = 0) →
      Gives (.wdgPeriodEnd x) s (wdgPeriodFrom (s.get K.wdgPeriodStart + s.wdg.period) s)) ∧
    (∀ (v : Bool × State), v = wdgVerdict false (s.get K.wdgPeriodStart + s.wdg.period) s → s.periodOver = true → v.1 = true →
      ∀ p, p = wdgPeriodFrom (s.get K.wdgPeriodStart + s.wdg.period) v.2 →
      (p.get K.wdgAction = 2 → exec (.wdgPeriodEnd x) s = .next
        { wdgReset x { p with wdg := { p.wdg with resetDue := true } } with clock := Clock.reset, pending := s.pending }) ∧
      (p.get K.wdgAction ≠ 2 → p.wdg.resetDue = false → Gives (.wdgPeriodEnd x) s p)) ∧
    (∀ n, s.clkWatched = true →
      ((wdgClkTrip s).wdg.resetDue = false → 8 ≤ n → Gives (.wdgClk n x) s (wdgClkTrip s)) ∧ (n < 8 → Gives (.wdgClk n x) s s) ∧
      ((wdgClkTrip s).wdg.resetDue = true → 8 ≤ n →
        exec (.wdgClk n x) s = .next { wdgReset x (wdgClkTrip s) with clock := Clock.reset, pending := s.pending })) ∧
    (s.fastUp = true → s.wdgSt = wdgStart → s.wdg.startBeat + s.get K.wdgStartDelay * 1000 ≤ s.clock.beat →
      Gives .wdgStartDelayEnd s (wdgPeriodFrom s.wdg.w ((s.put K.wdgState wdgRun).flag K.wdgStatus 1))) ∧
    (∀ e, s.wdg.pulseEnd = some e → e ≤ s.clock.beat →
      (s.wdgSt ≠ wdgRun → Gives .wdgRstPulseEnd s { s with wdg := { s.wdg with pulseEnd := none } }) ∧
      (s.wdgSt = wdgRun → Gives .wdgRstPulseEnd s (wdgToStart { s with wdg := { s.wdg with pulseEnd := none } }))) ∧
    (∀ n, 10000 ≤ n → s.dev.main = true ∨ s.power.boot.isSome = true → s.power.held = false →
      ∃ t p, exec (.wdgCoreTrip n x) s = .next t ∧ t.power.boot = some p ∧ p.cause = 0x0E ∧ t.power.coreTripped = true ∧
        t.clock = Clock.reset) ∧
    (∀ n, n < 10000 → s.fastUp = true → exec (.wdgCoreTrip n x) s = .next
      { lapse (n - s.wdg.coreIdle) { s with power := { s.power with stopped := true } } with pending := s.pending, mram := s.mram })

/-- One second after the end of 2399 the calendar is 2000-01-01 00:00:00 again and RTC.VALID is 0 (R363). -/
def Obligations.CalendarWraps : Prop :=
  ∀ s : State, s.bkUp = true → s.bk.secs + 1 = calendarSpan → s.bk.turns = true → s.bk.ops = [] →
    ∃ t, exec .rtcWrap s = .next t ∧ t.bk.secs = 0 ∧ t.bk.valid = false ∧ (t.get K.rtcStatus).testBit 3 = true ∧
      fieldsOf t.bk.secs = ⟨0, 0, 0, 6, 1, 1, 0, 20⟩ ∧ fieldsOf s.bk.secs = ⟨59, 59, 23, 5, 31, 12, 99, 23⟩

/-- What the backup clock brings (R367, R370 to R373): the alarm, the end of a trim window, an oscillator without an edge for 1 ms,
WAKE_N low at four edges, which acts at once in BACKUP and at the next tick while the main domain runs, and the end of PWRON's
hold. Calendar and PWRON commands (R364 to R369, R373), which act at the next edge of the backup clock, where of a set and a clear
of PWRON the set wins (that the command waits for the edge is the model's reading, assumption 148), and the end of a calibration,
which writes the new trim where that fits and ends with result 2 where it does not. -/
def Obligations.BackupDomain : Prop :=
  (∀ s : State,
    (s.bkUp = true →
      (s.alarmNext = true → Gives .rtcAlarm s (bkEdge s) ∧ (bkEdge s).bk.alarmDue = true) ∧
      (s.alarmNext = false → Gives .rtcAlarm s s) ∧
      (s.bk.window = 1048575 → Gives .trimWindow s (bkEdge s) ∧ (bkEdge s).bk.window = 0) ∧
      (∀ us, s.bk.internalOsc = false → 1000 ≤ us → Gives (.rtcOscFail us) s (calEnd 5
        ({ s with bk := { s.bk with
          internalOsc := true, crystalGood := false, valid := false, oscDue := s.fastUp || s.power.boot.isSome } }.flag
          K.rtcStatus 4))) ∧
      (∀ us, s.bk.internalOsc = true ∨ us < 1000 → Gives (.rtcOscFail us) s s) ∧
      (∀ n, n < 4 → Gives (.wakeNAssert n) s s) ∧
      (∀ n, 4 ≤ n → s.dev.main = true → Gives (.wakeNAssert n) s { s with pins := { s.pins with wake := true } }) ∧
      (∀ n, 4 ≤ n → s.dev = .backup → s.power.boot = none → s.power.held = false → s.pins.wakeSeen = false →
        (s.bk.pwronSrc.testBit 1 = false → Gives (.wakeNAssert n) s { s with
          pins := { s.pins with wake := true, wakeSeen := true }, est := { s.est with wakeDue := true } }) ∧
        (s.bk.pwronSrc.testBit 1 = true → s.bk.latch = false → Gives (.wakeNAssert n) s
          ({ s with
            pins := { s.pins with wake := true, wakeSeen := true }, est := { s.est with wakeDue := true },
            bk := { s.bk with latch := true } }.flag K.bkStatus 1)))) ∧
    (s.holdNext = true → Gives .pwronHoldExpire s (bkEdge s))) ∧
  ((∀ (port : Port) (s b : State), b = s.openTick → b.answers port = true →
    Accepts (.rtcCapture port 1) port s { b with bk := { b.bk with ops := b.bk.ops ++ [.capture] } } ∧
    (∀ v : BitVec 8, v ≠ 1 → Refuses (.rtcCapture port v) port 0x06090030 s) ∧
    (∀ v : BitVec 64, okSet v.toNat = true → Accepts (.rtcSet port v) port s
      { b with bk := { b.bk with ops := b.bk.ops ++ [.set (secondsOf (setFields v.toNat))] } }) ∧
    (∀ v : BitVec 64, okSet v.toNat = false → Refuses (.rtcSet port v) port 0x06090030 s) ∧
    (∀ (v : BitVec 32) (dc i : Nat), 60 ≤ v.toNat → v.toNat ≤ 86400 → b.get K.ecatDcActive ≠ 0 → b.cal = none → b.dev ≠ .stall →
      b.jobChoice = some i → Accepts (.rtcCalRun port v dc) port s { (b.jobAllot port K.rtcCalRun i).put K.rtcCalStatus 7 with
        cal := some ⟨i, v.toNat, dc, none, none⟩, bk := { b.bk with ops := b.bk.ops ++ [.calStart] } }) ∧
    (∀ (v : BitVec 32) (dc : Nat), v.toNat < 60 ∨ 86400 < v.toNat → Refuses (.rtcCalRun port v dc) port 0x06090030 s) ∧
    Accepts (.pwronSet port) port s { b with bk := { b.bk with ops := b.bk.ops ++ [.pwron true] } } ∧
    Accepts (.pwronClear port) port s { b with bk := { b.bk with ops := b.bk.ops ++ [.pwron false] } }) ∧
  (∀ s : State, (RtcOp.pwron true ∈ s.bk.ops → (bkEdge s).bk.latch = true) ∧
    (s.bk.ops = [.pwron false] → s.alarmNext = false → (bkEdge s).bk.latch = false) ∧ (bkEdge s).bk.ops = []) ∧
  (∀ (dc i n d0 c0 c1 : Nat) (s t : State) (new : Int), s.cal = some ⟨i, n, d0, some c0, some c1⟩ → d0 < dc →
    t = s.putFit K.rtcCalPpb (driftPpb (c1 - c0) (dc - d0)) →
    new = s.getI K.rtcTrim - roundDiv (driftPpb (c1 - c0) (dc - d0) * 1048576) 1000000000 →
    (new.natAbs ≤ 511 → Gives (.rtcCalDone dc) s
      (calEnd 1 { t.putI K.rtcTrim new with staging := { t.staging with crcDue := true } })) ∧
    (511 < new.natAbs → Gives (.rtcCalDone dc) s (calEnd 2 t))))

/-- The recorder's commands (R388, R393, R394, R398): a trigger by command, flush, clear at the tick of its write, the upload of the
log over either port, an angle trigger at the beat of its unit, and an upload that the master aborts. Work of the store that ends
(R383, R393, R457): a flush commits the records it covers, or abandons the last; a save commits the configuration into the next
slot of its ring, or is abandoned without its commit word. -/
def Obligations.RecorderAndStore : Prop :=
  (∀ (port : Port) (s b : State), b = s.openTick → s.coreUp = true → b.answers port = true →
    (∀ v : BitVec 8, Accepts (.recTrigCmd port v) port s (fireTrigger (.command v.toNat) b)) ∧
    (∀ i, b.dev ≠ .stall → b.jobChoice = some i → Accepts (.recFlush port 1) port s (startFlush
      { b.jobAllot port K.recFlush i with log := { b.log with flushJobs := b.log.flushJobs ++ [i] } })) ∧
    (∀ v : BitVec 8, v ≠ 1 → Refuses (.recFlush port v) port 0x06090030 s) ∧
    (∀ i, b.dev ≠ .stall → b.log.flushTo = none → b.log.upload = none → b.jobChoice = some i →
      exec (.recClear port 0xC1EA) s = .next { jobEnd i .done 0 (clearLog (b.jobAllot port K.recClear i)) with
        clock := b.clock, pending := s.pending, reply := some ⟨port, 0⟩ }) ∧
    (∀ u : State, (clearLog u).log.buf = [] ∧ (u.log.failing.testBit Ring.logCtl.kind = false →
      (clearLog u).get K.recLogUsed = 0 ∧ (clearLog u).get K.recLogRecords = 0 ∧
      (clearLog u).get K.recBaseSeq = u.get K.recNextSeq ∧ (clearLog u).log.writeAt = 0)) ∧
    (∀ v : BitVec 16, v ≠ 0xC1EA → Refuses (.recClear port v) port 0x06090030 s) ∧
    (∀ i, port = .spi → b.log.upload = none → b.jobChoice = some i → Accepts (.recLogUpload port) port s
      { b.jobAllot port K.recLog i with log := { b.log with
        upload := some ⟨i, port, (b.jobAllot port K.recLog i).logImage, 0⟩ } }) ∧
    (∀ (i : Nat) (img : List Byte) (w : State), port = .ecat → b.log.upload = none → b.jobChoice = some i →
      img = (b.jobAllot port K.recLog i).logImage →
      w = { b.jobAllot port K.recLog i with
        log := { b.log with upload := some ⟨i, port, img, 0⟩ }, reply := some ⟨port, 0⟩ } →
      GivesAtTick (.recLogUpload port) s
        (uploadSent K.recLog (min 496 img.length) (decide (img.length ≤ 496)) (sdoStart K.recLog img w))) ∧
    (∀ u, b.log.upload = some u →
      (port = .spi → Refuses (.recLogUpload port) port 0x08000022 s) ∧
      (port = .ecat → GivesAtTick (.recLogUpload port) s { b with
        reply := some ⟨port, 0x08000022⟩, ecat := { b.ecat with mailbox := some (.abort 0x08000022) } })) ∧
    (∀ (k : Fin 8) (w : Nat), w = s.get (K.recTrig k.val) → bitOf w 31 = true → field w 28 3 = 2 →
      s.get K.strideCount % (field w 12 8 + 1) = 0 → s.unitDue (field w 0 12) (K.recTrig k.val) = true →
      Gives (.angleTrigger k) s (fireTrigger (.angle k.val) (s.unitTaken (field w 0 12) (K.recTrig k.val)))) ∧
    (∀ k : Fin 8, s.unitDue (field (s.get (K.recTrig k.val)) 0 12) (K.recTrig k.val) = false → Gives (.angleTrigger k) s s) ∧
    (∀ u, s.log.upload = some u → u.port = .ecat → Gives .masterUploadAbort s (jobEnd u.job .aborted u.sent
      { s with log := { s.log with upload := none } }))) ∧
  (∀ s : State,
    (∀ n, s.log.flushTo = some n → ∃ t, exec (.recFlushDone false) s = .next t ∧ t.mram = (commitMany n s).mram ∧
      t.log.flushTo = none ∧ t.log.flushJobs = [] ∧ t.log.buf = s.log.buf.drop n ∧ t.clock = s.clock) ∧
    (∀ n, s.log.flushTo = some (n + 1) → ∃ t, exec (.recFlushDone true) s = .next t ∧
      t.mram = (abandonOldest (commitMany n s)).mram ∧ t.log.flushTo = none ∧ t.log.buf = s.log.buf.drop (n + 1)) ∧
    (∀ j, s.log.save = some j →
      (∃ t, exec (.cfgSaveDone false) s = .next t ∧ t.mram = (s.nvCommit Ring.cfg j.payload).mram ∧ t.log.save = none ∧
        t.get K.nvCfgSeq = (Ring.cfg.next s.store).2 ∧ t.get K.nvCfgCopy = (Ring.cfg.next s.store).1 + 1) ∧
      (∃ t, exec (.cfgSaveDone true) s = .next t ∧ t.log.save = none ∧ t.mram = Mram.writeBytes s.mram
        (Ring.cfg.base + (Ring.cfg.next s.store).1 * Ring.cfg.size)
        (recordBody Ring.cfg.kind (Ring.cfg.next s.store).2 s.stamp j.payload))) ∧
    (∀ (r : Ring) (p : List Byte), (s.nvCommit r p).mram = Mram.writeBytes s.mram (r.base + (r.next s.store).1 * r.size)
      (recordBytes r.kind (r.next s.store).2 s.stamp p)))

/-- A record in a slot reads back as it was written, with its sequence number, stamp and payload (R382, R384), and writing one leaves
every byte outside it alone. -/
def Obligations.RecordsReadBack : Prop :=
  ∀ (m : List Host.Cell) (a kind seq stamp : Nat) (p : List Byte),
    Mram.wf m = true → a + recordSize p.length ≤ Mram.size → p.length < 65536 → kind < 256 → seq < 2 ^ 32 → stamp < 2 ^ 64 →
    readRecord (Mram.writeBytes m a (recordBytes kind seq stamp p)) a (recordSize p.length) = .good kind 1 seq stamp p ∧
    ∀ j, j < a ∨ a + recordSize p.length ≤ j →
      Mram.read (Mram.writeBytes m a (recordBytes kind seq stamp p)) j = Mram.read m j

/-- Save, restore, image, lock and unlock of the configuration (R45, R49, R457, R461 to R463). Jobs and the error history (R448 to
R451, R456): a slot is allotted with a new generation, its end gives the report, a released slot is free, and the history empties. -/
def Obligations.ConfigurationAndJobs : Prop :=
  (∀ (port : Port) (s b : State), b = s.openTick → b.answers port = true →
    (∀ i, b.saving = false → b.jobChoice = some i →
      (b.dev ≠ .stall ∨ b.power.mramFailed = false → Accepts (.comSave port (BitVec.ofNat 32 saveSignature)) port s
        { b.jobAllot port K.comSave i with
          log := { b.log with save := some ⟨i, cfgPayload (b.jobAllot port K.comSave i).get b.seq.image, b.tick⟩ } }) ∧
      (b.dev ≠ .stall → b.get K.cfgLock ≠ 1 → Accepts (.comRestore port (BitVec.ofNat 32 restoreSignature)) port s
        { b.jobAllot port K.comRestore i with log := { b.log with save := some ⟨i, cfgPayload dflt [], b.tick⟩ } })) ∧
    (∀ v : BitVec 32, v.toNat ≠ saveSignature → Refuses (.comSave port v) port 0x08000020 s) ∧
    (∀ v : BitVec 32, v.toNat ≠ restoreSignature → Refuses (.comRestore port v) port 0x08000020 s) ∧
    (∀ d : List Byte, b.get K.cfgLock ≠ 1 → b.get K.ecatAlState = 2 → b.programRuns = false → b.staging.set = [] →
      match parseImage d with
      | some c =>
        if (b.changes c.items).any (fun e => strideScheduled e.1) then
          Accepts (.cfgImage port d) port s { b with staging := { b.staging with
            image := some (.stride b.strideTarget, c.items, some c.image)
            direct := b.staging.direct.filter (fun e => e.1 != b.strideTarget) } }
        else Accepts (.cfgImage port d) port s { b with staging := { b.staging with
          image := some (.tick, c.items, some c.image), seqImage := none } }
      | none => Refuses (.cfgImage port d) port 0x08000020 s) ∧
    (∃ t, exec (.cfgLock port 1) s = .next t ∧ t.get K.cfgLock = 1 ∧ SameBut [K.cfgLock] b t) ∧
    Refuses (.cfgLock port 0) port 0x08000022 s ∧
    (b.get K.ecatAlState = 2 → ∃ t, exec (.cfgUnlock port 0x554C) s = .next t ∧ t.get K.cfgLock = 0 ∧ SameBut [K.cfgLock] b t) ∧
    (b.get K.ecatAlState ≠ 2 → Refuses (.cfgUnlock port 0x554C) port 0x08000022 s)) ∧
  ((∀ (port : Port) (s b : State), b = s.openTick → b.answers port = true →
    (∀ v : BitVec 16, v.toNat % 256 ≤ 31 → v.toNat / 256 ≠ 0 → b.jobHandle (v.toNat % 256) / 256 = v.toNat / 256 →
      b.jobCode (v.toNat % 256) ≠ 1 → Accepts (.jobRelease port v) port s
        (b.put (K.jobReport (v.toNat % 256)) (v.toNat * 2 ^ 48))) ∧
    (∀ v : BitVec 16, 31 < v.toNat % 256 → Refuses (.jobRelease port v) port 0x06090030 s) ∧
    (∃ t, exec (.errHistoryClear port 0) s = .next t ∧ t.get K.comErrCnt = 0 ∧ ∀ i, i < 16 → t.get (K.comErrHist i) = 0) ∧
    (∀ v : BitVec 8, v ≠ 0 → Refuses (.errHistoryClear port v) port 0x06090030 s)) ∧
  (∀ (port : Port) (k i r : Nat) (s : State), i < 32 → k < 2 ^ 24 → r < 2 ^ 32 → s.get (K.jobReport i) < 2 ^ 64 →
    (s.jobAllot port k i).jobCode i = 1 ∧ (s.jobAllot port k i).jobHandle i % 256 = i ∧
    (s.jobAllot port k i).jobHandle i / 256 ≠ s.jobHandle i / 256 ∧
    (jobEnd i .done r (s.jobAllot port k i)).jobCode i = 2 ∧
    (jobEnd i .done r (s.jobAllot port k i)).get (K.jobReport i) % 2 ^ 32 = r ∧
    (s.jobCode i ≠ 1 → jobEnd i .done r s = s)))

/-- The EtherCAT slave outside the mailbox (R420, R421, R422, R427, R431, R477). That bit 5 of a request asks for the identification
is the model's (log entry 123). The mailbox (R424 to R426, R443, R444): a protocol that the device lacks, SDO information, the
upload of an entry or an object, its segments and FoE reads answer at once, a file in packets; an FoE write acts at the next tick
boundary, and a read of the log starts its upload there. That uploads ride on SDO_INFO and the sizes of a segment and a packet are
the model's (log entry 149). A completed output image (R429): its stamped entries act in its own beat, the others at the next tick
boundary in mapping order; an image of another length, or outside SAFEOP and OP, is none. A mapped write that is refused is
counted with its entry. SPI frames that no request comes of (R406, R433, R434, R436, R437): outside the main domain nothing
answers, during boot every frame is answered "not ready", a frame with a wrong CRC or an unknown CMD is counted, raises the alert
and is answered with 0x04 or 0x05, one that comes while an answer is pending is counted. What follows an answer's CRC is 0xFF. The
CRC of a request is that of its bytes. A segmented read without a segment for 10,000 ticks is over. -/
def Obligations.EtherCatAndMailbox : Prop :=
  (∀ s : State, s.coreUp = true →
    (∀ (p : Fin 2) (up : Bool), Gives (.portLinkChange p up) s
      ((({ s with pins := { s.pins with link := BitVec.ofNat 2 (withBit s.pins.link.toNat p.val up) } } : State).putBit K.ecatLink
        p.val up).putBit K.ecatLink (p.val + 2) up)) ∧
    (∀ (req : BitVec 8) (sm : SmConfig), req.toNat < 16 → req.toNat ≠ s.get K.ecatAlState →
      (s.alRefusal req.toNat sm ≠ 0 → Gives (.alStateRequest req sm) s
        { s.put K.ecatAlCode (s.alRefusal req.toNat sm) with ecat := { s.ecat with alError := true, ident := none, sm := sm } }) ∧
      (s.alRefusal req.toNat sm = 0 → Gives (.alStateRequest req sm) s (answerIdent false (enterAl req.toNat
        { s.put K.ecatAlCode 0 with ecat := { s.ecat with alError := false, sm := sm } })))) ∧
    (∀ (req : BitVec 8) (sm : SmConfig), req.toNat % 16 = s.get K.ecatAlState → req.getLsbD 5 = true →
      Gives (.alStateRequest req sm) s { s.put K.ecatAlCode 0 with
        ecat := { s.ecat with alError := false, sm := sm, ident := some (BitVec.ofNat 3 (s.get K.devStrap)) } }) ∧
    (s.get K.ecatAlState = 8 → Gives .smWdgExpire s (enterAl 4
      { (s.put K.ecatAlCode 0x1B).bump K.ecatSmWdgCnt with ecat := { s.ecat with alError := true } })) ∧
    (∀ c : DcConfig, Gives (.dcActivate true c) s { s.put K.ecatDcActive 1 with
        ecat := { s.ecat with dc := c }, pins := { s.pins with sync := true } } ∧
      Gives (.dcActivate false c) s (calEnd 4 { s.put K.ecatDcActive 0 with
        ecat := { s.ecat with dc := c }, pins := { s.pins with sync := false } })) ∧
    (∀ w : BitVec 16, Gives (.siiWrite w none) s
      { s with ecat := { s.ecat with siiData := some (s.siiWord w.toNat), siiError := false } }) ∧
    (s.siiWord 4 = s.bk.station) ∧
    (∀ (w v : BitVec 16), (w.toNat = 4 → Gives (.siiWrite w (some v)) s { s with
        bk := { s.bk with station := v }, ecat := { s.ecat with siiError := false } }) ∧
      (w.toNat ≠ 4 → Gives (.siiWrite w (some v)) s { s with ecat := { s.ecat with siiError := true } })) ∧
    (s.get K.ecatAlState = 1 → s.ecat.leftInit = false → Gives .ecatPreopReached s (ecatTakes
      { (s.put K.ecatAlState 2).flag K.hostAlert 0x10 with ecat := { s.ecat with leftInit := true } })) ∧
    (∀ (st : Nat), (enterAl st s).get K.ecatAlState = st)) ∧
  ((∀ s : State, s.answers .ecat = true →
    (∀ y : BitVec 8, y.toNat ≠ 3 → y.toNat ≠ 4 → Gives (.mailboxUnsupported y) s
      { s with ecat := { s.ecat with mailbox := some (.mailboxError 2) } }) ∧
    (∀ i : BitVec 16, indexExists i.toNat = false → Gives (.sdoInfo (.object i)) s
      { s with ecat := { s.ecat with mailbox := some (.abort 0x06020000) } }) ∧
    Gives (.sdoInfo .list) s { s with ecat := { s.ecat with mailbox := some (.objectList allIndices) } } ∧
    (∀ (i : BitVec 16) (j : BitVec 8) (r : EntryRow), entryAt (i.toNat * 256 + j.toNat) = some r →
      Gives (.sdoInfo (.entry i j)) s
        { s with ecat := { s.ecat with mailbox := some (.entryInfo (i.toNat * 256 + j.toNat) r) } }) ∧
    (∀ (i : BitVec 16) (j : BitVec 8) (r : EntryRow), entryAt (i.toNat * 256 + j.toNat) = some r →
      (r.acc ≠ .wo → r.ty ≠ .str → r.ty ≠ .domain → i.toNat * 256 + j.toNat ≠ K.chgFault → Gives (.sdoInfo (.upload i j false)) s
        (sdoStart (i.toNat * 256 + j.toNat) (leBytes (r.ty.bits / 8) (s.shown (i.toNat * 256 + j.toNat))) s)) ∧
      (r.acc = .wo → Gives (.sdoInfo (.upload i j false)) s
        { s with ecat := { s.ecat with mailbox := some (.abort 0x06010001) } })) ∧
    (∀ (i : BitVec 16) (j : BitVec 8) (b : List Byte), readObject i.toNat j.toNat s = .ok b → j.toNat ≤ 1 →
      i.toNat ≠ K.chgFault / 256 → Gives (.sdoInfo (.upload i j true)) s (sdoStart (i.toNat * 256 + j.toNat) b s)) ∧
    (∀ u, s.ecat.sdo = some u → u.key = K.recLog → ∀ k, k ≠ K.recLog → sdoReplaces k s = endUpload .aborted s) ∧
    (∀ (k : Nat) (b : List Byte), (k = K.recLog ∨ ∀ u, s.ecat.sdo = some u → u.key ≠ K.recLog) →
      (b.length ≤ 4 → sdoStart k b s = { s with ecat := { s.ecat with sdo := none, mailbox := some (.expedited b) } }) ∧
      (4 < b.length → b.length ≤ 496 →
        sdoStart k b s = { s with ecat := { s.ecat with sdo := none, mailbox := some (.normal b.length b) } }) ∧
      (496 < b.length → sdoStart k b s = { s with ecat := { s.ecat with
        sdo := some ⟨k, b.drop 496, false⟩, mailbox := some (.normal b.length (b.take 496)) } })) ∧
    (∀ (k : Nat) (rest : List Byte) (g : Bool), s.ecat.sdo = some ⟨k, rest, g⟩ →
      (k ≠ K.recLog → Gives (.sdoInfo (.segment g)) s { s with ecat := { s.ecat with
        sdo := if (rest.drop 503).isEmpty then none else some ⟨k, rest.drop 503, !g⟩
        mailbox := some (.segment g (rest.drop 503).isEmpty (rest.take 503)) } }) ∧
      Gives (.sdoInfo (.segment (!g))) s { s with ecat := { s.ecat with mailbox := some (.abort 0x08000000) } }) ∧
    Gives (.foeRead .seqImg 0) s { s with ecat := { s.ecat with
      mailbox := some (.foeData (foePackets (s.seq.image.length / 500) s.seq.image)) } } ∧
    Gives (.foeRead .cfgImg 0) s { s with ecat := { s.ecat with
      mailbox := some (.foeData (foePackets (s.cfgImageNow.length / 500) s.cfgImageNow)) } } ∧
    (∀ b : List Byte, (foePackets (b.length / 500) b).flatten = b ∧ (foePackets (b.length / 500) b).length = b.length / 500 + 1 ∧
      ∀ p ∈ (foePackets (b.length / 500) b).dropLast, p.length = 500) ∧
    (∀ pw : BitVec 32, Gives (.foeRead .other pw) s { s with ecat := { s.ecat with mailbox := some (.foeError 0x8001 []) } }) ∧
    (∀ pw : BitVec 32, pw ≠ 0 → Gives (.foeRead .seqImg pw) s
      { s with ecat := { s.ecat with mailbox := some (.foeError 0x800A []) } })) ∧
  (∀ s b : State, b = s.openTick → b.answers .ecat = true →
    (∀ (pw : BitVec 32) (d : List Byte), GivesAtTick (.foeWrite .other pw d) s
        { b with ecat := { b.ecat with mailbox := some (.foeError 0x8001 []) } } ∧
      (b.get K.cfgLock = 1 → GivesAtTick (.foeWrite .seqImg pw d) s
        { b with ecat := { b.ecat with mailbox := some (.foeError 0x8002 []) } })) ∧
    (∀ d : List Byte, b.get K.cfgLock ≠ 1 → b.programRuns = false → okImage d = true →
      GivesAtTick (.foeWrite .seqImg 0 d) s { b with
        staging := { b.staging with seqImage := some d }, ecat := { b.ecat with mailbox := some (.foeAck (d.length / 500 + 1)) } }) ∧
    (∀ i, b.log.upload = none → b.jobChoice = some i → GivesAtTick (.foeRead .logBin 0) s
      { b.jobAllot .ecat K.recLog i with
        log := { b.log with upload := some ⟨i, .ecat, (b.jobAllot .ecat K.recLog i).logImage, 0⟩ }
        ecat := { b.ecat with mailbox := some (.foeData (foePackets ((b.jobAllot .ecat K.recLog i).logImage.length / 500)
          (b.jobAllot .ecat K.recLog i).logImage)) } }))) ∧
  ((∀ (d : List Byte) (dc : BitVec 64) (s c : State), c = completeNow .ecat dc.toNat d s → s.coreUp = true →
    (4 ≤ s.get K.ecatAlState → d.length = s.imageSize true → c.openTick.coreUp = true → exec (.pdOutputComplete d dc) s = .next
      (c.atTick (each ((s.completion d).filter (fun e => !stamped e.1)) (writeMapped .ecat dc.toNat) c.openTick))) ∧
    (s.get K.ecatAlState < 4 ∨ d.length ≠ s.imageSize true → exec (.pdOutputComplete d dc) s = .next s)) ∧
  (∀ (port : Port) (dc a : Nat) (e : Nat × Nat) (s : State), checked e.1 (wrEntry port e.1 e.2 dc) s = refuse a s → a ≠ 0 →
    writeMapped port dc e s = (s.bump K.ecatPdRefusedCnt).put K.ecatPdRefusedLast (e.1 * 256))) ∧
  (∀ (r : SpiFrame) (s : State),
    (s.spiAlive = false → exec (.spiRead r) s = .next s ∧ exec (.spiWrite r) s = .next s ∧ exec (.spiReadAll r) s = .next s ∧
      exec (.spiReadSeg r) s = .next s ∧ exec (.spiWriteSeg r) s = .next s ∧ exec (.spiPiRead r) s = .next s ∧
      exec (.spiPiWrite r) s = .next s ∧ exec (.spiEmcyRead r) s = .next s ∧ exec (.spiNop r) s = .next s ∧
      exec (.spiRepeat r) s = .next s) ∧
    (s.spiAlive = true → s.power.boot ≠ none → Gives (.spiRead r) s { s with spi := { s.spi with
      lastSent := some ⟨0, 0, 3, []⟩, sdoBytes := (SpiAnswer.mk 0 0 3 []).shifted r.bytes.length } }) ∧
    (s.spiAlive = true → s.power.boot = none → r.crcOk = false → s.spiAccepts r = true →
      Gives (.spiRead r) s (spiReadAnswer ⟨r.cmd.toNat, r.tag.toNat, 4, []⟩ (spiError K.hostSpiCrcErr (spiShift r s)))) ∧
    (s.spiAlive = true → s.power.boot = none → r.crcOk = true → r.badCmd = true ∨ r.data ≠ [] → s.spiAccepts r = true →
      Gives (.spiRead r) s (spiReadAnswer ⟨r.cmd.toNat, r.tag.toNat, 5, []⟩ (spiError K.hostSpiFrameErr (spiShift r s)))) ∧
    (s.spiAlive = true → s.power.boot = none → r.crcOk = true → r.badCmd = false → r.data = [] → s.spiAccepts r = false →
      Gives (.spiRead r) s ((spiShift r s).bump K.hostSpiBusyCnt)) ∧
    (∀ (a : SpiAnswer) (n i : Nat), i < n →
      (a.shifted n)[i]? = some (if i < 7 + a.data.length then a.bytes.getD i 0 else 0xFF)) ∧
    (r.crcOk = true ↔ 8 + r.n ≤ r.bytes.length ∧ r.bytes.getD (7 + r.n) 0 = crc8 (r.bytes.take (7 + r.n))) ∧
    (∀ (k n : Nat) (b : List Byte), s.spi.rseg = some (k, b, n) → s.log.upload = none →
      (n + 10000 ≤ s.clock.beat / 1000 → Gives .segReadTimeout s { s with spi := { s.spi with rseg := none } }) ∧
      (s.clock.beat / 1000 < n + 10000 → Gives .segReadTimeout s s)))

/-- Every SPI command completes (R434 to R440). A served frame first carries the last answer out. NOP does nothing more; REPEAT lets
that answer go out once more; the answer to a READ, READ_ALL or READ_SEG is pending with its value; a WRITE takes effect at the
next tick boundary, or at once for a stamped entry, as the watchdog's lock is noted at once; a WRITE_SEG joins its segment on;
PI_READ answers from the input image; PI_WRITE is one completion of the output image; EMCY_READ takes the oldest message. -/
def Obligations.SpiFrames : Prop :=
  ∀ (r : SpiFrame) (s t b : State), s.spiAlive = true → s.power.boot = none → r.crcOk = true → r.badCmd = false →
    s.spiAccepts r = true → t = spiShift r s → b = t.openTick →
    (r.data = [] → exec (.spiNop r) s = .next t) ∧
    (r.data = [] → exec (.spiRepeat r) s = .next { t with spi := { t.spi with repeatNext := t.spi.delivered.isSome } }) ∧
    (r.data = [] → frameKey r ≠ K.chgFault → Gives (.spiRead r) s
      (spiReadAnswer (spiAnswer 1 r.tag.toNat (spiValue (frameKey r) t)) t)) ∧
    (∀ u, u = spiReadAnswer (spiAnswer 1 r.tag.toNat (spiValue (frameKey r) t)) t → r.data = [] → frameKey r = K.chgFault →
      u.openTick.coreUp = true → exec (.spiRead r) s = .next (u.atTick (readFault u.openTick))) ∧
    (r.data = [] → r.sub.toNat ≤ 1 → r.index.toNat ≠ K.chgFault / 256 → Gives (.spiReadAll r) s
      (spiReadAnswer (spiAnswer 3 r.tag.toNat (readAll r.index.toNat r.sub.toNat t)) t)) ∧
    (r.data.length ≤ 261 →
      (stamped (frameKey r) = false → t.locksEarly (frameKey r) r.data = false → frameKey r ≠ K.recClear → b.coreUp = true →
        exec (.spiWrite r) s = .next (t.atTick (spiWriteDone 2 r.tag.toNat (frameKey r) r.data r.dc.toNat s.clock.next b))) ∧
      (frameKey r = K.recClear → b.coreUp = true → exec (.spiWrite r) s = .next
        { spiWriteDone 2 r.tag.toNat (frameKey r) r.data r.dc.toNat s.clock.next b with clock := b.clock, pending := s.pending }) ∧
      (stamped (frameKey r) = true ∨ t.locksEarly (frameKey r) r.data = true → Gives (.spiWrite r) s
        (spiWriteDone 2 r.tag.toNat (frameKey r) r.data r.dc.toNat s.clock.next t))) ∧
    (∀ off count : Nat, r.data = leBytes 4 off ++ leBytes 2 count → off < 2 ^ 32 → 1 ≤ count → count ≤ 256 →
      (∀ (d : List Byte) (n : Nat), t.spi.rseg = some (frameKey r, d, n) →
        Gives (.spiReadSeg r) s (nextSegment 4 r.tag.toNat (frameKey r) d off count t)) ∧
      (t.spi.rseg = none → frameKey r ≠ K.recLog → frameKey r ≠ K.chgFault →
        Gives (.spiReadSeg r) s (firstSegment 4 r.tag.toNat (frameKey r) off count t))) ∧
    (∀ part : List Byte, part ≠ [] → part.length ≤ 256 →
      (r.data = leBytes 4 0 ++ [0#8] ++ part → Gives (.spiWriteSeg r) s
        (spiReadAnswer ⟨5, r.tag.toNat, 0, []⟩ { t with spi := { t.spi with wseg := some (frameKey r, part) } })) ∧
      (∀ d : List Byte, d.length < 2 ^ 32 → t.spi.wseg = some (frameKey r, d) → d ≠ [] →
        r.data = leBytes 4 d.length ++ [0#8] ++ part → Gives (.spiWriteSeg r) s
        (spiReadAnswer ⟨5, r.tag.toNat, 0, []⟩ { t with spi := { t.spi with wseg := some (frameKey r, d ++ part) } }))) ∧
    (∀ count, r.data = leBytes 2 count → 1 ≤ count → count ≤ 256 → Gives (.spiPiRead r) s
      (spiReadAnswer (spiAnswer 6 r.tag.toNat (piValue r.index.toNat count t)) t)) ∧
    (∀ (d : List Byte) (c : State), 1 ≤ r.data.length → r.data.length ≤ 256 → s.get K.ecatAlState < 4 →
      r.index.toNat + r.data.length ≤ s.imageSize true → d = overlay (sized (t.imageSize true) t.ecat.outImage) r.index.toNat r.data →
      c = completeNow .spi r.dc.toNat d t → c.openTick.coreUp = true → exec (.spiPiWrite r) s = .next (c.atTick
        (spiPend ⟨7, r.tag.toNat, 0, []⟩ s.clock.next
          (each ((t.completion d).filter (fun e => !stamped e.1)) (writeMapped .spi r.dc.toNat) c.openTick)))) ∧
    (r.data = [] → Gives (.spiEmcyRead r) s (emcyTaken r.tag.toNat t))

/-- MANAGEMENT_TICK with the core running makes the steps of R34 at the next boundary, whose beats have been passed with their work,
in their order; with a stopped core the fast plane alone runs on; during boot only time and the backup domain go on; without a
running clock the backup domain alone. Publication (R34, R282): what is published is the live value of every entry, and every w1c
bit counts as seen by the host; the estimator's readouts go out only in the tick that follows an update, else they stay as they
were. -/
def Obligations.TickAndPublication : Prop :=
  (∀ (i : TickInputs) (s b t u : State), b = s.openTick →
    (b.coreUp = true → exec (.managementTick i) s = .next { tickWork i b with
      clock := if (tickWork i b).dev.main then b.clock.ticked else Clock.reset, pending := s.pending }) ∧
    (s.coreUp = true → s.clock.beat ≤ s.clock.next → b.clock.beat = s.clock.next) ∧
    (t = { b with log := { b.log with failing := i.nvFail.toNat } } →
      u = stateTick (seqTick (slowSources i (sampleAll i (tickCommits t)))) → u.dev.main = true →
      tickWork i b = publish i (emcyClear (recorderTick i (stepEight i (regulate i u))))) ∧
    (s.coreUp = false → s.power.boot ≠ none →
      exec (.managementTick i) s = .next { backupTick i s.atBoundary with clock := s.clock.boundary.ticked, pending := s.pending }) ∧
    (s.fastUp = true → s.power.stopped = true → exec (.managementTick i) s = .next
      { backupTick i (closeBeat (lapse (s.clock.next - s.clock.beat) s)) with
        clock := s.clock.ticked, pending := s.pending, mram := s.mram }) ∧
    (s.fastUp = false → s.power.boot = none → Gives (.managementTick i) s (backupTick i s))) ∧
  (∀ (s : State) (k : Nat),
    (s.est.pubDue = true → lookupD (publishLive s).pub k (dflt k) = (publishLive s).get k) ∧
    (estReadout k = false → lookupD (publishLive s).pub k (dflt k) = (publishLive s).get k) ∧
    (s.est.pubDue = false → estReadout k = true → lookupD (publishLive s).pub k (dflt k) = lookupD s.pub k (dflt k)) ∧
    ((publishLive s).fresh = []))
end

