-- ==== Sys2Proof/Laws/State.lean ====
section
/-! SUPPORT. What each update of the state leaves alone: one lemma for each field and each update, true by definition. -/

namespace Sys2Proof.Machine

/-! ## A write of an entry -/

@[simp] theorem State.put_pub (s : State) (k v : Nat) : (s.put k v).pub = s.pub := (rfl)
@[simp] theorem State.put_fresh (s : State) (k v : Nat) : (s.put k v).fresh = s.fresh := (rfl)
@[simp] theorem State.put_clock (s : State) (k v : Nat) : (s.put k v).clock = s.clock := (rfl)
@[simp] theorem State.put_stride (s : State) (k v : Nat) : (s.put k v).stride = s.stride := (rfl)
@[simp] theorem State.put_staging (s : State) (k v : Nat) : (s.put k v).staging = s.staging := (rfl)
@[simp] theorem State.put_power (s : State) (k v : Nat) : (s.put k v).power = s.power := (rfl)
@[simp] theorem State.put_pins (s : State) (k v : Nat) : (s.put k v).pins = s.pins := (rfl)
@[simp] theorem State.put_divider (s : State) (k v : Nat) : (s.put k v).divider = s.divider := (rfl)
@[simp] theorem State.put_budget (s : State) (k v : Nat) : (s.put k v).budget = s.budget := (rfl)
@[simp] theorem State.put_rails (s : State) (k v : Nat) : (s.put k v).rails = s.rails := (rfl)
@[simp] theorem State.put_phases (s : State) (k v : Nat) : (s.put k v).phases = s.phases := (rfl)
@[simp] theorem State.put_qw (s : State) (k v : Nat) : (s.put k v).qw = s.qw := (rfl)
@[simp] theorem State.put_xb (s : State) (k v : Nat) : (s.put k v).xb = s.xb := (rfl)
@[simp] theorem State.put_ao (s : State) (k v : Nat) : (s.put k v).ao = s.ao := (rfl)
@[simp] theorem State.put_sup (s : State) (k v : Nat) : (s.put k v).sup = s.sup := (rfl)
@[simp] theorem State.put_rh (s : State) (k v : Nat) : (s.put k v).rh = s.rh := (rfl)
@[simp] theorem State.put_arb (s : State) (k v : Nat) : (s.put k v).arb = s.arb := (rfl)
@[simp] theorem State.put_seq (s : State) (k v : Nat) : (s.put k v).seq = s.seq := (rfl)
@[simp] theorem State.put_gait (s : State) (k v : Nat) : (s.put k v).gait = s.gait := (rfl)
@[simp] theorem State.put_fc (s : State) (k v : Nat) : (s.put k v).fc = s.fc := (rfl)
@[simp] theorem State.put_wdg (s : State) (k v : Nat) : (s.put k v).wdg = s.wdg := (rfl)
@[simp] theorem State.put_bk (s : State) (k v : Nat) : (s.put k v).bk = s.bk := (rfl)
@[simp] theorem State.put_cal (s : State) (k v : Nat) : (s.put k v).cal = s.cal := (rfl)
@[simp] theorem State.put_log (s : State) (k v : Nat) : (s.put k v).log = s.log := (rfl)
@[simp] theorem State.put_reply (s : State) (k v : Nat) : (s.put k v).reply = s.reply := (rfl)
@[simp] theorem State.put_spi (s : State) (k v : Nat) : (s.put k v).spi = s.spi := (rfl)
@[simp] theorem State.put_ecat (s : State) (k v : Nat) : (s.put k v).ecat = s.ecat := (rfl)
@[simp] theorem State.put_jobEnded (s : State) (k v : Nat) : (s.put k v).jobEnded = s.jobEnded := (rfl)
@[simp] theorem State.put_path (s : State) (k v : Nat) : (s.put k v).path = s.path := (rfl)
@[simp] theorem State.put_chg (s : State) (k v : Nat) : (s.put k v).chg = s.chg := (rfl)
@[simp] theorem State.put_therm (s : State) (k v : Nat) : (s.put k v).therm = s.therm := (rfl)
@[simp] theorem State.put_est (s : State) (k v : Nat) : (s.put k v).est = s.est := (rfl)
@[simp] theorem State.put_pair (s : State) (k v : Nat) : (s.put k v).pair = s.pair := (rfl)
@[simp] theorem State.put_tlm (s : State) (k v : Nat) : (s.put k v).tlm = s.tlm := (rfl)
@[simp] theorem State.put_mram (s : State) (k v : Nat) : (s.put k v).mram = s.mram := (rfl)
@[simp] theorem State.put_ecc (s : State) (k v : Nat) : (s.put k v).ecc = s.ecc := (rfl)
@[simp] theorem State.put_pending (s : State) (k v : Nat) : (s.put k v).pending = s.pending := (rfl)
@[simp] theorem State.put_od (s : State) (k v : Nat) : (s.put k v).od = setKey s.od k v (dflt k) := (rfl)

/-! ## A hardware set of flags -/

@[simp] theorem State.flag_pub (s : State) (k m : Nat) : (s.flag k m).pub = s.pub := (rfl)
@[simp] theorem State.flag_clock (s : State) (k m : Nat) : (s.flag k m).clock = s.clock := (rfl)
@[simp] theorem State.flag_stride (s : State) (k m : Nat) : (s.flag k m).stride = s.stride := (rfl)
@[simp] theorem State.flag_staging (s : State) (k m : Nat) : (s.flag k m).staging = s.staging := (rfl)
@[simp] theorem State.flag_power (s : State) (k m : Nat) : (s.flag k m).power = s.power := (rfl)
@[simp] theorem State.flag_pins (s : State) (k m : Nat) : (s.flag k m).pins = s.pins := (rfl)
@[simp] theorem State.flag_divider (s : State) (k m : Nat) : (s.flag k m).divider = s.divider := (rfl)
@[simp] theorem State.flag_budget (s : State) (k m : Nat) : (s.flag k m).budget = s.budget := (rfl)
@[simp] theorem State.flag_rails (s : State) (k m : Nat) : (s.flag k m).rails = s.rails := (rfl)
@[simp] theorem State.flag_phases (s : State) (k m : Nat) : (s.flag k m).phases = s.phases := (rfl)
@[simp] theorem State.flag_qw (s : State) (k m : Nat) : (s.flag k m).qw = s.qw := (rfl)
@[simp] theorem State.flag_xb (s : State) (k m : Nat) : (s.flag k m).xb = s.xb := (rfl)
@[simp] theorem State.flag_ao (s : State) (k m : Nat) : (s.flag k m).ao = s.ao := (rfl)
@[simp] theorem State.flag_sup (s : State) (k m : Nat) : (s.flag k m).sup = s.sup := (rfl)
@[simp] theorem State.flag_rh (s : State) (k m : Nat) : (s.flag k m).rh = s.rh := (rfl)
@[simp] theorem State.flag_arb (s : State) (k m : Nat) : (s.flag k m).arb = s.arb := (rfl)
@[simp] theorem State.flag_seq (s : State) (k m : Nat) : (s.flag k m).seq = s.seq := (rfl)
@[simp] theorem State.flag_gait (s : State) (k m : Nat) : (s.flag k m).gait = s.gait := (rfl)
@[simp] theorem State.flag_fc (s : State) (k m : Nat) : (s.flag k m).fc = s.fc := (rfl)
@[simp] theorem State.flag_wdg (s : State) (k m : Nat) : (s.flag k m).wdg = s.wdg := (rfl)
@[simp] theorem State.flag_bk (s : State) (k m : Nat) : (s.flag k m).bk = s.bk := (rfl)
@[simp] theorem State.flag_cal (s : State) (k m : Nat) : (s.flag k m).cal = s.cal := (rfl)
@[simp] theorem State.flag_log (s : State) (k m : Nat) : (s.flag k m).log = s.log := (rfl)
@[simp] theorem State.flag_reply (s : State) (k m : Nat) : (s.flag k m).reply = s.reply := (rfl)
@[simp] theorem State.flag_spi (s : State) (k m : Nat) : (s.flag k m).spi = s.spi := (rfl)
@[simp] theorem State.flag_ecat (s : State) (k m : Nat) : (s.flag k m).ecat = s.ecat := (rfl)
@[simp] theorem State.flag_jobEnded (s : State) (k m : Nat) : (s.flag k m).jobEnded = s.jobEnded := (rfl)
@[simp] theorem State.flag_path (s : State) (k m : Nat) : (s.flag k m).path = s.path := (rfl)
@[simp] theorem State.flag_chg (s : State) (k m : Nat) : (s.flag k m).chg = s.chg := (rfl)
@[simp] theorem State.flag_therm (s : State) (k m : Nat) : (s.flag k m).therm = s.therm := (rfl)
@[simp] theorem State.flag_est (s : State) (k m : Nat) : (s.flag k m).est = s.est := (rfl)
@[simp] theorem State.flag_pair (s : State) (k m : Nat) : (s.flag k m).pair = s.pair := (rfl)
@[simp] theorem State.flag_tlm (s : State) (k m : Nat) : (s.flag k m).tlm = s.tlm := (rfl)
@[simp] theorem State.flag_mram (s : State) (k m : Nat) : (s.flag k m).mram = s.mram := (rfl)
@[simp] theorem State.flag_ecc (s : State) (k m : Nat) : (s.flag k m).ecc = s.ecc := (rfl)
@[simp] theorem State.flag_pending (s : State) (k m : Nat) : (s.flag k m).pending = s.pending := (rfl)
@[simp] theorem State.flag_od (s : State) (k m : Nat) : (s.flag k m).od = setKey s.od k (s.get k ||| m) (dflt k) := (rfl)

/-! ## The engine of one instance, rails -/

@[simp] theorem State.setRailE_od (s : State) (n : Nat) (e : RailEngine) : (s.setRailE n e).od = s.od := (rfl)
@[simp] theorem State.setRailE_pub (s : State) (n : Nat) (e : RailEngine) : (s.setRailE n e).pub = s.pub := (rfl)
@[simp] theorem State.setRailE_fresh (s : State) (n : Nat) (e : RailEngine) : (s.setRailE n e).fresh = s.fresh := (rfl)
@[simp] theorem State.setRailE_clock (s : State) (n : Nat) (e : RailEngine) : (s.setRailE n e).clock = s.clock := (rfl)
@[simp] theorem State.setRailE_stride (s : State) (n : Nat) (e : RailEngine) : (s.setRailE n e).stride = s.stride := (rfl)
@[simp] theorem State.setRailE_staging (s : State) (n : Nat) (e : RailEngine) : (s.setRailE n e).staging = s.staging := (rfl)
@[simp] theorem State.setRailE_power (s : State) (n : Nat) (e : RailEngine) : (s.setRailE n e).power = s.power := (rfl)
@[simp] theorem State.setRailE_pins (s : State) (n : Nat) (e : RailEngine) : (s.setRailE n e).pins = s.pins := (rfl)
@[simp] theorem State.setRailE_divider (s : State) (n : Nat) (e : RailEngine) : (s.setRailE n e).divider = s.divider := (rfl)
@[simp] theorem State.setRailE_budget (s : State) (n : Nat) (e : RailEngine) : (s.setRailE n e).budget = s.budget := (rfl)
@[simp] theorem State.setRailE_phases (s : State) (n : Nat) (e : RailEngine) : (s.setRailE n e).phases = s.phases := (rfl)
@[simp] theorem State.setRailE_qw (s : State) (n : Nat) (e : RailEngine) : (s.setRailE n e).qw = s.qw := (rfl)
@[simp] theorem State.setRailE_xb (s : State) (n : Nat) (e : RailEngine) : (s.setRailE n e).xb = s.xb := (rfl)
@[simp] theorem State.setRailE_ao (s : State) (n : Nat) (e : RailEngine) : (s.setRailE n e).ao = s.ao := (rfl)
@[simp] theorem State.setRailE_sup (s : State) (n : Nat) (e : RailEngine) : (s.setRailE n e).sup = s.sup := (rfl)
@[simp] theorem State.setRailE_rh (s : State) (n : Nat) (e : RailEngine) : (s.setRailE n e).rh = s.rh := (rfl)
@[simp] theorem State.setRailE_arb (s : State) (n : Nat) (e : RailEngine) : (s.setRailE n e).arb = s.arb := (rfl)
@[simp] theorem State.setRailE_seq (s : State) (n : Nat) (e : RailEngine) : (s.setRailE n e).seq = s.seq := (rfl)
@[simp] theorem State.setRailE_gait (s : State) (n : Nat) (e : RailEngine) : (s.setRailE n e).gait = s.gait := (rfl)
@[simp] theorem State.setRailE_fc (s : State) (n : Nat) (e : RailEngine) : (s.setRailE n e).fc = s.fc := (rfl)
@[simp] theorem State.setRailE_wdg (s : State) (n : Nat) (e : RailEngine) : (s.setRailE n e).wdg = s.wdg := (rfl)
@[simp] theorem State.setRailE_bk (s : State) (n : Nat) (e : RailEngine) : (s.setRailE n e).bk = s.bk := (rfl)
@[simp] theorem State.setRailE_cal (s : State) (n : Nat) (e : RailEngine) : (s.setRailE n e).cal = s.cal := (rfl)
@[simp] theorem State.setRailE_log (s : State) (n : Nat) (e : RailEngine) : (s.setRailE n e).log = s.log := (rfl)
@[simp] theorem State.setRailE_reply (s : State) (n : Nat) (e : RailEngine) : (s.setRailE n e).reply = s.reply := (rfl)
@[simp] theorem State.setRailE_spi (s : State) (n : Nat) (e : RailEngine) : (s.setRailE n e).spi = s.spi := (rfl)
@[simp] theorem State.setRailE_ecat (s : State) (n : Nat) (e : RailEngine) : (s.setRailE n e).ecat = s.ecat := (rfl)
@[simp] theorem State.setRailE_jobEnded (s : State) (n : Nat) (e : RailEngine) : (s.setRailE n e).jobEnded = s.jobEnded := (rfl)
@[simp] theorem State.setRailE_path (s : State) (n : Nat) (e : RailEngine) : (s.setRailE n e).path = s.path := (rfl)
@[simp] theorem State.setRailE_chg (s : State) (n : Nat) (e : RailEngine) : (s.setRailE n e).chg = s.chg := (rfl)
@[simp] theorem State.setRailE_therm (s : State) (n : Nat) (e : RailEngine) : (s.setRailE n e).therm = s.therm := (rfl)
@[simp] theorem State.setRailE_est (s : State) (n : Nat) (e : RailEngine) : (s.setRailE n e).est = s.est := (rfl)
@[simp] theorem State.setRailE_pair (s : State) (n : Nat) (e : RailEngine) : (s.setRailE n e).pair = s.pair := (rfl)
@[simp] theorem State.setRailE_tlm (s : State) (n : Nat) (e : RailEngine) : (s.setRailE n e).tlm = s.tlm := (rfl)
@[simp] theorem State.setRailE_mram (s : State) (n : Nat) (e : RailEngine) : (s.setRailE n e).mram = s.mram := (rfl)
@[simp] theorem State.setRailE_ecc (s : State) (n : Nat) (e : RailEngine) : (s.setRailE n e).ecc = s.ecc := (rfl)
@[simp] theorem State.setRailE_pending (s : State) (n : Nat) (e : RailEngine) : (s.setRailE n e).pending = s.pending := (rfl)

/-! ## The engine of one instance, phases -/

@[simp] theorem State.setPhaseE_od (s : State) (n : Nat) (e : PhaseEngine) : (s.setPhaseE n e).od = s.od := (rfl)
@[simp] theorem State.setPhaseE_pub (s : State) (n : Nat) (e : PhaseEngine) : (s.setPhaseE n e).pub = s.pub := (rfl)
@[simp] theorem State.setPhaseE_fresh (s : State) (n : Nat) (e : PhaseEngine) : (s.setPhaseE n e).fresh = s.fresh := (rfl)
@[simp] theorem State.setPhaseE_clock (s : State) (n : Nat) (e : PhaseEngine) : (s.setPhaseE n e).clock = s.clock := (rfl)
@[simp] theorem State.setPhaseE_stride (s : State) (n : Nat) (e : PhaseEngine) : (s.setPhaseE n e).stride = s.stride := (rfl)
@[simp] theorem State.setPhaseE_staging (s : State) (n : Nat) (e : PhaseEngine) : (s.setPhaseE n e).staging = s.staging := (rfl)
@[simp] theorem State.setPhaseE_power (s : State) (n : Nat) (e : PhaseEngine) : (s.setPhaseE n e).power = s.power := (rfl)
@[simp] theorem State.setPhaseE_pins (s : State) (n : Nat) (e : PhaseEngine) : (s.setPhaseE n e).pins = s.pins := (rfl)
@[simp] theorem State.setPhaseE_divider (s : State) (n : Nat) (e : PhaseEngine) : (s.setPhaseE n e).divider = s.divider := (rfl)
@[simp] theorem State.setPhaseE_budget (s : State) (n : Nat) (e : PhaseEngine) : (s.setPhaseE n e).budget = s.budget := (rfl)
@[simp] theorem State.setPhaseE_rails (s : State) (n : Nat) (e : PhaseEngine) : (s.setPhaseE n e).rails = s.rails := (rfl)
@[simp] theorem State.setPhaseE_qw (s : State) (n : Nat) (e : PhaseEngine) : (s.setPhaseE n e).qw = s.qw := (rfl)
@[simp] theorem State.setPhaseE_xb (s : State) (n : Nat) (e : PhaseEngine) : (s.setPhaseE n e).xb = s.xb := (rfl)
@[simp] theorem State.setPhaseE_ao (s : State) (n : Nat) (e : PhaseEngine) : (s.setPhaseE n e).ao = s.ao := (rfl)
@[simp] theorem State.setPhaseE_sup (s : State) (n : Nat) (e : PhaseEngine) : (s.setPhaseE n e).sup = s.sup := (rfl)
@[simp] theorem State.setPhaseE_rh (s : State) (n : Nat) (e : PhaseEngine) : (s.setPhaseE n e).rh = s.rh := (rfl)
@[simp] theorem State.setPhaseE_arb (s : State) (n : Nat) (e : PhaseEngine) : (s.setPhaseE n e).arb = s.arb := (rfl)
@[simp] theorem State.setPhaseE_seq (s : State) (n : Nat) (e : PhaseEngine) : (s.setPhaseE n e).seq = s.seq := (rfl)
@[simp] theorem State.setPhaseE_gait (s : State) (n : Nat) (e : PhaseEngine) : (s.setPhaseE n e).gait = s.gait := (rfl)
@[simp] theorem State.setPhaseE_fc (s : State) (n : Nat) (e : PhaseEngine) : (s.setPhaseE n e).fc = s.fc := (rfl)
@[simp] theorem State.setPhaseE_wdg (s : State) (n : Nat) (e : PhaseEngine) : (s.setPhaseE n e).wdg = s.wdg := (rfl)
@[simp] theorem State.setPhaseE_bk (s : State) (n : Nat) (e : PhaseEngine) : (s.setPhaseE n e).bk = s.bk := (rfl)
@[simp] theorem State.setPhaseE_cal (s : State) (n : Nat) (e : PhaseEngine) : (s.setPhaseE n e).cal = s.cal := (rfl)
@[simp] theorem State.setPhaseE_log (s : State) (n : Nat) (e : PhaseEngine) : (s.setPhaseE n e).log = s.log := (rfl)
@[simp] theorem State.setPhaseE_reply (s : State) (n : Nat) (e : PhaseEngine) : (s.setPhaseE n e).reply = s.reply := (rfl)
@[simp] theorem State.setPhaseE_spi (s : State) (n : Nat) (e : PhaseEngine) : (s.setPhaseE n e).spi = s.spi := (rfl)
@[simp] theorem State.setPhaseE_ecat (s : State) (n : Nat) (e : PhaseEngine) : (s.setPhaseE n e).ecat = s.ecat := (rfl)
@[simp] theorem State.setPhaseE_jobEnded (s : State) (n : Nat) (e : PhaseEngine) : (s.setPhaseE n e).jobEnded = s.jobEnded := (rfl)
@[simp] theorem State.setPhaseE_path (s : State) (n : Nat) (e : PhaseEngine) : (s.setPhaseE n e).path = s.path := (rfl)
@[simp] theorem State.setPhaseE_chg (s : State) (n : Nat) (e : PhaseEngine) : (s.setPhaseE n e).chg = s.chg := (rfl)
@[simp] theorem State.setPhaseE_therm (s : State) (n : Nat) (e : PhaseEngine) : (s.setPhaseE n e).therm = s.therm := (rfl)
@[simp] theorem State.setPhaseE_est (s : State) (n : Nat) (e : PhaseEngine) : (s.setPhaseE n e).est = s.est := (rfl)
@[simp] theorem State.setPhaseE_pair (s : State) (n : Nat) (e : PhaseEngine) : (s.setPhaseE n e).pair = s.pair := (rfl)
@[simp] theorem State.setPhaseE_tlm (s : State) (n : Nat) (e : PhaseEngine) : (s.setPhaseE n e).tlm = s.tlm := (rfl)
@[simp] theorem State.setPhaseE_mram (s : State) (n : Nat) (e : PhaseEngine) : (s.setPhaseE n e).mram = s.mram := (rfl)
@[simp] theorem State.setPhaseE_ecc (s : State) (n : Nat) (e : PhaseEngine) : (s.setPhaseE n e).ecc = s.ecc := (rfl)
@[simp] theorem State.setPhaseE_pending (s : State) (n : Nat) (e : PhaseEngine) : (s.setPhaseE n e).pending = s.pending := (rfl)

/-! ## The engine of one instance, sup -/

@[simp] theorem State.setSupE_od (s : State) (n : Nat) (e : SupEngine) : (s.setSupE n e).od = s.od := (rfl)
@[simp] theorem State.setSupE_pub (s : State) (n : Nat) (e : SupEngine) : (s.setSupE n e).pub = s.pub := (rfl)
@[simp] theorem State.setSupE_fresh (s : State) (n : Nat) (e : SupEngine) : (s.setSupE n e).fresh = s.fresh := (rfl)
@[simp] theorem State.setSupE_clock (s : State) (n : Nat) (e : SupEngine) : (s.setSupE n e).clock = s.clock := (rfl)
@[simp] theorem State.setSupE_stride (s : State) (n : Nat) (e : SupEngine) : (s.setSupE n e).stride = s.stride := (rfl)
@[simp] theorem State.setSupE_staging (s : State) (n : Nat) (e : SupEngine) : (s.setSupE n e).staging = s.staging := (rfl)
@[simp] theorem State.setSupE_power (s : State) (n : Nat) (e : SupEngine) : (s.setSupE n e).power = s.power := (rfl)
@[simp] theorem State.setSupE_pins (s : State) (n : Nat) (e : SupEngine) : (s.setSupE n e).pins = s.pins := (rfl)
@[simp] theorem State.setSupE_divider (s : State) (n : Nat) (e : SupEngine) : (s.setSupE n e).divider = s.divider := (rfl)
@[simp] theorem State.setSupE_budget (s : State) (n : Nat) (e : SupEngine) : (s.setSupE n e).budget = s.budget := (rfl)
@[simp] theorem State.setSupE_rails (s : State) (n : Nat) (e : SupEngine) : (s.setSupE n e).rails = s.rails := (rfl)
@[simp] theorem State.setSupE_phases (s : State) (n : Nat) (e : SupEngine) : (s.setSupE n e).phases = s.phases := (rfl)
@[simp] theorem State.setSupE_qw (s : State) (n : Nat) (e : SupEngine) : (s.setSupE n e).qw = s.qw := (rfl)
@[simp] theorem State.setSupE_xb (s : State) (n : Nat) (e : SupEngine) : (s.setSupE n e).xb = s.xb := (rfl)
@[simp] theorem State.setSupE_ao (s : State) (n : Nat) (e : SupEngine) : (s.setSupE n e).ao = s.ao := (rfl)
@[simp] theorem State.setSupE_rh (s : State) (n : Nat) (e : SupEngine) : (s.setSupE n e).rh = s.rh := (rfl)
@[simp] theorem State.setSupE_arb (s : State) (n : Nat) (e : SupEngine) : (s.setSupE n e).arb = s.arb := (rfl)
@[simp] theorem State.setSupE_seq (s : State) (n : Nat) (e : SupEngine) : (s.setSupE n e).seq = s.seq := (rfl)
@[simp] theorem State.setSupE_gait (s : State) (n : Nat) (e : SupEngine) : (s.setSupE n e).gait = s.gait := (rfl)
@[simp] theorem State.setSupE_fc (s : State) (n : Nat) (e : SupEngine) : (s.setSupE n e).fc = s.fc := (rfl)
@[simp] theorem State.setSupE_wdg (s : State) (n : Nat) (e : SupEngine) : (s.setSupE n e).wdg = s.wdg := (rfl)
@[simp] theorem State.setSupE_bk (s : State) (n : Nat) (e : SupEngine) : (s.setSupE n e).bk = s.bk := (rfl)
@[simp] theorem State.setSupE_cal (s : State) (n : Nat) (e : SupEngine) : (s.setSupE n e).cal = s.cal := (rfl)
@[simp] theorem State.setSupE_log (s : State) (n : Nat) (e : SupEngine) : (s.setSupE n e).log = s.log := (rfl)
@[simp] theorem State.setSupE_reply (s : State) (n : Nat) (e : SupEngine) : (s.setSupE n e).reply = s.reply := (rfl)
@[simp] theorem State.setSupE_spi (s : State) (n : Nat) (e : SupEngine) : (s.setSupE n e).spi = s.spi := (rfl)
@[simp] theorem State.setSupE_ecat (s : State) (n : Nat) (e : SupEngine) : (s.setSupE n e).ecat = s.ecat := (rfl)
@[simp] theorem State.setSupE_jobEnded (s : State) (n : Nat) (e : SupEngine) : (s.setSupE n e).jobEnded = s.jobEnded := (rfl)
@[simp] theorem State.setSupE_path (s : State) (n : Nat) (e : SupEngine) : (s.setSupE n e).path = s.path := (rfl)
@[simp] theorem State.setSupE_chg (s : State) (n : Nat) (e : SupEngine) : (s.setSupE n e).chg = s.chg := (rfl)
@[simp] theorem State.setSupE_therm (s : State) (n : Nat) (e : SupEngine) : (s.setSupE n e).therm = s.therm := (rfl)
@[simp] theorem State.setSupE_est (s : State) (n : Nat) (e : SupEngine) : (s.setSupE n e).est = s.est := (rfl)
@[simp] theorem State.setSupE_pair (s : State) (n : Nat) (e : SupEngine) : (s.setSupE n e).pair = s.pair := (rfl)
@[simp] theorem State.setSupE_tlm (s : State) (n : Nat) (e : SupEngine) : (s.setSupE n e).tlm = s.tlm := (rfl)
@[simp] theorem State.setSupE_mram (s : State) (n : Nat) (e : SupEngine) : (s.setSupE n e).mram = s.mram := (rfl)
@[simp] theorem State.setSupE_ecc (s : State) (n : Nat) (e : SupEngine) : (s.setSupE n e).ecc = s.ecc := (rfl)
@[simp] theorem State.setSupE_pending (s : State) (n : Nat) (e : SupEngine) : (s.setSupE n e).pending = s.pending := (rfl)

/-! ## The engine of one instance, xb -/

@[simp] theorem State.setXbE_od (s : State) (n : Nat) (e : XbEngine) : (s.setXbE n e).od = s.od := (rfl)
@[simp] theorem State.setXbE_pub (s : State) (n : Nat) (e : XbEngine) : (s.setXbE n e).pub = s.pub := (rfl)
@[simp] theorem State.setXbE_fresh (s : State) (n : Nat) (e : XbEngine) : (s.setXbE n e).fresh = s.fresh := (rfl)
@[simp] theorem State.setXbE_clock (s : State) (n : Nat) (e : XbEngine) : (s.setXbE n e).clock = s.clock := (rfl)
@[simp] theorem State.setXbE_stride (s : State) (n : Nat) (e : XbEngine) : (s.setXbE n e).stride = s.stride := (rfl)
@[simp] theorem State.setXbE_staging (s : State) (n : Nat) (e : XbEngine) : (s.setXbE n e).staging = s.staging := (rfl)
@[simp] theorem State.setXbE_power (s : State) (n : Nat) (e : XbEngine) : (s.setXbE n e).power = s.power := (rfl)
@[simp] theorem State.setXbE_pins (s : State) (n : Nat) (e : XbEngine) : (s.setXbE n e).pins = s.pins := (rfl)
@[simp] theorem State.setXbE_divider (s : State) (n : Nat) (e : XbEngine) : (s.setXbE n e).divider = s.divider := (rfl)
@[simp] theorem State.setXbE_budget (s : State) (n : Nat) (e : XbEngine) : (s.setXbE n e).budget = s.budget := (rfl)
@[simp] theorem State.setXbE_rails (s : State) (n : Nat) (e : XbEngine) : (s.setXbE n e).rails = s.rails := (rfl)
@[simp] theorem State.setXbE_phases (s : State) (n : Nat) (e : XbEngine) : (s.setXbE n e).phases = s.phases := (rfl)
@[simp] theorem State.setXbE_qw (s : State) (n : Nat) (e : XbEngine) : (s.setXbE n e).qw = s.qw := (rfl)
@[simp] theorem State.setXbE_ao (s : State) (n : Nat) (e : XbEngine) : (s.setXbE n e).ao = s.ao := (rfl)
@[simp] theorem State.setXbE_sup (s : State) (n : Nat) (e : XbEngine) : (s.setXbE n e).sup = s.sup := (rfl)
@[simp] theorem State.setXbE_rh (s : State) (n : Nat) (e : XbEngine) : (s.setXbE n e).rh = s.rh := (rfl)
@[simp] theorem State.setXbE_arb (s : State) (n : Nat) (e : XbEngine) : (s.setXbE n e).arb = s.arb := (rfl)
@[simp] theorem State.setXbE_seq (s : State) (n : Nat) (e : XbEngine) : (s.setXbE n e).seq = s.seq := (rfl)
@[simp] theorem State.setXbE_gait (s : State) (n : Nat) (e : XbEngine) : (s.setXbE n e).gait = s.gait := (rfl)
@[simp] theorem State.setXbE_fc (s : State) (n : Nat) (e : XbEngine) : (s.setXbE n e).fc = s.fc := (rfl)
@[simp] theorem State.setXbE_wdg (s : State) (n : Nat) (e : XbEngine) : (s.setXbE n e).wdg = s.wdg := (rfl)
@[simp] theorem State.setXbE_bk (s : State) (n : Nat) (e : XbEngine) : (s.setXbE n e).bk = s.bk := (rfl)
@[simp] theorem State.setXbE_cal (s : State) (n : Nat) (e : XbEngine) : (s.setXbE n e).cal = s.cal := (rfl)
@[simp] theorem State.setXbE_log (s : State) (n : Nat) (e : XbEngine) : (s.setXbE n e).log = s.log := (rfl)
@[simp] theorem State.setXbE_reply (s : State) (n : Nat) (e : XbEngine) : (s.setXbE n e).reply = s.reply := (rfl)
@[simp] theorem State.setXbE_spi (s : State) (n : Nat) (e : XbEngine) : (s.setXbE n e).spi = s.spi := (rfl)
@[simp] theorem State.setXbE_ecat (s : State) (n : Nat) (e : XbEngine) : (s.setXbE n e).ecat = s.ecat := (rfl)
@[simp] theorem State.setXbE_jobEnded (s : State) (n : Nat) (e : XbEngine) : (s.setXbE n e).jobEnded = s.jobEnded := (rfl)
@[simp] theorem State.setXbE_path (s : State) (n : Nat) (e : XbEngine) : (s.setXbE n e).path = s.path := (rfl)
@[simp] theorem State.setXbE_chg (s : State) (n : Nat) (e : XbEngine) : (s.setXbE n e).chg = s.chg := (rfl)
@[simp] theorem State.setXbE_therm (s : State) (n : Nat) (e : XbEngine) : (s.setXbE n e).therm = s.therm := (rfl)
@[simp] theorem State.setXbE_est (s : State) (n : Nat) (e : XbEngine) : (s.setXbE n e).est = s.est := (rfl)
@[simp] theorem State.setXbE_pair (s : State) (n : Nat) (e : XbEngine) : (s.setXbE n e).pair = s.pair := (rfl)
@[simp] theorem State.setXbE_tlm (s : State) (n : Nat) (e : XbEngine) : (s.setXbE n e).tlm = s.tlm := (rfl)
@[simp] theorem State.setXbE_mram (s : State) (n : Nat) (e : XbEngine) : (s.setXbE n e).mram = s.mram := (rfl)
@[simp] theorem State.setXbE_ecc (s : State) (n : Nat) (e : XbEngine) : (s.setXbE n e).ecc = s.ecc := (rfl)
@[simp] theorem State.setXbE_pending (s : State) (n : Nat) (e : XbEngine) : (s.setXbE n e).pending = s.pending := (rfl)

/-! ## Beats that pass -/

@[simp] theorem State.passBeats_od (s : State) (n : Nat) : (s.passBeats n).od = s.od := (rfl)
@[simp] theorem State.passBeats_pub (s : State) (n : Nat) : (s.passBeats n).pub = s.pub := (rfl)
@[simp] theorem State.passBeats_fresh (s : State) (n : Nat) : (s.passBeats n).fresh = s.fresh := (rfl)
@[simp] theorem State.passBeats_clock (s : State) (n : Nat) : (s.passBeats n).clock = s.clock := (rfl)
@[simp] theorem State.passBeats_staging (s : State) (n : Nat) : (s.passBeats n).staging = s.staging := (rfl)
@[simp] theorem State.passBeats_power (s : State) (n : Nat) : (s.passBeats n).power = s.power := (rfl)
@[simp] theorem State.passBeats_pins (s : State) (n : Nat) : (s.passBeats n).pins = s.pins := (rfl)
@[simp] theorem State.passBeats_divider (s : State) (n : Nat) : (s.passBeats n).divider = s.divider := (rfl)
@[simp] theorem State.passBeats_budget (s : State) (n : Nat) : (s.passBeats n).budget = s.budget := (rfl)
@[simp] theorem State.passBeats_rails (s : State) (n : Nat) : (s.passBeats n).rails = s.rails := (rfl)
@[simp] theorem State.passBeats_phases (s : State) (n : Nat) : (s.passBeats n).phases = s.phases := (rfl)
@[simp] theorem State.passBeats_qw (s : State) (n : Nat) : (s.passBeats n).qw = s.qw := (rfl)
@[simp] theorem State.passBeats_xb (s : State) (n : Nat) : (s.passBeats n).xb = s.xb := (rfl)
@[simp] theorem State.passBeats_ao (s : State) (n : Nat) : (s.passBeats n).ao = s.ao := (rfl)
@[simp] theorem State.passBeats_sup (s : State) (n : Nat) : (s.passBeats n).sup = s.sup := (rfl)
@[simp] theorem State.passBeats_rh (s : State) (n : Nat) : (s.passBeats n).rh = s.rh := (rfl)
@[simp] theorem State.passBeats_arb (s : State) (n : Nat) : (s.passBeats n).arb = s.arb := (rfl)
@[simp] theorem State.passBeats_seq (s : State) (n : Nat) : (s.passBeats n).seq = s.seq := (rfl)
@[simp] theorem State.passBeats_gait (s : State) (n : Nat) : (s.passBeats n).gait = s.gait := (rfl)
@[simp] theorem State.passBeats_fc (s : State) (n : Nat) : (s.passBeats n).fc = s.fc := (rfl)
@[simp] theorem State.passBeats_bk (s : State) (n : Nat) : (s.passBeats n).bk = s.bk := (rfl)
@[simp] theorem State.passBeats_cal (s : State) (n : Nat) : (s.passBeats n).cal = s.cal := (rfl)
@[simp] theorem State.passBeats_log (s : State) (n : Nat) : (s.passBeats n).log = s.log := (rfl)
@[simp] theorem State.passBeats_reply (s : State) (n : Nat) : (s.passBeats n).reply = s.reply := (rfl)
@[simp] theorem State.passBeats_spi (s : State) (n : Nat) : (s.passBeats n).spi = s.spi := (rfl)
@[simp] theorem State.passBeats_ecat (s : State) (n : Nat) : (s.passBeats n).ecat = s.ecat := (rfl)
@[simp] theorem State.passBeats_jobEnded (s : State) (n : Nat) : (s.passBeats n).jobEnded = s.jobEnded := (rfl)
@[simp] theorem State.passBeats_path (s : State) (n : Nat) : (s.passBeats n).path = s.path := (rfl)
@[simp] theorem State.passBeats_chg (s : State) (n : Nat) : (s.passBeats n).chg = s.chg := (rfl)
@[simp] theorem State.passBeats_therm (s : State) (n : Nat) : (s.passBeats n).therm = s.therm := (rfl)
@[simp] theorem State.passBeats_est (s : State) (n : Nat) : (s.passBeats n).est = s.est := (rfl)
@[simp] theorem State.passBeats_pair (s : State) (n : Nat) : (s.passBeats n).pair = s.pair := (rfl)
@[simp] theorem State.passBeats_tlm (s : State) (n : Nat) : (s.passBeats n).tlm = s.tlm := (rfl)
@[simp] theorem State.passBeats_mram (s : State) (n : Nat) : (s.passBeats n).mram = s.mram := (rfl)
@[simp] theorem State.passBeats_ecc (s : State) (n : Nat) : (s.passBeats n).ecc = s.ecc := (rfl)
@[simp] theorem State.passBeats_pending (s : State) (n : Nat) : (s.passBeats n).pending = s.pending := (rfl)

/-! ## The next boundary -/

@[simp] theorem State.atBoundary_od (s : State) : s.atBoundary.od = s.od := by simp only [State.atBoundary, State.passBeats]
@[simp] theorem State.atBoundary_pub (s : State) : s.atBoundary.pub = s.pub := by simp only [State.atBoundary, State.passBeats]
@[simp] theorem State.atBoundary_fresh (s : State) : s.atBoundary.fresh = s.fresh := by simp only [State.atBoundary, State.passBeats]
@[simp] theorem State.atBoundary_staging (s : State) : s.atBoundary.staging = s.staging := by simp only [State.atBoundary, State.passBeats]
@[simp] theorem State.atBoundary_power (s : State) : s.atBoundary.power = s.power := by simp only [State.atBoundary, State.passBeats]
@[simp] theorem State.atBoundary_pins (s : State) : s.atBoundary.pins = s.pins := by simp only [State.atBoundary, State.passBeats]
@[simp] theorem State.atBoundary_divider (s : State) : s.atBoundary.divider = s.divider := by simp only [State.atBoundary, State.passBeats]
@[simp] theorem State.atBoundary_budget (s : State) : s.atBoundary.budget = s.budget := by simp only [State.atBoundary, State.passBeats]
@[simp] theorem State.atBoundary_rails (s : State) : s.atBoundary.rails = s.rails := by simp only [State.atBoundary, State.passBeats]
@[simp] theorem State.atBoundary_phases (s : State) : s.atBoundary.phases = s.phases := by simp only [State.atBoundary, State.passBeats]
@[simp] theorem State.atBoundary_qw (s : State) : s.atBoundary.qw = s.qw := by simp only [State.atBoundary, State.passBeats]
@[simp] theorem State.atBoundary_xb (s : State) : s.atBoundary.xb = s.xb := by simp only [State.atBoundary, State.passBeats]
@[simp] theorem State.atBoundary_ao (s : State) : s.atBoundary.ao = s.ao := by simp only [State.atBoundary, State.passBeats]
@[simp] theorem State.atBoundary_sup (s : State) : s.atBoundary.sup = s.sup := by simp only [State.atBoundary, State.passBeats]
@[simp] theorem State.atBoundary_rh (s : State) : s.atBoundary.rh = s.rh := by simp only [State.atBoundary, State.passBeats]
@[simp] theorem State.atBoundary_arb (s : State) : s.atBoundary.arb = s.arb := by simp only [State.atBoundary, State.passBeats]
@[simp] theorem State.atBoundary_seq (s : State) : s.atBoundary.seq = s.seq := by simp only [State.atBoundary, State.passBeats]
@[simp] theorem State.atBoundary_gait (s : State) : s.atBoundary.gait = s.gait := by simp only [State.atBoundary, State.passBeats]
@[simp] theorem State.atBoundary_fc (s : State) : s.atBoundary.fc = s.fc := by simp only [State.atBoundary, State.passBeats]
@[simp] theorem State.atBoundary_bk (s : State) : s.atBoundary.bk = s.bk := by simp only [State.atBoundary, State.passBeats]
@[simp] theorem State.atBoundary_cal (s : State) : s.atBoundary.cal = s.cal := by simp only [State.atBoundary, State.passBeats]
@[simp] theorem State.atBoundary_log (s : State) : s.atBoundary.log = s.log := by simp only [State.atBoundary, State.passBeats]
@[simp] theorem State.atBoundary_reply (s : State) : s.atBoundary.reply = s.reply := by simp only [State.atBoundary, State.passBeats]
@[simp] theorem State.atBoundary_spi (s : State) : s.atBoundary.spi = s.spi := by simp only [State.atBoundary, State.passBeats]
@[simp] theorem State.atBoundary_ecat (s : State) : s.atBoundary.ecat = s.ecat := by simp only [State.atBoundary, State.passBeats]
@[simp] theorem State.atBoundary_jobEnded (s : State) : s.atBoundary.jobEnded = s.jobEnded := by simp only [State.atBoundary, State.passBeats]
@[simp] theorem State.atBoundary_path (s : State) : s.atBoundary.path = s.path := by simp only [State.atBoundary, State.passBeats]
@[simp] theorem State.atBoundary_chg (s : State) : s.atBoundary.chg = s.chg := by simp only [State.atBoundary, State.passBeats]
@[simp] theorem State.atBoundary_therm (s : State) : s.atBoundary.therm = s.therm := by simp only [State.atBoundary, State.passBeats]
@[simp] theorem State.atBoundary_est (s : State) : s.atBoundary.est = s.est := by simp only [State.atBoundary, State.passBeats]
@[simp] theorem State.atBoundary_pair (s : State) : s.atBoundary.pair = s.pair := by simp only [State.atBoundary, State.passBeats]
@[simp] theorem State.atBoundary_tlm (s : State) : s.atBoundary.tlm = s.tlm := by simp only [State.atBoundary, State.passBeats]
@[simp] theorem State.atBoundary_mram (s : State) : s.atBoundary.mram = s.mram := by simp only [State.atBoundary, State.passBeats]
@[simp] theorem State.atBoundary_ecc (s : State) : s.atBoundary.ecc = s.ecc := by simp only [State.atBoundary, State.passBeats]
@[simp] theorem State.atBoundary_pending (s : State) : s.atBoundary.pending = s.pending := by simp only [State.atBoundary, State.passBeats]
@[simp] theorem State.atBoundary_clock (s : State) : s.atBoundary.clock = s.clock.boundary := (rfl)

/-! ## A field of a state given field by field

Used with `↓` where a record update stands inside a large expression: it drops the rest unread. -/

section
variable (od : Dict) (pub : Dict) (fresh : Dict) (clock : Clock) (stride : StrideClock) (staging : Staging) (power :
  Power) (pins : Pins) (divider : Divider) (budget : Budget) (rails : Vector RailEngine 16) (phases : Vector
  PhaseEngine 8) (qw : QuietWindows) (xb : Vector XbEngine 4) (ao : AlwaysOn) (sup : Vector SupEngine 24) (rh :
  RhEngine) (arb : Arbiter) (seq : SeqEngine) (gait : GaitLines) (fc : Collector) (wdg : Watchdog) (bk : Backup) (cal
  : Option Calibration) (log : Recorder) (reply : Option Reply) (spi : SpiPort) (ecat : EcatPort) (jobEnded : Vector
  Nat 32) (path : PowerPath) (chg : Charger) (therm : Thermal) (est : Estimator) (pair : Pair) (tlm : Telemetry) (mram
  : List Host.Cell) (ecc : List Nat) (pending : List Instr)

theorem State.mk_od : (State.mk od pub fresh clock stride staging power pins divider budget rails phases qw xb ao sup rh arb seq gait fc wdg bk cal log
    reply spi ecat jobEnded path chg therm est pair tlm mram ecc pending).od = od := (rfl)
theorem State.mk_pub : (State.mk od pub fresh clock stride staging power pins divider budget rails phases qw xb ao sup rh arb seq gait fc wdg bk cal log
    reply spi ecat jobEnded path chg therm est pair tlm mram ecc pending).pub = pub := (rfl)
theorem State.mk_fresh : (State.mk od pub fresh clock stride staging power pins divider budget rails phases qw xb ao sup rh arb seq gait fc wdg bk cal log
    reply spi ecat jobEnded path chg therm est pair tlm mram ecc pending).fresh = fresh := (rfl)
theorem State.mk_clock : (State.mk od pub fresh clock stride staging power pins divider budget rails phases qw xb ao sup rh arb seq gait fc wdg bk cal log
    reply spi ecat jobEnded path chg therm est pair tlm mram ecc pending).clock = clock := (rfl)
theorem State.mk_stride : (State.mk od pub fresh clock stride staging power pins divider budget rails phases qw xb ao sup rh arb seq gait fc wdg bk cal log
    reply spi ecat jobEnded path chg therm est pair tlm mram ecc pending).stride = stride := (rfl)
theorem State.mk_staging : (State.mk od pub fresh clock stride staging power pins divider budget rails phases qw xb ao sup rh arb seq gait fc wdg bk cal log
    reply spi ecat jobEnded path chg therm est pair tlm mram ecc pending).staging = staging := (rfl)
theorem State.mk_power : (State.mk od pub fresh clock stride staging power pins divider budget rails phases qw xb ao sup rh arb seq gait fc wdg bk cal log
    reply spi ecat jobEnded path chg therm est pair tlm mram ecc pending).power = power := (rfl)
theorem State.mk_pins : (State.mk od pub fresh clock stride staging power pins divider budget rails phases qw xb ao sup rh arb seq gait fc wdg bk cal log
    reply spi ecat jobEnded path chg therm est pair tlm mram ecc pending).pins = pins := (rfl)
theorem State.mk_divider : (State.mk od pub fresh clock stride staging power pins divider budget rails phases qw xb ao sup rh arb seq gait fc wdg bk cal log
    reply spi ecat jobEnded path chg therm est pair tlm mram ecc pending).divider = divider := (rfl)
theorem State.mk_budget : (State.mk od pub fresh clock stride staging power pins divider budget rails phases qw xb ao sup rh arb seq gait fc wdg bk cal log
    reply spi ecat jobEnded path chg therm est pair tlm mram ecc pending).budget = budget := (rfl)
theorem State.mk_rails : (State.mk od pub fresh clock stride staging power pins divider budget rails phases qw xb ao sup rh arb seq gait fc wdg bk cal log
    reply spi ecat jobEnded path chg therm est pair tlm mram ecc pending).rails = rails := (rfl)
theorem State.mk_phases : (State.mk od pub fresh clock stride staging power pins divider budget rails phases qw xb ao sup rh arb seq gait fc wdg bk cal log
    reply spi ecat jobEnded path chg therm est pair tlm mram ecc pending).phases = phases := (rfl)
theorem State.mk_qw : (State.mk od pub fresh clock stride staging power pins divider budget rails phases qw xb ao sup rh arb seq gait fc wdg bk cal log
    reply spi ecat jobEnded path chg therm est pair tlm mram ecc pending).qw = qw := (rfl)
theorem State.mk_xb : (State.mk od pub fresh clock stride staging power pins divider budget rails phases qw xb ao sup rh arb seq gait fc wdg bk cal log
    reply spi ecat jobEnded path chg therm est pair tlm mram ecc pending).xb = xb := (rfl)
theorem State.mk_ao : (State.mk od pub fresh clock stride staging power pins divider budget rails phases qw xb ao sup rh arb seq gait fc wdg bk cal log
    reply spi ecat jobEnded path chg therm est pair tlm mram ecc pending).ao = ao := (rfl)
theorem State.mk_sup : (State.mk od pub fresh clock stride staging power pins divider budget rails phases qw xb ao sup rh arb seq gait fc wdg bk cal log
    reply spi ecat jobEnded path chg therm est pair tlm mram ecc pending).sup = sup := (rfl)
theorem State.mk_rh : (State.mk od pub fresh clock stride staging power pins divider budget rails phases qw xb ao sup rh arb seq gait fc wdg bk cal log
    reply spi ecat jobEnded path chg therm est pair tlm mram ecc pending).rh = rh := (rfl)
theorem State.mk_arb : (State.mk od pub fresh clock stride staging power pins divider budget rails phases qw xb ao sup rh arb seq gait fc wdg bk cal log
    reply spi ecat jobEnded path chg therm est pair tlm mram ecc pending).arb = arb := (rfl)
theorem State.mk_seq : (State.mk od pub fresh clock stride staging power pins divider budget rails phases qw xb ao sup rh arb seq gait fc wdg bk cal log
    reply spi ecat jobEnded path chg therm est pair tlm mram ecc pending).seq = seq := (rfl)
theorem State.mk_gait : (State.mk od pub fresh clock stride staging power pins divider budget rails phases qw xb ao sup rh arb seq gait fc wdg bk cal log
    reply spi ecat jobEnded path chg therm est pair tlm mram ecc pending).gait = gait := (rfl)
theorem State.mk_fc : (State.mk od pub fresh clock stride staging power pins divider budget rails phases qw xb ao sup rh arb seq gait fc wdg bk cal log
    reply spi ecat jobEnded path chg therm est pair tlm mram ecc pending).fc = fc := (rfl)
theorem State.mk_wdg : (State.mk od pub fresh clock stride staging power pins divider budget rails phases qw xb ao sup rh arb seq gait fc wdg bk cal log
    reply spi ecat jobEnded path chg therm est pair tlm mram ecc pending).wdg = wdg := (rfl)
theorem State.mk_bk : (State.mk od pub fresh clock stride staging power pins divider budget rails phases qw xb ao sup rh arb seq gait fc wdg bk cal log
    reply spi ecat jobEnded path chg therm est pair tlm mram ecc pending).bk = bk := (rfl)
theorem State.mk_cal : (State.mk od pub fresh clock stride staging power pins divider budget rails phases qw xb ao sup rh arb seq gait fc wdg bk cal log
    reply spi ecat jobEnded path chg therm est pair tlm mram ecc pending).cal = cal := (rfl)
theorem State.mk_log : (State.mk od pub fresh clock stride staging power pins divider budget rails phases qw xb ao sup rh arb seq gait fc wdg bk cal log
    reply spi ecat jobEnded path chg therm est pair tlm mram ecc pending).log = log := (rfl)
theorem State.mk_reply : (State.mk od pub fresh clock stride staging power pins divider budget rails phases qw xb ao sup rh arb seq gait fc wdg bk cal log
    reply spi ecat jobEnded path chg therm est pair tlm mram ecc pending).reply = reply := (rfl)
theorem State.mk_spi : (State.mk od pub fresh clock stride staging power pins divider budget rails phases qw xb ao sup rh arb seq gait fc wdg bk cal log
    reply spi ecat jobEnded path chg therm est pair tlm mram ecc pending).spi = spi := (rfl)
theorem State.mk_ecat : (State.mk od pub fresh clock stride staging power pins divider budget rails phases qw xb ao sup rh arb seq gait fc wdg bk cal log
    reply spi ecat jobEnded path chg therm est pair tlm mram ecc pending).ecat = ecat := (rfl)
theorem State.mk_jobEnded : (State.mk od pub fresh clock stride staging power pins divider budget rails phases qw xb ao sup rh arb seq gait fc wdg bk cal log
    reply spi ecat jobEnded path chg therm est pair tlm mram ecc pending).jobEnded = jobEnded := (rfl)
theorem State.mk_path : (State.mk od pub fresh clock stride staging power pins divider budget rails phases qw xb ao sup rh arb seq gait fc wdg bk cal log
    reply spi ecat jobEnded path chg therm est pair tlm mram ecc pending).path = path := (rfl)
theorem State.mk_chg : (State.mk od pub fresh clock stride staging power pins divider budget rails phases qw xb ao sup rh arb seq gait fc wdg bk cal log
    reply spi ecat jobEnded path chg therm est pair tlm mram ecc pending).chg = chg := (rfl)
theorem State.mk_therm : (State.mk od pub fresh clock stride staging power pins divider budget rails phases qw xb ao sup rh arb seq gait fc wdg bk cal log
    reply spi ecat jobEnded path chg therm est pair tlm mram ecc pending).therm = therm := (rfl)
theorem State.mk_est : (State.mk od pub fresh clock stride staging power pins divider budget rails phases qw xb ao sup rh arb seq gait fc wdg bk cal log
    reply spi ecat jobEnded path chg therm est pair tlm mram ecc pending).est = est := (rfl)
theorem State.mk_pair : (State.mk od pub fresh clock stride staging power pins divider budget rails phases qw xb ao sup rh arb seq gait fc wdg bk cal log
    reply spi ecat jobEnded path chg therm est pair tlm mram ecc pending).pair = pair := (rfl)
theorem State.mk_tlm : (State.mk od pub fresh clock stride staging power pins divider budget rails phases qw xb ao sup rh arb seq gait fc wdg bk cal log
    reply spi ecat jobEnded path chg therm est pair tlm mram ecc pending).tlm = tlm := (rfl)
theorem State.mk_mram : (State.mk od pub fresh clock stride staging power pins divider budget rails phases qw xb ao sup rh arb seq gait fc wdg bk cal log
    reply spi ecat jobEnded path chg therm est pair tlm mram ecc pending).mram = mram := (rfl)
theorem State.mk_ecc : (State.mk od pub fresh clock stride staging power pins divider budget rails phases qw xb ao sup rh arb seq gait fc wdg bk cal log
    reply spi ecat jobEnded path chg therm est pair tlm mram ecc pending).ecc = ecc := (rfl)
theorem State.mk_pending : (State.mk od pub fresh clock stride staging power pins divider budget rails phases qw xb ao sup rh arb seq gait fc wdg bk cal log
    reply spi ecat jobEnded path chg therm est pair tlm mram ecc pending).pending = pending := (rfl)

end

end Sys2Proof.Machine
end

