-- ==== Sys2Proof/Laws/Ops.lean ====
section
/-! SUPPORT. What the operations on the dictionary do, said once: reading back, reading elsewhere, the canonical form. -/

namespace Sys2Proof.Machine

/-! ## Tables -/

theorem lookupD_eraseKey_self (l : Dict) (k d : Nat) : lookupD (eraseKey l k) k d = d := by
  induction l with
  | nil => rfl
  | cons e t ih => by_cases h : e.1 = k <;> simp [eraseKey, lookupD, h, ih]

theorem lookupD_eraseKey_ne (l : Dict) (k j d : Nat) (h : j ≠ k) : lookupD (eraseKey l k) j d = lookupD l j d := by
  induction l with
  | nil => rfl
  | cons e t ih =>
    by_cases h1 : e.1 = k
    · have h2 : e.1 ≠ j := fun h2 => h (h2 ▸ h1)
      simp only [eraseKey, lookupD, h1, ↓reduceIte, ih]
      rw [if_neg (h1 ▸ h2)]
    · simp [eraseKey, lookupD, h1, ih]

theorem lookupD_insertKey_self (l : Dict) (k v d : Nat) (h : ∀ e ∈ l, e.1 ≠ k) : lookupD (insertKey l k v) k d = v := by
  induction l with
  | nil => simp [insertKey, lookupD]
  | cons e t ih =>
    have he := h e (by simp)
    by_cases h1 : k < e.1
    · simp [insertKey, lookupD, h1]
    · simp [insertKey, lookupD, h1, he, ih (fun x hx => h x (by simp [hx]))]

theorem lookupD_insertKey_ne (l : Dict) (k v j d : Nat) (h : j ≠ k) :
    lookupD (insertKey l k v) j d = lookupD l j d := by
  induction l with
  | nil => simp [insertKey, lookupD, Ne.symm h]
  | cons e t ih =>
    by_cases h1 : k < e.1
    · simp [insertKey, lookupD, h1, Ne.symm h]
    · simp [insertKey, lookupD, h1, ih]

theorem mem_eraseKey {l : Dict} {k : Nat} {e : Nat × Nat} : e ∈ eraseKey l k ↔ e ∈ l ∧ e.1 ≠ k := by
  induction l with
  | nil => simp [eraseKey]
  | cons a t ih =>
    by_cases h : a.1 = k
    · simp only [eraseKey, h, ↓reduceIte, ih, List.mem_cons]
      constructor
      · rintro ⟨h1, h2⟩; exact ⟨.inr h1, h2⟩
      · rintro ⟨rfl | h1, h2⟩
        · exact absurd h h2
        · exact ⟨h1, h2⟩
    · simp only [eraseKey, h, ↓reduceIte, List.mem_cons, ih]
      constructor
      · rintro (rfl | ⟨h1, h2⟩)
        · exact ⟨.inl rfl, h⟩
        · exact ⟨.inr h1, h2⟩
      · rintro ⟨rfl | h1, h2⟩
        · exact .inl rfl
        · exact .inr ⟨h1, h2⟩

/-- What is set is read. -/
@[simp] theorem lookupD_setKey_self (l : Dict) (k v d : Nat) : lookupD (setKey l k v d) k d = v := by
  unfold setKey
  split
  · next h => rw [lookupD_eraseKey_self, h]
  · exact lookupD_insertKey_self _ _ _ _ (fun e he => (mem_eraseKey.1 he).2)

/-- Setting a key leaves every other. -/
@[simp] theorem lookupD_setKey_ne (l : Dict) (k v d j dj : Nat) (h : j ≠ k) :
    lookupD (setKey l k v d) j dj = lookupD l j dj := by
  unfold setKey
  split
  · exact lookupD_eraseKey_ne _ _ _ _ h
  · rw [lookupD_insertKey_ne _ _ _ _ _ h, lookupD_eraseKey_ne _ _ _ _ h]

theorem pairwise_eraseKey {l : Dict} (k : Nat) (h : l.Pairwise (fun a b => a.1 < b.1)) :
    (eraseKey l k).Pairwise (fun a b => a.1 < b.1) := by
  induction l with
  | nil => exact h
  | cons e t ih =>
    rw [List.pairwise_cons] at h
    by_cases h1 : e.1 = k
    · simpa [eraseKey, h1] using ih h.2
    · simp only [eraseKey, h1, ↓reduceIte, List.pairwise_cons]
      exact ⟨fun a ha => h.1 a (mem_eraseKey.1 ha).1, ih h.2⟩

theorem mem_insertKey {l : Dict} {k v : Nat} {e : Nat × Nat} : e ∈ insertKey l k v ↔ e = (k, v) ∨ e ∈ l := by
  induction l with
  | nil => simp [insertKey]
  | cons a t ih =>
    by_cases h : k < a.1
    · simp [insertKey, h]
    · simp only [insertKey, h, ↓reduceIte, List.mem_cons, ih]
      constructor
      · rintro (h1 | h1 | h1) <;> simp [h1]
      · rintro (h1 | h1 | h1) <;> simp [h1]

theorem pairwise_insertKey {l : Dict} {k v : Nat} (h : l.Pairwise (fun a b => a.1 < b.1)) (hk : ∀ e ∈ l, e.1 ≠ k) :
    (insertKey l k v).Pairwise (fun a b => a.1 < b.1) := by
  induction l with
  | nil => simp [insertKey]
  | cons a t ih =>
    rw [List.pairwise_cons] at h
    have ha := hk a (by simp)
    by_cases h1 : k < a.1
    · simp only [insertKey, h1, ↓reduceIte, List.pairwise_cons, List.mem_cons]
      refine ⟨?_, h.1, h.2⟩
      rintro b (rfl | hb)
      · exact h1
      · exact Nat.lt_trans h1 (h.1 b hb)
    · simp only [insertKey, h1, ↓reduceIte, List.pairwise_cons]
      refine ⟨fun b hb => ?_, ih h.2 (fun e he => hk e (by simp [he]))⟩
      rcases mem_insertKey.1 hb with rfl | hb
      · show a.1 < k
        omega
      · exact h.1 b hb

/-- Setting a key keeps the canonical form. -/
theorem setKey_wf {d : Nat → Nat} {l : Dict} (k v : Nat) (h : Dict.wf d l) : Dict.wf d (setKey l k v (d k)) := by
  unfold setKey
  split
  · exact ⟨pairwise_eraseKey k h.1, fun e he => h.2 e (mem_eraseKey.1 he).1⟩
  · next hv =>
    refine ⟨pairwise_insertKey (pairwise_eraseKey k h.1) (fun e he => (mem_eraseKey.1 he).2), fun e he => ?_⟩
    rcases mem_insertKey.1 he with rfl | he
    · exact hv
    · exact h.2 e (mem_eraseKey.1 he).1

/-! ## Entries -/

@[simp] theorem State.get_put_self (s : State) (k v : Nat) : (s.put k v).get k = v := lookupD_setKey_self _ _ _ _

@[simp] theorem State.get_put_ne (s : State) (k v j : Nat) (h : j ≠ k) : (s.put k v).get j = s.get j :=
  lookupD_setKey_ne _ _ _ _ _ _ h

@[simp] theorem State.get_flag_self (s : State) (k m : Nat) : (s.flag k m).get k = s.get k ||| m :=
  lookupD_setKey_self _ _ _ _

@[simp] theorem State.get_flag_ne (s : State) (k m j : Nat) (h : j ≠ k) : (s.flag k m).get j = s.get j :=
  lookupD_setKey_ne _ _ _ _ _ _ h

theorem State.get_withJobEnded (s : State) (v : Vector Nat 32) (k : Nat) : ({ s with jobEnded := v } : State).get k = s.get k := (rfl)
theorem State.get_withQw (s : State) (q : QuietWindows) (k : Nat) : ({ s with qw := q } : State).get k = s.get k := (rfl)
theorem State.get_withRh (s : State) (a : Arbiter) (r : RhEngine) (k : Nat) : ({ s with arb := a, rh := r } : State).get k = s.get k :=
  (rfl)

@[simp] theorem State.get_passBeats (s : State) (n k : Nat) : (s.passBeats n).get k = s.get k := (rfl)
@[simp] theorem State.get_atBoundary (s : State) (k : Nat) : s.atBoundary.get k = s.get k := (rfl)
@[simp] theorem State.get_setRailE (s : State) (n : Nat) (e : RailEngine) (k : Nat) : (s.setRailE n e).get k = s.get k := (rfl)
@[simp] theorem State.get_setPhaseE (s : State) (n : Nat) (e : PhaseEngine) (k : Nat) : (s.setPhaseE n e).get k = s.get k :=
  (rfl)
@[simp] theorem State.get_setSupE (s : State) (n : Nat) (e : SupEngine) (k : Nat) : (s.setSupE n e).get k = s.get k := (rfl)
@[simp] theorem State.get_setXbE (s : State) (n : Nat) (e : XbEngine) (k : Nat) : (s.setXbE n e).get k = s.get k := (rfl)

@[simp] theorem State.get_setMask_self (s : State) (k m : Nat) : (s.setMask k m).get k = s.get k ||| m := State.get_put_self _ _ _
@[simp] theorem State.get_setMask_ne (s : State) (k m j : Nat) (h : j ≠ k) : (s.setMask k m).get j = s.get j :=
  State.get_put_ne _ _ _ _ h
@[simp] theorem State.get_clearFlag_ne (s : State) (k m j : Nat) (h : j ≠ k) : (s.clearFlag k m).get j = s.get j :=
  State.get_put_ne _ _ _ _ h
@[simp] theorem State.get_putBit_ne (s : State) (k i j : Nat) (b : Bool) (h : j ≠ k) : (s.putBit k i b).get j = s.get j :=
  State.get_put_ne _ _ _ _ h
@[simp] theorem State.get_putI_ne (s : State) (k j : Nat) (i : Int) (h : j ≠ k) : (s.putI k i).get j = s.get j :=
  State.get_put_ne _ _ _ _ h
@[simp] theorem State.get_putFit_ne (s : State) (k j : Nat) (i : Int) (h : j ≠ k) : (s.putFit k i).get j = s.get j :=
  State.get_put_ne _ _ _ _ h
@[simp] theorem State.get_bump_self (s : State) (k : Nat) : (s.bump k).get k = countUp k (bitsOf k) (s.get k) :=
  State.get_put_self _ _ _
@[simp] theorem State.get_bump_ne (s : State) (k j : Nat) (h : j ≠ k) : (s.bump k).get j = s.get j :=
  State.get_put_ne _ _ _ _ h
@[simp] theorem State.get_bumpBy_ne (s : State) (k n j : Nat) (h : j ≠ k) : (s.bumpBy k n).get j = s.get j := by
  induction n generalizing s with
  | zero => rfl
  | succ n ih => rw [State.bumpBy, ih, State.get_bump_ne _ _ _ h]
@[simp] theorem State.get_bumpSat_ne (s : State) (k j : Nat) (h : j ≠ k) : (s.bumpSat k).get j = s.get j :=
  State.get_put_ne _ _ _ _ h
@[simp] theorem State.get_putRail_ne (s : State) (n j : Nat) (x : RailState) (h : j ≠ K.railState n) :
    (s.putRail n x).get j = s.get j := State.get_put_ne _ _ _ _ h
@[simp] theorem State.get_putPhase_ne (s : State) (n j : Nat) (x : PhaseState) (h : j ≠ K.phaseState n) :
    (s.putPhase n x).get j = s.get j := State.get_put_ne _ _ _ _ h
@[simp] theorem State.get_putFd_ne (s : State) (j : Nat) (x : FdState) (h : j ≠ K.fdState) :
    (s.putFd x).get j = s.get j := State.get_put_ne _ _ _ _ h

/-- A write keeps the dictionary's canonical form. -/
theorem State.put_wf (s : State) (k v : Nat) (h : Dict.wf dflt s.od) : Dict.wf dflt (s.put k v).od :=
  setKey_wf k v h

/-- A set of flags keeps the dictionary's canonical form. -/
theorem State.flag_wf (s : State) (k m : Nat) (h : Dict.wf dflt s.od) : Dict.wf dflt (s.flag k m).od :=
  setKey_wf k _ h

/-! ## Numbers -/

@[simp] theorem leBytes_length (n v : Nat) : (leBytes n v).length = n := by
  induction n generalizing v with
  | zero => rfl
  | succ n ih => simp [leBytes, ih]

/-- Little-endian bytes are read back (R6). -/
theorem leNat_leBytes (n v : Nat) (h : v < 256 ^ n) : leNat (leBytes n v) = v := by
  induction n generalizing v with
  | zero => simp at h; simp [leBytes, leNat, h]
  | succ n ih =>
    have h1 : v / 256 < 256 ^ n := by rw [Nat.div_lt_iff_lt_mul (by decide)]; simpa [Nat.pow_succ] using h
    simp only [leBytes, leNat, ih _ h1, BitVec.toNat_ofNat]
    omega

end Sys2Proof.Machine
end

