-- ==== Sys2Proof/Laws/Beat.lean ====
section
/-! SUPPORT. What the beats up to a tick boundary keep: the queue, the MRAM, the tick they lie in; and where they end. -/

namespace Sys2Proof.Machine

@[simp] theorem closeBeat_pending (s : State) : (closeBeat s).pending = s.pending := by
  unfold closeBeat
  split <;> rfl
@[simp] theorem closeBeat_mram (s : State) : (closeBeat s).mram = s.mram := by
  unfold closeBeat
  split <;> rfl
@[simp] theorem closeBeat_beat (s : State) : (closeBeat s).clock.beat = s.clock.beat := by
  unfold closeBeat
  split <;> rfl
@[simp] theorem closeBeat_lastTick (s : State) : (closeBeat s).clock.lastTick = s.clock.lastTick := by
  unfold closeBeat
  split <;> rfl
@[simp] theorem nextBeat_pending (s : State) : (nextBeat s).pending = s.pending := (rfl)
@[simp] theorem nextBeat_mram (s : State) : (nextBeat s).mram = s.mram := (rfl)
@[simp] theorem nextBeat_beat (s : State) : (nextBeat s).clock.beat = s.clock.beat + 1 := (rfl)
@[simp] theorem nextBeat_lastTick (s : State) : (nextBeat s).clock.lastTick = s.clock.lastTick := (rfl)

@[simp] theorem passMany_pending (n : Nat) (s : State) : (passMany n s).pending = s.pending := by
  induction n generalizing s with
  | zero => rfl
  | succ n ih => rw [passMany, ih, nextBeat_pending, closeBeat_pending]
@[simp] theorem passMany_mram (n : Nat) (s : State) : (passMany n s).mram = s.mram := by
  induction n generalizing s with
  | zero => rfl
  | succ n ih => rw [passMany, ih, nextBeat_mram, closeBeat_mram]
@[simp] theorem passMany_lastTick (n : Nat) (s : State) : (passMany n s).clock.lastTick = s.clock.lastTick := by
  induction n generalizing s with
  | zero => rfl
  | succ n ih => rw [passMany, ih, nextBeat_lastTick, closeBeat_lastTick]
/-- `n` beats later it is `n` beats later. -/
@[simp] theorem passMany_beat (n : Nat) (s : State) : (passMany n s).clock.beat = s.clock.beat + n := by
  induction n generalizing s with
  | zero => rfl
  | succ n ih => rw [passMany, ih, nextBeat_beat, closeBeat_beat]; omega

@[simp] theorem State.setOut_pending (s : State) : s.setOut.pending = s.pending := by
  unfold State.setOut
  split <;> rfl
@[simp] theorem State.setOut_mram (s : State) : s.setOut.mram = s.mram := by
  unfold State.setOut
  split <;> rfl
@[simp] theorem State.setOut_clock (s : State) : s.setOut.clock = s.clock := by
  unfold State.setOut
  split <;> rfl
@[simp] theorem takeLock_pending (s : State) : (takeLock s).pending = s.pending := by
  unfold takeLock
  split <;> rfl
@[simp] theorem takeLock_mram (s : State) : (takeLock s).mram = s.mram := by
  unfold takeLock
  split <;> rfl
@[simp] theorem takeLock_clock (s : State) : (takeLock s).clock = s.clock := by
  unfold takeLock
  split <;> rfl

/-- With the core running the next boundary is reached by the beats up to it, closed, and takes a lock asked for. -/
theorem State.openTick_up (s : State) (h : s.coreUp = true) :
    ∃ t, t = passMany (s.clock.next - s.clock.beat) s.setOut ∧
      s.openTick = takeLock (if t.clock.done = true then t else closeBeat t) := by
  refine ⟨_, rfl, ?_⟩
  unfold State.openTick
  rw [if_pos h]
/-- Without a running core no beat passes. -/
theorem State.openTick_down (s : State) (h : s.coreUp = false) : s.openTick = s := by
  unfold State.openTick
  rw [h]
  rfl

@[simp] theorem State.openTick_pending (s : State) : s.openTick.pending = s.pending := by
  cases h : s.coreUp with
  | false => rw [s.openTick_down h]
  | true => obtain ⟨t, rfl, e⟩ := s.openTick_up h; rw [e]; split <;> simp
@[simp] theorem State.openTick_mram (s : State) : s.openTick.mram = s.mram := by
  cases h : s.coreUp with
  | false => rw [s.openTick_down h]
  | true => obtain ⟨t, rfl, e⟩ := s.openTick_up h; rw [e]; split <;> simp
@[simp] theorem State.openTick_lastTick (s : State) : s.openTick.clock.lastTick = s.clock.lastTick := by
  cases h : s.coreUp with
  | false => rw [s.openTick_down h]
  | true => obtain ⟨t, rfl, e⟩ := s.openTick_up h; rw [e]; split <;> simp
/-- With the core running the boundary lies at the next tick (R31). -/
theorem State.openTick_beat (s : State) (h : s.coreUp = true) : s.openTick.clock.beat = s.clock.beat + (s.clock.next - s.clock.beat) := by
  obtain ⟨t, rfl, e⟩ := s.openTick_up h
  rw [e]
  split <;> simp
/-- A state at its boundary whose beat is done is its own boundary, where no lock waits. -/
theorem State.openTick_here (s : State) (h : s.clock.next ≤ s.clock.beat) (hd : s.clock.done = true) (hl : s.wdg.lockAsked = false) :
    s.openTick = s := by
  cases hc : s.coreUp with
  | false => exact s.openTick_down hc
  | true =>
    obtain ⟨t, rfl, e⟩ := s.openTick_up hc
    have hs : s.setOut = s := by unfold State.setOut; rw [if_neg (by omega)]
    rw [e, Nat.sub_eq_zero_of_le h, hs]
    simp [passMany, hd, takeLock, hl]

/-! ## Beats without the core (R354) -/

@[simp] theorem State.leaveBoundary_pending (s : State) : s.leaveBoundary.pending = s.pending := by
  unfold State.leaveBoundary
  split <;> rfl
@[simp] theorem State.leaveBoundary_mram (s : State) : s.leaveBoundary.mram = s.mram := by
  unfold State.leaveBoundary
  split <;> rfl
@[simp] theorem State.leaveBoundary_beat (s : State) : s.leaveBoundary.clock.beat = s.clock.beat := by
  unfold State.leaveBoundary
  split <;> rfl
@[simp] theorem lapse_pending (n : Nat) (s : State) : (lapse n s).pending = s.pending := by
  induction n generalizing s with
  | zero => rfl
  | succ n ih => rw [lapse, ih, nextBeat_pending, closeBeat_pending, State.leaveBoundary_pending]
@[simp] theorem lapse_mram (n : Nat) (s : State) : (lapse n s).mram = s.mram := by
  induction n generalizing s with
  | zero => rfl
  | succ n ih => rw [lapse, ih, nextBeat_mram, closeBeat_mram, State.leaveBoundary_mram]
/-- `n` beats later it is `n` beats later, with a running core or without. -/
@[simp] theorem lapse_beat (n : Nat) (s : State) : (lapse n s).clock.beat = s.clock.beat + n := by
  induction n generalizing s with
  | zero => rfl
  | succ n ih => rw [lapse, ih, nextBeat_beat, closeBeat_beat, State.leaveBoundary_beat]; omega

end Sys2Proof.Machine
end

