-- ==== Sys2Proof/Laws/Mram.lean ====
section
/-! SUPPORT. The MRAM: a byte read back, every other left, the canonical form kept by every operation that writes it. -/

namespace Sys2Proof.Machine

/-- The canonical form, with every listed address at or above a bound. -/
def Mram.above (b : Nat) (m : List Host.Cell) : Prop := ∀ c ∈ m, b ≤ c.1

theorem Mram.wf_cons {c : Host.Cell} {t : List Host.Cell} :
    Mram.wf (c :: t) = true ↔ c.1 < Mram.size ∧ c.2 ≠ Mram.blank ∧ Mram.above (c.1 + 1) t ∧ Mram.wf t = true := by
  induction t generalizing c with
  | nil => simp [Mram.wf, Mram.above]
  | cons d t ih =>
    rw [Mram.wf.eq_def]
    simp only [Bool.and_eq_true, decide_eq_true_eq, Mram.above, List.mem_cons, forall_eq_or_imp]
    constructor
    · rintro ⟨⟨⟨h1, h2⟩, h3⟩, h4⟩
      have h5 := (ih (c := d)).1 h4
      refine ⟨h1, h2, ⟨h3, fun a ha => ?_⟩, h4⟩
      have := h5.2.2.1 a ha
      omega
    · rintro ⟨h1, h2, ⟨h3, _⟩, h4⟩
      exact ⟨⟨⟨h1, h2⟩, h3⟩, h4⟩

theorem Mram.write_above {m : List Host.Cell} {a b : Nat} {v : Byte} (h : Mram.above b m) (ha : b ≤ a) :
    Mram.above b (Mram.write m a v) := by
  induction m with
  | nil =>
    intro c hc
    by_cases hv : v = Mram.blank <;> simp [Mram.write, hv] at hc
    subst hc; exact ha
  | cons d t ih =>
    have hd : b ≤ d.1 := h d (by simp)
    have ht : Mram.above b t := fun c hc => h c (by simp [hc])
    intro c hc
    simp only [Mram.write] at hc
    split at hc
    · split at hc
      · exact h c hc
      · rcases List.mem_cons.1 hc with rfl | hc
        · exact ha
        · exact h c hc
    · split at hc
      · split at hc
        · exact ht c hc
        · rcases List.mem_cons.1 hc with rfl | hc
          · exact ha
          · exact ht c hc
      · rcases List.mem_cons.1 hc with rfl | hc
        · exact hd
        · exact ih ht c hc

/-- A write keeps the canonical form. -/
theorem Mram.write_wf {m : List Host.Cell} {a : Nat} {v : Byte} (h : Mram.wf m = true) (ha : a < Mram.size) :
    Mram.wf (Mram.write m a v) = true := by
  induction m with
  | nil => by_cases hv : v = Mram.blank <;> simp [Mram.write, hv, Mram.wf, ha]
  | cons d t ih =>
    obtain ⟨h1, h2, h3, h4⟩ := Mram.wf_cons.1 h
    simp only [Mram.write]
    split
    · next hlt =>
      split
      · exact h
      · next hv =>
        refine Mram.wf_cons.2 ⟨ha, hv, fun c hc => ?_, h⟩
        rcases List.mem_cons.1 hc with rfl | hc
        · exact hlt
        · have := h3 c hc
          show a + 1 ≤ c.1
          omega
    · split
      · next _ he =>
        subst he
        split
        · exact h4
        · next hv => exact Mram.wf_cons.2 ⟨ha, hv, h3, h4⟩
      · next hlt hne => exact Mram.wf_cons.2 ⟨h1, h2, Mram.write_above h3 (by omega), ih h4⟩

/-- Bytes written keep the canonical form. -/
theorem Mram.writeBytes_wf {m : List Host.Cell} (a : Nat) (l : List Byte) (h : Mram.wf m = true) :
    Mram.wf (Mram.writeBytes m a l) = true := by
  induction l generalizing m a with
  | nil => exact h
  | cons b t ih =>
    simp only [Mram.writeBytes]
    split
    · next ha => exact ih _ (Mram.write_wf h ha)
    · exact ih _ h

theorem Mram.read_of_above {m : List Host.Cell} {a b : Nat} (h : Mram.above b m) (ha : a < b) : Mram.read m a = Mram.blank := by
  induction m with
  | nil => rfl
  | cons c t ih =>
    have := h c (by simp)
    simp only [Mram.read]
    rw [if_neg (by omega)]
    exact ih (fun d hd => h d (by simp [hd]))

/-- A byte written is read back. -/
theorem Mram.read_write_self {m : List Host.Cell} {a : Nat} {v : Byte} (h : Mram.wf m = true) :
    Mram.read (Mram.write m a v) a = v := by
  induction m with
  | nil => by_cases hv : v = Mram.blank <;> simp [Mram.write, Mram.read, hv]
  | cons d t ih =>
    obtain ⟨_, _, h3, h4⟩ := Mram.wf_cons.1 h
    simp only [Mram.write]
    split
    · next hlt =>
      split
      · next hv =>
        simp only [Mram.read]
        rw [if_neg (by omega), hv]
        exact Mram.read_of_above h3 (by omega)
      · simp [Mram.read]
    · split
      · next _ he =>
        split
        · next hv => rw [hv]; exact Mram.read_of_above h3 (by omega)
        · simp [Mram.read]
      · next _ hne =>
        simp only [Mram.read]
        rw [if_neg (fun h => hne h.symm)]
        exact ih h4

/-- A write leaves every other byte. -/
theorem Mram.read_write_ne {m : List Host.Cell} {a b : Nat} {v : Byte} (hw : Mram.wf m = true) (h : b ≠ a) :
    Mram.read (Mram.write m a v) b = Mram.read m b := by
  induction m with
  | nil => by_cases hv : v = Mram.blank <;> simp [Mram.write, Mram.read, hv, Ne.symm h]
  | cons d t ih =>
    obtain ⟨_, _, h3, h4⟩ := Mram.wf_cons.1 hw
    simp only [Mram.write]
    split
    · split
      · rfl
      · simp [Mram.read, Ne.symm h]
    · split
      · next _ he =>
        have hd : d.1 ≠ b := fun e => h (by omega)
        split <;> simp [Mram.read, Ne.symm h, hd]
      · simp [Mram.read, ih h4]

/-- Bytes outside those written stay (R381). -/
theorem Mram.read_writeBytes_ne {m : List Host.Cell} (a : Nat) (l : List Byte) {b : Nat} (hw : Mram.wf m = true)
    (h : b < a ∨ a + l.length ≤ b) : Mram.read (Mram.writeBytes m a l) b = Mram.read m b := by
  induction l generalizing m a with
  | nil => rfl
  | cons c t ih =>
    simp only [List.length_cons] at h
    simp only [Mram.writeBytes]
    split
    · next ha => rw [ih _ (Mram.write_wf hw ha) (by omega), Mram.read_write_ne hw (by omega)]
    · rw [ih _ hw (by omega)]

/-- Bytes written inside the MRAM are read back in order. -/
theorem Mram.readBytes_writeBytes {m : List Host.Cell} (a : Nat) (l : List Byte) (hw : Mram.wf m = true)
    (h : a + l.length ≤ Mram.size) : Mram.readBytes (Mram.writeBytes m a l) a l.length = l := by
  induction l generalizing m a with
  | nil => rfl
  | cons c t ih =>
    simp only [List.length_cons] at h
    have ha : a < Mram.size := by omega
    have hw' := Mram.write_wf (v := c) hw ha
    simp only [Mram.writeBytes, ha, ↓reduceIte, List.length_cons, Mram.readBytes]
    rw [ih _ hw' (by omega), Mram.read_writeBytes_ne _ _ hw' (by omega), Mram.read_write_self hw]

/-- A write of bytes keeps the canonical form. -/
theorem State.nvWrite_wf {s : State} (a : Nat) (l : List Byte) (h : Mram.wf s.mram = true) : Mram.wf (s.nvWrite a l).mram = true :=
  Mram.writeBytes_wf _ _ h

/-- Committing a record keeps the canonical form (R382). -/
theorem State.nvCommit_mram_wf (s : State) (r : Ring) (p : List Byte) (h : Mram.wf s.mram = true) :
    Mram.wf (s.nvCommit r p).mram = true := State.nvWrite_wf _ _ h

/-- The canonical form at reset. -/
theorem State.reset_mram_wf : Mram.wf State.reset.mram = true := rfl

end Sys2Proof.Machine
end

