-- ==== Sys2Proof/Laws/MramFrame.lean ====
section
/-! SUPPORT. Which operations leave the MRAM alone: every one but those that commit records, each in one lemma. The proofs
drop what does not reach the MRAM unread, so they stay short and check fast. -/

set_option linter.all false

namespace Sys2Proof.Machine

theorem each_mram {α : Type} (l : List α) (f : α → State → State) (s : State) (h : ∀ a t, (f a t).mram = t.mram) :
    (each l f s).mram = s.mram := by
  unfold each
  induction l generalizing s with
  | nil => rfl
  | cons a l ih => rw [List.foldl_cons, ih, h]
theorem when_mram (c : Bool) (f : State → State) (s : State) (h : ∀ t, (f t).mram = t.mram) :
    (when c f s).mram = s.mram := by
  cases c
  · rfl
  · exact h s
theorem onWaiting_mram (f : SeqInstr → State → State) (s : State) (h : ∀ i t, (f i t).mram = t.mram) :
    (onWaiting f s).mram = s.mram := by
  unfold onWaiting
  repeat' split
  · exact h _ _
  all_goals rfl
theorem jobAllot_mram (s : State) (p k i) : (s.jobAllot p k i).mram = s.mram := by
  simp [State.jobAllot, State.mk_mram]
theorem startJob_mram (p : Port) (k : Nat) (f : Nat → State → State) (s : State) (h : ∀ i t, (f i t).mram = t.mram) :
    (startJob p k f s).2.mram = s.mram := by
  unfold startJob
  repeat' split
  · rfl
  · exact State.flag_mram _ _ _
  · simp only [accept]
    rw [h, jobAllot_mram]
theorem recount_mram (m : Nat) (f : State → State) (s : State) (h : ∀ t, (f t).mram = t.mram) : (recount m f s).mram = s.mram := by
  unfold recount
  dsimp only
  split
  · exact h s
  · exact h s
theorem checked_mram (k : Nat) (wr : State → Written) (s : State) (h : ∀ t, (wr t).2.mram = t.mram) :
    (checked k wr s).2.mram = s.mram := by
  unfold checked
  split
  · rfl
  · exact h s
theorem hostDo_mram (p : Port) (k : Nat) (wr : State → Written) (s : State) (h : ∀ t, (wr t).2.mram = t.mram) :
    (hostDo p k wr s).mram = s.mram := by
  unfold hostDo
  split
  · exact checked_mram k wr s h
  · rfl
theorem unpackFields_mram (l : List (Nat × Nat)) (s : State) (b : List Byte) : (unpackFields s l b).mram = s.mram := by
  induction l generalizing s b with
  | nil => rfl
  | cons e t ih => rw [unpackFields, ih, State.put_mram]
theorem State.bumpBy_mram (s : State) (k n : Nat) : (s.bumpBy k n).mram = s.mram := by
  induction n generalizing s with
  | zero => rfl
  | succ n ih => rw [State.bumpBy, ih, State.bump, State.put_mram]
theorem State.putI_mram (x0 : State) (x1 : Nat) (x2 : Int) : (State.putI x0 x1 x2).mram = x0.mram := by
  rw [State.putI]
  simp only [↓apply_ite State.mram, ↓State.mk_mram, ite_self, ↓State.put_mram, implies_true]
theorem State.putFit_mram (x0 : State) (x1 : Nat) (x2 : Int) : (State.putFit x0 x1 x2).mram = x0.mram := by
  rw [State.putFit]
  simp only [↓apply_ite State.mram, ↓State.mk_mram, ite_self, ↓State.put_mram, implies_true]
theorem State.putBit_mram (x0 : State) (x1 : Nat) (x2 : Nat) (x3 : Bool) : (State.putBit x0 x1 x2 x3).mram = x0.mram := by
  rw [State.putBit]
  simp only [↓apply_ite State.mram, ↓State.mk_mram, ite_self, ↓State.put_mram, implies_true]
theorem State.setMask_mram (x0 : State) (x1 : Nat) (x2 : Nat) : (State.setMask x0 x1 x2).mram = x0.mram := by
  rw [State.setMask]
  simp only [↓apply_ite State.mram, ↓State.mk_mram, ite_self, ↓State.put_mram, implies_true]
theorem State.bump_mram (x0 : State) (x1 : Nat) : (State.bump x0 x1).mram = x0.mram := by
  rw [State.bump]
  simp only [↓apply_ite State.mram, ↓State.mk_mram, ite_self, ↓State.put_mram, implies_true]
theorem State.bumpSat_mram (x0 : State) (x1 : Nat) : (State.bumpSat x0 x1).mram = x0.mram := by
  rw [State.bumpSat]
  simp only [↓apply_ite State.mram, ↓State.mk_mram, ite_self, ↓State.put_mram, implies_true]
theorem State.putRail_mram (x0 : State) (x1 : Nat) (x2 : RailState) : (State.putRail x0 x1 x2).mram = x0.mram := by
  rw [State.putRail]
  simp only [↓apply_ite State.mram, ↓State.mk_mram, ite_self, ↓State.put_mram, implies_true]
theorem State.putPhase_mram (x0 : State) (x1 : Nat) (x2 : PhaseState) : (State.putPhase x0 x1 x2).mram = x0.mram := by
  rw [State.putPhase]
  simp only [↓apply_ite State.mram, ↓State.mk_mram, ite_self, ↓State.put_mram, implies_true]
theorem State.putFd_mram (x0 : State) (x1 : FdState) : (State.putFd x0 x1).mram = x0.mram := by
  rw [State.putFd]
  simp only [↓apply_ite State.mram, ↓State.mk_mram, ite_self, ↓State.put_mram, implies_true]
theorem State.unitTaken_mram (x0 : State) (x1 : Nat) (x2 : Nat) : (State.unitTaken x0 x1 x2).mram = x0.mram := by
  rw [State.unitTaken]
  repeat' split
  all_goals simp only [↓apply_ite State.mram, ↓State.mk_mram, ite_self, implies_true]
theorem jobEnd_mram (x0 : Nat) (x1 : JobStatus) (x2 : Nat) (x3 : State) : (jobEnd x0 x1 x2 x3).mram = x3.mram := by
  rw [jobEnd]
  simp only [↓apply_ite State.mram, ↓State.mk_mram, ite_self, ↓State.flag_mram, ↓State.put_mram, implies_true]
theorem jobEnd?_mram (x0 : Option Nat) (x1 : JobStatus) (x2 : Nat) (x3 : State) : (jobEnd? x0 x1 x2 x3).mram = x3.mram := by
  unfold jobEnd?
  repeat' split
  all_goals simp only [↓apply_ite State.mram, ↓State.mk_mram, ite_self, ↓jobEnd_mram, implies_true]
theorem noteSlot_mram (x0 : Nat) (x1 : Nat) (x2 : State) : (noteSlot x0 x1 x2).mram = x2.mram := by
  rw [noteSlot]
  repeat' split
  all_goals simp only [↓apply_ite State.mram, ↓State.mk_mram, ite_self, ↓State.bump_mram, ↓State.flag_mram, implies_true]
theorem fireTrigger_mram (x0 : Trigger) (x1 : State) : (fireTrigger x0 x1).mram = x1.mram := by
  rw [fireTrigger]
  simp only [↓apply_ite State.mram, ↓State.mk_mram, ite_self, ↓each_mram, ↓noteSlot_mram, implies_true]
theorem enterDev_mram (x0 : DevState) (x1 : Nat) (x2 : State) : (enterDev x0 x1 x2).mram = x2.mram := by
  rw [enterDev]
  simp only [↓apply_ite State.mram, ↓State.mk_mram, ite_self, ↓State.flag_mram, ↓State.put_mram, ↓fireTrigger_mram, implies_true]
theorem fillFfr_mram (x0 : Nat) (x1 : Nat) (x2 : Nat) (x3 : Nat) (x4 : Nat) (x5 : Nat) (x6 : State) : (fillFfr x0 x1 x2 x3 x4 x5 x6).mram = x6.mram := by
  rw [fillFfr]
  simp only [↓apply_ite State.mram, ↓State.mk_mram, ite_self, ↓State.put_mram, implies_true]
theorem dropTaken_mram (x0 : State) : (dropTaken x0).mram = x0.mram := by
  rw [dropTaken]
  simp only [↓apply_ite State.mram, ↓State.mk_mram, ite_self, ↓State.put_mram, implies_true]
theorem ecatTakes_mram (x0 : State) : (ecatTakes x0).mram = x0.mram := by
  rw [ecatTakes]
  simp only [↓apply_ite State.mram, ↓State.mk_mram, ite_self, ↓dropTaken_mram, implies_true]
theorem pushHistory_mram (x0 : Nat) (x1 : Nat) (x2 : State) : (pushHistory x0 x1 x2).mram = x2.mram := by
  rw [pushHistory]
  simp only [↓apply_ite State.mram, ↓State.mk_mram, ite_self, ↓State.put_mram, ↓each_mram, implies_true]
theorem queueEmcy_mram (x0 : Emcy) (x1 : State) : (queueEmcy x0 x1).mram = x1.mram := by
  rw [queueEmcy]
  simp only [↓apply_ite State.mram, ↓State.mk_mram, ite_self, ↓State.bump_mram, ↓State.flag_mram, ↓State.put_mram, ↓ecatTakes_mram, ↓pushHistory_mram, implies_true]
theorem offerToggle_mram (x0 : Nat) (x1 : SeqInstr → Bool) (x2 : State) : (offerToggle x0 x1 x2).mram = x2.mram := by
  rw [offerToggle]
  repeat' split
  all_goals simp only [↓apply_ite State.mram, ↓State.mk_mram, ite_self, ↓State.bump_mram, implies_true]
theorem setIbusGood_mram (x0 : Bool) (x1 : State) : (setIbusGood x0 x1).mram = x1.mram := by
  rw [setIbusGood]
  simp only [↓apply_ite State.mram, ↓State.mk_mram, ite_self, ↓State.put_mram, ↓offerToggle_mram, implies_true]
theorem reinterleave_mram (x0 : Nat) (x1 : State) : (reinterleave x0 x1).mram = x1.mram := by
  rw [reinterleave]
  simp only [↓apply_ite State.mram, ↓State.mk_mram, ite_self, ↓State.put_mram, ↓each_mram, implies_true]
theorem startRemount_mram (x0 : Nat) (x1 : State) : (startRemount x0 x1).mram = x1.mram := by
  rw [startRemount]
  simp only [↓apply_ite State.mram, ↓State.mk_mram, ite_self, ↓State.putPhase_mram, ↓State.setPhaseE_mram, implies_true]
theorem burstStops_mram (x0 : Nat) (x1 : State) : (burstStops x0 x1).mram = x1.mram := by
  rw [burstStops]
  simp only [↓apply_ite State.mram, ↓State.mk_mram, ite_self, ↓State.flag_mram, ↓State.put_mram, ↓State.setRailE_mram, ↓when_mram, implies_true]
theorem idleReleased_mram (x0 : Nat) (x1 : State) : (idleReleased x0 x1).mram = x1.mram := by
  rw [idleReleased]
  simp only [↓apply_ite State.mram, ↓State.mk_mram, ite_self, ↓State.putPhase_mram, ↓State.setPhaseE_mram, ↓each_mram, implies_true]
theorem idlePhases_mram (x0 : Nat) (x1 : State) : (idlePhases x0 x1).mram = x1.mram := by
  rw [idlePhases]
  simp only [↓apply_ite State.mram, ↓State.mk_mram, ite_self, ↓State.putPhase_mram, ↓burstStops_mram, ↓each_mram, ↓idleReleased_mram, ↓reinterleave_mram, implies_true]
theorem burstLeave_mram (x0 : Nat) (x1 : State) : (burstLeave x0 x1).mram = x1.mram := by
  rw [burstLeave]
  simp only [↓apply_ite State.mram, ↓State.mk_mram, ite_self, ↓burstStops_mram, ↓each_mram, ↓reinterleave_mram, ↓startRemount_mram, implies_true]
theorem addShed_mram (x0 : Nat) (x1 : State) : (addShed x0 x1).mram = x1.mram := by
  rw [addShed]
  repeat' split
  all_goals simp only [↓apply_ite State.mram, ↓State.mk_mram, ite_self, ↓startRemount_mram, implies_true]
theorem shedPhase_mram (x0 : Nat) (x1 : State) : (shedPhase x0 x1).mram = x1.mram := by
  rw [shedPhase]
  simp only [↓apply_ite State.mram, ↓State.mk_mram, ite_self, ↓State.flag_mram, ↓State.putPhase_mram, implies_true]
theorem phaseBreach_mram (x0 : Nat) (x1 : Nat) (x2 : State) : (phaseBreach x0 x1 x2).mram = x2.mram := by
  rw [phaseBreach]
  repeat' split
  all_goals simp only [↓apply_ite State.mram, ↓State.mk_mram, ite_self, ↓State.bumpBy_mram, ↓State.flag_mram, implies_true]
theorem xbBreach_mram (x0 : Nat) (x1 : Nat) (x2 : State) : (xbBreach x0 x1 x2).mram = x2.mram := by
  rw [xbBreach]
  repeat' split
  all_goals simp only [↓apply_ite State.mram, ↓State.mk_mram, ite_self, ↓State.bumpBy_mram, ↓State.flag_mram, implies_true]
theorem railBreach_mram (x0 : Nat) (x1 : State) : (railBreach x0 x1).mram = x1.mram := by
  rw [railBreach]
  simp only [↓apply_ite State.mram, ↓State.mk_mram, ite_self, ↓each_mram, ↓phaseBreach_mram, ↓xbBreach_mram, implies_true]
theorem phaseFault_mram (x0 : Nat) (x1 : Nat) (x2 : State) : (phaseFault x0 x1 x2).mram = x2.mram := by
  rw [phaseFault]
  simp only [↓apply_ite State.mram, ↓State.mk_mram, ite_self, ↓State.bump_mram, ↓State.flag_mram, ↓State.put_mram, ↓State.putPhase_mram, ↓State.setPhaseE_mram, ↓phaseBreach_mram, ↓reinterleave_mram, implies_true]
theorem aimRail_mram (x0 : Nat) (x1 : Nat) (x2 : Nat) (x3 : Nat) (x4 : Nat) (x5 : State) : (aimRail x0 x1 x2 x3 x4 x5).mram = x5.mram := by
  rw [aimRail]
  simp only [↓apply_ite State.mram, ↓State.mk_mram, ite_self, ↓State.setRailE_mram, implies_true]
theorem orgate_mram (x0 : Nat) (x1 : State) : (orgate x0 x1).mram = x1.mram := by
  rw [orgate]
  simp only [↓apply_ite State.mram, ↓State.mk_mram, ite_self, ↓State.put_mram, implies_true]
theorem blankUv_mram (x0 : Nat) (x1 : State) : (blankUv x0 x1).mram = x1.mram := by
  rw [blankUv]
  simp only [↓apply_ite State.mram, ↓State.mk_mram, ite_self, ↓State.setSupE_mram, implies_true]
theorem pgood_mram (x0 : State) : (pgood x0).mram = x0.mram := by
  rw [pgood]
  simp only [↓apply_ite State.mram, ↓State.mk_mram, ite_self, ↓State.put_mram, implies_true]
theorem setGood_mram (x0 : Nat) (x1 : Bool) (x2 : State) : (setGood x0 x1 x2).mram = x2.mram := by
  rw [setGood]
  simp only [↓apply_ite State.mram, ↓State.mk_mram, ite_self, ↓State.bump_mram, ↓State.flag_mram, ↓State.put_mram, ↓State.putBit_mram, ↓State.setSupE_mram, ↓offerToggle_mram, ↓pgood_mram, implies_true]
theorem endCondition_mram (x0 : Nat) (x1 : State) : (endCondition x0 x1).mram = x1.mram := by
  rw [endCondition]
  repeat' split
  all_goals simp only [↓apply_ite State.mram, ↓State.mk_mram, ite_self, implies_true]
theorem keepLevels_mram (x0 : Nat) (x1 : Nat) (x2 : State) : (keepLevels x0 x1 x2).mram = x2.mram := by
  rw [keepLevels]
  simp only [↓apply_ite State.mram, ↓State.mk_mram, ite_self, ↓State.setSupE_mram, ↓each_mram, ↓endCondition_mram, implies_true]
theorem superviseState_mram (x0 : Nat) (x1 : RailState) (x2 : State) : (superviseState x0 x1 x2).mram = x2.mram := by
  rw [superviseState]
  simp only [↓apply_ite State.mram, ↓State.mk_mram, ite_self, ↓keepLevels_mram, ↓setGood_mram, implies_true]
theorem arbRelease_mram (x0 : Nat) (x1 : State) : (arbRelease x0 x1).mram = x1.mram := by
  rw [arbRelease]
  simp only [↓apply_ite State.mram, ↓State.mk_mram, ite_self, ↓State.put_mram, implies_true]
theorem commissionNext_mram (x0 : RhCommission) (x1 : Nat) (x2 : Bool) (x3 : State) : (commissionNext x0 x1 x2 x3).mram = x3.mram := by
  rw [commissionNext]
  simp only [↓apply_ite State.mram, ↓State.mk_mram, ite_self, ↓jobEnd_mram, implies_true]
theorem leaveRun_mram (x0 : RhRun) (x1 : Nat) (x2 : State) : (leaveRun x0 x1 x2).mram = x2.mram := by
  rw [leaveRun]
  simp only [↓apply_ite State.mram, ↓State.mk_mram, ite_self, ↓State.bump_mram, ↓State.flag_mram, ↓State.put_mram, ↓arbRelease_mram, ↓jobEnd?_mram, implies_true]
theorem failRun_mram (x0 : RhRun) (x1 : Nat) (x2 : State) : (failRun x0 x1 x2).mram = x2.mram := by
  rw [failRun]
  repeat' split
  all_goals simp only [↓apply_ite State.mram, ↓State.mk_mram, ite_self, ↓commissionNext_mram, ↓leaveRun_mram, implies_true]
theorem rhStops_mram (x0 : Nat) (x1 : State) : (rhStops x0 x1).mram = x1.mram := by
  rw [rhStops]
  repeat' split
  all_goals simp only [↓apply_ite State.mram, ↓State.mk_mram, ite_self, ↓failRun_mram, implies_true]
theorem rhLeaves_mram (x0 : State) : (rhLeaves x0).mram = x0.mram := by
  rw [rhLeaves]
  repeat' split
  all_goals simp only [↓apply_ite State.mram, ↓State.mk_mram, ite_self, ↓failRun_mram, implies_true]
theorem setRail_mram (x0 : Nat) (x1 : RailState) (x2 : State) : (setRail x0 x1 x2).mram = x2.mram := by
  rw [setRail]
  simp only [↓apply_ite State.mram, ↓State.mk_mram, ite_self, ↓State.putRail_mram, ↓State.setRailE_mram, ↓orgate_mram, ↓recount_mram, ↓rhStops_mram, ↓superviseState_mram, ↓when_mram, implies_true]
theorem noteRelease_mram (x0 : Nat) (x1 : Nat) (x2 : State) : (noteRelease x0 x1 x2).mram = x2.mram := by
  rw [noteRelease]
  simp only [↓apply_ite State.mram, ↓State.mk_mram, ite_self, implies_true]
theorem railToOff_mram (x0 : Nat) (x1 : State) : (railToOff x0 x1).mram = x1.mram := by
  rw [railToOff]
  simp only [↓apply_ite State.mram, ↓State.mk_mram, ite_self, ↓idlePhases_mram, ↓setRail_mram, implies_true]
theorem railToDischarge_mram (x0 : Nat) (x1 : State) : (railToDischarge x0 x1).mram = x1.mram := by
  rw [railToDischarge]
  simp only [↓apply_ite State.mram, ↓State.mk_mram, ite_self, ↓idlePhases_mram, ↓setRail_mram, implies_true]
theorem railToRampdown_mram (x0 : Nat) (x1 : State) : (railToRampdown x0 x1).mram = x1.mram := by
  rw [railToRampdown]
  simp only [↓apply_ite State.mram, ↓State.mk_mram, ite_self, ↓State.putPhase_mram, ↓aimRail_mram, ↓burstStops_mram, ↓each_mram, ↓idleReleased_mram, ↓recount_mram, ↓reinterleave_mram, ↓setRail_mram, implies_true]
theorem railStop_mram (x0 : Nat) (x1 : State) : (railStop x0 x1).mram = x1.mram := by
  rw [railStop]
  repeat' split
  all_goals simp only [↓apply_ite State.mram, ↓State.mk_mram, ite_self, ↓railToDischarge_mram, ↓railToOff_mram, ↓railToRampdown_mram, implies_true]
theorem railShed_mram (x0 : Nat) (x1 : Nat) (x2 : Bool) (x3 : State) : (railShed x0 x1 x2 x3).mram = x3.mram := by
  rw [railShed]
  repeat' split
  all_goals simp only [↓apply_ite State.mram, ↓State.mk_mram, ite_self, ↓State.put_mram, ↓noteRelease_mram, ↓railToDischarge_mram, ↓railToOff_mram, ↓railToRampdown_mram, implies_true]
theorem railFault_mram (x0 : Nat) (x1 : Nat) (x2 : Nat) (x3 : State) : (railFault x0 x1 x2 x3).mram = x3.mram := by
  rw [railFault]
  simp only [↓apply_ite State.mram, ↓State.mk_mram, ite_self, ↓State.flag_mram, ↓State.put_mram, ↓fillFfr_mram, ↓idlePhases_mram, ↓noteRelease_mram, ↓railBreach_mram, ↓setRail_mram, implies_true]
theorem railsFault_mram (x0 : List Nat) (x1 : Nat) (x2 : Nat) (x3 : State) : (railsFault x0 x1 x2 x3).mram = x3.mram := by
  rw [railsFault]
  simp only [↓apply_ite State.mram, ↓State.mk_mram, ite_self, ↓each_mram, ↓railFault_mram, implies_true]
theorem railsLost_mram (x0 : State) : (railsLost x0).mram = x0.mram := by
  rw [railsLost]
  simp only [↓apply_ite State.mram, ↓State.mk_mram, ite_self, ↓State.put_mram, ↓each_mram, ↓noteRelease_mram, ↓railToOff_mram, implies_true]
theorem railToOn_mram (x0 : Nat) (x1 : State) : (railToOn x0 x1).mram = x1.mram := by
  rw [railToOn]
  simp only [↓apply_ite State.mram, ↓State.mk_mram, ite_self, ↓State.flag_mram, ↓blankUv_mram, ↓setRail_mram, implies_true]
theorem takeLoop_mram (x0 : Nat) (x1 : State) : (takeLoop x0 x1).mram = x1.mram := by
  rw [takeLoop]
  simp only [↓apply_ite State.mram, ↓State.mk_mram, ite_self, ↓State.setRailE_mram, implies_true]
theorem takeTarget_mram (x0 : Nat) (x1 : State) : (takeTarget x0 x1).mram = x1.mram := by
  rw [takeTarget]
  simp only [↓apply_ite State.mram, ↓State.mk_mram, ite_self, ↓State.setRailE_mram, implies_true]
theorem railToSoftstart_mram (x0 : Nat) (x1 : State) : (railToSoftstart x0 x1).mram = x1.mram := by
  rw [railToSoftstart]
  simp only [↓apply_ite State.mram, ↓State.mk_mram, ite_self, ↓State.put_mram, ↓State.putPhase_mram, ↓State.setRailE_mram, ↓aimRail_mram, ↓each_mram, ↓railToOn_mram, ↓reinterleave_mram, ↓setRail_mram, ↓takeLoop_mram, ↓when_mram, implies_true]
theorem railToReady_mram (x0 : Nat) (x1 : State) : (railToReady x0 x1).mram = x1.mram := by
  rw [railToReady]
  simp only [↓apply_ite State.mram, ↓State.mk_mram, ite_self, ↓State.putPhase_mram, ↓State.setRailE_mram, ↓aimRail_mram, ↓each_mram, ↓recount_mram, ↓reinterleave_mram, ↓setRail_mram, ↓takeLoop_mram, implies_true]
theorem showTrim_mram (x0 : State) : (showTrim x0).mram = x0.mram := by
  rw [showTrim]
  simp only [↓apply_ite State.mram, ↓State.mk_mram, ite_self, ↓State.flag_mram, ↓State.put_mram, ↓when_mram, implies_true]
theorem setFd_mram (x0 : FdState) (x1 : State) : (setFd x0 x1).mram = x1.mram := by
  rw [setFd]
  simp only [↓apply_ite State.mram, ↓State.mk_mram, ite_self, ↓State.putFd_mram, ↓showTrim_mram, implies_true]
theorem fdBegin_mram (x0 : State) : (fdBegin x0).mram = x0.mram := by
  rw [fdBegin]
  simp only [↓apply_ite State.mram, ↓State.mk_mram, ite_self, ↓State.put_mram, ↓setFd_mram, implies_true]
theorem fdStop_mram (x0 : Nat) (x1 : State) : (fdStop x0 x1).mram = x1.mram := by
  rw [fdStop]
  simp only [↓apply_ite State.mram, ↓State.mk_mram, ite_self, ↓State.flag_mram, ↓railsFault_mram, ↓setFd_mram, ↓setIbusGood_mram, implies_true]
theorem fdToOff_mram (x0 : State) : (fdToOff x0).mram = x0.mram := by
  rw [fdToOff]
  simp only [↓apply_ite State.mram, ↓State.mk_mram, ite_self, ↓State.put_mram, ↓setFd_mram, ↓setIbusGood_mram, implies_true]
theorem refuseEnable_mram (x0 : Nat) (x1 : Nat) (x2 : State) : (refuseEnable x0 x1 x2).mram = x2.mram := by
  rw [refuseEnable]
  simp only [↓apply_ite State.mram, ↓State.mk_mram, ite_self, ↓State.flag_mram, ↓State.put_mram, implies_true]
theorem railEnable_mram (x0 : Nat) (x1 : State) : (railEnable x0 x1).mram = x1.mram := by
  rw [railEnable]
  repeat' split
  all_goals simp only [↓apply_ite State.mram, ↓State.mk_mram, ite_self, ↓State.putBit_mram, ↓railToReady_mram, ↓railToSoftstart_mram, ↓refuseEnable_mram, ↓setRail_mram, ↓takeTarget_mram, implies_true]
theorem railDisable_mram (x0 : Nat) (x1 : Nat) (x2 : State) : (railDisable x0 x1 x2).mram = x2.mram := by
  rw [railDisable]
  simp only [↓apply_ite State.mram, ↓State.mk_mram, ite_self, ↓State.put_mram, ↓railStop_mram, implies_true]
theorem railStopAnnounced_mram (x0 : Nat) (x1 : Nat) (x2 : State) : (railStopAnnounced x0 x1 x2).mram = x2.mram := by
  rw [railStopAnnounced]
  simp only [↓apply_ite State.mram, ↓State.mk_mram, ite_self, ↓State.put_mram, ↓railStop_mram, implies_true]
theorem newTarget_mram (x0 x1 : Nat) (x2 : State) : (newTarget x0 x1 x2).mram = x2.mram := by
  unfold newTarget
  split
  · rfl
  · refine recount_mram _ _ _ (fun t => ?_)
    repeat' split
    all_goals simp only [↓apply_ite State.mram, ↓State.mk_mram, ite_self, ↓aimRail_mram, ↓setRail_mram, ↓burstLeave_mram, ↓when_mram, ↓State.setRailE_mram, ↓State.setXbE_mram, implies_true]
theorem offRequest_mram (x0 : Nat) (x1 : State) : (offRequest x0 x1).mram = x1.mram := by
  unfold offRequest
  dsimp only
  repeat' (first | split | dsimp only)
  all_goals first | rfl | simp only [↓apply_ite State.mram, ↓State.mk_mram, ite_self, implies_true] | (dsimp only; simp only [↓apply_ite State.mram, ↓State.mk_mram, ite_self, implies_true])
theorem raiseAlarm_mram (x0 : State) : (raiseAlarm x0).mram = x0.mram := by
  rw [raiseAlarm]
  simp only [↓apply_ite State.mram, ↓State.mk_mram, ite_self, ↓State.flag_mram, implies_true]
theorem assertAlarm_mram (x0 : State) : (assertAlarm x0).mram = x0.mram := by
  rw [assertAlarm]
  simp only [↓apply_ite State.mram, ↓State.mk_mram, ite_self, ↓raiseAlarm_mram, implies_true]
theorem openBeat_mram (x0 : State) : (openBeat x0).mram = x0.mram := by
  rw [openBeat]
  simp only [↓apply_ite State.mram, ↓State.mk_mram, ite_self, implies_true]
theorem showHeld_mram (x0 : State) : (showHeld x0).mram = x0.mram := by
  rw [showHeld]
  simp only [↓apply_ite State.mram, ↓State.mk_mram, ite_self, ↓State.put_mram, ↓each_mram, implies_true]
theorem reactF2_mram (x0 : SrcKind) (x1 : Nat) (x2 : State) : (reactF2 x0 x1 x2).mram = x2.mram := by
  rw [reactF2]
  simp only [↓apply_ite State.mram, ↓State.mk_mram, ite_self, ↓railsFault_mram, implies_true]
theorem reactF3_mram (x0 : SrcKind) (x1 : Nat) (x2 : State) : (reactF3 x0 x1 x2).mram = x2.mram := by
  rw [reactF3]
  simp only [↓apply_ite State.mram, ↓State.mk_mram, ite_self, ↓railsFault_mram, ↓reactF2_mram, implies_true]
theorem reactF4_mram (x0 : SrcKind) (x1 : Nat) (x2 : State) : (reactF4 x0 x1 x2).mram = x2.mram := by
  rw [reactF4]
  simp only [↓apply_ite State.mram, ↓State.mk_mram, ite_self, ↓assertAlarm_mram, ↓offRequest_mram, ↓railsFault_mram, ↓reactF3_mram, implies_true]
theorem reactF5_mram (x0 : SrcKind) (x1 : Nat) (x2 : State) : (reactF5 x0 x1 x2).mram = x2.mram := by
  rw [reactF5]
  simp only [↓apply_ite State.mram, ↓State.mk_mram, ite_self, ↓State.flag_mram, ↓State.put_mram, ↓reactF4_mram, implies_true]
theorem react_mram (x0 : Nat) (x1 : SrcKind) (x2 : Nat) (x3 : State) : (react x0 x1 x2 x3).mram = x3.mram := by
  unfold react
  repeat' split
  all_goals simp only [↓apply_ite State.mram, ↓State.mk_mram, ite_self, ↓reactF2_mram, ↓reactF3_mram, ↓reactF4_mram, ↓reactF5_mram, implies_true]
theorem latchSource_mram (x0 : Nat) (x1 : Nat) (x2 : Nat) (x3 : State) : (latchSource x0 x1 x2 x3).mram = x3.mram := by
  rw [latchSource]
  simp only [↓apply_ite State.mram, ↓State.mk_mram, ite_self, ↓State.bump_mram, ↓State.put_mram, implies_true]
theorem takeSource_mram (x0 : SrcKind) (x1 : Nat) (x2 : State) : (takeSource x0 x1 x2).mram = x2.mram := by
  rw [takeSource]
  simp only [↓apply_ite State.mram, ↓State.mk_mram, ite_self, ↓State.bump_mram, ↓State.flag_mram, ↓State.setMask_mram, ↓endCondition_mram, ↓fireTrigger_mram, ↓latchSource_mram, ↓openBeat_mram, ↓queueEmcy_mram, ↓react_mram, ↓showHeld_mram, implies_true]
theorem releasePhase_mram (x0 : Nat) (x1 : State) : (releasePhase x0 x1).mram = x1.mram := by
  unfold releasePhase
  dsimp only
  repeat' (first | split | dsimp only)
  all_goals first | rfl | simp only [↓apply_ite State.mram, ↓State.mk_mram, ite_self, ↓State.putPhase_mram, ↓State.setPhaseE_mram, ↓startRemount_mram, implies_true] | (dsimp only; simp only [↓apply_ite State.mram, ↓State.mk_mram, ite_self, ↓State.putPhase_mram, ↓State.setPhaseE_mram, ↓startRemount_mram, implies_true])
theorem releaseAll_mram (x0 : State) : (releaseAll x0).mram = x0.mram := by
  rw [releaseAll]
  simp only [↓apply_ite State.mram, ↓State.mk_mram, ite_self, ↓State.flag_mram, ↓State.put_mram, ↓State.setRailE_mram, ↓each_mram, ↓fdToOff_mram, ↓orgate_mram, ↓railToDischarge_mram, ↓releasePhase_mram, ↓showHeld_mram, implies_true]
theorem emcyClear_mram (x0 : State) : (emcyClear x0).mram = x0.mram := by
  rw [emcyClear]
  simp only [↓apply_ite State.mram, ↓State.mk_mram, ite_self, ↓queueEmcy_mram, implies_true]
theorem raiseLater_mram (x0 : SrcKind) (x1 : Nat) (x2 : State) : (raiseLater x0 x1 x2).mram = x2.mram := by
  rw [raiseLater]
  repeat' split
  all_goals simp only [↓apply_ite State.mram, ↓State.mk_mram, ite_self, implies_true]
theorem collectDue_mram (x0 : State) : (collectDue x0).mram = x0.mram := by
  rw [collectDue]
  simp only [↓apply_ite State.mram, ↓State.mk_mram, ite_self, ↓each_mram, ↓takeSource_mram, implies_true]
theorem newRatioMode_mram (x0 : Nat) (x1 : State) : (newRatioMode x0 x1).mram = x1.mram := by
  rw [newRatioMode]
  repeat' split
  all_goals simp only [↓apply_ite State.mram, ↓State.mk_mram, ite_self, implies_true]
theorem setPeriod_mram (x0 : Nat) (x1 : Int) (x2 : State) : (setPeriod x0 x1 x2).mram = x2.mram := by
  rw [setPeriod]
  simp only [↓apply_ite State.mram, ↓State.mk_mram, ite_self, ↓State.put_mram, implies_true]
theorem calEnd_mram (x0 : Nat) (x1 : State) : (calEnd x0 x1).mram = x1.mram := by
  rw [calEnd]
  repeat' split
  all_goals simp only [↓apply_ite State.mram, ↓State.mk_mram, ite_self, ↓State.put_mram, ↓jobEnd_mram, implies_true]
theorem cameIntoUse_mram (x0 : Nat) (x1 : Nat) (x2 : State) : (cameIntoUse x0 x1 x2).mram = x2.mram := by
  unfold cameIntoUse
  dsimp only
  repeat' split
  all_goals simp only [↓apply_ite State.mram, ↓State.mk_mram, ite_self, ↓State.put_mram, ↓burstLeave_mram, ↓calEnd_mram, ↓dropTaken_mram, ↓keepLevels_mram, ↓newRatioMode_mram, ↓newTarget_mram, ↓pgood_mram, ↓setGood_mram, ↓setPeriod_mram, implies_true]
theorem wakeEst_mram (x0 : Nat) (x1 : State) : (wakeEst x0 x1).mram = x1.mram := by
  rw [wakeEst]
  simp only [↓apply_ite State.mram, ↓State.mk_mram, ite_self, implies_true]
theorem applyValue_mram (x0 : Nat) (x1 : Nat) (x2 : State) : (applyValue x0 x1 x2).mram = x2.mram := by
  rw [applyValue]
  repeat' split
  all_goals simp only [↓apply_ite State.mram, ↓State.mk_mram, ite_self, ↓State.put_mram, ↓cameIntoUse_mram, ↓recount_mram, ↓wakeEst_mram, implies_true]
theorem showStaging_mram (x0 : State) : (showStaging x0).mram = x0.mram := by
  rw [showStaging]
  simp only [↓apply_ite State.mram, ↓State.mk_mram, ite_self, ↓State.put_mram, implies_true]
theorem applyStaging_mram (x0 : State) : (applyStaging x0).mram = x0.mram := by
  rw [applyStaging]
  simp only [↓apply_ite State.mram, ↓State.mk_mram, ite_self, ↓applyValue_mram, ↓each_mram, ↓showStaging_mram, implies_true]
theorem setImage_mram (x0 : List Byte) (x1 : State) : (setImage x0 x1).mram = x1.mram := by
  rw [setImage]
  simp only [↓apply_ite State.mram, ↓State.mk_mram, ite_self, ↓State.put_mram, ↓each_mram, implies_true]
theorem useImage_mram (x0 : List Byte) (x1 : State) : (useImage x0 x1).mram = x1.mram := by
  rw [useImage]
  simp only [↓apply_ite State.mram, ↓State.mk_mram, ite_self, ↓State.flag_mram, ↓setImage_mram, implies_true]
theorem pullGait_mram (x0 : State) : (pullGait x0).mram = x0.mram := by
  rw [pullGait]
  repeat' split
  all_goals simp only [↓apply_ite State.mram, ↓State.mk_mram, ite_self, implies_true]
theorem settleGait_mram (x0 : State) : (settleGait x0).mram = x0.mram := by
  rw [settleGait]
  simp only [↓apply_ite State.mram, ↓State.mk_mram, ite_self, ↓pullGait_mram, implies_true]
theorem startProgram_mram (x0 : SeqState) (x1 : Nat) (x2 : Nat) (x3 : State) : (startProgram x0 x1 x2 x3).mram = x3.mram := by
  rw [startProgram]
  simp only [↓apply_ite State.mram, ↓State.mk_mram, ite_self, ↓State.flag_mram, ↓State.put_mram, ↓settleGait_mram, implies_true]
theorem seqIdle_mram (x0 : State) : (seqIdle x0).mram = x0.mram := by
  rw [seqIdle]
  simp only [↓apply_ite State.mram, ↓State.mk_mram, ite_self, ↓State.put_mram, ↓settleGait_mram, implies_true]
theorem enterPowerDown_mram (x0 : Nat) (x1 : State) : (enterPowerDown x0 x1).mram = x1.mram := by
  rw [enterPowerDown]
  simp only [↓apply_ite State.mram, ↓State.mk_mram, ite_self, ↓startProgram_mram, implies_true]
theorem endUser_mram (x0 : Nat) (x1 : State) : (endUser x0 x1).mram = x1.mram := by
  rw [endUser]
  simp only [↓apply_ite State.mram, ↓State.mk_mram, ite_self, ↓jobEnd?_mram, ↓seqIdle_mram, implies_true]
theorem noteFailure_mram (x0 : Nat) (x1 : Nat) (x2 : Nat) (x3 : State) : (noteFailure x0 x1 x2 x3).mram = x3.mram := by
  rw [noteFailure]
  simp only [↓apply_ite State.mram, ↓State.mk_mram, ite_self, ↓State.bump_mram, ↓State.flag_mram, ↓State.put_mram, ↓fillFfr_mram, implies_true]
theorem giveWay_mram (x0 : State) : (giveWay x0).mram = x0.mram := by
  rw [giveWay]
  repeat' split
  all_goals simp only [↓apply_ite State.mram, ↓State.mk_mram, ite_self, ↓State.flag_mram, ↓endUser_mram, ↓enterPowerDown_mram, implies_true]
theorem stepDone_mram (x0 : State) : (stepDone x0).mram = x0.mram := by
  rw [stepDone]
  simp only [↓apply_ite State.mram, ↓State.mk_mram, ite_self, ↓giveWay_mram, implies_true]
theorem stepFail_mram (x0 : Nat) (x1 : Nat) (x2 : Nat) (x3 : State) : (stepFail x0 x1 x2 x3).mram = x3.mram := by
  unfold stepFail
  dsimp only
  repeat' split
  all_goals simp only [↓apply_ite State.mram, ↓State.mk_mram, ite_self, ↓State.flag_mram, ↓assertAlarm_mram, ↓endUser_mram, ↓enterPowerDown_mram, ↓noteFailure_mram, ↓settleGait_mram, ↓takeSource_mram, implies_true]
theorem checkFail_mram (x0 : Bool) (x1 : Nat) (x2 : Nat) (x3 : Nat) (x4 : State) : (checkFail x0 x1 x2 x3 x4).mram = x4.mram := by
  rw [checkFail]
  simp only [↓apply_ite State.mram, ↓State.mk_mram, ite_self, ↓State.put_mram, ↓giveWay_mram, ↓noteFailure_mram, ↓stepFail_mram, ↓takeSource_mram, implies_true]
theorem abandonStep_mram (x0 : Nat) (x1 : State) : (abandonStep x0 x1).mram = x1.mram := by
  rw [abandonStep]
  simp only [↓apply_ite State.mram, ↓State.mk_mram, ite_self, ↓State.flag_mram, ↓noteFailure_mram, implies_true]
theorem alarmActs_mram (x0 : State) : (alarmActs x0).mram = x0.mram := by
  rw [alarmActs]
  repeat' split
  all_goals simp only [↓apply_ite State.mram, ↓State.mk_mram, ite_self, ↓State.flag_mram, ↓abandonStep_mram, ↓endUser_mram, ↓enterPowerDown_mram, implies_true]
theorem beginProgram_mram (x0 : SeqState) (x1 : Nat) (x2 : State) : (beginProgram x0 x1 x2).mram = x2.mram := by
  rw [beginProgram]
  simp only [↓apply_ite State.mram, ↓State.mk_mram, ite_self, ↓alarmActs_mram, ↓startProgram_mram, implies_true]
theorem startPowerUp_mram (x0 : State) : (startPowerUp x0).mram = x0.mram := by
  rw [startPowerUp]
  simp only [↓apply_ite State.mram, ↓State.mk_mram, ite_self, ↓beginProgram_mram, implies_true]
theorem seqHalt_mram (x0 : State) : (seqHalt x0).mram = x0.mram := by
  rw [seqHalt]
  simp only [↓apply_ite State.mram, ↓State.mk_mram, ite_self, ↓State.put_mram, ↓abandonStep_mram, ↓jobEnd?_mram, ↓seqIdle_mram, implies_true]
theorem seqBegin_mram (x0 : SeqInstr) (x1 : State) : (seqBegin x0 x1).mram = x1.mram := by
  rw [seqBegin]
  simp only [↓apply_ite State.mram, ↓State.mk_mram, ite_self, ↓State.put_mram, implies_true]
theorem seqWait_mram (x0 : SeqInstr) (x1 : State) : (seqWait x0 x1).mram = x1.mram := by
  rw [seqWait]
  repeat' split
  all_goals simp only [↓apply_ite State.mram, ↓State.mk_mram, ite_self, implies_true]
theorem tryEnable_mram (x0 : Nat) (x1 : State) : (tryEnable x0 x1).mram = x1.mram := by
  rw [tryEnable]
  repeat' split
  all_goals simp only [↓apply_ite State.mram, ↓State.mk_mram, ite_self, ↓railEnable_mram, ↓refuseEnable_mram, implies_true]
theorem seqEnable_mram (x0 : Bool) (x1 : BitVec 8) (x2 : BitVec 16) (x3 : State) : (seqEnable x0 x1 x2 x3).mram = x3.mram := by
  unfold seqEnable
  dsimp only
  repeat' split
  all_goals simp only [↓apply_ite State.mram, ↓State.mk_mram, ite_self, ↓each_mram, ↓seqWait_mram, ↓stepDone_mram, ↓stepFail_mram, ↓tryEnable_mram, implies_true]
theorem seqDisable_mram (x0 : Bool) (x1 : BitVec 8) (x2 : BitVec 16) (x3 : State) : (seqDisable x0 x1 x2 x3).mram = x3.mram := by
  rw [seqDisable]
  simp only [↓apply_ite State.mram, ↓State.mk_mram, ite_self, ↓each_mram, ↓railDisable_mram, ↓seqWait_mram, ↓stepDone_mram, ↓stepFail_mram, implies_true]
theorem seqWaitTime_mram (x0 : Bool) (x1 : BitVec 27) (x2 : State) : (seqWaitTime x0 x1 x2).mram = x2.mram := by
  rw [seqWaitTime]
  simp only [↓apply_ite State.mram, ↓State.mk_mram, ite_self, ↓seqWait_mram, ↓stepDone_mram, implies_true]
theorem seqWaitStride_mram (x0 : Bool) (x1 : BitVec 8) (x2 : BitVec 12) (x3 : State) : (seqWaitStride x0 x1 x2 x3).mram = x3.mram := by
  rw [seqWaitStride]
  simp only [↓apply_ite State.mram, ↓State.mk_mram, ite_self, ↓seqWait_mram, ↓stepFail_mram, implies_true]
theorem seqCheck_mram (x0 : Bool) (x1 : Bool) (x2 : Fin 32) (x3 : BitVec 4) (x4 : BitVec 16) (x5 : State) : (seqCheck x0 x1 x2 x3 x4 x5).mram = x5.mram := by
  rw [seqCheck]
  simp only [↓apply_ite State.mram, ↓State.mk_mram, ite_self, ↓State.put_mram, ↓seqWait_mram, implies_true]
theorem seqJump_mram (x0 : BitVec 2) (x1 : BitVec 8) (x2 : BitVec 8) (x3 : State) : (seqJump x0 x1 x2 x3).mram = x3.mram := by
  rw [seqJump]
  repeat' split
  all_goals simp only [↓apply_ite State.mram, ↓State.mk_mram, ite_self, ↓State.put_mram, ↓stepDone_mram, implies_true]
theorem seqGait_mram (x0 : BitVec 8) (x1 : BitVec 6) (x2 : State) : (seqGait x0 x1 x2).mram = x2.mram := by
  rw [seqGait]
  repeat' split
  all_goals simp only [↓apply_ite State.mram, ↓State.mk_mram, ite_self, ↓State.put_mram, ↓seqWait_mram, ↓stepDone_mram, ↓stepFail_mram, implies_true]
theorem seqSetout_mram (x0 : BitVec 8) (x1 : BitVec 8) (x2 : State) : (seqSetout x0 x1 x2).mram = x2.mram := by
  rw [seqSetout]
  simp only [↓apply_ite State.mram, ↓State.mk_mram, ite_self, ↓State.flag_mram, ↓stepDone_mram, implies_true]
theorem seqMark_mram (x0 : Bool) (x1 : BitVec 16) (x2 : State) : (seqMark x0 x1 x2).mram = x2.mram := by
  rw [seqMark]
  simp only [↓apply_ite State.mram, ↓State.mk_mram, ite_self, ↓State.put_mram, ↓fireTrigger_mram, ↓stepDone_mram, implies_true]
theorem seqSlew_mram (x0 : Fin 16) (x1 : Bool) (x2 : BitVec 13) (x3 : State) : (seqSlew x0 x1 x2 x3).mram = x3.mram := by
  rw [seqSlew]
  simp only [↓apply_ite State.mram, ↓State.mk_mram, ite_self, ↓newTarget_mram, ↓seqWait_mram, ↓stepDone_mram, ↓stepFail_mram, implies_true]
theorem seqFinish_mram (x0 : State) : (seqFinish x0).mram = x0.mram := by
  unfold seqFinish
  dsimp only
  repeat' split
  all_goals simp only [↓apply_ite State.mram, ↓State.mk_mram, ite_self, ↓State.flag_mram, ↓State.put_mram, ↓endUser_mram, ↓enterPowerDown_mram, ↓seqIdle_mram, ↓settleGait_mram, implies_true]
theorem seqEffect_mram (x0 : SeqInstr) (x1 : State) : (seqEffect x0 x1).mram = x1.mram := by
  unfold seqEffect
  repeat' split
  all_goals simp only [↓apply_ite State.mram, ↓State.mk_mram, ite_self, ↓seqCheck_mram, ↓seqDisable_mram, ↓seqEnable_mram, ↓seqFinish_mram, ↓seqGait_mram, ↓seqJump_mram, ↓seqMark_mram, ↓seqSetout_mram, ↓seqSlew_mram, ↓seqWaitStride_mram, ↓seqWaitTime_mram, ↓stepDone_mram, implies_true]
theorem seqStart_mram (x0 : SeqInstr) (x1 : State) : (seqStart x0 x1).mram = x1.mram := by
  rw [seqStart]
  simp only [↓apply_ite State.mram, ↓State.mk_mram, ite_self, ↓seqBegin_mram, ↓seqEffect_mram, implies_true]
theorem seqTick_mram (x0 : State) : (seqTick x0).mram = x0.mram := by
  rw [seqTick]
  repeat' split
  all_goals simp only [↓apply_ite State.mram, ↓State.mk_mram, ite_self, ↓enterPowerDown_mram, ↓giveWay_mram, ↓seqStart_mram, implies_true]
theorem tickToggles_mram (x0 : List (Nat × Bool)) (x1 : State) : (tickToggles x0 x1).mram = x1.mram := by
  rw [tickToggles]
  simp only [↓apply_ite State.mram, ↓State.mk_mram, ite_self, ↓each_mram, ↓offerToggle_mram, implies_true]
theorem waitBroken_mram (x0 : State) : (waitBroken x0).mram = x0.mram := by
  unfold waitBroken
  refine onWaiting_mram _ _ (fun i u => ?_)
  repeat' split
  all_goals first | rfl | simp only [↓apply_ite State.mram, ↓State.mk_mram, ite_self, ↓onWaiting_mram, ↓stepFail_mram, implies_true]
theorem doEnableWaitDone_mram (x0 : State) : (doEnableWaitDone x0).mram = x0.mram := by
  unfold doEnableWaitDone
  refine onWaiting_mram _ _ (fun i u => ?_)
  repeat' split
  all_goals first | rfl | simp only [↓apply_ite State.mram, ↓State.mk_mram, ite_self, ↓onWaiting_mram, ↓stepDone_mram, implies_true]
theorem doEnableWaitTmo_mram (x0 : State) : (doEnableWaitTmo x0).mram = x0.mram := by
  unfold doEnableWaitTmo
  refine onWaiting_mram _ _ (fun i u => ?_)
  repeat' split
  all_goals first | rfl | simp only [↓apply_ite State.mram, ↓State.mk_mram, ite_self, ↓onWaiting_mram, ↓stepFail_mram, implies_true]
theorem doDisableWaitDone_mram (x0 : State) : (doDisableWaitDone x0).mram = x0.mram := by
  unfold doDisableWaitDone
  refine onWaiting_mram _ _ (fun i u => ?_)
  repeat' split
  all_goals first | rfl | simp only [↓apply_ite State.mram, ↓State.mk_mram, ite_self, ↓onWaiting_mram, ↓stepDone_mram, implies_true]
theorem doDisableWaitTmo_mram (x0 : State) : (doDisableWaitTmo x0).mram = x0.mram := by
  unfold doDisableWaitTmo
  refine onWaiting_mram _ _ (fun i u => ?_)
  repeat' split
  all_goals first | rfl | simp only [↓apply_ite State.mram, ↓State.mk_mram, ite_self, ↓onWaiting_mram, ↓stepFail_mram, implies_true]
theorem doWaitTimeDone_mram (x0 : State) : (doWaitTimeDone x0).mram = x0.mram := by
  unfold doWaitTimeDone
  refine onWaiting_mram _ _ (fun i u => ?_)
  repeat' split
  all_goals first | rfl | simp only [↓apply_ite State.mram, ↓State.mk_mram, ite_self, ↓onWaiting_mram, ↓stepDone_mram, implies_true]
theorem doWaitStrideDone_mram (x0 : State) : (doWaitStrideDone x0).mram = x0.mram := by
  unfold doWaitStrideDone
  refine onWaiting_mram _ _ (fun i u => ?_)
  repeat' split
  all_goals first | rfl | simp only [↓apply_ite State.mram, ↓State.mk_mram, ite_self, ↓onWaiting_mram, ↓stepDone_mram, implies_true]
theorem countStable_mram (x0 : State) : (countStable x0).mram = x0.mram := by
  unfold countStable
  refine onWaiting_mram _ _ (fun i u => ?_)
  repeat' split
  all_goals first | rfl | simp only [↓apply_ite State.mram, ↓State.mk_mram, ite_self, ↓onWaiting_mram, implies_true]
theorem doCheckPass_mram (x0 : Nat) (x1 : State) : (doCheckPass x0 x1).mram = x1.mram := by
  unfold doCheckPass
  refine onWaiting_mram _ _ (fun i u => ?_)
  repeat' split
  all_goals first | rfl | simp only [↓apply_ite State.mram, ↓State.mk_mram, ite_self, ↓State.put_mram, ↓onWaiting_mram, ↓stepDone_mram, implies_true]
theorem doCheckChatter_mram (x0 : Nat) (x1 : State) : (doCheckChatter x0 x1).mram = x1.mram := by
  unfold doCheckChatter
  refine onWaiting_mram _ _ (fun i u => ?_)
  repeat' split
  all_goals first | rfl | simp only [↓apply_ite State.mram, ↓State.mk_mram, ite_self, ↓State.putFit_mram, ↓checkFail_mram, ↓onWaiting_mram, implies_true]
theorem doCheckTimeout_mram (x0 : State) : (doCheckTimeout x0).mram = x0.mram := by
  unfold doCheckTimeout
  refine onWaiting_mram _ _ (fun i u => ?_)
  repeat' split
  all_goals first | rfl | simp only [↓apply_ite State.mram, ↓State.mk_mram, ite_self, ↓checkFail_mram, ↓onWaiting_mram, implies_true]
theorem doSlewWaitDone_mram (x0 : State) : (doSlewWaitDone x0).mram = x0.mram := by
  unfold doSlewWaitDone
  refine onWaiting_mram _ _ (fun i u => ?_)
  repeat' split
  all_goals first | rfl | simp only [↓apply_ite State.mram, ↓State.mk_mram, ite_self, ↓onWaiting_mram, ↓stepDone_mram, implies_true]
theorem doGaitTmo_mram (x0 : State) : (doGaitTmo x0).mram = x0.mram := by
  unfold doGaitTmo
  refine onWaiting_mram _ _ (fun i u => ?_)
  repeat' split
  all_goals first | rfl | simp only [↓apply_ite State.mram, ↓State.mk_mram, ite_self, ↓State.flag_mram, ↓State.put_mram, ↓onWaiting_mram, ↓pullGait_mram, ↓stepFail_mram, implies_true]
theorem doGaitHoldEnd_mram (x0 : State) : (doGaitHoldEnd x0).mram = x0.mram := by
  rw [doGaitHoldEnd]
  repeat' split
  all_goals simp only [↓apply_ite State.mram, ↓State.mk_mram, ite_self, ↓pullGait_mram, implies_true]
theorem doGaitalrmDetect_mram (x0 : Nat) (x1 : State) : (doGaitalrmDetect x0 x1).mram = x1.mram := by
  rw [doGaitalrmDetect]
  simp only [↓apply_ite State.mram, ↓State.mk_mram, ite_self, ↓State.bump_mram, ↓State.flag_mram, ↓alarmActs_mram, ↓takeSource_mram, implies_true]
theorem doGaitalrmRelease_mram (x0 : State) : (doGaitalrmRelease x0).mram = x0.mram := by
  rw [doGaitalrmRelease]
  simp only [↓apply_ite State.mram, ↓State.mk_mram, ite_self, implies_true]
theorem seqBeat_mram (x0 : State) : (seqBeat x0).mram = x0.mram := by
  rw [seqBeat]
  simp only [↓apply_ite State.mram, ↓State.mk_mram, ite_self, ↓countStable_mram, ↓doCheckChatter_mram, ↓doCheckPass_mram, ↓doCheckTimeout_mram, ↓doDisableWaitDone_mram, ↓doDisableWaitTmo_mram, ↓doEnableWaitDone_mram, ↓doEnableWaitTmo_mram, ↓doGaitHoldEnd_mram, ↓doGaitTmo_mram, ↓doGaitalrmDetect_mram, ↓doSlewWaitDone_mram, ↓doWaitTimeDone_mram, ↓waitBroken_mram, implies_true]
theorem showBuf_mram (x0 : State) : (showBuf x0).mram = x0.mram := by
  rw [showBuf]
  simp only [↓apply_ite State.mram, ↓State.mk_mram, ite_self, ↓State.put_mram, implies_true]
theorem enterBuf_mram (x0 : Nat) (x1 : List Byte) (x2 : State) : (enterBuf x0 x1 x2).mram = x2.mram := by
  rw [enterBuf]
  simp only [↓apply_ite State.mram, ↓State.mk_mram, ite_self, ↓State.flag_mram, ↓State.put_mram, ↓showBuf_mram, implies_true]
theorem offerRecord_mram (x0 : Nat) (x1 : List Byte) (x2 : State) : (offerRecord x0 x1 x2).mram = x2.mram := by
  rw [offerRecord]
  repeat' split
  all_goals simp only [↓apply_ite State.mram, ↓State.mk_mram, ite_self, ↓State.bump_mram, ↓State.flag_mram, ↓State.put_mram, ↓enterBuf_mram, ↓takeSource_mram, implies_true]
theorem takeNoted_mram (x0 : Nat) (x1 : State) : (takeNoted x0 x1).mram = x1.mram := by
  rw [takeNoted]
  repeat' split
  all_goals simp only [↓apply_ite State.mram, ↓State.mk_mram, ite_self, ↓offerRecord_mram, implies_true]
theorem takeRecords_mram (x0 : State) : (takeRecords x0).mram = x0.mram := by
  rw [takeRecords]
  simp only [↓apply_ite State.mram, ↓State.mk_mram, ite_self, ↓each_mram, ↓takeNoted_mram, implies_true]
theorem bootRecord_mram (x0 : State) : (bootRecord x0).mram = x0.mram := by
  rw [bootRecord]
  simp only [↓apply_ite State.mram, ↓State.mk_mram, ite_self, ↓offerRecord_mram, implies_true]
theorem startFlush_mram (x0 : State) : (startFlush x0).mram = x0.mram := by
  rw [startFlush]
  simp only [↓apply_ite State.mram, ↓State.mk_mram, ite_self, ↓State.put_mram, implies_true]
theorem writeFailed_mram (x0 : State) : (writeFailed x0).mram = x0.mram := by
  rw [writeFailed]
  simp only [↓apply_ite State.mram, ↓State.mk_mram, ite_self, ↓State.bump_mram, ↓State.flag_mram, ↓takeSource_mram, implies_true]
theorem flushAsked_mram (x0 : State) : (flushAsked x0).mram = x0.mram := by
  rw [flushAsked]
  repeat' split
  all_goals simp only [↓apply_ite State.mram, ↓State.mk_mram, ite_self, ↓startFlush_mram, implies_true]
theorem doAngleTrigger_mram (x0 : Nat) (x1 : State) : (doAngleTrigger x0 x1).mram = x1.mram := by
  rw [doAngleTrigger]
  simp only [↓apply_ite State.mram, ↓State.mk_mram, ite_self, ↓State.unitTaken_mram, ↓fireTrigger_mram, implies_true]
theorem abandonStore_mram (x0 : State) : (abandonStore x0).mram = x0.mram := by
  rw [abandonStore]
  repeat' split
  all_goals simp only [↓apply_ite State.mram, ↓State.mk_mram, ite_self, ↓jobEnd_mram, implies_true]
theorem powerFailRecord_mram (x0 : State) : (powerFailRecord x0).mram = x0.mram := by
  rw [powerFailRecord]
  simp only [↓apply_ite State.mram, ↓State.mk_mram, ite_self, ↓enterBuf_mram, implies_true]
theorem countDamaged_mram (x0 : Nat) (x1 : State) : (countDamaged x0 x1).mram = x1.mram := by
  rw [countDamaged]
  simp only [↓apply_ite State.mram, ↓State.mk_mram, ite_self, ↓State.bumpBy_mram, ↓State.flag_mram, implies_true]
theorem restoreLog_mram (x0 : List Host.Cell) (x1 : State) : (restoreLog x0 x1).mram = x1.mram := by
  rw [restoreLog]
  simp only [↓apply_ite State.mram, ↓State.mk_mram, ite_self, ↓State.put_mram, ↓countDamaged_mram, implies_true]
theorem restoreRing_mram (x0 : List Host.Cell) (x1 : Ring) (x2 : List (Nat × Nat)) (x3 : State) : (restoreRing x0 x1 x2 x3).mram = x3.mram := by
  rw [restoreRing]
  repeat' split
  all_goals simp only [↓apply_ite State.mram, ↓State.mk_mram, ite_self, ↓countDamaged_mram, ↓unpackFields_mram, implies_true]
theorem eccCorrected_mram (x0 : Nat) (x1 : State) : (eccCorrected x0 x1).mram = x1.mram := by
  rw [eccCorrected]
  simp only [↓apply_ite State.mram, ↓State.mk_mram, ite_self, ↓State.bumpBy_mram, ↓State.flag_mram, ↓takeSource_mram, implies_true]
theorem computeCrc_mram (x0 : State) : (computeCrc x0).mram = x0.mram := by
  rw [computeCrc]
  simp only [↓apply_ite State.mram, ↓State.mk_mram, ite_self, implies_true]
theorem updateCrc_mram (x0 : State) : (updateCrc x0).mram = x0.mram := by
  rw [updateCrc]
  repeat' split
  all_goals simp only [↓apply_ite State.mram, ↓State.mk_mram, ite_self, ↓State.put_mram, ↓computeCrc_mram, implies_true]
theorem installSet_mram (x0 : ConfigSet) (x1 : State) : (installSet x0 x1).mram = x1.mram := by
  rw [installSet]
  simp only [↓apply_ite State.mram, ↓State.mk_mram, ite_self, ↓State.put_mram, ↓each_mram, ↓setImage_mram, implies_true]
theorem applyImage_mram (x0 : List (Nat × Nat)) (x1 : Option (List Byte)) (x2 : State) : (applyImage x0 x1 x2).mram = x2.mram := by
  unfold applyImage
  dsimp only
  repeat' split
  all_goals simp only [↓apply_ite State.mram, ↓State.mk_mram, ite_self, ↓applyValue_mram, ↓each_mram, ↓useImage_mram, implies_true]
theorem enterStride_mram (x0 : StrideState) (x1 : State) : (enterStride x0 x1).mram = x1.mram := by
  unfold enterStride
  dsimp only
  repeat' split
  all_goals simp only [↓apply_ite State.mram, ↓State.mk_mram, ite_self, ↓State.flag_mram, ↓State.put_mram, ↓offerToggle_mram, ↓setPeriod_mram, ↓takeSource_mram, implies_true]
theorem doStrideMissingEdge_mram (x0 : State) : (doStrideMissingEdge x0).mram = x0.mram := by
  unfold doStrideMissingEdge
  dsimp only
  repeat' split
  all_goals simp only [↓apply_ite State.mram, ↓State.mk_mram, ite_self, ↓State.bump_mram, ↓State.flag_mram, ↓enterStride_mram, implies_true]
theorem doStrideHoldLong_mram (x0 : State) : (doStrideHoldLong x0).mram = x0.mram := by
  rw [doStrideHoldLong]
  simp only [↓apply_ite State.mram, ↓State.mk_mram, ite_self, ↓takeSource_mram, implies_true]
theorem imageDue_mram (x0 : Nat) (x1 : State) : (imageDue x0 x1).mram = x1.mram := by
  unfold imageDue
  repeat' split
  all_goals simp only [↓apply_ite State.mram, ↓State.mk_mram, ite_self, ↓applyImage_mram, implies_true]
theorem strideDue_mram (x0 : Nat) (x1 : State) : (strideDue x0 x1).mram = x1.mram := by
  rw [strideDue]
  repeat' split
  all_goals simp only [↓apply_ite State.mram, ↓State.mk_mram, ite_self, ↓imageDue_mram, ↓applyStaging_mram, ↓applyValue_mram, ↓each_mram, implies_true]
theorem newStride_mram (x0 : State) : (newStride x0).mram = x0.mram := by
  rw [newStride]
  simp only [↓apply_ite State.mram, ↓State.mk_mram, ite_self, ↓State.bump_mram, ↓State.put_mram, ↓strideDue_mram, implies_true]
theorem startStride_mram (x0 : State) : (startStride x0).mram = x0.mram := by
  rw [startStride]
  simp only [↓apply_ite State.mram, ↓State.mk_mram, ite_self, ↓State.put_mram, implies_true]
theorem tickCommits_mram (x0 : State) : (tickCommits x0).mram = x0.mram := by
  rw [tickCommits]
  repeat' split
  all_goals simp only [↓apply_ite State.mram, ↓State.mk_mram, ite_self, ↓applyImage_mram, ↓applyStaging_mram, ↓useImage_mram, implies_true]
theorem dividerFault_mram (x0 : SrcKind) (x1 : State) : (dividerFault x0 x1).mram = x1.mram := by
  rw [dividerFault]
  simp only [↓apply_ite State.mram, ↓State.mk_mram, ite_self, ↓fdStop_mram, ↓takeSource_mram, implies_true]
theorem startChange_mram (x0 : Nat) (x1 : State) : (startChange x0 x1).mram = x1.mram := by
  rw [startChange]
  simp only [↓apply_ite State.mram, ↓State.mk_mram, ite_self, ↓setFd_mram, implies_true]
theorem fixedChange_mram (x0 : State) : (fixedChange x0).mram = x0.mram := by
  rw [fixedChange]
  repeat' split
  all_goals simp only [↓apply_ite State.mram, ↓State.mk_mram, ite_self, ↓startChange_mram, implies_true]
theorem risingChange_mram (x0 : State) : (risingChange x0).mram = x0.mram := by
  rw [risingChange]
  simp only [↓apply_ite State.mram, ↓State.mk_mram, ite_self, ↓startChange_mram, implies_true]
theorem fallingChange_mram (x0 : State) : (fallingChange x0).mram = x0.mram := by
  rw [fallingChange]
  simp only [↓apply_ite State.mram, ↓State.mk_mram, ite_self, ↓startChange_mram, implies_true]
theorem forcedChange_mram (x0 : State) : (forcedChange x0).mram = x0.mram := by
  rw [forcedChange]
  simp only [↓apply_ite State.mram, ↓State.mk_mram, ite_self, ↓State.bump_mram, ↓State.flag_mram, ↓startChange_mram, implies_true]
theorem autoChange_mram (x0 : State) : (autoChange x0).mram = x0.mram := by
  rw [autoChange]
  simp only [↓apply_ite State.mram, ↓State.mk_mram, ite_self, ↓fallingChange_mram, ↓forcedChange_mram, ↓risingChange_mram, implies_true]
theorem modeAtRun_mram (x0 : State) : (modeAtRun x0).mram = x0.mram := by
  rw [modeAtRun]
  simp only [↓apply_ite State.mram, ↓State.mk_mram, ite_self, ↓newRatioMode_mram, implies_true]
theorem changeEnds_mram (x0 : State) : (changeEnds x0).mram = x0.mram := by
  rw [changeEnds]
  simp only [↓apply_ite State.mram, ↓State.mk_mram, ite_self, ↓modeAtRun_mram, ↓setFd_mram, implies_true]
theorem swapLadder_mram (x0 : Nat) (x1 : State) : (swapLadder x0 x1).mram = x1.mram := by
  rw [swapLadder]
  simp only [↓apply_ite State.mram, ↓State.mk_mram, ite_self, ↓State.bump_mram, ↓State.flag_mram, ↓State.put_mram, ↓changeEnds_mram, ↓showTrim_mram, implies_true]
theorem changeBeat_mram (x0 : State) : (changeBeat x0).mram = x0.mram := by
  rw [changeBeat]
  repeat' split
  all_goals simp only [↓apply_ite State.mram, ↓State.mk_mram, ite_self, ↓changeEnds_mram, ↓swapLadder_mram, implies_true]
theorem surgeBegin_mram (x0 : Nat) (x1 : State) : (surgeBegin x0 x1).mram = x1.mram := by
  rw [surgeBegin]
  simp only [↓apply_ite State.mram, ↓State.mk_mram, ite_self, ↓State.bump_mram, ↓State.flag_mram, implies_true]
theorem pfwRaise_mram (x0 : State) : (pfwRaise x0).mram = x0.mram := by
  rw [pfwRaise]
  simp only [↓apply_ite State.mram, ↓State.mk_mram, ite_self, ↓State.flag_mram, ↓takeSource_mram, implies_true]
theorem pfwClears_mram (x0 : State) : (pfwClears x0).mram = x0.mram := by
  rw [pfwClears]
  simp only [↓apply_ite State.mram, ↓State.mk_mram, ite_self, ↓endCondition_mram, implies_true]
theorem vsysBeats_mram (x0 : Nat × Nat) (x1 : State) : (vsysBeats x0 x1).mram = x1.mram := by
  rw [vsysBeats]
  simp only [↓apply_ite State.mram, ↓State.mk_mram, ite_self, ↓State.putFit_mram, ↓autoChange_mram, ↓pfwClears_mram, ↓pfwRaise_mram, ↓showTrim_mram, ↓surgeBegin_mram, implies_true]
theorem vsysComparator_mram (x0 : Nat) (x1 : State) : (vsysComparator x0 x1).mram = x1.mram := by
  rw [vsysComparator]
  simp only [↓apply_ite State.mram, ↓State.mk_mram, ite_self, ↓dividerFault_mram, ↓endCondition_mram, implies_true]
theorem vsysRun_mram (x0 : Nat × Nat) (x1 : State) : (vsysRun x0 x1).mram = x1.mram := by
  rw [vsysRun]
  simp only [↓apply_ite State.mram, ↓State.mk_mram, ite_self, ↓State.putFit_mram, ↓each_mram, ↓vsysBeats_mram, ↓vsysComparator_mram, implies_true]
theorem surgeTick_mram (x0 : State) : (surgeTick x0).mram = x0.mram := by
  rw [surgeTick]
  simp only [↓apply_ite State.mram, ↓State.mk_mram, ite_self, implies_true]
theorem doFdSurgeLong_mram (x0 : State) : (doFdSurgeLong x0).mram = x0.mram := by
  rw [doFdSurgeLong]
  simp only [↓apply_ite State.mram, ↓State.mk_mram, ite_self, ↓dividerFault_mram, implies_true]
theorem startWaiting_mram (x0 : State) : (startWaiting x0).mram = x0.mram := by
  rw [startWaiting]
  simp only [↓apply_ite State.mram, ↓State.mk_mram, ite_self, ↓each_mram, ↓railToSoftstart_mram, implies_true]
theorem softstartEnds_mram (x0 : Nat) (x1 : State) : (softstartEnds x0 x1).mram = x1.mram := by
  rw [softstartEnds]
  simp only [↓apply_ite State.mram, ↓State.mk_mram, ite_self, ↓modeAtRun_mram, ↓setFd_mram, ↓setIbusGood_mram, ↓startWaiting_mram, implies_true]
theorem stopEnds_mram (x0 : Nat) (x1 : State) : (stopEnds x0 x1).mram = x1.mram := by
  rw [stopEnds]
  simp only [↓apply_ite State.mram, ↓State.mk_mram, ite_self, ↓fdBegin_mram, ↓fdToOff_mram, implies_true]
theorem ibusRun_mram (x0 : Nat × Nat) (x1 : State) : (ibusRun x0 x1).mram = x1.mram := by
  unfold ibusRun
  dsimp only
  repeat' split
  all_goals simp only [↓apply_ite State.mram, ↓State.mk_mram, ite_self, ↓dividerFault_mram, ↓softstartEnds_mram, ↓stopEnds_mram, implies_true]
theorem doFdStart_mram (x0 : State) : (doFdStart x0).mram = x0.mram := by
  rw [doFdStart]
  simp only [↓apply_ite State.mram, ↓State.mk_mram, ite_self, ↓dividerFault_mram, implies_true]
theorem offDelayTick_mram (x0 : State) : (offDelayTick x0).mram = x0.mram := by
  rw [offDelayTick]
  repeat' split
  all_goals simp only [↓apply_ite State.mram, ↓State.mk_mram, ite_self, implies_true]
theorem doFdOffDelay_mram (x0 : State) : (doFdOffDelay x0).mram = x0.mram := by
  rw [doFdOffDelay]
  simp only [↓apply_ite State.mram, ↓State.mk_mram, ite_self, ↓setFd_mram, ↓setIbusGood_mram, implies_true]
theorem balanceTimeout_mram (x0 : State) : (balanceTimeout x0).mram = x0.mram := by
  rw [balanceTimeout]
  simp only [↓apply_ite State.mram, ↓State.mk_mram, ite_self, ↓dividerFault_mram, implies_true]
theorem stopTimeout_mram (x0 : State) : (stopTimeout x0).mram = x0.mram := by
  rw [stopTimeout]
  simp only [↓apply_ite State.mram, ↓State.mk_mram, ite_self, ↓fdBegin_mram, ↓fdToOff_mram, implies_true]
theorem dividerBeat_mram (x0 : State) : (dividerBeat x0).mram = x0.mram := by
  rw [dividerBeat]
  simp only [↓apply_ite State.mram, ↓State.mk_mram, ite_self, ↓autoChange_mram, ↓balanceTimeout_mram, ↓changeBeat_mram, ↓doFdStart_mram, ↓fdBegin_mram, ↓fixedChange_mram, ↓stopTimeout_mram, implies_true]
theorem dividerTick_mram (x0 : State) : (dividerTick x0).mram = x0.mram := by
  rw [dividerTick]
  simp only [↓apply_ite State.mram, ↓State.mk_mram, ite_self, ↓offDelayTick_mram, implies_true]
theorem doRailSoftstartDone_mram (x0 : Nat) (x1 : Nat) (x2 : State) : (doRailSoftstartDone x0 x1 x2).mram = x2.mram := by
  rw [doRailSoftstartDone]
  simp only [↓apply_ite State.mram, ↓State.mk_mram, ite_self, ↓railToOn_mram, implies_true]
theorem railSource_mram (x0 : SrcKind) (x1 : Nat) (x2 : State) : (railSource x0 x1 x2).mram = x2.mram := by
  rw [railSource]
  simp only [↓apply_ite State.mram, ↓State.mk_mram, ite_self, ↓railFault_mram, ↓takeSource_mram, implies_true]
theorem doRailSs_mram (x0 : Nat) (x1 : State) : (doRailSs x0 x1).mram = x1.mram := by
  rw [doRailSs]
  simp only [↓apply_ite State.mram, ↓State.mk_mram, ite_self, ↓State.setRailE_mram, ↓railSource_mram, implies_true]
theorem doRailSlewDone_mram (x0 : Nat) (x1 : State) : (doRailSlewDone x0 x1).mram = x1.mram := by
  rw [doRailSlewDone]
  simp only [↓apply_ite State.mram, ↓State.mk_mram, ite_self, ↓blankUv_mram, ↓setRail_mram, implies_true]
theorem doRailRampdownDone_mram (x0 : Nat) (x1 : Nat) (x2 : State) : (doRailRampdownDone x0 x1 x2).mram = x2.mram := by
  rw [doRailRampdownDone]
  simp only [↓apply_ite State.mram, ↓State.mk_mram, ite_self, ↓railToDischarge_mram, implies_true]
theorem doRailDischarged_mram (x0 : Nat) (x1 : Nat) (x2 : State) : (doRailDischarged x0 x1 x2).mram = x2.mram := by
  rw [doRailDischarged]
  simp only [↓apply_ite State.mram, ↓State.mk_mram, ite_self, ↓State.setRailE_mram, ↓railToOff_mram, implies_true]
theorem doRailDisSlow_mram (x0 : Nat) (x1 : State) : (doRailDisSlow x0 x1).mram = x1.mram := by
  rw [doRailDisSlow]
  simp only [↓apply_ite State.mram, ↓State.mk_mram, ite_self, ↓State.flag_mram, ↓State.setRailE_mram, ↓takeSource_mram, implies_true]
theorem doPhaseShed_mram (x0 : Nat) (x1 : State) : (doPhaseShed x0 x1).mram = x1.mram := by
  rw [doPhaseShed]
  repeat' split
  all_goals simp only [↓apply_ite State.mram, ↓State.mk_mram, ite_self, ↓State.setRailE_mram, ↓reinterleave_mram, ↓shedPhase_mram, implies_true]
theorem burstEnter_mram (x0 : Nat) (x1 : State) : (burstEnter x0 x1).mram = x1.mram := by
  rw [burstEnter]
  repeat' split
  all_goals simp only [↓apply_ite State.mram, ↓State.mk_mram, ite_self, ↓State.flag_mram, ↓State.put_mram, ↓State.setRailE_mram, ↓each_mram, ↓reinterleave_mram, ↓shedPhase_mram, implies_true]
theorem doBurstEntry_mram (x0 : Nat) (x1 : State) : (doBurstEntry x0 x1).mram = x1.mram := by
  rw [doBurstEntry]
  simp only [↓apply_ite State.mram, ↓State.mk_mram, ite_self, ↓burstEnter_mram, implies_true]
theorem burstGo_mram (x0 : Nat) (x1 : State) : (burstGo x0 x1).mram = x1.mram := by
  rw [burstGo]
  simp only [↓apply_ite State.mram, ↓State.mk_mram, ite_self, ↓State.setRailE_mram, implies_true]
theorem doBurstSlot_mram (x0 : Nat) (x1 : State) : (doBurstSlot x0 x1).mram = x1.mram := by
  rw [doBurstSlot]
  simp only [↓apply_ite State.mram, ↓State.mk_mram, ite_self, ↓State.unitTaken_mram, ↓burstGo_mram, implies_true]
theorem burstReplace_mram (x0 : Nat) (x1 : State) : (burstReplace x0 x1).mram = x1.mram := by
  rw [burstReplace]
  repeat' split
  all_goals simp only [↓apply_ite State.mram, ↓State.mk_mram, ite_self, ↓State.putPhase_mram, ↓burstLeave_mram, implies_true]
theorem windowEnds_mram (x0 : State) : (windowEnds x0).mram = x0.mram := by
  rw [windowEnds]
  simp only [↓apply_ite State.mram, ↓State.mk_mram, ite_self, ↓burstGo_mram, ↓each_mram, implies_true]
theorem closeBy_mram (x0 : Nat) (x1 : State) : (closeBy x0 x1).mram = x1.mram := by
  rw [closeBy]
  simp only [↓apply_ite State.mram, ↓State.mk_mram, ite_self, ↓windowEnds_mram, implies_true]
theorem stretchStage_mram (x0 : Nat) (x1 : Nat) (x2 : State) : (stretchStage x0 x1 x2).mram = x2.mram := by
  rw [stretchStage]
  simp only [↓apply_ite State.mram, ↓State.mk_mram, ite_self, ↓State.setPhaseE_mram, implies_true]
theorem windowOpens_mram (x0 : Fin 8) (x1 : State) : (windowOpens x0 x1).mram = x1.mram := by
  rw [windowOpens]
  simp only [↓apply_ite State.mram, ↓State.mk_mram, ite_self, ↓State.bump_mram, ↓State.flag_mram, ↓each_mram, ↓phaseBreach_mram, ↓stretchStage_mram, ↓when_mram, implies_true]
theorem rhBlank_mram (x0 : Fin 8) (x1 : State) : (rhBlank x0 x1).mram = x1.mram := by
  rw [rhBlank]
  repeat' split
  all_goals simp only [↓apply_ite State.mram, ↓State.mk_mram, ite_self, implies_true]
theorem raiseBreach_mram (x0 : State) : (raiseBreach x0).mram = x0.mram := by
  rw [raiseBreach]
  repeat' split
  all_goals simp only [↓apply_ite State.mram, ↓State.mk_mram, ite_self, ↓raiseLater_mram, implies_true]
theorem openWindow_mram (x0 : Bool) (x1 : Fin 8) (x2 : State) : (openWindow x0 x1 x2).mram = x2.mram := by
  rw [openWindow]
  simp only [↓apply_ite State.mram, ↓State.mk_mram, ite_self, ↓State.bump_mram, ↓State.flag_mram, ↓State.unitTaken_mram, ↓closeBy_mram, ↓raiseLater_mram, ↓rhBlank_mram, ↓windowOpens_mram, implies_true]
theorem phaseOut_mram (x0 : Nat) (x1 : Nat) (x2 : State) : (phaseOut x0 x1 x2).mram = x2.mram := by
  rw [phaseOut]
  simp only [↓apply_ite State.mram, ↓State.mk_mram, ite_self, ↓addShed_mram, ↓burstReplace_mram, ↓phaseFault_mram, implies_true]
theorem phaseSource_mram (x0 : SrcKind) (x1 : Nat) (x2 : Nat) (x3 : State) : (phaseSource x0 x1 x2 x3).mram = x3.mram := by
  rw [phaseSource]
  simp only [↓apply_ite State.mram, ↓State.mk_mram, ite_self, ↓phaseOut_mram, ↓takeSource_mram, implies_true]
theorem switchingSource_mram (x0 : SrcKind) (x1 : Nat) (x2 : Nat) (x3 : State) : (switchingSource x0 x1 x2 x3).mram = x3.mram := by
  rw [switchingSource]
  simp only [↓apply_ite State.mram, ↓State.mk_mram, ite_self, ↓phaseSource_mram, implies_true]
theorem doPhTsd_mram (x0 : Nat) (x1 : Int) (x2 : State) : (doPhTsd x0 x1 x2).mram = x2.mram := by
  rw [doPhTsd]
  simp only [↓apply_ite State.mram, ↓State.mk_mram, ite_self, ↓State.setPhaseE_mram, ↓phaseSource_mram, implies_true]
theorem phaseRun_mram (x0 : Nat) (x1 : Bool × Nat) (x2 : State) : (phaseRun x0 x1 x2).mram = x2.mram := by
  rw [phaseRun]
  simp only [↓apply_ite State.mram, ↓State.mk_mram, ite_self, ↓State.flag_mram, ↓State.put_mram, ↓State.setPhaseE_mram, ↓switchingSource_mram, ↓when_mram, implies_true]
theorem doRailPhLost_mram (x0 : Nat) (x1 : State) : (doRailPhLost x0 x1).mram = x1.mram := by
  rw [doRailPhLost]
  simp only [↓apply_ite State.mram, ↓State.mk_mram, ite_self, ↓State.flag_mram, ↓railSource_mram, implies_true]
theorem doRemountRampEnd_mram (x0 : Nat) (x1 : State) : (doRemountRampEnd x0 x1).mram = x1.mram := by
  rw [doRemountRampEnd]
  simp only [↓apply_ite State.mram, ↓State.mk_mram, ite_self, ↓State.bump_mram, ↓State.flag_mram, ↓State.putPhase_mram, ↓reinterleave_mram, implies_true]
theorem phaseSample_mram (x0 : TickInputs) (x1 : Nat) (x2 : State) : (phaseSample x0 x1 x2).mram = x2.mram := by
  rw [phaseSample]
  simp only [↓apply_ite State.mram, ↓State.mk_mram, ite_self, ↓State.flag_mram, ↓State.put_mram, ↓State.putFit_mram, ↓when_mram, implies_true]
theorem phaseSources_mram (x0 : TickInputs) (x1 : State) : (phaseSources x0 x1).mram = x1.mram := by
  rw [phaseSources]
  simp only [↓apply_ite State.mram, ↓State.mk_mram, ite_self, ↓doPhTsd_mram, ↓each_mram, ↓phaseRun_mram, implies_true]
theorem phaseWarn_mram (x0 : Nat) (x1 : State) : (phaseWarn x0 x1).mram = x1.mram := by
  rw [phaseWarn]
  simp only [↓apply_ite State.mram, ↓State.mk_mram, ite_self, ↓State.flag_mram, ↓endCondition_mram, ↓takeSource_mram, implies_true]
theorem phaseCool_mram (x0 : Nat) (x1 : State) : (phaseCool x0 x1).mram = x1.mram := by
  rw [phaseCool]
  simp only [↓apply_ite State.mram, ↓State.mk_mram, ite_self, ↓State.setPhaseE_mram, ↓endCondition_mram, implies_true]
theorem railSample_mram (x0 : TickInputs) (x1 : Nat) (x2 : State) : (railSample x0 x1 x2).mram = x2.mram := by
  rw [railSample]
  simp only [↓apply_ite State.mram, ↓State.mk_mram, ite_self, ↓State.putFit_mram, ↓State.setRailE_mram, ↓doRailRampdownDone_mram, ↓doRailSoftstartDone_mram, implies_true]
theorem railLight_mram (x0 : Nat) (x1 : State) : (railLight x0 x1).mram = x1.mram := by
  rw [railLight]
  simp only [↓apply_ite State.mram, ↓State.mk_mram, ite_self, ↓State.setRailE_mram, ↓addShed_mram, implies_true]
theorem burstTick_mram (x0 : Nat) (x1 : State) : (burstTick x0 x1).mram = x1.mram := by
  rw [burstTick]
  simp only [↓apply_ite State.mram, ↓State.mk_mram, ite_self, ↓burstLeave_mram, ↓doBurstEntry_mram, implies_true]
theorem dozeLeft_mram (x0 : Nat) (x1 : State) : (dozeLeft x0 x1).mram = x1.mram := by
  rw [dozeLeft]
  simp only [↓apply_ite State.mram, ↓State.mk_mram, ite_self, ↓burstLeave_mram, implies_true]
theorem phaseTick_mram (x0 : State) : (phaseTick x0).mram = x0.mram := by
  rw [phaseTick]
  simp only [↓apply_ite State.mram, ↓State.mk_mram, ite_self, ↓burstTick_mram, ↓doPhaseShed_mram, ↓dozeLeft_mram, ↓each_mram, ↓railLight_mram, implies_true]
theorem railBeat_mram (x0 : State) : (railBeat x0).mram = x0.mram := by
  rw [railBeat]
  simp only [↓apply_ite State.mram, ↓State.mk_mram, ite_self, ↓doRailPhLost_mram, ↓doRailSlewDone_mram, ↓doRailSs_mram, ↓doRemountRampEnd_mram, ↓each_mram, implies_true]
theorem setRegion_mram (x0 : Nat) (x1 : Nat) (x2 : State) : (setRegion x0 x1 x2).mram = x2.mram := by
  rw [setRegion]
  simp only [↓apply_ite State.mram, ↓State.mk_mram, ite_self, ↓State.bump_mram, ↓State.flag_mram, ↓State.put_mram, ↓State.setXbE_mram, implies_true]
theorem xbBeat_mram (x0 : Nat) (x1 : State) : (xbBeat x0 x1).mram = x1.mram := by
  rw [xbBeat]
  simp only [↓apply_ite State.mram, ↓State.mk_mram, ite_self, ↓State.setXbE_mram, ↓setRegion_mram, implies_true]
theorem doXbSkipEntry_mram (x0 : Nat) (x1 : State) : (doXbSkipEntry x0 x1).mram = x1.mram := by
  rw [doXbSkipEntry]
  simp only [↓apply_ite State.mram, ↓State.mk_mram, ite_self, ↓State.flag_mram, ↓State.setXbE_mram, implies_true]
theorem xbSource_mram (x0 : SrcKind) (x1 : Nat) (x2 : Nat) (x3 : State) : (xbSource x0 x1 x2 x3).mram = x3.mram := by
  rw [xbSource]
  simp only [↓apply_ite State.mram, ↓State.mk_mram, ite_self, ↓State.put_mram, ↓railFault_mram, ↓takeSource_mram, implies_true]
theorem xbSwitching_mram (x0 : SrcKind) (x1 : Nat) (x2 : Nat) (x3 : State) : (xbSwitching x0 x1 x2 x3).mram = x3.mram := by
  rw [xbSwitching]
  simp only [↓apply_ite State.mram, ↓State.mk_mram, ite_self, ↓xbSource_mram, implies_true]
theorem doXbCl_mram (x0 : Nat) (x1 : State) : (doXbCl x0 x1).mram = x1.mram := by
  rw [doXbCl]
  simp only [↓apply_ite State.mram, ↓State.mk_mram, ite_self, ↓xbSwitching_mram, implies_true]
theorem doXbTsd_mram (x0 : Nat) (x1 : Int) (x2 : State) : (doXbTsd x0 x1 x2).mram = x2.mram := by
  rw [doXbTsd]
  simp only [↓apply_ite State.mram, ↓State.mk_mram, ite_self, ↓State.setXbE_mram, ↓xbSource_mram, implies_true]
theorem limitCount_mram (x0 : Nat) (x1 : Bool) (x2 : State) : (limitCount x0 x1 x2).mram = x2.mram := by
  rw [limitCount]
  simp only [↓apply_ite State.mram, ↓State.mk_mram, ite_self, ↓State.setRailE_mram, implies_true]
theorem xbSample_mram (x0 : TickInputs) (x1 : Nat) (x2 : State) : (xbSample x0 x1 x2).mram = x2.mram := by
  rw [xbSample]
  simp only [↓apply_ite State.mram, ↓State.mk_mram, ite_self, ↓State.flag_mram, ↓State.put_mram, ↓limitCount_mram, implies_true]
theorem xbWarn_mram (x0 : Nat) (x1 : State) : (xbWarn x0 x1).mram = x1.mram := by
  rw [xbWarn]
  simp only [↓apply_ite State.mram, ↓State.mk_mram, ite_self, ↓State.flag_mram, ↓State.setXbE_mram, ↓endCondition_mram, ↓takeSource_mram, implies_true]
theorem xbSkip_mram (x0 : Nat) (x1 : State) : (xbSkip x0 x1).mram = x1.mram := by
  rw [xbSkip]
  simp only [↓apply_ite State.mram, ↓State.mk_mram, ite_self, ↓State.setXbE_mram, ↓doXbSkipEntry_mram, implies_true]
theorem aoOff_mram (x0 : Nat) (x1 : Nat) (x2 : State) : (aoOff x0 x1 x2).mram = x2.mram := by
  rw [aoOff]
  simp only [↓apply_ite State.mram, ↓State.mk_mram, ite_self, ↓State.bumpSat_mram, ↓State.flag_mram, ↓State.put_mram, ↓fillFfr_mram, ↓setRail_mram, implies_true]
theorem ldoOff_mram (x0 : Nat) (x1 : Nat) (x2 : Nat) (x3 : State) : (ldoOff x0 x1 x2 x3).mram = x3.mram := by
  rw [ldoOff]
  simp only [↓apply_ite State.mram, ↓State.mk_mram, ite_self, ↓State.put_mram, ↓aoOff_mram, ↓railFault_mram, implies_true]
theorem doLdoCl_mram (x0 : Nat) (x1 : State) : (doLdoCl x0 x1).mram = x1.mram := by
  rw [doLdoCl]
  simp only [↓apply_ite State.mram, ↓State.mk_mram, ite_self, ↓State.setRailE_mram, ↓ldoOff_mram, ↓takeSource_mram, implies_true]
theorem doLdoTsd_mram (x0 : Int) (x1 : State) : (doLdoTsd x0 x1).mram = x1.mram := by
  rw [doLdoTsd]
  simp only [↓apply_ite State.mram, ↓State.mk_mram, ite_self, ↓aoOff_mram, ↓each_mram, ↓ldoOff_mram, ↓takeSource_mram, implies_true]
theorem aoStart_mram (x0 : State) : (aoStart x0).mram = x0.mram := by
  rw [aoStart]
  simp only [↓apply_ite State.mram, ↓State.mk_mram, ite_self, ↓State.setRailE_mram, ↓aimRail_mram, ↓railToOn_mram, ↓setRail_mram, implies_true]
theorem aoBegin_mram (x0 : State) : (aoBegin x0).mram = x0.mram := by
  rw [aoBegin]
  simp only [↓apply_ite State.mram, ↓State.mk_mram, ite_self, ↓aoStart_mram, implies_true]
theorem aoRestarts_mram (x0 : State) : (aoRestarts x0).mram = x0.mram := by
  rw [aoRestarts]
  simp only [↓apply_ite State.mram, ↓State.mk_mram, ite_self, ↓State.flag_mram, ↓aoBegin_mram, implies_true]
theorem doLdoin0Good_mram (x0 : Nat) (x1 : State) : (doLdoin0Good x0 x1).mram = x1.mram := by
  rw [doLdoin0Good]
  simp only [↓apply_ite State.mram, ↓State.mk_mram, ite_self, ↓aoBegin_mram, implies_true]
theorem aoTick_mram (x0 : State) : (aoTick x0).mram = x0.mram := by
  rw [aoTick]
  repeat' split
  all_goals simp only [↓apply_ite State.mram, ↓State.mk_mram, ite_self, ↓aoRestarts_mram, ↓doLdoin0Good_mram, implies_true]
theorem ldoSample_mram (x0 : TickInputs) (x1 : Nat) (x2 : State) : (ldoSample x0 x1 x2).mram = x2.mram := by
  rw [ldoSample]
  simp only [↓apply_ite State.mram, ↓State.mk_mram, ite_self, ↓State.flag_mram, ↓State.putFit_mram, ↓limitCount_mram, implies_true]
theorem ldoDrop_mram (x0 : TickInputs) (x1 : Nat) (x2 : State) : (ldoDrop x0 x1 x2).mram = x2.mram := by
  rw [ldoDrop]
  simp only [↓apply_ite State.mram, ↓State.mk_mram, ite_self, ↓State.flag_mram, ↓takeSource_mram, implies_true]
theorem ldoWarn_mram (x0 : State) : (ldoWarn x0).mram = x0.mram := by
  rw [ldoWarn]
  simp only [↓apply_ite State.mram, ↓State.mk_mram, ite_self, ↓State.flag_mram, ↓each_mram, ↓endCondition_mram, ↓takeSource_mram, implies_true]
theorem auxSample_mram (x0 : TickInputs) (x1 : State) : (auxSample x0 x1).mram = x1.mram := by
  rw [auxSample]
  simp only [↓apply_ite State.mram, ↓State.mk_mram, ite_self, ↓State.put_mram, ↓aoTick_mram, ↓doLdoTsd_mram, ↓doXbTsd_mram, ↓each_mram, ↓ldoSample_mram, ↓xbSample_mram, implies_true]
theorem auxSources_mram (x0 : TickInputs) (x1 : State) : (auxSources x0 x1).mram = x1.mram := by
  rw [auxSources]
  simp only [↓apply_ite State.mram, ↓State.mk_mram, ite_self, ↓doLdoCl_mram, ↓doXbCl_mram, ↓each_mram, ↓ldoDrop_mram, ↓ldoWarn_mram, ↓xbWarn_mram, implies_true]
theorem auxTick_mram (x0 : State) : (auxTick x0).mram = x0.mram := by
  rw [auxTick]
  simp only [↓apply_ite State.mram, ↓State.mk_mram, ite_self, ↓each_mram, ↓xbSkip_mram, implies_true]
theorem supSample_mram (x0 : TickInputs) (x1 : Nat) (x2 : State) : (supSample x0 x1 x2).mram = x2.mram := by
  rw [supSample]
  simp only [↓apply_ite State.mram, ↓State.mk_mram, ite_self, ↓State.putFit_mram, ↓State.setSupE_mram, implies_true]
theorem chatterTick_mram (x0 : Nat) (x1 : State) : (chatterTick x0 x1).mram = x1.mram := by
  rw [chatterTick]
  simp only [↓apply_ite State.mram, ↓State.mk_mram, ite_self, ↓State.flag_mram, ↓State.setSupE_mram, ↓takeSource_mram, ↓tickToggles_mram, implies_true]
theorem doArbGrant_mram (x0 : State) : (doArbGrant x0).mram = x0.mram := by
  rw [doArbGrant]
  simp only [↓apply_ite State.mram, ↓State.mk_mram, ite_self, ↓State.put_mram, implies_true]
theorem doRhDue_mram (x0 : Nat) (x1 : State) : (doRhDue x0 x1).mram = x1.mram := by
  rw [doRhDue]
  simp only [↓apply_ite State.mram, ↓State.mk_mram, ite_self, implies_true]
theorem writeBaseline_mram (x0 : Nat) (x1 : Nat) (x2 : RhCommission) (x3 : State) : (writeBaseline x0 x1 x2 x3).mram = x3.mram := by
  rw [writeBaseline]
  simp only [↓apply_ite State.mram, ↓State.mk_mram, ite_self, ↓applyValue_mram, implies_true]
theorem commissionRun_mram (x0 : Nat) (x1 : Nat) (x2 : State) : (commissionRun x0 x1 x2).mram = x2.mram := by
  rw [commissionRun]
  repeat' split
  all_goals simp only [↓apply_ite State.mram, ↓State.mk_mram, ite_self, ↓commissionNext_mram, ↓writeBaseline_mram, implies_true]
theorem endRun_mram (x0 : Nat) (x1 : State) : (endRun x0 x1).mram = x1.mram := by
  rw [endRun]
  repeat' split
  all_goals simp only [↓apply_ite State.mram, ↓State.mk_mram, ite_self, ↓commissionRun_mram, ↓failRun_mram, ↓leaveRun_mram, implies_true]
theorem beginRun_mram (x0 : Nat) (x1 : Option Nat) (x2 : Bool) (x3 : State) : (beginRun x0 x1 x2 x3).mram = x3.mram := by
  rw [beginRun]
  simp only [↓apply_ite State.mram, ↓State.mk_mram, ite_self, ↓State.put_mram, ↓endRun_mram, implies_true]
theorem rhLoad_mram (x0 : State) : (rhLoad x0).mram = x0.mram := by
  rw [rhLoad]
  repeat' split
  all_goals simp only [↓apply_ite State.mram, ↓State.mk_mram, ite_self, implies_true]
theorem rhAbandonTick_mram (x0 : State) : (rhAbandonTick x0).mram = x0.mram := by
  rw [rhAbandonTick]
  simp only [↓apply_ite State.mram, ↓State.mk_mram, ite_self, ↓each_mram, ↓raiseLater_mram, implies_true]
theorem rhTick_mram (x0 : State) : (rhTick x0).mram = x0.mram := by
  rw [rhTick]
  repeat' split
  all_goals simp only [↓apply_ite State.mram, ↓State.mk_mram, ite_self, ↓beginRun_mram, ↓doRhDue_mram, ↓each_mram, ↓rhAbandonTick_mram, ↓rhLoad_mram, implies_true]
theorem doRhSettleStart_mram (x0 : State) : (doRhSettleStart x0).mram = x0.mram := by
  rw [doRhSettleStart]
  repeat' split
  all_goals simp only [↓apply_ite State.mram, ↓State.mk_mram, ite_self, ↓State.flag_mram, ↓State.put_mram, ↓State.unitTaken_mram, ↓endRun_mram, ↓when_mram, implies_true]
theorem doRhSettleDone_mram (x0 : State) : (doRhSettleDone x0).mram = x0.mram := by
  rw [doRhSettleDone]
  repeat' split
  all_goals simp only [↓apply_ite State.mram, ↓State.mk_mram, ite_self, ↓State.put_mram, implies_true]
theorem doRhPointAbandon_mram (x0 : State) : (doRhPointAbandon x0).mram = x0.mram := by
  rw [doRhPointAbandon]
  repeat' split
  all_goals simp only [↓apply_ite State.mram, ↓State.mk_mram, ite_self, ↓State.put_mram, ↓arbRelease_mram, ↓endRun_mram, implies_true]
theorem ageLevel_mram (x0 : Nat) (x1 : Nat) (x2 : State) : (ageLevel x0 x1 x2).mram = x2.mram := by
  rw [ageLevel]
  simp only [↓apply_ite State.mram, ↓State.mk_mram, ite_self, ↓State.flag_mram, ↓State.putBit_mram, ↓takeSource_mram, implies_true]
theorem doRhResults_mram (x0 : State) : (doRhResults x0).mram = x0.mram := by
  rw [doRhResults]
  repeat' split
  all_goals simp only [↓apply_ite State.mram, ↓State.mk_mram, ite_self, ↓State.putFit_mram, ↓ageLevel_mram, ↓each_mram, ↓endRun_mram, implies_true]
theorem rhComputeTick_mram (x0 : State) : (rhComputeTick x0).mram = x0.mram := by
  rw [rhComputeTick]
  repeat' split
  all_goals simp only [↓apply_ite State.mram, ↓State.mk_mram, ite_self, ↓doRhResults_mram, implies_true]
theorem rhBeat_mram (x0 : State) : (rhBeat x0).mram = x0.mram := by
  rw [rhBeat]
  simp only [↓apply_ite State.mram, ↓State.mk_mram, ite_self, ↓doRhPointAbandon_mram, ↓doRhSettleDone_mram, implies_true]
theorem doAutoAck_mram (x0 : State) : (doAutoAck x0).mram = x0.mram := by
  rw [doAutoAck]
  repeat' split
  all_goals simp only [↓apply_ite State.mram, ↓State.mk_mram, ite_self, ↓State.flag_mram, ↓State.put_mram, ↓openBeat_mram, implies_true]
theorem quietTick_mram (x0 : State) : (quietTick x0).mram = x0.mram := by
  rw [quietTick]
  simp only [↓apply_ite State.mram, ↓State.mk_mram, ite_self, ↓State.put_mram, implies_true]
theorem restartAfter_mram (x0 : Nat) (x1 : Bool) (x2 : State) : (restartAfter x0 x1 x2).mram = x2.mram := by
  rw [restartAfter]
  simp only [↓apply_ite State.mram, ↓State.mk_mram, ite_self, ↓State.bumpSat_mram, ↓State.flag_mram, ↓takeSource_mram, implies_true]
theorem releaseAt_mram (x0 : Nat) (x1 : State) : (releaseAt x0 x1).mram = x1.mram := by
  rw [releaseAt]
  simp only [↓apply_ite State.mram, ↓State.mk_mram, ite_self, ↓releaseAll_mram, ↓restartAfter_mram, implies_true]
theorem doAutoRestartEnable_mram (x0 : State) : (doAutoRestartEnable x0).mram = x0.mram := by
  rw [doAutoRestartEnable]
  simp only [↓apply_ite State.mram, ↓State.mk_mram, ite_self, ↓each_mram, ↓railEnable_mram, implies_true]
theorem restartTick_mram (x0 : State) : (restartTick x0).mram = x0.mram := by
  rw [restartTick]
  repeat' split
  all_goals simp only [↓apply_ite State.mram, ↓State.mk_mram, ite_self, implies_true]
theorem doRetryWinExpire_mram (x0 : State) : (doRetryWinExpire x0).mram = x0.mram := by
  rw [doRetryWinExpire]
  simp only [↓apply_ite State.mram, ↓State.mk_mram, ite_self, ↓State.put_mram, implies_true]
theorem lockoutClearTick_mram (x0 : State) : (lockoutClearTick x0).mram = x0.mram := by
  rw [lockoutClearTick]
  simp only [↓apply_ite State.mram, ↓State.mk_mram, ite_self, ↓State.put_mram, ↓each_mram, ↓jobEnd_mram, ↓openBeat_mram, ↓releaseAll_mram, implies_true]
theorem showFault_mram (x0 : State) : (showFault x0).mram = x0.mram := by
  rw [showFault]
  simp only [↓apply_ite State.mram, ↓State.mk_mram, ite_self, ↓State.put_mram, ↓showHeld_mram, implies_true]
theorem countDies_mram (x0 : List Int) (x1 : State) : (countDies x0 x1).mram = x1.mram := by
  rw [countDies]
  repeat' split
  all_goals simp only [↓apply_ite State.mram, ↓State.mk_mram, ite_self, implies_true]
theorem thermSample_mram (x0 : TickInputs) (x1 : State) : (thermSample x0 x1).mram = x1.mram := by
  rw [thermSample]
  simp only [↓apply_ite State.mram, ↓State.mk_mram, ite_self, ↓State.put_mram, ↓State.putFit_mram, ↓countDies_mram, ↓each_mram, implies_true]
theorem doThermSensor_mram (x0 : Nat) (x1 : State) : (doThermSensor x0 x1).mram = x1.mram := by
  rw [doThermSensor]
  simp only [↓apply_ite State.mram, ↓State.mk_mram, ite_self, ↓State.flag_mram, ↓State.putBit_mram, ↓takeSource_mram, implies_true]
theorem pdissTick_mram (x0 : TickInputs) (x1 : State) : (pdissTick x0 x1).mram = x1.mram := by
  rw [pdissTick]
  simp only [↓apply_ite State.mram, ↓State.mk_mram, ite_self, ↓State.flag_mram, ↓State.putFit_mram, ↓endCondition_mram, ↓raiseLater_mram, implies_true]
theorem thermLevels_mram (x0 : State) : (thermLevels x0).mram = x0.mram := by
  rw [thermLevels]
  simp only [↓apply_ite State.mram, ↓State.mk_mram, ite_self, ↓State.flag_mram, ↓endCondition_mram, ↓railsFault_mram, ↓raiseLater_mram, implies_true]
theorem throttleTick_mram (x0 : State) : (throttleTick x0).mram = x0.mram := by
  rw [throttleTick]
  simp only [↓apply_ite State.mram, ↓State.mk_mram, ite_self, ↓State.flag_mram, ↓State.put_mram, ↓raiseLater_mram, implies_true]
theorem thermStage_mram (x0 : State) : (thermStage x0).mram = x0.mram := by
  rw [thermStage]
  simp only [↓apply_ite State.mram, ↓State.mk_mram, ite_self, ↓State.put_mram, implies_true]
theorem thermTick_mram (x0 : TickInputs) (x1 : State) : (thermTick x0 x1).mram = x1.mram := by
  rw [thermTick]
  simp only [↓apply_ite State.mram, ↓State.mk_mram, ite_self, ↓pdissTick_mram, ↓thermLevels_mram, ↓throttleTick_mram, implies_true]
theorem doThermShed_mram (x0 : State) : (doThermShed x0).mram = x0.mram := by
  rw [doThermShed]
  repeat' split
  all_goals simp only [↓apply_ite State.mram, ↓State.mk_mram, ite_self, ↓State.flag_mram, ↓State.putBit_mram, ↓railShed_mram, ↓raiseLater_mram, implies_true]
theorem thermEnd_mram (x0 : State) : (thermEnd x0).mram = x0.mram := by
  rw [thermEnd]
  simp only [↓apply_ite State.mram, ↓State.mk_mram, ite_self, ↓collectDue_mram, ↓thermStage_mram, implies_true]
theorem beginCycle_mram (x0 : State) : (beginCycle x0).mram = x0.mram := by
  rw [beginCycle]
  simp only [↓apply_ite State.mram, ↓State.mk_mram, ite_self, ↓State.flag_mram, ↓State.put_mram, implies_true]
theorem setChg_mram (x0 : ChgState) (x1 : State) : (setChg x0 x1).mram = x1.mram := by
  unfold setChg
  dsimp only
  repeat' split
  all_goals simp only [↓apply_ite State.mram, ↓State.mk_mram, ite_self, ↓State.bump_mram, ↓State.flag_mram, ↓State.put_mram, ↓beginCycle_mram, implies_true]
theorem revMark_mram (x0 : Nat) (x1 : State) : (revMark x0 x1).mram = x1.mram := by
  rw [revMark]
  simp only [↓apply_ite State.mram, ↓State.mk_mram, ite_self, ↓State.flag_mram, ↓State.put_mram, implies_true]
theorem revEnd_mram (x0 : Nat) (x1 : State) : (revEnd x0 x1).mram = x1.mram := by
  rw [revEnd]
  simp only [↓apply_ite State.mram, ↓State.mk_mram, ite_self, ↓revMark_mram, ↓setChg_mram, implies_true]
theorem showGates_mram (x0 : State) : (showGates x0).mram = x0.mram := by
  rw [showGates]
  simp only [↓apply_ite State.mram, ↓State.mk_mram, ite_self, ↓State.put_mram, implies_true]
theorem select_mram (x0 : Nat) (x1 : State) : (select x0 x1).mram = x1.mram := by
  rw [select]
  simp only [↓apply_ite State.mram, ↓State.mk_mram, ite_self, ↓State.bump_mram, ↓State.flag_mram, ↓State.put_mram, ↓revEnd_mram, ↓setChg_mram, ↓showGates_mram, implies_true]
theorem pathDown_mram (x0 : State) : (pathDown x0).mram = x0.mram := by
  rw [pathDown]
  simp only [↓apply_ite State.mram, ↓State.mk_mram, ite_self, ↓State.flag_mram, ↓raiseLater_mram, ↓select_mram, implies_true]
theorem pathUp_mram (x0 : State) : (pathUp x0).mram = x0.mram := by
  rw [pathUp]
  simp only [↓apply_ite State.mram, ↓State.mk_mram, ite_self, ↓State.flag_mram, ↓select_mram, implies_true]
theorem pathBeat_mram (x0 : State) : (pathBeat x0).mram = x0.mram := by
  rw [pathBeat]
  simp only [↓apply_ite State.mram, ↓State.mk_mram, ite_self, ↓showGates_mram, implies_true]
theorem qualify_mram (x0 : State) : (qualify x0).mram = x0.mram := by
  rw [qualify]
  repeat' split
  all_goals simp only [↓apply_ite State.mram, ↓State.mk_mram, ite_self, implies_true]
theorem dropSource_mram (x0 : Nat) (x1 : State) : (dropSource x0 x1).mram = x1.mram := by
  rw [dropSource]
  simp only [↓apply_ite State.mram, ↓State.mk_mram, ite_self, implies_true]
theorem cutPath_mram (x0 : Nat) (x1 : State) : (cutPath x0 x1).mram = x1.mram := by
  rw [cutPath]
  simp only [↓apply_ite State.mram, ↓State.mk_mram, ite_self, ↓dropSource_mram, ↓pathDown_mram, ↓showGates_mram, implies_true]
theorem vinOver_mram (x0 : Nat) (x1 : State) : (vinOver x0 x1).mram = x1.mram := by
  rw [vinOver]
  simp only [↓apply_ite State.mram, ↓State.mk_mram, ite_self, ↓State.flag_mram, ↓cutPath_mram, ↓when_mram, implies_true]
theorem auxOver_mram (x0 : Nat) (x1 : State) : (auxOver x0 x1).mram = x1.mram := by
  rw [auxOver]
  simp only [↓apply_ite State.mram, ↓State.mk_mram, ite_self, ↓State.flag_mram, ↓cutPath_mram, ↓raiseLater_mram, ↓when_mram, implies_true]
theorem pinLow_mram (x0 : Nat) (x1 : Nat) (x2 : Nat) (x3 : State) : (pinLow x0 x1 x2 x3).mram = x3.mram := by
  rw [pinLow]
  simp only [↓apply_ite State.mram, ↓State.mk_mram, ite_self, ↓dropSource_mram, ↓pathDown_mram, ↓when_mram, implies_true]
theorem doPathBatCutoff_mram (x0 : State) : (doPathBatCutoff x0).mram = x0.mram := by
  rw [doPathBatCutoff]
  simp only [↓apply_ite State.mram, ↓State.mk_mram, ite_self, ↓State.flag_mram, ↓pathDown_mram, ↓raiseLater_mram, ↓showGates_mram, implies_true]
theorem cutoffTick_mram (x0 : State) : (cutoffTick x0).mram = x0.mram := by
  rw [cutoffTick]
  simp only [↓apply_ite State.mram, ↓State.mk_mram, ite_self, implies_true]
theorem diodeTick_mram (x0 : TickInputs) (x1 : State) : (diodeTick x0 x1).mram = x1.mram := by
  rw [diodeTick]
  repeat' split
  all_goals simp only [↓apply_ite State.mram, ↓State.mk_mram, ite_self, implies_true]
theorem pathSample_mram (x0 : TickInputs) (x1 : State) : (pathSample x0 x1).mram = x1.mram := by
  rw [pathSample]
  simp only [↓apply_ite State.mram, ↓State.mk_mram, ite_self, ↓State.putFit_mram, implies_true]
theorem qualifyTick_mram (x0 : TickInputs) (x1 : State) : (qualifyTick x0 x1).mram = x1.mram := by
  rw [qualifyTick]
  simp only [↓apply_ite State.mram, ↓State.mk_mram, ite_self, ↓auxOver_mram, ↓pinLow_mram, ↓qualify_mram, ↓vinOver_mram, implies_true]
theorem takeLevel_mram (x0 : State) : (takeLevel x0).mram = x0.mram := by
  rw [takeLevel]
  simp only [↓apply_ite State.mram, ↓State.mk_mram, ite_self, ↓State.putFit_mram, implies_true]
theorem pathTick_mram (x0 : TickInputs) (x1 : State) : (pathTick x0 x1).mram = x1.mram := by
  rw [pathTick]
  simp only [↓apply_ite State.mram, ↓State.mk_mram, ite_self, ↓cutoffTick_mram, ↓doPathBatCutoff_mram, ↓pathDown_mram, ↓pathUp_mram, ↓qualifyTick_mram, ↓showGates_mram, ↓takeLevel_mram, implies_true]
theorem ntcCount_mram (x0 : TickInputs) (x1 : Nat) (x2 : State) : (ntcCount x0 x1 x2).mram = x2.mram := by
  rw [ntcCount]
  repeat' split
  all_goals simp only [↓apply_ite State.mram, ↓State.mk_mram, ite_self, implies_true]
theorem ntcTick_mram (x0 : TickInputs) (x1 : Nat) (x2 : State) : (ntcTick x0 x1 x2).mram = x2.mram := by
  rw [ntcTick]
  simp only [↓apply_ite State.mram, ↓State.mk_mram, ite_self, ↓endCondition_mram, ↓raiseLater_mram, implies_true]
theorem chargerSample_mram (x0 : TickInputs) (x1 : State) : (chargerSample x0 x1).mram = x1.mram := by
  rw [chargerSample]
  simp only [↓apply_ite State.mram, ↓State.mk_mram, ite_self, ↓State.putFit_mram, ↓State.putI_mram, ↓each_mram, ↓ntcCount_mram, ↓ntcTick_mram, implies_true]
theorem packLost_mram (x0 : State) : (packLost x0).mram = x0.mram := by
  rw [packLost]
  simp only [↓apply_ite State.mram, ↓State.mk_mram, ite_self, ↓pathDown_mram, ↓setChg_mram, implies_true]
theorem packFound_mram (x0 : State) : (packFound x0).mram = x0.mram := by
  rw [packFound]
  repeat' split
  all_goals simp only [↓apply_ite State.mram, ↓State.mk_mram, ite_self, implies_true]
theorem readPackid_mram (x0 : Nat) (x1 : State) : (readPackid x0 x1).mram = x1.mram := by
  rw [readPackid]
  simp only [↓apply_ite State.mram, ↓State.mk_mram, ite_self, ↓State.flag_mram, ↓State.put_mram, ↓raiseLater_mram, implies_true]
theorem chargeStop_mram (x0 : SrcKind) (x1 : Nat) (x2 : State) : (chargeStop x0 x1 x2).mram = x2.mram := by
  rw [chargeStop]
  simp only [↓apply_ite State.mram, ↓State.mk_mram, ite_self, ↓State.flag_mram, ↓raiseLater_mram, ↓setChg_mram, ↓when_mram, implies_true]
theorem doDetectDone_mram (x0 : Nat) (x1 : State) : (doDetectDone x0 x1).mram = x1.mram := by
  rw [doDetectDone]
  simp only [↓apply_ite State.mram, ↓State.mk_mram, ite_self, ↓State.flag_mram, ↓chargeStop_mram, ↓packFound_mram, ↓packLost_mram, ↓raiseLater_mram, ↓readPackid_mram, ↓setChg_mram, implies_true]
theorem chgStep_mram (x0 : ChgState) (x1 : ChgState) (x2 : Bool) (x3 : State) : (chgStep x0 x1 x2 x3).mram = x3.mram := by
  rw [chgStep]
  simp only [↓apply_ite State.mram, ↓State.mk_mram, ite_self, ↓setChg_mram, implies_true]
theorem doPrechargeDone_mram (x0 : State) : (doPrechargeDone x0).mram = x0.mram := by
  rw [doPrechargeDone]
  simp only [↓apply_ite State.mram, ↓State.mk_mram, ite_self, ↓chgStep_mram, implies_true]
theorem doCvEntry_mram (x0 : State) : (doCvEntry x0).mram = x0.mram := by
  rw [doCvEntry]
  simp only [↓apply_ite State.mram, ↓State.mk_mram, ite_self, ↓chgStep_mram, implies_true]
theorem doCvToCc_mram (x0 : State) : (doCvToCc x0).mram = x0.mram := by
  rw [doCvToCc]
  simp only [↓apply_ite State.mram, ↓State.mk_mram, ite_self, ↓chgStep_mram, implies_true]
theorem doRecharge_mram (x0 : State) : (doRecharge x0).mram = x0.mram := by
  rw [doRecharge]
  simp only [↓apply_ite State.mram, ↓State.mk_mram, ite_self, ↓chgStep_mram, implies_true]
theorem doEndOfCharge_mram (x0 : State) : (doEndOfCharge x0).mram = x0.mram := by
  rw [doEndOfCharge]
  simp only [↓apply_ite State.mram, ↓State.mk_mram, ite_self, ↓setChg_mram, implies_true]
theorem regainTemp_mram (x0 : State) : (regainTemp x0).mram = x0.mram := by
  rw [regainTemp]
  simp only [↓apply_ite State.mram, ↓State.mk_mram, ite_self, ↓endCondition_mram, implies_true]
theorem doChgTempRegain_mram (x0 : State) : (doChgTempRegain x0).mram = x0.mram := by
  rw [doChgTempRegain]
  simp only [↓apply_ite State.mram, ↓State.mk_mram, ite_self, ↓regainTemp_mram, ↓setChg_mram, implies_true]
theorem doChgTimer_mram (x0 : State) : (doChgTimer x0).mram = x0.mram := by
  rw [doChgTimer]
  simp only [↓apply_ite State.mram, ↓State.mk_mram, ite_self, ↓chargeStop_mram, implies_true]
theorem doChgPreTmo_mram (x0 : State) : (doChgPreTmo x0).mram = x0.mram := by
  rw [doChgPreTmo]
  simp only [↓apply_ite State.mram, ↓State.mk_mram, ite_self, ↓chargeStop_mram, implies_true]
theorem removal_mram (x0 : State) : (removal x0).mram = x0.mram := by
  rw [removal]
  simp only [↓apply_ite State.mram, ↓State.mk_mram, ite_self, ↓State.flag_mram, ↓packLost_mram, ↓raiseLater_mram, implies_true]
theorem probeBegin_mram (x0 : State) : (probeBegin x0).mram = x0.mram := by
  rw [probeBegin]
  repeat' split
  all_goals simp only [↓apply_ite State.mram, ↓State.mk_mram, ite_self, implies_true]
theorem probeEnd_mram (x0 : State) : (probeEnd x0).mram = x0.mram := by
  rw [probeEnd]
  simp only [↓apply_ite State.mram, ↓State.mk_mram, ite_self, ↓State.flag_mram, implies_true]
theorem collapseCount_mram (x0 : Nat) (x1 : State) : (collapseCount x0 x1).mram = x1.mram := by
  rw [collapseCount]
  repeat' split
  all_goals simp only [↓apply_ite State.mram, ↓State.mk_mram, ite_self, implies_true]
theorem watchRun_mram (x0 : Int) (x1 x2 x3 : Nat) (x4 : State) : (watchRun x0 x1 x2 x3 x4).mram = x4.mram := by
  induction x2 generalizing x3 x4 with
  | zero => rfl
  | succ f ih =>
    unfold watchRun
    dsimp only
    repeat' split
    all_goals simp only [↓ih, ↓removal_mram, ↓probeEnd_mram, ↓probeBegin_mram, ↓collapseCount_mram, ↓State.mk_mram]
theorem levelRun_mram (x0 : Int) (x1 : Nat) (x2 : Nat) (x3 : State) : (levelRun x0 x1 x2 x3).mram = x3.mram := by
  rw [levelRun]
  simp only [↓apply_ite State.mram, ↓State.mk_mram, ite_self, ↓chargeStop_mram, ↓when_mram, implies_true]
theorem packRun_mram (x0 : Int × Nat × Nat) (x1 : State) : (packRun x0 x1).mram = x1.mram := by
  rw [packRun]
  simp only [↓apply_ite State.mram, ↓State.mk_mram, ite_self, ↓levelRun_mram, ↓watchRun_mram, implies_true]
theorem packBeats_mram (x0 : List (Int × Nat × Nat)) (x1 : State) : (packBeats x0 x1).mram = x1.mram := by
  rw [packBeats]
  simp only [↓apply_ite State.mram, ↓State.mk_mram, ite_self, ↓each_mram, ↓packRun_mram, implies_true]
theorem doChgDetRetry_mram (x0 : State) : (doChgDetRetry x0).mram = x0.mram := by
  rw [doChgDetRetry]
  simp only [↓apply_ite State.mram, ↓State.mk_mram, ite_self, ↓setChg_mram, ↓showGates_mram, implies_true]
theorem doMpptSweep_mram (x0 : State) : (doMpptSweep x0).mram = x0.mram := by
  rw [doMpptSweep]
  simp only [↓apply_ite State.mram, ↓State.mk_mram, ite_self, ↓State.putFit_mram, implies_true]
theorem doMpptStep_mram (x0 : State) : (doMpptStep x0).mram = x0.mram := by
  rw [doMpptStep]
  simp only [↓apply_ite State.mram, ↓State.mk_mram, ite_self, ↓State.putFit_mram, implies_true]
theorem doRevVbatLow_mram (x0 : State) : (doRevVbatLow x0).mram = x0.mram := by
  rw [doRevVbatLow]
  simp only [↓apply_ite State.mram, ↓State.mk_mram, ite_self, ↓revEnd_mram, ↓showGates_mram, implies_true]
theorem doChgRevShort_mram (x0 : State) : (doChgRevShort x0).mram = x0.mram := by
  rw [doChgRevShort]
  simp only [↓apply_ite State.mram, ↓State.mk_mram, ite_self, ↓State.put_mram, ↓chargeStop_mram, ↓showGates_mram, implies_true]
theorem swapInput_mram (x0 : Nat) (x1 : State) : (swapInput x0 x1).mram = x1.mram := by
  rw [swapInput]
  simp only [↓apply_ite State.mram, ↓State.mk_mram, ite_self, ↓State.flag_mram, ↓State.put_mram, implies_true]
theorem inputTick_mram (x0 : State) : (inputTick x0).mram = x0.mram := by
  rw [inputTick]
  simp only [↓apply_ite State.mram, ↓State.mk_mram, ite_self, ↓revMark_mram, ↓setChg_mram, ↓swapInput_mram, implies_true]
theorem tempTick_mram (x0 : ChgState) (x1 : State) : (tempTick x0 x1).mram = x1.mram := by
  unfold tempTick
  dsimp only
  repeat' split
  all_goals simp only [↓apply_ite State.mram, ↓State.mk_mram, ite_self, ↓State.flag_mram, ↓raiseLater_mram, ↓regainTemp_mram, ↓revEnd_mram, ↓setChg_mram, implies_true]
theorem faultExit_mram (x0 : State) : (faultExit x0).mram = x0.mram := by
  rw [faultExit]
  simp only [↓apply_ite State.mram, ↓State.mk_mram, ite_self, ↓setChg_mram, implies_true]
theorem limitTick_mram (x0 : TickInputs) (x1 : State) : (limitTick x0 x1).mram = x1.mram := by
  rw [limitTick]
  simp only [↓apply_ite State.mram, ↓State.mk_mram, ite_self, ↓State.flag_mram, ↓State.put_mram, implies_true]
theorem countTick_mram (x0 : TickInputs) (x1 : State) : (countTick x0 x1).mram = x1.mram := by
  rw [countTick]
  repeat' split
  all_goals simp only [↓apply_ite State.mram, ↓State.mk_mram, ite_self, implies_true]
theorem timerTick_mram (x0 : State) : (timerTick x0).mram = x0.mram := by
  rw [timerTick]
  simp only [↓apply_ite State.mram, ↓State.mk_mram, ite_self, ↓State.putFit_mram, implies_true]
theorem mpptTick_mram (x0 : State) : (mpptTick x0).mram = x0.mram := by
  rw [mpptTick]
  simp only [↓apply_ite State.mram, ↓State.mk_mram, ite_self, implies_true]
theorem chargerTick_mram (x0 : TickInputs) (x1 : State) : (chargerTick x0 x1).mram = x1.mram := by
  rw [chargerTick]
  simp only [↓apply_ite State.mram, ↓State.mk_mram, ite_self, ↓State.put_mram, ↓countTick_mram, ↓doChgDetRetry_mram, ↓doChgPreTmo_mram, ↓doChgRevShort_mram, ↓doChgTempRegain_mram, ↓doChgTimer_mram, ↓doCvEntry_mram, ↓doCvToCc_mram, ↓doDetectDone_mram, ↓doEndOfCharge_mram, ↓doMpptStep_mram, ↓doMpptSweep_mram, ↓doPrechargeDone_mram, ↓doRecharge_mram, ↓doRevVbatLow_mram, ↓faultExit_mram, ↓inputTick_mram, ↓limitTick_mram, ↓mpptTick_mram, ↓showGates_mram, ↓tempTick_mram, ↓timerTick_mram, implies_true]
theorem forcePeak_mram (x0 : State) : (forcePeak x0).mram = x0.mram := by
  rw [forcePeak]
  simp only [↓apply_ite State.mram, ↓State.mk_mram, ite_self, ↓State.flag_mram, ↓revEnd_mram, ↓showGates_mram, implies_true]
theorem peakBeat_mram (x0 : Bool) (x1 : State) : (peakBeat x0 x1).mram = x1.mram := by
  rw [peakBeat]
  simp only [↓apply_ite State.mram, ↓State.mk_mram, ite_self, ↓State.bump_mram, ↓forcePeak_mram, ↓takeSource_mram, ↓when_mram, implies_true]
theorem setFull_mram (x0 : Bool) (x1 : State) : (setFull x0 x1).mram = x1.mram := by
  rw [setFull]
  simp only [↓apply_ite State.mram, ↓State.mk_mram, ite_self, ↓State.flag_mram, ↓when_mram, implies_true]
theorem powerBeats_mram (x0 : Nat) (x1 : Nat) (x2 : State) : (powerBeats x0 x1 x2).mram = x2.mram := by
  rw [powerBeats]
  simp only [↓apply_ite State.mram, ↓State.mk_mram, ite_self, ↓peakBeat_mram, ↓setFull_mram, implies_true]
theorem powerRun_mram (x0 : Nat × Nat) (x1 : State) : (powerRun x0 x1).mram = x1.mram := by
  rw [powerRun]
  simp only [↓apply_ite State.mram, ↓State.mk_mram, ite_self, ↓powerBeats_mram, implies_true]
theorem budgetSample_mram (x0 : TickInputs) (x1 : State) : (budgetSample x0 x1).mram = x1.mram := by
  rw [budgetSample]
  simp only [↓apply_ite State.mram, ↓State.mk_mram, ite_self, ↓State.putFit_mram, ↓each_mram, ↓powerRun_mram, ↓setFull_mram, implies_true]
theorem budgetShed_mram (x0 : Nat) (x1 : State) : (budgetShed x0 x1).2.mram = x1.mram := by
  rw [budgetShed]
  repeat' split
  all_goals simp only [↓apply_ite State.mram, ↓State.mk_mram, ite_self, ↓State.flag_mram, ↓State.putBit_mram, ↓railShed_mram, ↓raiseLater_mram, ↓apply_ite Prod.snd, ↓apply_ite Prod.fst, implies_true]
theorem allowanceTick_mram (x0 : State) : (allowanceTick x0).mram = x0.mram := by
  rw [allowanceTick]
  simp only [↓apply_ite State.mram, ↓State.mk_mram, ite_self, ↓State.flag_mram, ↓State.put_mram, ↓State.putFit_mram, implies_true]
theorem budgetTick_mram (x0 : TickInputs) (x1 : State) : (budgetTick x0 x1).mram = x1.mram := by
  unfold budgetTick
  simp only [↓apply_ite State.mram, ↓State.mk_mram, ite_self, ↓budgetShed_mram, ↓allowanceTick_mram, ↓State.flag_mram, ↓State.putFit_mram, implies_true, ↓apply_ite Prod.snd]
theorem doBudgetOver_mram (x0 : State) : (doBudgetOver x0).mram = x0.mram := by
  rw [doBudgetOver]
  simp only [↓apply_ite State.mram, ↓State.mk_mram, ite_self, ↓fdStop_mram, ↓raiseLater_mram, implies_true]
theorem setEst_mram (x0 : Estimator → Estimator) (x1 : State) : (setEst x0 x1).mram = x1.mram := by
  rw [setEst]
  repeat' split
  all_goals simp only [↓apply_ite State.mram, ↓State.mk_mram, ite_self, implies_true]
theorem endMeasure_mram (x0 : Nat) (x1 : State) : (endMeasure x0 x1).mram = x1.mram := by
  rw [endMeasure]
  repeat' split
  all_goals simp only [↓apply_ite State.mram, ↓State.mk_mram, ite_self, ↓State.flag_mram, ↓State.put_mram, ↓arbRelease_mram, ↓jobEnd?_mram, ↓setEst_mram, implies_true]
theorem estAsk_mram (x0 : State) : (estAsk x0).mram = x0.mram := by
  rw [estAsk]
  repeat' split
  all_goals simp only [↓apply_ite State.mram, ↓State.mk_mram, ite_self, implies_true]
theorem startPoint_mram (x0 : Measurement) (x1 : State) : (startPoint x0 x1).mram = x1.mram := by
  rw [startPoint]
  simp only [↓apply_ite State.mram, ↓State.mk_mram, ite_self, ↓setEst_mram, implies_true]
theorem doEstZPointStart_mram (x0 : State) : (doEstZPointStart x0).mram = x0.mram := by
  rw [doEstZPointStart]
  repeat' split
  all_goals simp only [↓apply_ite State.mram, ↓State.mk_mram, ite_self, ↓State.unitTaken_mram, ↓startPoint_mram, implies_true]
theorem estCount_mram (x0 : State) : (estCount x0).mram = x0.mram := by
  rw [estCount]
  repeat' split
  all_goals simp only [↓apply_ite State.mram, ↓State.mk_mram, ite_self, ↓setEst_mram, implies_true]
theorem doEstZPointAbandon_mram (x0 : Bool) (x1 : State) : (doEstZPointAbandon x0 x1).mram = x1.mram := by
  rw [doEstZPointAbandon]
  repeat' split
  all_goals simp only [↓apply_ite State.mram, ↓State.mk_mram, ite_self, ↓arbRelease_mram, ↓endMeasure_mram, ↓raiseLater_mram, ↓setEst_mram, implies_true]
theorem leaveHib_mram (x0 : State) : (leaveHib x0).mram = x0.mram := by
  rw [leaveHib]
  simp only [↓apply_ite State.mram, ↓State.mk_mram, ite_self, ↓State.flag_mram, ↓when_mram, implies_true]
theorem estOff_mram (x0 : State) : (estOff x0).mram = x0.mram := by
  rw [estOff]
  simp only [↓apply_ite State.mram, ↓State.mk_mram, ite_self, ↓State.put_mram, ↓endMeasure_mram, ↓leaveHib_mram, ↓setEst_mram, implies_true]
theorem setBk_mram (x0 : Backup → Backup) (x1 : State) : (setBk x0 x1).mram = x1.mram := by
  rw [setBk]
  repeat' split
  all_goals simp only [↓apply_ite State.mram, ↓State.mk_mram, ite_self, implies_true]
theorem pwronLatch_mram (x0 : State) : (pwronLatch x0).mram = x0.mram := by
  rw [pwronLatch]
  simp only [↓apply_ite State.mram, ↓State.mk_mram, ite_self, ↓State.flag_mram, ↓setBk_mram, implies_true]
theorem pwronUnlatch_mram (x0 : State) : (pwronUnlatch x0).mram = x0.mram := by
  rw [pwronUnlatch]
  simp only [↓apply_ite State.mram, ↓State.mk_mram, ite_self, ↓State.flag_mram, ↓setBk_mram, implies_true]
theorem pwronEvent_mram (x0 : Nat) (x1 : State) : (pwronEvent x0 x1).mram = x1.mram := by
  rw [pwronEvent]
  simp only [↓apply_ite State.mram, ↓State.mk_mram, ite_self, ↓pwronLatch_mram, implies_true]
theorem alarmFires_mram (x0 : State) : (alarmFires x0).mram = x0.mram := by
  rw [alarmFires]
  simp only [↓apply_ite State.mram, ↓State.mk_mram, ite_self, ↓State.flag_mram, ↓pwronEvent_mram, ↓setBk_mram, implies_true]
theorem capture_mram (x0 : State) : (capture x0).mram = x0.mram := by
  rw [capture]
  simp only [↓apply_ite State.mram, ↓State.mk_mram, ite_self, ↓State.put_mram, implies_true]
theorem setCalendar_mram (x0 : Nat) (x1 : State) : (setCalendar x0 x1).mram = x1.mram := by
  rw [setCalendar]
  simp only [↓apply_ite State.mram, ↓State.mk_mram, ite_self, ↓State.flag_mram, ↓calEnd_mram, ↓setBk_mram, implies_true]
theorem rtcOp_mram (x0 : RtcOp) (x1 : State) : (rtcOp x0 x1).mram = x1.mram := by
  unfold rtcOp
  repeat' split
  all_goals simp only [↓apply_ite State.mram, ↓State.mk_mram, ite_self, ↓capture_mram, ↓pwronLatch_mram, ↓pwronUnlatch_mram, ↓setCalendar_mram, implies_true]
theorem calWatch_mram (x0 : State) : (calWatch x0).mram = x0.mram := by
  rw [calWatch]
  repeat' split
  all_goals simp only [↓apply_ite State.mram, ↓State.mk_mram, ite_self, implies_true]
theorem windowStart_mram (x0 : State) : (windowStart x0).mram = x0.mram := by
  rw [windowStart]
  simp only [↓apply_ite State.mram, ↓State.mk_mram, ite_self, ↓setBk_mram, implies_true]
theorem bkEdge_mram (x0 : State) : (bkEdge x0).mram = x0.mram := by
  rw [bkEdge]
  simp only [↓apply_ite State.mram, ↓State.mk_mram, ite_self, ↓State.flag_mram, ↓alarmFires_mram, ↓calWatch_mram, ↓each_mram, ↓pwronUnlatch_mram, ↓rtcOp_mram, ↓setBk_mram, ↓windowStart_mram, implies_true]
theorem bkEdges_mram (x0 : Nat) (x1 : State) : (bkEdges x0 x1).mram = x1.mram := by
  induction x0 generalizing x1 with
  | zero => rfl
  | succ n ih => rw [bkEdges, ih, bkEdge_mram]
theorem bkBeat_mram (x0 : State) : (bkBeat x0).mram = x0.mram := by
  rw [bkBeat]
  simp only [↓apply_ite State.mram, ↓State.mk_mram, ite_self, ↓bkEdge_mram, ↓setBk_mram, implies_true]
theorem bkTick_mram (x0 : Nat) (x1 : State) : (bkTick x0 x1).mram = x1.mram := by
  rw [bkTick]
  simp only [↓apply_ite State.mram, ↓State.mk_mram, ite_self, ↓bkEdges_mram, ↓setBk_mram, implies_true]
theorem wakeActs_mram (x0 : State) : (wakeActs x0).mram = x0.mram := by
  rw [wakeActs]
  simp only [↓apply_ite State.mram, ↓State.mk_mram, ite_self, ↓pwronEvent_mram, implies_true]
theorem takeSupply_mram (x0 : Nat) (x1 : State) : (takeSupply x0 x1).mram = x1.mram := by
  rw [takeSupply]
  simp only [↓apply_ite State.mram, ↓State.mk_mram, ite_self, ↓State.flag_mram, ↓setBk_mram, implies_true]
theorem supplyBackup_mram (x0 : Nat) (x1 : Nat) (x2 : Nat) (x3 : State) : (supplyBackup x0 x1 x2 x3).mram = x3.mram := by
  rw [supplyBackup]
  repeat' split
  all_goals simp only [↓apply_ite State.mram, ↓State.mk_mram, ite_self, ↓takeSupply_mram, implies_true]
theorem doBackupSupplyChange_mram (x0 : Nat) (x1 : Nat) (x2 : Nat) (x3 : State) : (doBackupSupplyChange x0 x1 x2 x3).mram = x3.mram := by
  rw [doBackupSupplyChange]
  simp only [↓apply_ite State.mram, ↓State.mk_mram, ite_self, ↓supplyBackup_mram, ↓takeSupply_mram, implies_true]
theorem bkPins_mram (x0 : TickInputs) (x1 : State) : (bkPins x0 x1).mram = x1.mram := by
  rw [bkPins]
  simp only [↓apply_ite State.mram, ↓State.mk_mram, ite_self, ↓setBk_mram, implies_true]
theorem bkSample_mram (x0 : TickInputs) (x1 : State) : (bkSample x0 x1).mram = x1.mram := by
  rw [bkSample]
  simp only [↓apply_ite State.mram, ↓State.mk_mram, ite_self, ↓State.put_mram, ↓State.putFit_mram, ↓bkPins_mram, ↓takeSupply_mram, ↓wakeActs_mram, implies_true]
theorem vbakTick_mram (x0 : TickInputs) (x1 : State) : (vbakTick x0 x1).mram = x1.mram := by
  rw [vbakTick]
  simp only [↓apply_ite State.mram, ↓State.mk_mram, ite_self, ↓State.flag_mram, ↓endCondition_mram, ↓setBk_mram, ↓takeSource_mram, implies_true]
theorem bkSources_mram (x0 : TickInputs) (x1 : State) : (bkSources x0 x1).mram = x1.mram := by
  rw [bkSources]
  simp only [↓apply_ite State.mram, ↓State.mk_mram, ite_self, ↓setBk_mram, ↓takeSource_mram, ↓vbakTick_mram, implies_true]
theorem mainReset_mram (x0 : State) : (mainReset x0).mram = x0.mram := by
  rw [mainReset]
  simp only [↓apply_ite State.mram, ↓State.mk_mram, ite_self, ↓State.put_mram, implies_true]
theorem mainDown_mram (x0 : State) : (mainDown x0).mram = x0.mram := by
  rw [mainDown]
  simp only [↓apply_ite State.mram, ↓State.mk_mram, ite_self, ↓calEnd_mram, ↓estOff_mram, ↓mainReset_mram, ↓railsLost_mram, implies_true]
theorem stage1_mram (x0 : BootInputs) (x1 : State) : (stage1 x0 x1).mram = x1.mram := by
  rw [stage1]
  simp only [↓apply_ite State.mram, ↓State.mk_mram, ite_self, ↓State.bump_mram, ↓State.put_mram, implies_true]
theorem stage2_mram (x0 : BootInputs) (x1 : State) : (stage2 x0 x1).mram = x1.mram := by
  rw [stage2]
  repeat' split
  all_goals simp only [↓apply_ite State.mram, ↓State.mk_mram, ite_self, ↓State.flag_mram, ↓State.put_mram, ↓setBk_mram, implies_true]
theorem takeEffect_mram (x0 : State) : (takeEffect x0).mram = x0.mram := by
  rw [takeEffect]
  simp only [↓apply_ite State.mram, ↓State.mk_mram, ite_self, ↓State.put_mram, ↓State.putPhase_mram, ↓State.setPhaseE_mram, ↓State.setRailE_mram, ↓each_mram, ↓startStride_mram, implies_true]
theorem stage3_mram (x0 : BootInputs) (x1 : State) : (stage3 x0 x1).1.mram = x1.mram := by
  rw [stage3]
  repeat' split
  all_goals simp only [↓apply_ite State.mram, ↓State.mk_mram, ite_self, ↓State.bumpBy_mram, ↓State.flag_mram, ↓State.put_mram, ↓computeCrc_mram, ↓countDamaged_mram, ↓installSet_mram, ↓restoreLog_mram, ↓restoreRing_mram, ↓takeEffect_mram, ↓apply_ite Prod.snd, ↓apply_ite Prod.fst, implies_true]
theorem beginBoot_mram (x0 : Nat) (x1 : BootInputs) (x2 : State) : (beginBoot x0 x1 x2).mram = x2.mram := by
  rw [beginBoot]
  simp only [↓apply_ite State.mram, ↓State.mk_mram, ite_self, ↓State.bumpSat_mram, ↓State.flag_mram, ↓bkEdges_mram, ↓mainReset_mram, ↓pwronEvent_mram, ↓setBk_mram, ↓stage1_mram, ↓stage2_mram, ↓stage3_mram, implies_true]
theorem deviceReset_mram (x0 : Nat) (x1 : BootInputs) (x2 : State) : (deviceReset x0 x1 x2).mram = x2.mram := by
  rw [deviceReset]
  simp only [↓apply_ite State.mram, ↓State.mk_mram, ite_self, ↓beginBoot_mram, ↓calEnd_mram, ↓estOff_mram, ↓railsLost_mram, implies_true]
theorem setWdg_mram (x0 : Watchdog → Watchdog) (x1 : State) : (setWdg x0 x1).mram = x1.mram := by
  rw [setWdg]
  repeat' split
  all_goals simp only [↓apply_ite State.mram, ↓State.mk_mram, ite_self, implies_true]
theorem wdgToStart_mram (x0 : State) : (wdgToStart x0).mram = x0.mram := by
  rw [wdgToStart]
  simp only [↓apply_ite State.mram, ↓State.mk_mram, ite_self, ↓State.put_mram, ↓setWdg_mram, implies_true]
theorem wdgPeriodFrom_mram (x0 : Nat) (x1 : State) : (wdgPeriodFrom x0 x1).mram = x1.mram := by
  rw [wdgPeriodFrom]
  simp only [↓apply_ite State.mram, ↓State.mk_mram, ite_self, ↓State.put_mram, ↓setWdg_mram, implies_true]
theorem doWdgStartDelayEnd_mram (x0 : State) : (doWdgStartDelayEnd x0).mram = x0.mram := by
  rw [doWdgStartDelayEnd]
  simp only [↓apply_ite State.mram, ↓State.mk_mram, ite_self, ↓State.flag_mram, ↓State.put_mram, ↓wdgPeriodFrom_mram, implies_true]
theorem wdgPause_mram (x0 : State) : (wdgPause x0).mram = x0.mram := by
  rw [wdgPause]
  simp only [↓apply_ite State.mram, ↓State.mk_mram, ite_self, ↓State.put_mram, implies_true]
theorem wdgResume_mram (x0 : State) : (wdgResume x0).mram = x0.mram := by
  rw [wdgResume]
  simp only [↓apply_ite State.mram, ↓State.mk_mram, ite_self, ↓wdgToStart_mram, implies_true]
theorem wdgCapture_mram (x0 : Nat) (x1 : Nat) (x2 : Nat) (x3 : Nat) (x4 : Nat) (x5 : State) : (wdgCapture x0 x1 x2 x3 x4 x5).mram = x5.mram := by
  rw [wdgCapture]
  simp only [↓apply_ite State.mram, ↓State.mk_mram, ite_self, ↓State.put_mram, ↓each_mram, ↓setWdg_mram, implies_true]
theorem wdgPulse_mram (x0 : State) : (wdgPulse x0).mram = x0.mram := by
  rw [wdgPulse]
  simp only [↓apply_ite State.mram, ↓State.mk_mram, ite_self, ↓setWdg_mram, implies_true]
theorem wdgVerdict_mram (x0 : Bool) (x1 : Nat) (x2 : State) : (wdgVerdict x0 x1 x2).2.mram = x2.mram := by
  rw [wdgVerdict]
  simp only [↓apply_ite State.mram, ↓State.mk_mram, ite_self, ↓State.bump_mram, ↓State.flag_mram, ↓railsLost_mram, ↓takeSource_mram, ↓wdgCapture_mram, ↓wdgPulse_mram, ↓apply_ite Prod.snd, ↓apply_ite Prod.fst, implies_true]
theorem noteReset_mram (x0 : Bool) (x1 : State) : (noteReset x0 x1).mram = x1.mram := by
  rw [noteReset]
  simp only [↓apply_ite State.mram, ↓State.mk_mram, ite_self, ↓setWdg_mram, implies_true]
theorem wdgPeriodEnd_mram (x0 : State) : (wdgPeriodEnd x0).mram = x0.mram := by
  rw [wdgPeriodEnd]
  simp only [↓apply_ite State.mram, ↓State.mk_mram, ite_self, ↓noteReset_mram, ↓wdgPeriodFrom_mram, ↓wdgVerdict_mram, implies_true]
theorem wdgClkTrip_mram (x0 : State) : (wdgClkTrip x0).mram = x0.mram := by
  rw [wdgClkTrip]
  simp only [↓apply_ite State.mram, ↓State.mk_mram, ite_self, ↓State.flag_mram, ↓State.put_mram, ↓noteReset_mram, ↓setWdg_mram, ↓takeSource_mram, ↓wdgPeriodFrom_mram, ↓wdgVerdict_mram, implies_true]
theorem doWdgRstPulseEnd_mram (x0 : State) : (doWdgRstPulseEnd x0).mram = x0.mram := by
  rw [doWdgRstPulseEnd]
  repeat' split
  all_goals simp only [↓apply_ite State.mram, ↓State.mk_mram, ite_self, ↓setWdg_mram, ↓wdgToStart_mram, implies_true]
theorem wdgBeat_mram (x0 : State) : (wdgBeat x0).mram = x0.mram := by
  rw [wdgBeat]
  simp only [↓apply_ite State.mram, ↓State.mk_mram, ite_self, ↓doWdgRstPulseEnd_mram, ↓doWdgStartDelayEnd_mram, ↓wdgPeriodEnd_mram, implies_true]
theorem setLock_mram (x0 : State) : (setLock x0).mram = x0.mram := by
  rw [setLock]
  simp only [↓apply_ite State.mram, ↓State.mk_mram, ite_self, ↓State.flag_mram, ↓State.put_mram, implies_true]
theorem doWdgCoreTrip_mram (x0 : BootInputs) (x1 : State) : (doWdgCoreTrip x0 x1).mram = x1.mram := by
  rw [doWdgCoreTrip]
  simp only [↓apply_ite State.mram, ↓State.mk_mram, ite_self, ↓State.bumpSat_mram, ↓State.flag_mram, ↓deviceReset_mram, implies_true]
theorem coreRestart_mram (x0 : State) : (coreRestart x0).mram = x0.mram := by
  rw [coreRestart]
  simp only [↓apply_ite State.mram, ↓State.mk_mram, ite_self, ↓setWdg_mram, implies_true]
theorem wdgTick_mram (x0 : TickInputs) (x1 : State) : (wdgTick x0 x1).mram = x1.mram := by
  rw [wdgTick]
  simp only [↓apply_ite State.mram, ↓State.mk_mram, ite_self, ↓State.put_mram, ↓doWdgStartDelayEnd_mram, ↓setWdg_mram, ↓wdgBeat_mram, ↓wdgClkTrip_mram, implies_true]
theorem setPair_mram (x0 : Pair → Pair) (x1 : State) : (setPair x0 x1).mram = x1.mram := by
  rw [setPair]
  repeat' split
  all_goals simp only [↓apply_ite State.mram, ↓State.mk_mram, ite_self, implies_true]
theorem sendFrames_mram (x0 : State) : (sendFrames x0).mram = x0.mram := by
  rw [sendFrames]
  repeat' split
  all_goals simp only [↓apply_ite State.mram, ↓State.mk_mram, ite_self, ↓setPair_mram, implies_true]
theorem doFastFrameSend_mram (x0 : State) : (doFastFrameSend x0).mram = x0.mram := by
  rw [doFastFrameSend]
  simp only [↓apply_ite State.mram, ↓State.mk_mram, ite_self, ↓sendFrames_mram, implies_true]
theorem takeCarriage_mram (x0 : State) : (takeCarriage x0).mram = x0.mram := by
  rw [takeCarriage]
  simp only [↓apply_ite State.mram, ↓State.mk_mram, ite_self, ↓State.put_mram, ↓each_mram, implies_true]
theorem doAnnouncedStop_mram (x0 : Nat) (x1 : State) : (doAnnouncedStop x0 x1).mram = x1.mram := by
  rw [doAnnouncedStop]
  repeat' split
  all_goals simp only [↓apply_ite State.mram, ↓State.mk_mram, ite_self, ↓railStopAnnounced_mram, implies_true]
theorem announcedBeat_mram (x0 : State) : (announcedBeat x0).mram = x0.mram := by
  rw [announcedBeat]
  simp only [↓apply_ite State.mram, ↓State.mk_mram, ite_self, ↓doAnnouncedStop_mram, ↓each_mram, implies_true]
theorem stopsAtOnce_mram (x0 : State) : (stopsAtOnce x0).mram = x0.mram := by
  rw [stopsAtOnce]
  simp only [↓apply_ite State.mram, ↓State.mk_mram, ite_self, ↓each_mram, ↓railStopAnnounced_mram, implies_true]
theorem roleAlone_mram (x0 : State) : (roleAlone x0).mram = x0.mram := by
  rw [roleAlone]
  simp only [↓apply_ite State.mram, ↓State.mk_mram, ite_self, ↓State.put_mram, ↓setPair_mram, implies_true]
theorem dropJoin_mram (x0 : State) : (dropJoin x0).mram = x0.mram := by
  rw [dropJoin]
  simp only [↓apply_ite State.mram, ↓State.mk_mram, ite_self, ↓setPair_mram, implies_true]
theorem toSolo_mram (x0 : State) : (toSolo x0).mram = x0.mram := by
  rw [toSolo]
  simp only [↓apply_ite State.mram, ↓State.mk_mram, ite_self, ↓State.put_mram, ↓dropJoin_mram, ↓setPair_mram, ↓stopsAtOnce_mram, implies_true]
theorem doPairLinkLost_mram (x0 : State) : (doPairLinkLost x0).mram = x0.mram := by
  rw [doPairLinkLost]
  repeat' split
  all_goals simp only [↓apply_ite State.mram, ↓State.mk_mram, ite_self, ↓State.bump_mram, ↓State.flag_mram, ↓takeSource_mram, ↓toSolo_mram, implies_true]
theorem doJoinWaitExpire_mram (x0 : State) : (doJoinWaitExpire x0).mram = x0.mram := by
  rw [doJoinWaitExpire]
  simp only [↓apply_ite State.mram, ↓State.mk_mram, ite_self, ↓State.put_mram, ↓roleAlone_mram, ↓takeCarriage_mram, implies_true]
theorem pairBoot_mram (x0 : State) : (pairBoot x0).mram = x0.mram := by
  rw [pairBoot]
  simp only [↓apply_ite State.mram, ↓State.mk_mram, ite_self, ↓State.put_mram, ↓setPair_mram, implies_true]
theorem pairTick_mram (x0 : State) : (pairTick x0).mram = x0.mram := by
  rw [pairTick]
  simp only [↓apply_ite State.mram, ↓State.mk_mram, ite_self, ↓State.put_mram, ↓collectDue_mram, ↓each_mram, ↓raiseLater_mram, ↓setPair_mram, implies_true]
theorem StrideItem.act_mram (x0 : StrideItem) (x1 : State) : (StrideItem.act x0 x1).mram = x1.mram := by
  unfold StrideItem.act
  repeat' split
  all_goals simp only [↓apply_ite State.mram, ↓State.mk_mram, ite_self, ↓doAngleTrigger_mram, ↓doBurstSlot_mram, ↓doEstZPointStart_mram, ↓doRhSettleStart_mram, ↓doWaitStrideDone_mram, ↓openWindow_mram, implies_true]
theorem strideWork_mram (x0 : State) : (strideWork x0).mram = x0.mram := by
  rw [strideWork]
  simp only [↓apply_ite State.mram, ↓State.mk_mram, ite_self, ↓StrideItem.act_mram, ↓closeBy_mram, ↓each_mram, ↓raiseBreach_mram, implies_true]
theorem doStrideStart_mram (x0 : State) : (doStrideStart x0).mram = x0.mram := by
  rw [doStrideStart]
  simp only [↓apply_ite State.mram, ↓State.mk_mram, ite_self, ↓newStride_mram, ↓strideWork_mram, implies_true]
theorem beatCount_mram (x0 : State) : (beatCount x0).mram = x0.mram := by
  rw [beatCount]
  simp only [↓apply_ite State.mram, ↓State.mk_mram, ite_self, ↓bkBeat_mram, ↓each_mram, ↓estCount_mram, ↓pathBeat_mram, ↓xbBeat_mram, implies_true]
theorem beatCheck_mram (x0 : State) : (beatCheck x0).mram = x0.mram := by
  rw [beatCheck]
  simp only [↓apply_ite State.mram, ↓State.mk_mram, ite_self, ↓announcedBeat_mram, ↓collectDue_mram, ↓dividerBeat_mram, ↓doBurstSlot_mram, ↓doPairLinkLost_mram, ↓doStrideHoldLong_mram, ↓doStrideMissingEdge_mram, ↓doStrideStart_mram, ↓each_mram, ↓railBeat_mram, ↓rhBeat_mram, ↓seqBeat_mram, ↓strideWork_mram, ↓wdgBeat_mram, ↓when_mram, implies_true]
theorem State.idle_mram (x0 : State) : (State.idle x0).mram = x0.mram := by
  rw [State.idle]
  simp only [↓apply_ite State.mram, ↓State.mk_mram, ite_self, ↓closeBeat_mram, ↓nextBeat_mram, implies_true]
theorem showJobs_mram (x0 : State) : (showJobs x0).mram = x0.mram := by
  rw [showJobs]
  simp only [↓apply_ite State.mram, ↓State.mk_mram, ite_self, ↓State.put_mram, implies_true]
theorem showGait_mram (x0 : State) : (showGait x0).mram = x0.mram := by
  rw [showGait]
  simp only [↓apply_ite State.mram, ↓State.mk_mram, ite_self, ↓State.put_mram, implies_true]
theorem showRef_mram (x0 : Nat) (x1 : State) : (showRef x0 x1).mram = x1.mram := by
  rw [showRef]
  simp only [↓apply_ite State.mram, ↓State.mk_mram, ite_self, ↓State.putFit_mram, implies_true]
theorem publishLive_mram (x0 : State) : (publishLive x0).mram = x0.mram := by
  rw [publishLive]
  simp only [↓apply_ite State.mram, ↓State.mk_mram, ite_self, ↓State.bump_mram, ↓each_mram, ↓showFault_mram, ↓showGait_mram, ↓showJobs_mram, ↓showRef_mram, ↓showStaging_mram, ↓updateCrc_mram, implies_true]
theorem publishFirst_mram (x0 : State) : (publishFirst x0).mram = x0.mram := by
  rw [publishFirst]
  simp only [↓apply_ite State.mram, ↓State.mk_mram, ite_self, ↓publishLive_mram, implies_true]
theorem moveDev_mram (x0 : DevState) (x1 : Nat) (x2 : State) : (moveDev x0 x1 x2).mram = x2.mram := by
  rw [moveDev]
  simp only [↓apply_ite State.mram, ↓State.mk_mram, ite_self, ↓endMeasure_mram, ↓enterDev_mram, ↓rhLeaves_mram, implies_true]
theorem startUp_mram (x0 : Nat) (x1 : State) : (startUp x0 x1).mram = x1.mram := by
  rw [startUp]
  simp only [↓apply_ite State.mram, ↓State.mk_mram, ite_self, ↓State.put_mram, ↓moveDev_mram, ↓startPowerUp_mram, implies_true]
theorem leaveDoze_mram (x0 : Nat) (x1 : State) : (leaveDoze x0 x1).mram = x1.mram := by
  rw [leaveDoze]
  simp only [↓apply_ite State.mram, ↓State.mk_mram, ite_self, ↓moveDev_mram, ↓wdgResume_mram, implies_true]
theorem enterDoze_mram (x0 : State) : (enterDoze x0).mram = x0.mram := by
  rw [enterDoze]
  simp only [↓apply_ite State.mram, ↓State.mk_mram, ite_self, ↓moveDev_mram, ↓wdgPause_mram, implies_true]
theorem autostartNext_mram (x0 : State) : (autostartNext x0).mram = x0.mram := by
  rw [autostartNext]
  repeat' split
  all_goals simp only [↓apply_ite State.mram, ↓State.mk_mram, ite_self, implies_true]
theorem enterBackup_mram (x0 : Nat) (x1 : Nat) (x2 : State) : (enterBackup x0 x1 x2).mram = x2.mram := by
  rw [enterBackup]
  simp only [↓apply_ite State.mram, ↓State.mk_mram, ite_self, ↓State.put_mram, ↓enterDev_mram, ↓mainDown_mram, ↓railsLost_mram, ↓setPair_mram, ↓supplyBackup_mram, implies_true]
theorem fdHalt_mram (x0 : State) : (fdHalt x0).mram = x0.mram := by
  rw [fdHalt]
  simp only [↓apply_ite State.mram, ↓State.mk_mram, ite_self, ↓setFd_mram, ↓setIbusGood_mram, implies_true]
theorem enterLockout_mram (x0 : State) : (enterLockout x0).mram = x0.mram := by
  rw [enterLockout]
  simp only [↓apply_ite State.mram, ↓State.mk_mram, ite_self, ↓fdHalt_mram, ↓moveDev_mram, ↓railsFault_mram, ↓raiseAlarm_mram, ↓seqHalt_mram, ↓setPair_mram, ↓wdgResume_mram, implies_true]
theorem finishDown_mram (x0 : State) : (finishDown x0).mram = x0.mram := by
  rw [finishDown]
  simp only [↓apply_ite State.mram, ↓State.mk_mram, ite_self, ↓autostartNext_mram, ↓enterBackup_mram, ↓fdHalt_mram, ↓moveDev_mram, ↓seqIdle_mram, implies_true]
theorem dozeTick_mram (x0 : State) : (dozeTick x0).mram = x0.mram := by
  rw [dozeTick]
  repeat' split
  all_goals simp only [↓apply_ite State.mram, ↓State.mk_mram, ite_self, ↓leaveDoze_mram, implies_true]
theorem doAutostart_mram (x0 : State) : (doAutostart x0).mram = x0.mram := by
  rw [doAutostart]
  simp only [↓apply_ite State.mram, ↓State.mk_mram, ite_self, ↓startUp_mram, implies_true]
theorem doEnterStandby_mram (x0 : State) : (doEnterStandby x0).mram = x0.mram := by
  rw [doEnterStandby]
  simp only [↓apply_ite State.mram, ↓State.mk_mram, ite_self, ↓finishDown_mram, ↓startUp_mram, implies_true]
theorem doFallToOff_mram (x0 : State) : (doFallToOff x0).mram = x0.mram := by
  rw [doFallToOff]
  repeat' split
  all_goals simp only [↓apply_ite State.mram, ↓State.mk_mram, ite_self, implies_true]
theorem doBootBegin_mram (x0 : BootInputs) (x1 : State) : (doBootBegin x0 x1).mram = x1.mram := by
  rw [doBootBegin]
  simp only [↓apply_ite State.mram, ↓State.mk_mram, ite_self, ↓beginBoot_mram, ↓setBk_mram, implies_true]
theorem takeCopies_mram (x0 : State) : (takeCopies x0).mram = x0.mram := by
  rw [takeCopies]
  simp only [↓apply_ite State.mram, ↓State.mk_mram, ite_self, ↓State.put_mram, ↓railToOff_mram, ↓setBk_mram, implies_true]
theorem raiseBoot_mram (x0 : SrcKind × Nat) (x1 : State) : (raiseBoot x0 x1).mram = x1.mram := by
  rw [raiseBoot]
  simp only [↓apply_ite State.mram, ↓State.mk_mram, ite_self, ↓fillFfr_mram, ↓takeSource_mram, implies_true]
theorem startUnits_mram (x0 : State) : (startUnits x0).mram = x0.mram := by
  rw [startUnits]
  simp only [↓apply_ite State.mram, ↓State.mk_mram, ite_self, ↓State.put_mram, ↓bootRecord_mram, ↓doWdgStartDelayEnd_mram, ↓pairBoot_mram, ↓setWdg_mram, ↓wdgToStart_mram, implies_true]
theorem doEndOfBoot_mram (x0 : Boot) (x1 : State) : (doEndOfBoot x0 x1).mram = x1.mram := by
  rw [doEndOfBoot]
  simp only [↓apply_ite State.mram, ↓State.mk_mram, ite_self, ↓State.bumpSat_mram, ↓State.flag_mram, ↓State.put_mram, ↓autostartNext_mram, ↓capture_mram, ↓each_mram, ↓moveDev_mram, ↓publishFirst_mram, ↓raiseBoot_mram, ↓setBk_mram, ↓startUnits_mram, ↓takeCopies_mram, implies_true]
theorem doSysrstNAssert_mram (x0 : State) : (doSysrstNAssert x0).mram = x0.mram := by
  rw [doSysrstNAssert]
  simp only [↓apply_ite State.mram, ↓State.mk_mram, ite_self, ↓State.flag_mram, ↓calEnd_mram, ↓estOff_mram, ↓mainReset_mram, ↓railsLost_mram, implies_true]
theorem enSample_mram (x0 : TickInputs) (x1 : State) : (enSample x0 x1).mram = x1.mram := by
  rw [enSample]
  simp only [↓apply_ite State.mram, ↓State.mk_mram, ite_self, ↓State.flag_mram, ↓State.put_mram, ↓offRequest_mram, implies_true]
theorem powerTick_mram (x0 : State) : (powerTick x0).mram = x0.mram := by
  rw [powerTick]
  repeat' split
  all_goals simp only [↓apply_ite State.mram, ↓State.mk_mram, ite_self, ↓dozeTick_mram, ↓enterBackup_mram, ↓enterDoze_mram, ↓enterLockout_mram, ↓moveDev_mram, ↓seqIdle_mram, ↓startUp_mram, implies_true]
theorem endUpload_mram (x0 : JobStatus) (x1 : State) : (endUpload x0 x1).mram = x1.mram := by
  rw [endUpload]
  repeat' split
  all_goals simp only [↓apply_ite State.mram, ↓State.mk_mram, ite_self, ↓jobEnd_mram, implies_true]
theorem uploadTick_mram (x0 : Bool) (x1 : State) : (uploadTick x0 x1).mram = x1.mram := by
  rw [uploadTick]
  repeat' split
  all_goals simp only [↓apply_ite State.mram, ↓State.mk_mram, ite_self, ↓endUpload_mram, implies_true]
theorem dropSegments_mram (x0 : State) : (dropSegments x0).mram = x0.mram := by
  rw [dropSegments]
  repeat' split
  all_goals simp only [↓apply_ite State.mram, ↓State.mk_mram, ite_self, ↓endUpload_mram, implies_true]
theorem doSegReadTimeout_mram (x0 : State) : (doSegReadTimeout x0).mram = x0.mram := by
  rw [doSegReadTimeout]
  repeat' split
  all_goals simp only [↓apply_ite State.mram, ↓State.mk_mram, ite_self, ↓dropSegments_mram, implies_true]
theorem dischargeEnd_mram (x0 : TickInputs) (x1 : Nat) (x2 : State) : (dischargeEnd x0 x1 x2).mram = x2.mram := by
  rw [dischargeEnd]
  simp only [↓apply_ite State.mram, ↓State.mk_mram, ite_self, ↓doRailDischarged_mram, implies_true]
theorem samplePack_mram (x0 : TickInputs) (x1 : State) : (samplePack x0 x1).mram = x1.mram := by
  rw [samplePack]
  simp only [↓apply_ite State.mram, ↓State.mk_mram, ite_self, ↓chargerSample_mram, ↓packBeats_mram, ↓pathSample_mram, implies_true]
theorem railSources_mram (x0 : TickInputs) (x1 : State) : (railSources x0 x1).mram = x1.mram := by
  rw [railSources]
  simp only [↓apply_ite State.mram, ↓State.mk_mram, ite_self, ↓auxSources_mram, ↓doFdSurgeLong_mram, ↓doRailDisSlow_mram, ↓each_mram, ↓phaseCool_mram, ↓phaseWarn_mram, implies_true]
theorem injectTick_mram (x0 : State) : (injectTick x0).mram = x0.mram := by
  rw [injectTick]
  simp only [↓apply_ite State.mram, ↓State.mk_mram, ite_self, ↓doArbGrant_mram, ↓doEstZPointStart_mram, ↓doRhSettleStart_mram, ↓estAsk_mram, ↓rhComputeTick_mram, ↓rhTick_mram, implies_true]
theorem recoveryTick_mram (x0 : State) : (recoveryTick x0).mram = x0.mram := by
  rw [recoveryTick]
  simp only [↓apply_ite State.mram, ↓State.mk_mram, ite_self, ↓doAutoAck_mram, ↓doAutoRestartEnable_mram, ↓doRetryWinExpire_mram, ↓lockoutClearTick_mram, ↓quietTick_mram, ↓releaseAt_mram, ↓restartTick_mram, implies_true]
theorem slowSources_mram (x0 : TickInputs) (x1 : State) : (slowSources x0 x1).mram = x1.mram := by
  rw [slowSources]
  simp only [↓apply_ite State.mram, ↓State.mk_mram, ite_self, ↓bkSources_mram, ↓chatterTick_mram, ↓collectDue_mram, ↓doEstZPointAbandon_mram, ↓doJoinWaitExpire_mram, ↓doThermSensor_mram, ↓each_mram, ↓eccCorrected_mram, ↓injectTick_mram, ↓pairTick_mram, ↓railSources_mram, ↓recoveryTick_mram, implies_true]
theorem stateTick_mram (x0 : State) : (stateTick x0).mram = x0.mram := by
  rw [stateTick]
  simp only [↓apply_ite State.mram, ↓State.mk_mram, ite_self, ↓doAutostart_mram, ↓doEnterStandby_mram, ↓doGaitalrmRelease_mram, ↓powerTick_mram, implies_true]
theorem regulate_mram (x0 : TickInputs) (x1 : State) : (regulate x0 x1).mram = x1.mram := by
  rw [regulate]
  simp only [↓apply_ite State.mram, ↓State.mk_mram, ite_self, ↓auxTick_mram, ↓budgetTick_mram, ↓chargerTick_mram, ↓dividerTick_mram, ↓doBudgetOver_mram, ↓doFdOffDelay_mram, ↓doThermShed_mram, ↓pathTick_mram, ↓phaseTick_mram, ↓thermEnd_mram, ↓thermTick_mram, implies_true]
theorem stepEight_mram (x0 : TickInputs) (x1 : State) : (stepEight x0 x1).mram = x1.mram := by
  rw [stepEight]
  simp only [↓apply_ite State.mram, ↓State.mk_mram, ite_self, ↓seqBeat_mram, ↓wdgTick_mram, implies_true]
theorem showTelemetry_mram (x0 : TickInputs) (x1 : State) : (showTelemetry x0 x1).mram = x1.mram := by
  rw [showTelemetry]
  simp only [↓apply_ite State.mram, ↓State.mk_mram, ite_self, ↓State.put_mram, ↓State.putFit_mram, implies_true]
theorem publish_mram (x0 : TickInputs) (x1 : State) : (publish x0 x1).mram = x1.mram := by
  rw [publish]
  simp only [↓apply_ite State.mram, ↓State.mk_mram, ite_self, ↓coreRestart_mram, ↓publishLive_mram, ↓showTelemetry_mram, implies_true]
theorem backupTick_mram (x0 : TickInputs) (x1 : State) : (backupTick x0 x1).mram = x1.mram := by
  rw [backupTick]
  simp only [↓apply_ite State.mram, ↓State.mk_mram, ite_self, ↓bkPins_mram, ↓bkTick_mram, ↓diodeTick_mram, ↓doBackupSupplyChange_mram, implies_true]
end Sys2Proof.Machine
end

