-- ==== Sys2Proof/Laws/MramWork.lean ====
section
/-! SUPPORT. The operations that commit records keep the MRAM's canonical form, and so does the tick. -/

namespace Sys2Proof.Machine

/-- An operation that leaves the MRAM alone keeps its form. -/
theorem wf_of_mram {s t : State} (h : Mram.wf s.mram = true) (e : t.mram = s.mram) : Mram.wf t.mram = true := by
  rw [e]; exact h

/-- Effects that each keep the form keep it together. -/
theorem each_wf {α : Type} {l : List α} {f : α → State → State} {s : State}
    (hf : ∀ a t, Mram.wf t.mram = true → Mram.wf (f a t).mram = true) (h : Mram.wf s.mram = true) :
    Mram.wf (each l f s).mram = true := by
  unfold each
  induction l generalizing s with
  | nil => exact h
  | cons a l ih => exact ih (hf a s h)

/-! ## Records -/

theorem nvAbandon_wf {s : State} {r : Ring} {p : List Byte} (h : Mram.wf s.mram = true) :
    Mram.wf (s.nvAbandon r p).mram = true := by
  rw [State.nvAbandon]
  dsimp only
  rw [writeFailed_mram]
  exact State.nvWrite_wf _ _ h

theorem nvStore_wf {s : State} {r : Ring} {p : List Byte} (h : Mram.wf s.mram = true) :
    Mram.wf (s.nvStore r p).mram = true := by
  rw [State.nvStore]
  split
  · exact nvAbandon_wf h
  · exact State.nvCommit_mram_wf _ _ _ h

theorem commitCkpt_wf {s : State} (h : Mram.wf s.mram = true) : Mram.wf (commitCkpt s).mram = true := by
  rw [commitCkpt]
  split
  · exact nvStore_wf h
  · exact h

theorem commitLearn_wf {s : State} (h : Mram.wf s.mram = true) : Mram.wf (commitLearn s).mram = true := by
  rw [commitLearn]
  simp only
  split
  · exact nvStore_wf h
  · simp only [↓State.put_mram]
    exact nvStore_wf h

theorem commitLearned_wf {s : State} (h : Mram.wf s.mram = true) : Mram.wf (commitLearned s).mram = true := by
  rw [commitLearned]
  split
  · exact commitLearn_wf (wf_of_mram h (setEst_mram _ _))
  · exact h

theorem commitFfr_wf {s : State} (h : Mram.wf s.mram = true) : Mram.wf (commitFfr s).mram = true := by
  rw [commitFfr]
  split
  · dsimp only
    split
    · exact h
    · exact nvStore_wf h
  · exact h

theorem commitWdg_wf {s : State} (h : Mram.wf s.mram = true) : Mram.wf (commitWdg s).mram = true := by
  rw [commitWdg]
  split
  · exact nvStore_wf h
  · exact h

theorem doEstCheckpoint_wf {s : State} (h : Mram.wf s.mram = true) : Mram.wf (doEstCheckpoint s).mram = true := by
  rw [doEstCheckpoint]
  split
  · exact commitCkpt_wf h
  · exact h

/-! ## The log -/

theorem clearLog_wf {s : State} (h : Mram.wf s.mram = true) : Mram.wf (clearLog s).mram = true := by
  rw [clearLog]
  dsimp only
  simp only [↓showBuf_mram]
  split
  · exact nvStore_wf h
  · simp only [↓State.flag_mram, ↓State.put_mram]
    exact nvStore_wf h

theorem commitOldest_wf {s : State} (h : Mram.wf s.mram = true) : Mram.wf (commitOldest s).mram = true := by
  rw [commitOldest]
  split
  · exact h
  · simp only [↓showBuf_mram, ↓State.bump_mram, ↓State.put_mram, ↓State.mk_mram]
    exact State.nvWrite_wf _ _ h

theorem abandonOldest_wf {s : State} (h : Mram.wf s.mram = true) : Mram.wf (abandonOldest s).mram = true := by
  rw [abandonOldest]
  split
  · exact h
  · simp only [↓writeFailed_mram, ↓showBuf_mram, ↓State.mk_mram]
    exact State.nvWrite_wf _ _ h

theorem commitMany_wf {n : Nat} {s : State} (h : Mram.wf s.mram = true) : Mram.wf (commitMany n s).mram = true := by
  induction n generalizing s with
  | zero => exact h
  | succ n ih => exact ih (commitOldest_wf h)

/-- Records are committed, of which the last may fail. -/
theorem commitRun_wf {n : Nat} {c : Bool} {s : State} (h : Mram.wf s.mram = true) :
    Mram.wf (if c = true then abandonOldest (commitMany n s) else commitMany n s).mram = true := by
  split
  · exact abandonOldest_wf (commitMany_wf h)
  · exact commitMany_wf h

theorem doRecFlushDone_wf {fail : Bool} {s : State} (h : Mram.wf s.mram = true) :
    Mram.wf (doRecFlushDone fail s).mram = true := by
  rw [doRecFlushDone]
  split
  · exact h
  · simp only [↓State.mk_mram, ↓each_mram, ↓jobEnd_mram, ↓State.flag_mram, ↓State.bump_mram, ↓State.put_mram, implies_true]
    exact commitRun_wf h

theorem flushTick_wf {s : State} (h : Mram.wf s.mram = true) : Mram.wf (flushTick s).mram = true := by
  rw [flushTick]
  split
  · exact h
  · dsimp only
    split
    · exact doRecFlushDone_wf h
    · exact commitRun_wf h

theorem doCfgSaveDone_wf {fail : Bool} {s : State} (h : Mram.wf s.mram = true) :
    Mram.wf (doCfgSaveDone fail s).mram = true := by
  rw [doCfgSaveDone]
  split
  · exact h
  · dsimp only
    split
    · rw [jobEnd_mram]
      exact nvAbandon_wf h
    · simp only [↓jobEnd_mram, ↓State.put_mram]
      exact State.nvCommit_mram_wf _ _ _ h

theorem saveTick_wf {s : State} (h : Mram.wf s.mram = true) : Mram.wf (saveTick s).mram = true := by
  rw [saveTick]
  split
  · split
    · exact doCfgSaveDone_wf h
    · exact h
  · exact h

/-! ## Power fail -/

theorem powerFailWork_wf {s : State} (h : Mram.wf s.mram = true) : Mram.wf (powerFailWork s).mram = true := by
  rw [powerFailWork]
  split
  · exact h
  · simp only [↓State.flag_mram, ↓State.mk_mram, ↓startFlush_mram, ↓powerFailRecord_mram]
    exact commitWdg_wf (commitFfr_wf (commitCkpt_wf (wf_of_mram h (abandonStore_mram _))))

theorem takeVsys_wf {l : List (Nat × Nat)} {s : State} (h : Mram.wf s.mram = true) : Mram.wf (takeVsys l s).mram = true := by
  rw [takeVsys]
  refine each_wf (fun r t ht => ?_) h
  have hv : Mram.wf (vsysRun r t).mram = true := wf_of_mram ht (vsysRun_mram r t)
  dsimp only
  split
  · exact powerFailWork_wf hv
  · exact hv

theorem vsysEvent_wf {l : List (Nat × Nat)} {s : State} (h : Mram.wf s.mram = true) : Mram.wf (vsysEvent l s).mram = true := by
  rw [vsysEvent]
  split
  · exact takeVsys_wf h
  · exact h

/-! ## The watchdog's reset and the tick -/

theorem wdgReset_wf {x : BootInputs} {s : State} (h : Mram.wf s.mram = true) : Mram.wf (wdgReset x s).mram = true := by
  rw [wdgReset, deviceReset_mram]
  exact commitWdg_wf h

theorem dividerSample_wf {i : TickInputs} {s : State} (h : Mram.wf s.mram = true) : Mram.wf (dividerSample i s).mram = true := by
  rw [dividerSample]
  simp only [↓surgeTick_mram, ↓State.mk_mram, ↓apply_ite State.mram, ↓State.flag_mram, ↓State.put_mram, ↓State.putFit_mram,
    ↓each_mram, ↓ibusRun_mram, ite_self, implies_true]
  exact takeVsys_wf h

theorem sampleRails_wf {i : TickInputs} {s : State} (h : Mram.wf s.mram = true) : Mram.wf (sampleRails i s).mram = true := by
  rw [sampleRails]
  simp only [↓auxSample_mram, ↓phaseSources_mram, ↓each_mram, ↓phaseSample_mram, ↓railSample_mram, ↓budgetSample_mram, implies_true]
  exact dividerSample_wf (wf_of_mram h (thermSample_mram _ _))

theorem sampleAll_wf {i : TickInputs} {s : State} (h : Mram.wf s.mram = true) : Mram.wf (sampleAll i s).mram = true := by
  rw [sampleAll]
  simp only [↓doDisableWaitDone_mram, ↓each_mram, ↓dischargeEnd_mram, ↓bkSample_mram, ↓enSample_mram, ↓tickToggles_mram,
    ↓supSample_mram, ↓samplePack_mram, implies_true]
  exact sampleRails_wf (wf_of_mram h (bkTick_mram _ _))

theorem recorderTick_wf {i : TickInputs} {s : State} (h : Mram.wf s.mram = true) :
    Mram.wf (recorderTick i s).mram = true := by
  rw [recorderTick]
  simp only [↓doSegReadTimeout_mram, ↓uploadTick_mram]
  refine saveTick_wf (commitLearned_wf (doEstCheckpoint_wf (commitWdg_wf (commitFfr_wf ?_))))
  refine wf_of_mram (flushTick_wf h) ?_
  simp only [↓flushAsked_mram, ↓takeRecords_mram, ↓fireTrigger_mram]

theorem tickRest_wf {i : TickInputs} {s : State} (h : Mram.wf s.mram = true) : Mram.wf (tickRest i s).mram = true := by
  rw [tickRest]
  simp only [↓publish_mram, ↓emcyClear_mram]
  exact recorderTick_wf (wf_of_mram h (by simp only [↓stepEight_mram, ↓regulate_mram]))

theorem tickSteps_wf {i : TickInputs} {s : State} (h : Mram.wf s.mram = true) :
    Mram.wf (stateTick (seqTick (slowSources i (sampleAll i (tickCommits s))))).mram = true := by
  simp only [↓stateTick_mram, ↓seqTick_mram, ↓slowSources_mram]
  exact sampleAll_wf (wf_of_mram h (tickCommits_mram _))

theorem State.withLog_mram (s : State) (l : Recorder) : ({ s with log := l } : State).mram = s.mram := (rfl)

theorem tickEnd_wf {i : TickInputs} {u : State} (h : Mram.wf u.mram = true) :
    Mram.wf (if u.dev.main = true then tickRest i u else u).mram = true := by
  split
  · exact tickRest_wf h
  · exact h

/-- The whole of a tick keeps the form (R34). -/
theorem tickWork_wf {i : TickInputs} {s : State} (h : Mram.wf s.mram = true) : Mram.wf (tickWork i s).mram = true := by
  rw [tickWork]
  exact tickEnd_wf (tickSteps_wf ((State.withLog_mram s _).symm ▸ h))

end Sys2Proof.Machine
end

