-- ==== Sys2Proof/Laws/Rails.lean ====
section
/-! SUPPORT. What a rail's change of state does, said once: which entries it writes, what it leaves in them, and that nothing else
moves. -/

namespace Sys2Proof.Machine

/-! ## Repeated effects -/

/-- What every single effect keeps, the repetition keeps. -/
theorem each_keeps {α β : Type} (l : List α) (f : α → State → State) (g : State → β) (s : State)
    (h : ∀ a ∈ l, ∀ t, g (f a t) = g t) : g (each l f s) = g s := by
  unfold each
  induction l generalizing s with
  | nil => rfl
  | cons a t ih =>
    simp only [List.foldl_cons]
    rw [ih _ (fun b hb => h b (List.mem_cons_of_mem _ hb)), h a List.mem_cons_self]

/-! ## Taking a state -/

/-- The entries that show and count GOOD of a channel. -/
def goodWrites (m : Nat) : List Nat :=
  [K.supGood m, K.supStatus m, K.supChatterCnt m, K.supGoodMap, K.supPgood, K.seqChkToggles]

/-- The entries that the end of a health run on rail `n` may write, beside a job's report. -/
def runWrites (n : Nat) : List Nat :=
  [K.rhRunStatus n, K.rhResultSeq n, K.rhArbOwner, K.rhState, K.rhRail, K.rhStatus, K.jobStatus, K.hostAlert]

/-- An entry that the end of a health run on rail `n` does not write. -/
def offRun (n k : Nat) : Prop := k ∉ runWrites n ∧ ∀ i, i < 32 → k ≠ K.jobReport i

/-- The entries that a rail's change of state may write, beside those of a health run that it ends: its own, and those of its channel's
GOOD. -/
def railWrites (n : Nat) : List Nat := K.railState n :: K.railOrgate n :: goodWrites n

@[simp] theorem keepLevels_get (m l : Nat) (s : State) (k : Nat) : (keepLevels m l s).get k = s.get k := by
  unfold keepLevels
  exact each_keeps _ _ (fun t => t.get k) _ (fun _ _ _ => rfl)

theorem offerToggle_get (m : Nat) (p : SeqInstr → Bool) (s : State) (k : Nat) (h : k ≠ K.seqChkToggles) :
    (offerToggle m p s).get k = s.get k := by
  unfold offerToggle
  split
  · split
    · exact State.get_bump_ne _ _ _ h
    · rfl
  · rfl

theorem recount_get (m : Nat) (f : State → State) (s : State) (k : Nat) : (recount m f s).get k = (f s).get k := by
  unfold recount
  dsimp only
  split <;> rfl

/-! ## Ends of health runs -/

theorem jobEnd_get (i : Nat) (x : JobStatus) (r : Nat) (s : State) (k : Nat) (hs : k ≠ K.jobStatus) (ha : k ≠ K.hostAlert)
    (hr : ∀ i, i < 32 → k ≠ K.jobReport i) : (jobEnd i x r s).get k = s.get k := by
  unfold jobEnd
  split
  · next h =>
    dsimp only
    rw [State.get_withJobEnded, State.get_flag_ne _ _ _ _ ha, State.get_flag_ne _ _ _ _ hs, State.get_put_ne _ _ _ _ (hr i h.1)]
  · rfl

theorem jobEnd?_get (i : Option Nat) (x : JobStatus) (r : Nat) (s : State) (k : Nat) (hs : k ≠ K.jobStatus) (ha : k ≠ K.hostAlert)
    (hr : ∀ i, i < 32 → k ≠ K.jobReport i) : (jobEnd? i x r s).get k = s.get k := by
  cases i with
  | none => rfl
  | some i => exact jobEnd_get _ _ _ _ _ hs ha hr

theorem arbRelease_get (o : Nat) (s : State) (k : Nat) (h : k ≠ K.rhArbOwner) : (arbRelease o s).get k = s.get k := by
  unfold arbRelease
  split
  · exact State.get_put_ne _ _ _ _ h
  · rfl

/-- A run that leaves the engine writes the readouts of its rail, the engine's own and its job's report. -/
theorem leaveRun_get (r : RhRun) (x : Nat) (s : State) (k : Nat) (h : offRun r.rail k) : (leaveRun r x s).get k = s.get k := by
  obtain ⟨h, hr⟩ := h
  simp only [runWrites, List.mem_cons, List.not_mem_nil, or_false, not_or] at h
  unfold leaveRun
  simp only
  rw [jobEnd?_get _ _ _ _ _ (by tauto) (by tauto) hr, State.get_flag_ne _ _ _ _ (by tauto), State.get_withRh,
    arbRelease_get _ _ _ (by tauto), State.get_put_ne _ _ _ _ (by tauto), State.get_put_ne _ _ _ _ (by tauto),
    State.get_bump_ne _ _ _ (by tauto), State.get_put_ne _ _ _ _ (by tauto)]

theorem commissionNext_get (c : RhCommission) (n : Nat) (w : Bool) (s : State) (k : Nat) (hs : k ≠ K.jobStatus) (ha : k ≠ K.hostAlert)
    (hr : ∀ i, i < 32 → k ≠ K.jobReport i) : (commissionNext c n w s).get k = s.get k := by
  unfold commissionNext
  simp only
  split
  · rw [jobEnd_get _ _ _ _ _ hs ha hr]; rfl
  · rfl

theorem failRun_get (r : RhRun) (x : Nat) (s : State) (k : Nat) (h : offRun r.rail k) : (failRun r x s).get k = s.get k := by
  have h' := h
  obtain ⟨h1, hr⟩ := h'
  simp only [runWrites, List.mem_cons, List.not_mem_nil, or_false, not_or] at h1
  unfold failRun
  simp only
  split
  · rw [commissionNext_get _ _ _ _ _ (by tauto) (by tauto) hr, leaveRun_get _ _ _ _ h]
  · exact leaveRun_get _ _ _ _ h

/-- The end of the run on rail `n`, if there is one, writes that run's entries only. -/
theorem rhStops_get (n : Nat) (s : State) (k : Nat) (h : offRun n k) : (rhStops n s).get k = s.get k := by
  unfold rhStops
  split
  · next r _ =>
    split
    · next hc =>
      exact failRun_get _ _ _ _ (hc.1 ▸ h)
    · rfl
  · rfl

/-- What the end of a health run keeps: the clock, the engines of rails and phases, the queue. -/
def SameEngines (s t : State) : Prop :=
  t.clock = s.clock ∧ t.rails = s.rails ∧ t.phases = s.phases ∧ t.pending = s.pending ∧ t.mram = s.mram

theorem jobEnd_engines (i : Nat) (x : JobStatus) (r : Nat) (s : State) : SameEngines s (jobEnd i x r s) := by
  unfold jobEnd SameEngines
  split <;> simp

theorem rhStops_engines (n : Nat) (s : State) : SameEngines s (rhStops n s) := by
  have hj : ∀ i x r s, SameEngines s (jobEnd? i x r s) := fun i x r s => by
    cases i with
    | none => simp [SameEngines, jobEnd?]
    | some i => exact jobEnd_engines _ _ _ _
  have ht : ∀ a b c : State, SameEngines a b → SameEngines b c → SameEngines a c := by
    unfold SameEngines
    rintro a b c ⟨h1, h2, h3, h4, h5⟩ ⟨g1, g2, g3, g4, g5⟩
    exact ⟨g1.trans h1, g2.trans h2, g3.trans h3, g4.trans h4, g5.trans h5⟩
  have hl : ∀ r x s, SameEngines s (leaveRun r x s) := fun r x s => by
    unfold leaveRun
    simp only
    refine ht _ _ _ ?_ (hj _ _ _ _)
    unfold arbRelease SameEngines
    split <;> simp [State.bump]
  have hf : ∀ r x s, SameEngines s (failRun r x s) := fun r x s => by
    unfold failRun
    simp only
    split
    · refine ht _ _ _ (hl r x s) ?_
      unfold commissionNext
      simp only
      split
      · exact ht _ _ _ (by simp [SameEngines]) (jobEnd_engines _ _ _ _)
      · simp [SameEngines]
    · exact hl r x s
  unfold rhStops
  split
  · split
    · exact hf _ _ _
    · simp [SameEngines]
  · simp [SameEngines]

theorem pgood_get (s : State) (k : Nat) (h : k ≠ K.supPgood) : (pgood s).get k = s.get k := State.get_put_ne _ _ _ _ h

theorem setGood_get (m : Nat) (b : Bool) (s : State) (k : Nat) (h : k ∉ goodWrites m) :
    (setGood m b s).get k = s.get k := by
  simp only [goodWrites, List.mem_cons, List.not_mem_nil, or_false, not_or] at h
  unfold setGood
  by_cases hg : s.get (K.supGood m) = (if b then 1 else 0)
  · rw [if_pos hg]
  · rw [if_neg hg, pgood_get _ _ (by tauto), State.get_setSupE, offerToggle_get _ _ _ _ (by tauto), State.get_flag_ne _ _ _ _ (by tauto),
      State.get_bump_ne _ _ _ (by tauto), State.get_putBit_ne _ _ _ _ _ (by tauto), State.get_put_ne _ _ _ _ (by tauto)]

/-- GOOD of a channel reads what it was set to. -/
theorem setGood_good (m : Nat) (b : Bool) (s : State) (h : m < 24) :
    (setGood m b s).get (K.supGood m) = if b then 1 else 0 := by
  unfold setGood
  by_cases hg : s.get (K.supGood m) = (if b then 1 else 0)
  · rw [if_pos hg, hg]
  · rw [if_neg hg, pgood_get _ _ (by simp; omega), State.get_setSupE, offerToggle_get _ _ _ _ (by simp; omega),
      State.get_flag_ne _ _ _ _ (by simp), State.get_bump_ne _ _ _ (by simp), State.get_putBit_ne _ _ _ _ _ (by simp; omega),
      State.get_put_self]

theorem superviseState_get (n : Nat) (x : RailState) (s : State) (k : Nat) (h : k ∉ goodWrites n) :
    (superviseState n x s).get k = s.get k := by
  unfold superviseState
  split
  · rw [setGood_get _ _ _ _ h, keepLevels_get]
  · exact keepLevels_get _ _ _ _

theorem orgate_get (n : Nat) (s : State) (k : Nat) (h : k ≠ K.railOrgate n) : (orgate n s).get k = s.get k :=
  State.get_put_ne _ _ _ _ h

/-- A rail that takes a state writes its own entries only. -/
theorem setRail_get (n : Nat) (x : RailState) (s : State) (k : Nat) (h : k ∉ railWrites n) (ho : offRun n k) :
    (setRail n x s).get k = s.get k := by
  rw [railWrites, List.mem_cons, List.mem_cons, not_or, not_or] at h
  unfold setRail
  simp only
  rw [orgate_get _ _ _ h.2.1, State.get_setRailE, recount_get, superviseState_get _ _ _ _ h.2.2, State.get_putRail_ne _ _ _ _ h.1]
  unfold when
  split
  · exact rhStops_get _ _ _ ho
  · rfl

theorem offRun_railState {n j : Nat} (h : j < 16) : offRun n (K.railState j) := by
  refine ⟨?_, fun i hi => ?_⟩
  · simp only [runWrites, K.railState, K.rhRunStatus, K.rhResultSeq, K.rhArbOwner, K.rhState, K.rhRail, K.rhStatus, K.jobStatus,
      K.hostAlert, List.mem_cons, List.not_mem_nil, or_false, not_or]
    omega
  · simp only [K.railState, K.jobReport]; omega

theorem offRun_railCause {n j : Nat} (h : j < 16) : offRun n (K.railCause j) := by
  refine ⟨?_, fun i hi => ?_⟩
  · simp only [runWrites, K.railCause, K.rhRunStatus, K.rhResultSeq, K.rhArbOwner, K.rhState, K.rhRail, K.rhStatus, K.jobStatus,
      K.hostAlert, List.mem_cons, List.not_mem_nil, or_false, not_or]
    omega
  · simp only [K.railCause, K.jobReport]; omega

theorem offRun_phaseState {n p : Nat} (h : p < 8) : offRun n (K.phaseState p) := by
  refine ⟨?_, fun i hi => ?_⟩
  · simp only [runWrites, K.phaseState, K.rhRunStatus, K.rhResultSeq, K.rhArbOwner, K.rhState, K.rhRail, K.rhStatus, K.jobStatus,
      K.hostAlert, List.mem_cons, List.not_mem_nil, or_false, not_or]
    omega
  · simp only [K.phaseState, K.jobReport]; omega

/-- A rail that takes a state reads that state. -/
theorem setRail_rail (n : Nat) (x : RailState) (s : State) (h : n < 16) : (setRail n x s).rail n = x := by
  unfold State.rail setRail
  simp only
  rw [orgate_get _ _ _ (by simp), State.get_setRailE, recount_get]
  rw [superviseState_get]
  · rw [State.putRail, State.get_put_self, RailState.ofCode_code]
  · simp only [goodWrites, K.railState, K.supGood, K.supStatus, K.supChatterCnt, K.supGoodMap, K.supPgood, K.seqChkToggles,
      List.mem_cons, List.not_mem_nil, or_false, not_or]
    omega

/-- A rail that takes a state leaves the state of every other. -/
theorem setRail_rail_ne (n j : Nat) (x : RailState) (s : State) (hj : j < 16) (h : j ≠ n) :
    (setRail n x s).rail j = s.rail j := by
  unfold State.rail
  rw [setRail_get]
  · simp only [railWrites, goodWrites, K.railState, K.railOrgate, K.supGood, K.supStatus, K.supChatterCnt, K.supGoodMap, K.supPgood,
      K.seqChkToggles, List.mem_cons, List.not_mem_nil, or_false, not_or]
    omega
  · exact offRun_railState hj

/-- A rail that takes a state leaves every phase's. -/
theorem setRail_phase (n p : Nat) (x : RailState) (s : State) (hp : p < 8) :
    (setRail n x s).phase p = s.phase p := by
  unfold State.phase
  rw [setRail_get]
  · simp only [railWrites, goodWrites, K.phaseState, K.railState, K.railOrgate, K.supGood, K.supStatus, K.supChatterCnt, K.supGoodMap,
      K.supPgood, K.seqChkToggles, List.mem_cons, List.not_mem_nil, or_false, not_or]
    omega
  · exact offRun_phaseState hp

/-- The instant at which a rail takes a state is kept. -/
theorem setRail_entered (n : Nat) (x : RailState) (s : State) (h : n < 16) : ((setRail n x s).railE n).entered = s.clock.beat := by
  have hb : (when (!x.regulating) (rhStops n) s).clock = s.clock := by
    unfold when
    split
    · exact (rhStops_engines _ _).1
    · rfl
  unfold setRail orgate
  simp only [State.railE, State.put_rails, State.setRailE]
  simp [h, State.beat, hb]

/-- A state that forces GOOD to 0 leaves it so (R149). -/
theorem setRail_good (n : Nat) (x : RailState) (s : State) (h : n < 16) (hx : x.forcesGood = true) :
    (setRail n x s).get (K.supGood n) = 0 := by
  unfold setRail
  simp only
  rw [orgate_get _ _ _ (by simp; omega), State.get_setRailE, recount_get]
  unfold superviseState
  rw [if_pos hx, setGood_good _ _ _ (by omega)]
  rfl

/-! ## Phases and fault reactions -/

theorem mem_railPhases {s : State} {n p : Nat} (h : p ∈ s.railPhases n) : p < 8 := by
  simp only [State.railPhases, upto, List.mem_filter, List.mem_range] at h
  exact h.1

/-- Entries that no effect on phases and their interleave writes. -/
def offPhases (k : Nat) : Prop :=
  (∀ p, p < 8 → k ≠ K.phaseState p ∧ k ≠ K.phaseAngle p ∧ k ≠ K.phaseQwBreachCnt p ∧ k ≠ K.phaseStatus p) ∧
  (∀ n, n < 8 → k ≠ K.railPhActive n ∧ k ≠ K.railSubmode n ∧ k ≠ K.railStatus n) ∧
  (∀ c, c < 4 → k ≠ K.xbQwBreachCnt c ∧ k ≠ K.xbStatus c) ∧ k ≠ K.paQwStatus

theorem reinterleave_get (n : Nat) (s : State) (k : Nat) (h : offPhases k) : (reinterleave n s).get k = s.get k := by
  unfold reinterleave
  split
  · next hn =>
    simp only
    have hd : ∀ i, (s.driving n).getD i 0 < 8 := by
      intro i
      rw [List.getD_eq_getElem?_getD]
      cases e : (s.driving n)[i]? with
      | none => simp
      | some p =>
        have := List.mem_of_getElem? e
        simp only [State.driving, List.mem_filter] at this
        exact mem_railPhases this.1
    rw [State.get_put_ne _ _ _ _ (h.2.1 n hn).1, each_keeps _ _ (fun t => t.get k), each_keeps _ _ (fun t => t.get k)]
    · intro p hp t
      exact State.get_put_ne _ _ _ _ (h.1 p (mem_railPhases hp)).2.1
    · intro i _ t
      exact State.get_put_ne _ _ _ _ (h.1 _ (hd i)).2.1
  · rfl

theorem burstStops_get (n : Nat) (s : State) (k : Nat) (h : offPhases k) : (burstStops n s).get k = s.get k := by
  unfold burstStops when
  simp only [State.get_setRailE]
  split
  · next hc =>
    simp only [decide_eq_true_eq] at hc
    rw [State.get_flag_ne _ _ _ _ (h.2.1 n hc.1).2.2, State.get_put_ne _ _ _ _ (h.2.1 n hc.1).2.1]
  · rfl

theorem idleReleased_get (n : Nat) (s : State) (k : Nat) (h : offPhases k) : (idleReleased n s).get k = s.get k := by
  unfold idleReleased
  refine each_keeps _ _ (fun t => t.get k) _ (fun p hp t => ?_)
  have hp8 : p < 8 := mem_railPhases (List.mem_filter.1 (List.mem_filter.1 hp).1).1
  rw [State.get_setPhaseE, State.get_putPhase_ne _ _ _ _ (h.1 p hp8).1]

theorem phaseBreach_get (p c : Nat) (s : State) (k : Nat) (hp : p < 8) (h : offPhases k) : (phaseBreach p c s).get k = s.get k := by
  unfold phaseBreach
  split
  · split
    · change State.get (State.flag (State.flag (State.bumpBy _ _ _) _ _) _ _) k = _
      rw [State.get_flag_ne _ _ _ _ h.2.2.2, State.get_flag_ne _ _ _ _ (h.1 p hp).2.2.2, State.get_bumpBy_ne _ _ _ _ (h.1 p hp).2.2.1]
    · rfl
  · rfl

theorem xbBreach_get (c n : Nat) (s : State) (k : Nat) (hc : c < 4) (h : offPhases k) : (xbBreach c n s).get k = s.get k := by
  unfold xbBreach
  split
  · split
    · change State.get (State.flag (State.flag (State.bumpBy _ _ _) _ _) _ _) k = _
      rw [State.get_flag_ne _ _ _ _ h.2.2.2, State.get_flag_ne _ _ _ _ (h.2.2.1 c hc).2, State.get_bumpBy_ne _ _ _ _ (h.2.2.1 c hc).1]
    · rfl
  · rfl

theorem railBreach_get (n : Nat) (s : State) (k : Nat) (h : offPhases k) : (railBreach n s).get k = s.get k := by
  have he : (each (s.railPhases n) (fun p => phaseBreach p 1) s).get k = s.get k :=
    each_keeps _ _ (fun t => t.get k) _ (fun p hp t => phaseBreach_get p 1 t k (mem_railPhases hp) h)
  unfold railBreach
  simp only
  split
  · next hn => rw [xbBreach_get _ _ _ _ (by omega) h, he]
  · exact he

theorem idlePhases_get (n : Nat) (s : State) (k : Nat) (h : offPhases k) : (idlePhases n s).get k = s.get k := by
  unfold idlePhases
  rw [reinterleave_get _ _ _ h, burstStops_get _ _ _ h, idleReleased_get _ _ _ h]
  have he : ∀ (l : List Nat) (u : State), (∀ p ∈ l, p < 8) → (each l (fun p u => u.putPhase p .idle) u).get k = u.get k := by
    intro l u hl
    exact each_keeps _ _ (fun t => t.get k) _ (fun p hp t => State.get_putPhase_ne _ _ _ _ (h.1 p (hl p hp)).1)
  have hl : ∀ p ∈ (s.railPhases n).filter (fun p =>
      s.phase p == .active || s.phase p == .shed || s.phase p == .shadow || s.phase p == .ramp), p < 8 := by
    intro p hp
    exact mem_railPhases (List.mem_filter.1 hp).1
  exact he _ _ hl

/-- Entries of the first-failure record. -/
def ffrWrites : List Nat := ffrKeys.map Prod.fst

theorem fillFfr_get (a b c d e f : Nat) (s : State) (k : Nat) (h : k ∉ ffrWrites) : (fillFfr a b c d e f s).get k = s.get k := by
  simp only [ffrWrites, ffrKeys, List.map, List.mem_cons, List.not_mem_nil, or_false, not_or] at h
  unfold fillFfr
  split
  · change State.get (State.put (State.put _ _ _) _ _) k = _
    repeat rw [State.get_put_ne _ _ _ _ (by tauto)]
  · rfl

theorem noteRelease_get (n c : Nat) (s : State) (k : Nat) : (noteRelease n c s).get k = s.get k := by
  unfold noteRelease
  split <;> rfl

/-- A fault reaction on a rail writes its own entries, the first-failure record and its phases only. -/
theorem railFault_get (n src chan : Nat) (s : State) (k : Nat) (h : k ∉ railWrites n) (ho : offRun n k) (hp : offPhases k)
    (hf : k ∉ ffrWrites)
    (hc : k ≠ K.railCause n) (hs : k ≠ K.railStatus n) : (railFault n src chan s).get k = s.get k := by
  unfold railFault
  split
  · rfl
  · rw [fillFfr_get _ _ _ _ _ _ _ _ hf, State.get_flag_ne _ _ _ _ hs, State.get_put_ne _ _ _ _ hc, setRail_get _ _ _ _ h ho,
      idlePhases_get _ _ _ hp, railBreach_get _ _ _ hp, noteRelease_get]

theorem offPhases_railState {j : Nat} (h : j < 16) : offPhases (K.railState j) := by
  refine ⟨fun p hp => ?_, fun n hn => ?_, fun c hc => ?_, ?_⟩ <;> simp only [K.railState, K.phaseState, K.phaseAngle, K.railPhActive,
    K.railSubmode, K.phaseQwBreachCnt, K.phaseStatus, K.railStatus, K.xbQwBreachCnt, K.xbStatus, K.paQwStatus] <;> omega

theorem offPhases_railCause {j : Nat} (h : j < 16) : offPhases (K.railCause j) := by
  refine ⟨fun p hp => ?_, fun n hn => ?_, fun c hc => ?_, ?_⟩ <;> simp only [K.railCause, K.phaseState, K.phaseAngle, K.railPhActive,
    K.railSubmode, K.phaseQwBreachCnt, K.phaseStatus, K.railStatus, K.xbQwBreachCnt, K.xbStatus, K.paQwStatus] <;> omega

theorem railState_not_ffr {j : Nat} (h : j < 16) : K.railState j ∉ ffrWrites := by
  revert h; revert j; decide

theorem railCause_not_ffr {j : Nat} (h : j < 16) : K.railCause j ∉ ffrWrites := by
  revert h; revert j; decide

/-- A rail that a fault reaction turns off reads FAULT with CAUSE 0x05; OFF, DISCHARGE, FAULT and an always-on L0 stay (R227). -/
theorem railFault_rail (n src chan : Nat) (s : State) (h : n < 16) :
    (s.rail n = .off ∨ s.rail n = .discharge ∨ s.rail n = .fault ∨ s.alwaysOn n = true → railFault n src chan s = s) ∧
    (¬ (s.rail n = .off ∨ s.rail n = .discharge ∨ s.rail n = .fault ∨ s.alwaysOn n = true) →
      (railFault n src chan s).rail n = .fault ∧ (railFault n src chan s).get (K.railCause n) = 5) := by
  refine ⟨fun hs => if_pos hs, fun hs => ?_⟩
  unfold railFault
  rw [if_neg hs]
  constructor
  · unfold State.rail
    rw [fillFfr_get _ _ _ _ _ _ _ _ (railState_not_ffr h), State.get_flag_ne _ _ _ _ (by simp), State.get_put_ne _ _ _ _ (by simp)]
    exact setRail_rail _ _ _ h
  · rw [fillFfr_get _ _ _ _ _ _ _ _ (railCause_not_ffr h), State.get_flag_ne _ _ _ _ (by simp), State.get_put_self]

/-- A fault reaction on one rail leaves the state and the cause of every other. -/
theorem railFault_other (n j src chan : Nat) (s : State) (hj : j < 16) (h : j ≠ n) :
    (railFault n src chan s).rail j = s.rail j ∧ (railFault n src chan s).get (K.railCause j) = s.get (K.railCause j) := by
  constructor
  · unfold State.rail
    rw [railFault_get _ _ _ _ _ _ (offRun_railState hj) (offPhases_railState hj) (railState_not_ffr hj)]
    all_goals
      simp only [railWrites, goodWrites, K.railState, K.railCause, K.railStatus, K.railOrgate, K.supGood, K.supStatus, K.supChatterCnt,
        K.supGoodMap, K.supPgood, K.seqChkToggles, List.mem_cons, List.not_mem_nil, or_false, not_or]
      omega
  · rw [railFault_get _ _ _ _ _ _ (offRun_railCause hj) (offPhases_railCause hj) (railCause_not_ffr hj)]
    all_goals
      simp only [railWrites, goodWrites, K.railState, K.railCause, K.railStatus, K.railOrgate, K.supGood, K.supStatus, K.supChatterCnt,
        K.supGoodMap, K.supPgood, K.seqChkToggles, List.mem_cons, List.not_mem_nil, or_false, not_or]
      omega

end Sys2Proof.Machine
end

