-- ==== Sys2Proof/Machine/Balls.lean ====
section
/-! DEFINITION. What the balls of the package show (R471, R473 to R475): the level or the release of every output that the state drives,
from the first rise of supply on. -/

namespace Sys2Proof.Machine

/-- An output as a meter finds it: driven, released (open-drain or high impedance), or an input with its pull-down. -/
inductive Drive where
  | low | high | released | pulledDown
  deriving DecidableEq, Repr

def Drive.of (b : Bool) : Drive := if b then .high else .low

/-- An open-drain output. -/
def Drive.openDrain (low : Bool) : Drive := if low then .low else .released

/-- An IO or LV ball is high impedance while VDDIO is below its threshold (R471), and in OFF and BACKUP (R475); in boot and while
SYSRST_N holds it has its reset state, from the end of boot what its chapter gives. -/
def State.ioBall (s : State) (reset run : Drive) : Drive :=
  if s.pins.vddioGood = false then .released
  else if s.fastUp then run
  else if s.power.boot.isSome ∨ s.power.held then reset
  else .released

/-- QUIET (R101). -/
def State.quietBall (s : State) : Drive := s.ioBall .low (Drive.of s.quietPin)

/-- GAIT (R208): in boot it is pulled low once the configuration copy is selected. -/
def State.gaitBall (s : State) : Drive := s.ioBall (Drive.openDrain s.pullsGait) (Drive.openDrain s.pullsGait)

/-- GAITALRM (R208). -/
def State.gaitalrmBall (s : State) : Drive := s.ioBall .released (Drive.openDrain s.gait.alarm)

/-- ALERT_N (R441). -/
def State.alertBall (s : State) : Drive := s.ioBall .released (Drive.openDrain s.alertLow)

/-- PGOOD (R156, R473), in the backup domain: low in boot and BACKUP, not driven in OFF. -/
def State.pgoodBall (s : State) : Drive :=
  if s.bkUp = false then .released
  else if s.fastUp then Drive.openDrain (s.get K.supPgood == 0)
  else .low

/-- PWRON (R373, R374): driven by the latch wherever the backup domain has a supply. -/
def State.pwronBall (s : State) : Drive := if s.bkUp then Drive.of s.bk.latch else .released

/-- VBAK (R360): what the device sources there in µA. -/
def State.vbakBall (s : State) : Nat := s.vbakCharge

/-- ORGATEn (R115, R473): low, which is off, until the rail's own rule turns it on. -/
def State.orgateBall (s : State) (n : Nat) : Drive :=
  if s.fastUp then Drive.of (s.get (K.railOrgate n) == 1) else if s.power.boot.isSome ∨ s.power.held then .low else .released

/-- GPp (R195, R348, R475): pulled down until the end of boot; then driven, or an input without pull. -/
def State.gpBall (s : State) (p : Nat) : Drive :=
  s.ioBall .pulledDown
    (if s.get K.wdgRstGp = p ∨ s.pins.gpMask.getLsbD p then Drive.of (s.gpLevel p) else .released)

/-- PHYRST_N (R473): high from stage 1 of boot on. -/
def State.phyRstBall (s : State) : Drive :=
  if s.pins.vddioGood = false then .released
  else if s.power.held then .low
  else if s.fastUp ∨ s.power.boot.isSome then .high
  else .released

/-- SYNC0 and SYNC1 run their cycle (R427); otherwise they are low. -/
def State.syncRuns (s : State) : Bool := s.fastUp && s.pins.sync && s.pins.vddioGood

/-- SYNC0 and SYNC1 at `ns` ns after the start of their cyclic unit: high for the pulse length at each cycle. A cycle time of 0 of SYNC1 is
that of SYNC0 (PRESUMED, assumption 149). -/
def State.syncBall (s : State) (one : Bool) (ns : Nat) : Drive :=
  let d := s.ecat.dc
  let cycle := if one && d.sync1 != 0 then d.sync1.toNat else d.sync0.toNat
  s.ioBall .low (Drive.of (s.syncRuns && decide (ns % cycle < d.pulse.toNat)))

/-- The address on MDIO of the PHY of port 0 or 1 (R421). -/
def State.phyAddress (s : State) (p : Fin 2) : Nat := s.ecat.phyAddr + p.val

/-- VINGATE, AUXGATE and BATGATE, for source 1, 2 or 3 (R251, R276, R473): while the main domain runs as `PATH.GATES` has them, else as the
ideal diodes and the battery start have them. -/
def State.pathGateBall (s : State) (x : Fin 3) : Drive :=
  Drive.of (if s.fastUp then bitOf (s.get K.pathGates) (if x = 2 then 3 else x.val)
    else if x = 2 then s.path.batOn else s.path.diodes.getLsbD x.val)

/-- CINSYS and CINAUX (R276, R473): off until the charger takes its input. -/
def State.chargerInBall (s : State) (aux : Bool) : Drive :=
  Drive.of (s.fastUp && bitOf (s.get K.pathGates) (if aux then 5 else 4))

/-- FDG0 to FDG7 switch while the divider's state is not off (R69, R473); otherwise they are held to FDSn. -/
def State.fdgSwitch (s : State) : Bool := s.fastUp && (s.fd == .softstart || s.fd == .run || s.fd == .swap)

/-- VREF is up from stage 1 of boot on (R405, R473). -/
def State.vrefOn (s : State) : Bool := s.fastUp || s.power.boot.isSome

/-- The TETHER transmitters drive from the end of boot on (R473), where `PAIR.EN` is set. -/
def State.tetherDrives (s : State) : Bool := s.pairs && s.pins.vddioGood

end Sys2Proof.Machine
end

