-- ==== Sys2Proof/WellFormed.lean ====
section
/-! DEFINITION. Which commands are well formed: lists of samples that name no instance the device lacks and no more beats than
a tick has, fields of sequencer instructions that their encoding tables allow, frames no longer than their layouts. A command
that is not well formed comes from no host, pin or line; its meaning is still total. -/

namespace Sys2Proof

open Machine

/-- Runs of beats fit in the 1,000 beats of a tick (R31). -/
def fitsTick (l : List Nat) : Bool := decide (l.sum ≤ 1000)

/-- The samples of a tick name only instances that exist, and its runs of beats fit in it (R31). -/
def TickInputs.wf (i : TickInputs) : Bool :=
  decide (i.vout.length ≤ 16 ∧ i.iout.length ≤ 16 ∧ i.pout.length ≤ 16 ∧ i.phaseI.length ≤ 8 ∧ i.phaseOver.length ≤ 8 ∧
    i.ldoIn.length ≤ 4 ∧ i.ldoI.length ≤ 4 ∧ i.supV.length ≤ 24 ∧ i.supMin.length ≤ 24 ∧ i.supMax.length ≤ 24 ∧
    i.supI.length ≤ 16 ∧ i.ntcOhm.length ≤ 4 ∧ i.dies.length ≤ 12) &&
  fitsTick (i.power.map Prod.snd) && fitsTick (i.vsys.map Prod.snd) && fitsTick (i.ibus.map Prod.snd) &&
  fitsTick (i.pack.map (fun e => e.2.2)) && i.phaseOver.all (fun l => fitsTick (l.map Prod.snd))

/-- The samples of an epoch fit in its 1,000,000 beats (R279). -/
def EpochInputs.wf (x : EpochInputs) : Bool :=
  decide ((x.shunt.map Prod.snd).sum ≤ 1000000 ∧ (x.bat.map Prod.snd).sum ≤ 1000000)

/-- What boot finds: at most the eight samples of each strap (R477). -/
def BootInputs.wf (b : BootInputs) : Bool := decide (b.straps.length ≤ 8)

/-- The instant of a counting edge lies within a tick (R36, R39), in steps of 10 ns from the last tick; the transition of an edge that is
held for its 2 beats may have begun before that tick. -/
def StrideEdge.wf (e : StrideEdge) : Bool :=
  match e with
  | .strideIn _ instant => decide (-200 ≤ instant ∧ instant < 100000)
  | .sync0 instant => decide (-200 ≤ instant ∧ instant < 100000)
  | .glitch => true

/-- A slow frame holds the 32 places of the held list and the targets of 16 rails (R316). -/
def SlowFrame.wf (f : SlowFrame) : Bool := decide (f.held.length ≤ 32 ∧ f.targets.length ≤ 16)

/-- A segment of the bulk image: 252 bytes, numbered below its count (R330). -/
def BulkSegment.wf (f : BulkSegment) : Bool := decide (f.data.length ≤ 252) && decide (f.index.toNat < f.count.toNat)

/-- A frame of a row has the row's CMD, or none that R435 lists, or a wrong CRC (R435, R437). -/
def SpiFrame.wf (cmd : Nat) (r : SpiFrame) : Bool := r.cmd.toNat == cmd || r.badCmd || !r.crcOk

/-- A command is well formed. -/
def Instr.wf (c : Instr) : Bool :=
  match c with
  | .hostWrite _ _ _ _ _ => true
  | .managementTick inp => inp.wf
  | .estimatorEpoch inp => inp.wf
  | .stateReqActive _ | .stateReqDoze _ | .stateReqStandby _ | .autostart | .enterStandby | .enLow | .vsysUv _
  | .backupStart _ _ _ | .fallToOff _ _ _ => true
  | .bootBegin _ _ inp => inp.wf
  | .endOfBoot | .sysrstNAssert => true
  | .sysrstNRelease inp => inp.wf
  | .clkXtalLost => true
  | .strideEdge e => e.wf
  | .strideMissingEdge | .strideHoldLong | .strideStart | .timeCapture _ _ _ | .cfgCommit _ _ | .cfgDiscard _ _
  | .fdSurge _ | .fdSurgeLong | .vsysPfw _ | .pfwClear _ | .fdRatioMode _ _ | .fdRisingChange _ | .fdFallingChange _
  | .fdForcedChange _ | .fdSwapDone | .fdBalanceDone _ | .fdCflyImbal _ _ | .fdSoftstartDone _ | .fdStart
  | .fdOffDelay | .fdStopped _ | .fdVsysOv _ | .fdIbusOv _ | .fdIbusUv _ | .fdOc _ | .fdGate | .budgetPeak _
  | .budgetOver | .railEnable _ _ | .railDisable _ _ | .railSoftstartDone _ _ | .railSs _ | .railSlewDone _
  | .railRampdownDone _ _ | .railDischarged _ _ | .railDisSlow _ | .phaseShed _ | .fastAdd _ _ _ | .burstEntry _
  | .burstStart _ _ | .burstSlot _ | .burstEnd _ _ | .burstExit _ _ | .qwOpen _ _ _ | .qwClose | .phOc _ _ _ _
  | .phOvl _ _ | .phNeg _ _ | .phTsd _ _ | .phSw _ _ | .phDrv _ | .phImbal _ _ _ | .railPhLost _ | .railReverse _ _ _
  | .remountShadowEnd _ _ | .remountRampEnd _ | .phaseTakeOut _ _ | .phaseReturn _ _ | .xbRegionChange _ _ _
  | .xbSkipEntry _ | .xbCl _ | .xbPk _ _ | .xbTsd _ _ | .xbSw _ _ | .xbDrv _ | .xbNeg _ _ | .ldoInUv _ _ _ | .ldoCl _
  | .ldoTsd _ | .aoRestart _ _ _ | .supOvWarn _ _ _ | .supUvWarn _ _ _ | .supOcWarn _ _ _ | .supOv _ _ _
  | .supUv _ _ _ | .supOc _ _ _ | .supConditionEnd _ _ _ | .goodRise _ _ _ | .goodFall _ _ _ | .rhRun _ _
  | .rhCommission _ _ | .rhDue _ | .arbGrant | .rhSettleStart | .rhSettleDone | .rhPointDone _ _ _ | .rhPointAbandon
  | .rhResults | .seqImage _ _ | .seqRun _ _ | .seqStop _ _ | .nop => true
  | .enable w tmo mask => seqWf (.enable w tmo mask)
  | .enableWaitDone | .enableWaitTmo => true
  | .disable w tmo mask => seqWf (.disable w tmo mask)
  | .disableWaitDone | .disableWaitTmo | .waitTime _ _ | .waitTimeDone | .waitStride _ _ _ | .waitStrideDone => true
  | .check soft pol pset kind operand => seqWf (.check soft pol pset kind operand)
  | .checkPass _ | .checkChatter _ | .checkTimeout => true
  | .jump cond count target => seqWf (.jump cond count target)
  | .gait _ _ | .gaitAdvance _ | .gaitTmo | .gaitHoldEnd | .setout _ _ => true
  | .mark entry log gs id => seqWf (.mark entry log gs id)
  | .slew rail w code => seqWf (.slew rail w code)
  | .slewWaitDone | .seqEnd | .gaitalrmDetect _ | .gaitAlrmCmd _ _ | .gaitalrmRelease | .ffrRearm _ _ | .faultAck _ _
  | .autoAck | .release | .autoRestartEnable | .retryWinExpire | .faultRearm _ _ | .lockoutClear _ _ => true
  | .pathSourceValid src => src == .vin || src == .auxin
  | .pathSwitch _ _ _ | .pathAuxOv _ | .batTakeover _ | .batDisarm _ _ | .pathBatCutoff | .batteryStart _ _
  | .detectDone _ | .prechargeDone | .cvEntry | .cvToCc | .endOfCharge | .recharge | .chgTempRegain | .chgTimer
  | .chgPreTmo | .collapseConfirm _ | .removalProbeDone _ | .chgBatShort _ | .chgBatOv _ | .chgConv _ _ _
  | .chgFaultRead _ | .chgDetRetry | .mpptSweep | .mpptStep | .revStart _ | .revStop _ | .revOtherSource _ _
  | .revVbatLow | .chgRevShort | .estHibernate | .estWake _ _ | .estZDue | .estZRun _ _ | .estZPointDone _ _
  | .estZPointAbandon _ | .estReset _ _ | .estCheckpoint | .estAdc _ | .fastFrameSend | .fastFrameRx _ => true
  | .slowFrameRx f => f.wf
  | .bulkFrameRx f => f.wf
  | .linkAlign | .pairLinkLost | .takeoverArm _ _ _ | .takeoverEvidence _ _ _ | .announcedStop _ | .pairHandback _ _
  | .joinWaitExpire | .pairCmd _ _ | .wdgCheckin _ _ _ => true
  | .wdgPeriodEnd inp => inp.wf
  | .wdgClk _ inp => inp.wf
  | .wdgRstPulseEnd | .wdgStartDelayEnd | .wdgKey _ _ | .wdgLock _ _ | .wdgCmd _ _ => true
  | .wdgCoreTrip _ inp => inp.wf
  | .rtcCapture _ _ | .rtcSet _ _ | .rtcWrap | .trimWindow | .rtcCalRun _ _ _ | .rtcCalDone _ | .rtcOscFail _
  | .rtcAlarm | .wakeNAssert _ | .pwronSet _ | .pwronClear _ | .pwronHoldExpire | .recTrigCmd _ _ | .recFlush _ _
  | .recFlushDone _ | .recClear _ _ | .recLogUpload _ | .comSave _ _ | .comRestore _ _ | .cfgSaveDone _
  | .cfgImage _ _ | .cfgLock _ _ | .cfgUnlock _ _ | .stRetry _ _ => true
  | .retryBoot inp => inp.wf
  | .alStateRequest _ _ | .smWdgExpire | .portLinkChange _ _ | .dcActivate _ _ | .siiWrite _ _
  | .mailboxUnsupported _ | .sdoInfo _ | .foeWrite _ _ _ | .foeRead _ _ | .pdOutputComplete _ _ => true
  | .spiNop r => r.wf 0
  | .spiRead r => r.wf 1
  | .spiWrite r => r.wf 2
  | .spiReadAll r => r.wf 3
  | .spiReadSeg r => r.wf 4
  | .spiWriteSeg r => r.wf 5
  | .spiPiRead r => r.wf 6
  | .spiPiWrite r => r.wf 7
  | .spiEmcyRead r => r.wf 8
  | .spiRepeat r => r.wf 9
  | .segReadTimeout | .jobRelease _ _ | .errHistoryClear _ _ | .thermShed | .thermSensor _ | .angleTrigger _
  | .estZPointStart | .backupSupplyChange _ _ _ | .vddioLoss _ | .ecatPreopReached | .tetherFrameDiscarded
  | .linkSymbolLoss _ | .gaitalrmLineHigh | .harvestLost _ _ | .masterUploadAbort | .ldoin0Good _ => true

end Sys2Proof
end

