-- ==== Sys2Proof/Tests/Slice0.lean ====
section
/-! SUPPORT. The author's own tests: commands that are not well formed are refused as such, words of sequencer instructions decode,
single commands do what their rule says, and every hypothesis of a statement is met by a state named here (the theorems `witness_…`).
Expected values come from the rules and tables of the spec, worked out by hand. -/

namespace Sys2Proof.Tests

set_option maxRecDepth 8000
-- One proof at a time: the checks by evaluation must not start a thread each.
set_option Elab.async false

open Sys2Proof Sys2Proof.Machine

/-! ## Small states -/

/-- A state at a tick boundary whose beat has had its work, and no lock waits: commands that wait for a boundary find it as it is. -/
def atEdge (beat : Nat) (s : State) : State :=
  { s with clock := ⟨beat, beat - 1000, beat / 1000000, true⟩, wdg := { s.wdg with lockAsked := false } }

theorem atEdge_openTick (beat : Nat) (s : State) (h : 1000 ≤ beat) : (atEdge beat s).openTick = atEdge beat s :=
  State.openTick_here _ (by show 1000 + (beat - 1000) ≤ beat; omega) rfl rfl

/-- The state after reset with some entries set, at the first tick boundary. -/
def withEntries (l : List (Nat × Nat)) : State := atEdge 1000 (l.foldl (fun s e => s.put e.1 e.2) State.reset)

/-- The same, with the device in ACTIVE. -/
def activeWith (l : List (Nat × Nat)) : State := withEntries ((K.devState, 4) :: l)

/-- A host write of one entry over SPI, from a device in ACTIVE. -/
def wrote (k : Nat) (d : List Byte) (s : State) : Written := wrBytes .spi k d 0 s

/-- What an outcome leaves in an entry; a fault or a refusal leaves none. -/
def after (o : Host.Outcome State Fault Refusal) (k : Nat) : Option Nat :=
  match o with
  | .next t => some (t.get k)
  | _ => none

/-! ## Well-formed commands -/

/-- A tick with seventeen rails. -/
theorem test_wf_tick_rails : Instr.wf (.managementTick { vout := List.replicate 17 0 }) = false := by decide +kernel
/-- A tick with more beats of power, or of VSYS, than it has. -/
theorem test_wf_tick_power : Instr.wf (.managementTick { power := [(5, 600), (6, 401)] }) = false ∧
    Instr.wf (.managementTick { vsys := [(24000, 1001)] }) = false := by decide +kernel
/-- A phase above its limit for more beats than a tick has. -/
theorem test_wf_tick_phases : Instr.wf (.managementTick { phaseOver := [[(true, 1001)]] }) = false := by decide +kernel
/-- An epoch with more samples than beats. -/
theorem test_wf_epoch : Instr.wf (.estimatorEpoch { shunt := [(3, 1000001)] }) = false := by decide +kernel
theorem test_wf_boot : Instr.wf (.bootBegin 24000 1 { straps := List.replicate 9 0 }) = false := by decide +kernel
theorem test_wf_edge : Instr.wf (.strideEdge (.strideIn true 100000)) = false ∧ Instr.wf (.strideEdge (.sync0 100000)) = false ∧
    Instr.wf (.strideEdge (.strideIn true (-201))) = false := by decide +kernel
theorem test_wf_source : Instr.wf (.pathSourceValid .bat) = false := by decide +kernel
/-- ENABLE of no rail, a CHECK of kind 9, a JUMP of condition 1 with a count, a SLEW to code 0 (R187, R192, R193, R197). -/
theorem test_wf_seq : Instr.wf (.enable true 1 0) = false ∧ Instr.wf (.disable true 1 0) = false ∧
    Instr.wf (.check false true 0 9 0) = false ∧ Instr.wf (.jump 1 1 0) = false ∧ Instr.wf (.slew 0 true 0) = false := by
  decide +kernel
theorem test_wf_mark : Instr.wf (.mark false false 1 0) = false := by decide +kernel
theorem test_wf_spi : Instr.wf (.spiWrite (.of 1 0 0x2000 1 [])) = false ∧
    Instr.wf (.spiWrite (.of 2 0 0x2000 1 [])) = true ∧ Instr.wf (.spiWrite (.of 0x11 0 0 0 [])) = true := by decide +kernel
theorem test_wf_segment : Instr.wf (.bulkFrameRx { seq := 0, index := 3, count := 3, data := [] }) = false := by decide +kernel
theorem test_wf_slow : Instr.wf (.slowFrameRx ⟨0, 0, 0, 0, 0, 0, 0, 0, 0, 0, 0, [], List.replicate 17 0⟩) = false := by decide +kernel

/-! ## Words of sequencer instructions, bit by bit (R186 to R197) -/

theorem test_word_nop : decodeSeq 0x00000000#32 = some .nop ∧ decodeSeq 0x00000001#32 = none := by decide +kernel
/-- ENABLE, W in bit 27, TMO 5 in bits 23 to 16, rails 0 and 15. -/
theorem test_word_enable : decodeSeq 0b0001_1_000_00000101_1000000000000001#32 = some (.enable true 5 0x8001) := by decide +kernel
theorem test_word_disable : decodeSeq 0b0010_0_000_00000000_0000000000000010#32 = some (.disable false 0 2) := by decide +kernel
theorem test_word_wait : decodeSeq 0b0011_1_000000000000000000000000111#32 = some (.waitTime true 7) := by decide +kernel
theorem test_word_gait : decodeSeq 0b0111_000000000000_00001010_00_000011#32 = some (.gait 10 3) := by decide +kernel
theorem test_word_end : decodeSeq 0xF0000000#32 = some .seqEnd ∧ decodeSeq 0xF0000100#32 = none := by decide +kernel
/-- Operation codes that the table does not list. -/
theorem test_word_unknown : decodeSeq 0xB0000000#32 = none ∧ decodeSeq 0xE0000000#32 = none := by decide +kernel

/-! ## Witnesses: the step, frames, access, staging -/

/-- A device in ACTIVE shortly after a tick; at the boundary of the next; in OFF. -/
theorem witness_StepIdles :
    (let s : State := { activeWith [] with clock := ⟨10, 0, 0, false⟩ }
     s.pending = [] ∧ s.ticking = true ∧ s.clock.beat < s.clock.next) ∧
    (let s : State := { activeWith [] with clock := ⟨1000, 0, 0, false⟩ }
     s.pending = [] ∧ s.clock.next ≤ s.clock.beat) ∧
    State.reset.fastUp = false ∧
    State.reset.ticking = false ∧ State.reset.pending = [] ∧ State.reset.coreUp = false := by decide +kernel

theorem witness_CommandsAnswerAndKeepTheQueue : ∃ t, exec .fdGate State.reset = .next t := ⟨_, rfl⟩

theorem witness_FrameOfTimeAndStore :
    (Instr.beatEvent .fdGate = true ∧ ∃ t, exec .fdGate State.reset = .next t) ∧
    (Instr.writesMram .fdGate = false ∧ ∃ t, exec .fdGate State.reset = .next t) := ⟨⟨rfl, _, rfl⟩, rfl, _, rfl⟩

theorem witness_StepKeepsTimeOrdered : State.reset.TimeInv ∧ ∃ t, step State.reset = .next t :=
  ⟨⟨by decide, by decide, by decide⟩, _, rfl⟩

theorem witness_StepKeepsMramForm : State.reset.MramInv ∧ ∃ t, step State.reset = .next t := ⟨by unfold State.MramInv; decide, _, rfl⟩

theorem witness_LittleEndianValues :
    (1 < 2) ∧ 65535 < 256 ^ 2 ∧
    (∃ r, entryAt K.fdHoldTicks = some r ∧ r.acc ≠ .wo ∧ r.ty ≠ .str ∧ r.ty ≠ .domain ∧ [1#8, 2#8].length = r.ty.bits / 8) ∧
    (0 < 16 ∧ -(2 ^ 15 : Int) ≤ -32768 ∧ (-32768 : Int) < 2 ^ 15) :=
  ⟨by decide, by decide, ⟨_, rfl, by decide, by decide, by decide, by decide⟩, by decide, by decide, by decide⟩

/-- An ordinary entry: the device's core down; the mailbox closed; a write refused for its access, for its value, and accepted. -/
theorem witness_HostWriteAnswers :
    stamped K.fdHoldTicks = false ∧ stamped K.devState = false ∧ State.reset.openTick.coreUp = false ∧
    K.fdHoldTicks ≠ K.recClear ∧ (activeWith []).locksEarly K.wdgLock [1] = false ∧ (activeWith []).locksEarly K.recClear [0xEA, 0xC1] = false ∧
    stamped K.recClear = false ∧ (wrote K.recClear [0xEA, 0xC1] (activeWith []).openTick).1 = 0 ∧
    writeCheck K.recClear (activeWith []).openTick = none ∧
    (let b := (activeWith [(K.ecatAlState, 1)]).openTick; b.coreUp = true ∧ b.answers .ecat = false) ∧
    (let b := (activeWith []).openTick
     b.answers .spi = true ∧ writeCheck K.devState b = some 0x06010002 ∧ writeCheck K.fdHoldTicks b = none ∧
      wrote K.fdHoldTicks [0xFF, 0xFF] b = refuse 0x06090030 b ∧ (wrote K.fdHoldTicks [20, 0] b).1 = 0) := by decide +kernel

theorem witness_AccessAborts :
    (indexExists 0x5000 = false ∧ entryAt (0x5000 * 256) = none) ∧
    (indexExists (K.devState / 256) = true ∧ entryAt (0x2000FE) = none ∧ 0x2000FE % 256 ≠ 0) ∧
    (entryAt K.devState).map EntryRow.acc = some .ro ∧ (entryAt K.cfgCommit).map EntryRow.acc = some .wo ∧
    ((entryAt K.fdHoldTicks).map EntryRow.acc = some .rwl ∧ (activeWith [(K.cfgLock, 1)]).get K.cfgLock = 1) ∧
    ((entryAt 0x1A0001).map EntryRow.acc = some .rwp ∧ (activeWith [(K.ecatAlState, 8)]).get K.ecatAlState ≠ 2) ∧
    (K.fdHoldTicks ≠ K.seqImage ∧ K.fdHoldTicks ≠ K.cfgImage ∧ [1#8].length < widthOf K.fdHoldTicks ∧
      widthOf K.fdHoldTicks < [1#8, 2#8, 3#8].length) := by decide +kernel

/-- FD.HOLD_TICKS with a value above and at its range's end, a stride-scheduled entry, and a staged one with a user program running. -/
theorem witness_PlainAndStagedWrites :
    (∃ r, entryAt K.fdHoldTicks = some r ∧ r.acc ≠ .w1c ∧
      r.rule.ok r.ty (clearMask 1001 (reservedBits K.fdHoldTicks)) = false ∧
      r.rule.ok r.ty (clearMask 1000 (reservedBits K.fdHoldTicks)) = true ∧ r.staged K.fdHoldTicks = true) ∧
    ((activeWith []).programRuns = false ∧ (activeWith []).staging.set = [] ∧ strideScheduled K.fdHoldTicks = false ∧
      consistent K.fdHoldTicks (fun j => if j = K.fdHoldTicks then 1000 else (activeWith []).dueGet j) = true) ∧
    (∃ r, entryAt (K.qwPos 3) = some r ∧ r.acc ≠ .w1c ∧ strideScheduled (K.qwPos 3) = true ∧
      r.rule.ok r.ty (clearMask 9 (reservedBits (K.qwPos 3))) = true ∧
      consistent (K.qwPos 3) (fun j => if j = K.qwPos 3 then clearMask 9 (reservedBits (K.qwPos 3)) else (activeWith []).dueGet j) = true) ∧
    (∃ r, entryAt K.budgetCont = some r ∧ r.acc ≠ .w1c ∧
      r.rule.ok r.ty (clearMask 60000 (reservedBits K.budgetCont)) = true ∧ strideScheduled K.budgetCont = false ∧
      consistent K.budgetCont (fun j => if j = K.budgetCont then clearMask 60000 (reservedBits K.budgetCont)
        else (activeWith [(K.budgetPeak, 5)]).dueGet j) = false) ∧
    ((activeWith [(K.seqState, 3)]).programRuns = true ∧
      consistent K.fdHoldTicks (fun j => if j = K.fdHoldTicks then 1000 else (activeWith [(K.seqState, 3)]).stagedGet j) = true ∧
      (activeWith [(K.seqState, 3)]).staging.set.length < 256) :=
  ⟨⟨_, rfl, by decide +kernel, by decide +kernel, by decide +kernel, by decide +kernel⟩, by decide +kernel,
    ⟨_, rfl, by decide +kernel, by decide +kernel, by decide +kernel, by decide +kernel⟩,
    ⟨_, rfl, by decide +kernel, by decide +kernel, by decide +kernel, by decide +kernel⟩, by decide +kernel⟩

theorem witness_plain_write_no_effect (w : Nat) (u : State) : cameIntoUse K.fdHoldTicks w u = u := rfl

/-- The staging set empty; one value in it with no commit; a commit already there. -/
theorem witness_CaptureCommitDiscard :
    (activeWith []).openTick.answers .spi = true ∧ (activeWith []).openTick.staging.set = [] ∧
    (let s : State := { activeWith [] with staging := { Staging.reset with set := [(K.fdHoldTicks, 20)] } }
     s.openTick.answers .spi = true ∧ s.openTick.staging.set ≠ [] ∧ s.openTick.staging.commit = none ∧ s.openTick.lockedSet = false ∧
      stridesAhead s.openTick.strideTarget 5 < 2 ^ 31 ∧ ¬ stridesAhead s.openTick.strideTarget 1 < 2 ^ 31) ∧
    (let s : State := { activeWith [] with staging := { Staging.reset with commit := some .tick } }
     s.openTick.staging.commit ≠ none) ∧
    (let s : State := { activeWith [(K.wdgLock, 1)] with staging := { Staging.reset with set := [(K.wdgEn, 0)] } }
     s.openTick.answers .spi = true ∧ s.openTick.get K.wdgLock = 1 ∧ (∃ e ∈ s.openTick.staging.set, K.wdgEn ≤ e.1 ∧ e.1 ≤ K.wdgStartDelay)) := by
  decide +kernel

/-! ## Witnesses: clock and divider -/

theorem witness_CrystalAndStrideStart :
    ((activeWith []).fastUp = true ∧ (activeWith []).get K.timeClkSrc = 0 ∧ (activeWith [(K.timeClkSrc, 1)]).get K.timeClkSrc ≠ 0) ∧
    (let s : State := { State.reset with power := { State.reset.power with boot := some ⟨0, false, false, []⟩ } }
     s.get K.timeClkSrc = 0 ∧ s.power.boot = some ⟨0, false, false, []⟩) ∧
    (let s : State := { activeWith [] with stride := { StrideClock.reset with period := 1, elapsed := 4096 } }
     s.fastUp = true ∧ 0 < s.stride.length ∧ s.stride.length ≤ s.stride.elapsed ∧ s.strideState ≠ .holdover) ∧
    (let s : State := { activeWith [] with stride := { StrideClock.reset with period := 1, elapsed := 4095 } }
     s.stride.elapsed < s.stride.length) ∧
    (let s := activeWith [(K.strideState, 3), (K.strideHoldWarn, 7), (K.strideHoldStrides, 7)]
     s.fastUp = true ∧ s.strideState = .holdover ∧ s.stride.holdLong = false ∧ s.get K.strideHoldWarn ≠ 0 ∧
      s.get K.strideHoldWarn ≤ s.get K.strideHoldStrides) := by decide +kernel

/-- At STRIDE.MISS_N minus one and at STRIDE.MISS_N; in ACQUIRING; in HOLDOVER; an edge before the DIV-th. -/
theorem witness_StrideEdgesFoundAndMissing :
    (let s : State := { activeWith [(K.strideDiv, 2)] with stride := { StrideClock.reset with source := 1 } }
     s.fastUp = true ∧ s.stride.source < 2 ∧ (s.get K.strideEdge = 0 ↔ true = true) ∧ ¬ (s.get K.strideEdge = 0 ↔ false = true) ∧
      s.strideState ≠ .holdover ∧ s.stride.div + 1 < s.get K.strideDiv) ∧
    (let s : State := { activeWith [(K.ecatDcActive, 1)] with stride := { StrideClock.reset with source := 2 } }
     s.fastUp = true ∧ 2 ≤ s.stride.source ∧ s.stride.source = 2 ∧ s.get K.ecatDcActive = 1) ∧
    ((activeWith []).stride.source ≠ 2 ∧ (activeWith []).get K.ecatDcActive ≠ 1) ∧
    (let c : StrideClock := { StrideClock.reset with measured := true, period := 6553600, lastEdge := some 0, badRun := 1 }
     let s (st miss : Nat) : State := { activeWith [(K.strideState, st), (K.strideMissN, miss)] with stride := c, clock := ⟨100000, 100000, 0, false⟩ }
     ((s 2 3).edgeMissing = true ∧ (s 2 3).strideState = .locked ∧ (s 2 3).stride.badRun + 1 < (s 2 3).get K.strideMissN) ∧
     ((s 2 2).edgeMissing = true ∧ (s 2 2).get K.strideMissN ≤ (s 2 2).stride.badRun + 1) ∧
     ((s 1 2).edgeMissing = true ∧ (s 1 2).strideState = .acquiring) ∧
     ((s 3 2).edgeMissing = true ∧ (s 3 2).strideState = .holdover)) := by decide +kernel

theorem witness_DividerSurgeFaultsAndStop :
    (activeWith []).fastUp = true ∧ (activeWith []).divider.surging = false ∧ (activeWith []).divider.pfw = false ∧
    (activeWith []).divider.vsysOver = false ∧ (activeWith []).divider.ibusOvBeats = 0 ∧
    (each [(14000, 10)] vsysRun (activeWith [(K.fdPfwLevel, 15000)])).divider.pfw = true ∧
    (64000 < 64001 ∧ 17000 < 17001 ∧ 7499 < 7500 ∧ 2 ≤ 2 ∧ 4 ≤ 4 ∧ 32 ≤ 32 ∧ 31 < 32 ∧ [24000].length ≤ 8) ∧
    (let s : State := { activeWith [] with divider := { Divider.reset with pfwBeats := 2, pfw := false } }
     s.divider.pfw = false ∧ 2 ≤ s.divider.pfwBeats) ∧
    (let s : State := { activeWith [] with divider := { Divider.reset with clearBeats := 1000, pfw := true, vsysOver := true } }
     s.divider.pfw = true ∧ 1000 ≤ s.divider.clearBeats ∧ s.divider.vsysOver = true) ∧
    (let s : State := { activeWith [] with divider := { Divider.reset with surging := true, surgeTicks := 100 } }
     s.fastUp = true ∧ s.divider.surging = true ∧ s.divider.surgeRaised = false ∧ 100 ≤ s.divider.surgeTicks) ∧
    (let s := activeWith [(K.fdState, 3), (K.fdCflyTol, 300)]
     s.fd = .run ∧ s.divider.ibusUvBeats = 0 ∧ s.get K.fdCflyTol < 301 ∧ 300 ≤ s.get K.fdCflyTol) ∧
    (let s := activeWith [(K.fdState, 4)]
     s.fd = .swap ∧ s.divider.slewEnd = none) ∧
    (let s := atEdge 4000 (activeWith [(K.fdState, 1)])
     s.fd = .balance ∧ s.divider.entered + 4000 ≤ s.clock.beat) ∧
    (let s := activeWith [(K.fdState, 3), (K.railState 0, 3), (K.railState 11, 7)]
     s.fastUp = true ∧ s.fd = .run ∧ 11 < 12 ∧ s.rail 1 = .off ∧ s.rail 0 ≠ .off ∧
      s.rail 0 ≠ .discharge ∧ s.rail 11 = .fault) := by decide +kernel

theorem witness_DividerRatioAndStates :
    (let s : State := { activeWith [(K.fdState, 3), (K.fdRatio, 3), (K.fdDwell, 5)] with
        divider := { Divider.reset with riseBeats := 5, fallBeats := 5, forceBeats := 2 } }
     s.autoRatio = true ∧ s.holdOver = true ∧ s.get K.fdRatio < 4 ∧ 1 < s.get K.fdRatio ∧ s.get K.fdDwell ≤ s.divider.riseBeats ∧
      s.get K.fdDwell ≤ s.divider.fallBeats ∧ 2 ≤ s.divider.forceBeats ∧ s.dividerUsed = false) ∧
    (activeWith []).autoRatio = false ∧ (activeWith []).fd ≠ .run ∧
    (let s : State := { activeWith [(K.fdState, 4), (K.fdRatio, 2)] with divider := { Divider.reset with changeTo := some 1 } }
     s.swapReady 0 = some 1 ∧ s.fd = .swap ∧ 1 < s.get K.fdRatio) ∧
    (let s : State := { activeWith [(K.fdState, 4), (K.fdRatio, 2)] with divider := { Divider.reset with changeTo := some 2 } }
     s.swapReady 0 = some 2 ∧ s.get K.fdRatio ≤ 2 ∧ s.divider.pendingMode = false) ∧
    (let s : State := { activeWith [(K.fdState, 4)] with qw := { QuietWindows.reset with openK := some 0 } }
     s.qw.openK ≠ none ∧ s.swapReady 0 = none) ∧
    ({ activeWith [(K.fdState, 4)] with divider := { Divider.reset with surging := true } } : State).divider.surging = true ∧
    ((activeWith [(K.fdState, 1)]).fd = .balance ∧ 0 ≤ (activeWith []).get K.fdCflyTol) ∧
    (let s := atEdge 9000000 (activeWith [(K.fdState, 2), (K.fdRatio, 1), (K.fdVsys, 24000), (K.fdIbus, 24000)])
     s.fd = .softstart ∧ s.rampDone 24000 = true ∧ s.rampDone 0 = false) ∧
    (let s := atEdge 20000 (activeWith [(K.fdState, 2)])
     s.fastUp = true ∧ s.fd = .softstart ∧ s.divider.entered + 2 * s.get K.fdSsTime ≤ s.clock.beat) ∧
    (let s : State := { activeWith [(K.fdState, 3), (K.fdOffDelay, 9)] with divider := { Divider.reset with offTicks := 10 } }
     s.fd = .run ∧ s.dividerUsed = false ∧ s.get K.fdOffDelay < s.divider.offTicks) ∧
    ((activeWith [(K.fdState, 5)]).fd = .stopping ∧ 999 < 1000) ∧
    (let b := (activeWith []).openTick
     b.answers .spi = true ∧ (4#8).toNat ≤ 4 ∧ 4 < (5#8).toNat ∧ b.get K.cfgLock ≠ 1 ∧ b.programRuns = false ∧ b.staging.set = []) ∧
    (activeWith [(K.cfgLock, 1)]).openTick.get K.cfgLock = 1 := by decide +kernel

/-! ## Witnesses: rails and phases -/

theorem witness_RailCommandsAndTransitions :
    (let b := (activeWith []).openTick
     b.answers .spi = true ∧ b.dev = .active ∧ b.programRuns = false ∧ b.alwaysOn 15 = false) ∧
    (withEntries [(K.devState, 2)]).openTick.dev ≠ .active ∧
    (let s := atEdge 400000 (activeWith [(K.railState 15, 2)])
     s.fastUp = true ∧ s.rail 15 = .softstart ∧ s.railRef 15 = (s.railE 15).target ∧ nearCode 0 (s.railE 15).target = true ∧
      (s.railE 15).raised = false ∧ (s.railE 15).entered + 2 * s.get (K.railSsTime 15) ≤ s.clock.beat) ∧
    (let s := activeWith [(K.railState 0, 4)]; s.rail 0 = .slewing ∧ s.railRef 0 = (s.railE 0).target) ∧
    (let s := activeWith [(K.railState 0, 5)]; s.rail 0 = .rampdown ∧ 0 < s.get (K.railDisTh 0)) ∧
    (let s : State := { atEdge 100000000 (activeWith [(K.railState 0, 6)]) with
        rails := Vector.replicate 16 { RailEngine.reset with discharged := false } }
     s.openTick.coreUp = true ∧ s.openTick.rail 0 = .discharge ∧ 0 < s.openTick.get (K.railDisTh 0) ∧
      s.rail 0 = .discharge ∧ s.discharged 0 = false ∧ (s.railE 0).raised = false ∧
      (s.railE 0).entered + s.get (K.railDisTime 0) * 1000 ≤ s.clock.beat) := by decide +kernel

/-- A rail that is ON; refused for want of phases; an LDO that is not refused; on the partner's side; waiting for IBUS. -/
theorem witness_EnableOutcome :
    ((activeWith [(K.railState 0, 3)]).rail 0 ≠ .off ∧ (activeWith [(K.railState 0, 3)]).rail 0 ≠ .discharge) ∧
    ((activeWith []).rail 0 = .off ∧ (activeWith []).enableRefusal 0 = some 0x11) ∧
    (let s := activeWith [(K.railVset 15, 600), (K.ldoLdoin 3, 3000)]
     15 < 16 ∧ s.rail 15 = .off ∧ s.enableRefusal 15 = none ∧ s.enableToReady 15 = false ∧ 12 ≤ 15) ∧
    (let s : State := { activeWith [(K.railVset 8, 4000)] with rails := Vector.replicate 16 { RailEngine.reset with pairMode := 2 } }
     s.enableRefusal 8 = none ∧ s.enableToReady 8 = true) ∧
    (let s := activeWith [(K.railVset 8, 4000)]
     s.enableRefusal 8 = none ∧ s.enableToReady 8 = false ∧ 8 < 12 ∧ s.get K.fdIbusGood = 0) := by decide +kernel

theorem witness_RailStateAndReference :
    15 < 16 ∧ RailState.forcesGood .fault = true ∧
    (let e : RailEngine := { RailEngine.reset with refFrom := 10, target := 20, rateNum := 1, rateDen := 2 }
     e.rateDen ≠ 0 ∧ (0 ≤ e.refBeat) ∧ (e.refFrom - e.target) + (e.target - e.refFrom) ≤ e.rateNum * (20 - e.refBeat) / e.rateDen ∧
      e.refFrom ≤ e.target) := by decide +kernel

/-- A state in which rail 0 has phases 0 and 1, in the two states given. -/
def twoPhases (a b : Nat) (l : List (Nat × Nat)) : State :=
  { activeWith ((K.phaseState 0, a) :: (K.phaseState 1, b) :: l) with
    phases := (Vector.replicate 8 PhaseEngine.reset).setIfInBounds 0 { PhaseEngine.reset with rail := 0 } |>.setIfInBounds 1
      { PhaseEngine.reset with rail := 0, passes := 3 } }

theorem witness_PhaseFaults :
    (let s := twoPhases 2 2 [(K.railState 0, 6), (K.phaseOvlBeats 1, 9990), (K.phaseTSd 1, 1500), (K.paImbalTol, 20)]
     s.fastUp = true ∧ s.drives 1 = true ∧ s.phase 1 ≠ .unused ∧ s.phase 1 ≠ .fault ∧ (s.phaseE 1).rail < 8 ∧ s.canFault 1 = true ∧
      s.get (K.railSubmode 0) ≠ 1 ∧ (s.rail (s.phaseE 1).rail).regulating = false ∧ s.get (K.phaseOvlBeats 1) ≠ 0 ∧
      10000 ≤ s.get (K.phaseOvlBeats 1) + 10 ∧ 10 ≠ 0 ∧ (s.get (K.phaseTSd 1) : Int) ≤ 1500 ∧ (s.phaseE 1).hot = false ∧
      (1499 : Int) < s.get (K.phaseTSd 1) ∧ s.get K.paImbalTol * 100 < (2001 : Int).natAbs ∧ (14000 < (14001 : Int) ∧ 4 ≤ 4)) ∧
    (twoPhases 2 1 []).canFault 1 = false ∧
    (let s := twoPhases 6 6 [(K.railState 0, 3)]
     s.fastUp = true ∧ (s.rail 0).driven = true ∧ s.driving 0 = []) ∧
    ((activeWith [(K.railOrgate 15, 1)]).get (K.railOrgate 15) = 1 ∧ (-1001 : Int) < -1000 ∧ (-1000 : Int) ≤ -1000) := by decide +kernel

theorem witness_SheddingAndBurst :
    (let s := twoPhases 2 2 [(K.railState 0, 3), (K.railShedEn 0, 1), (K.railMinPh 0, 1), (K.railShedTicks 0, 0)]
     s.fastUp = true ∧ s.get (K.railShedEn 0) = 1 ∧ s.ccm 0 = true ∧ (s.phasesIn 0 .active).getLast? = some 1 ∧
      s.get (K.railMinPh 0) < (s.phasesIn 0 .active).length ∧ s.get (K.railShedTicks 0) ≤ (s.railE 0).shedCount) ∧
    (let s := twoPhases 2 3 [(K.railState 0, 3), (K.railShedEn 0, 1)]
     s.ccm 0 = true ∧ (s.phasesIn 0 .shed).head? = some 1 ∧ s.remounting 0 = false ∧ (s.phasesIn 0 .active).contains 0 = true ∧
      (9500 : Int) < 9501) ∧
    (let s := twoPhases 2 2 [(K.devState, 3), (K.railState 0, 3)]
     s.fastUp = true ∧ s.ccm 0 = true ∧ s.remounting 0 = false ∧ s.dev = .doze) ∧
    (let s : State := { twoPhases 2 2 [(K.railState 0, 3), (K.railMode 0, 1)] with
        rails := Vector.replicate 16 { RailEngine.reset with lowCount := 4 } }
     s.ccm 0 = true ∧ s.get (K.railMode 0) = 1 ∧ 4 ≤ (s.railE 0).lowCount) ∧
    (let s := twoPhases 2 3 [(K.railSubmode 0, 1), (K.railBurstPlace 0, 0), (K.railState 0, 3)]
     s.get (K.railSubmode 0) = 1 ∧ (s.railE 0).bursting = false ∧ (s.railE 0).burstHeld = false ∧ s.get (K.railBurstPlace 0) = 0 ∧
      (s.get (K.railBurstBand 0) : Int) * 2000 ≥ 0) ∧
    (let s : State := { twoPhases 2 3 [(K.railSubmode 0, 1), (K.railBurstPlace 0, 1), (K.railBurstBand 0, 20), (K.railState 0, 3)] with
        rails := Vector.replicate 16 { RailEngine.reset with target := 400, refFrom := 400, vsetUse := 400 } }
     s.get (K.railBurstPlace 0) ≠ 0 ∧ (s.get (K.railBurstBand 0) : Int) * 500 ≤ s.below 0 980 ∧
      s.below 0 980 < (s.get (K.railBurstBand 0) : Int) * 1500 ∧ (s.get (K.railBurstBand 0) : Int) * 1500 ≤ s.below 0 970 ∧
      (s.get (K.railBurstBand 0) : Int) * 2000 ≤ s.below 0 960 ∧ s.below 0 1000 < (s.get (K.railBurstBand 0) : Int) * 500 ∧
      (s.get (K.railBurstBand 0) : Int) * 500 ≤ -(s.below 0 1010)) ∧
    (let s := twoPhases 6 3 [(K.railSubmode 0, 1), (K.railState 0, 2), (K.railBurstI 0, 10), (K.railIout 0, 21)]
     s.phasesIn 0 .active = [] ∧ 2 * s.get (K.railBurstI 0) < s.get (K.railIout 0) ∧ s.get (K.railMode 0) = 0 ∧ s.dev ≠ .doze ∧ s.rail 0 ≠ .on) ∧
    (let s : State := { twoPhases 2 3 [(K.railSubmode 0, 1), (K.railBurstPlace 0, 1), (K.railState 0, 3)] with
        stride := { StrideClock.reset with prev := -1 }
        rails := Vector.replicate 16 { RailEngine.reset with burstPending := true } }
     s.get (K.railSubmode 0) = 1 ∧ (s.railE 0).bursting = false ∧ (s.railE 0).burstHeld = false ∧ (s.railE 0).burstPending = true ∧
      s.get (K.railBurstPlace 0) = 1 ∧ s.slotBeat 0 = true) ∧
    (let s : State := { twoPhases 2 3 [(K.railSubmode 0, 1), (K.railState 0, 3)] with
        rails := Vector.replicate 16 { RailEngine.reset with bursting := true } }
     s.get (K.railSubmode 0) = 1 ∧ (s.railE 0).bursting = true) := by
  decide +kernel

/-- Window 7 enabled at position 0 of the stride: due and free, due while window 0 or itself is open, taken already, and open with its
end reached. -/
theorem witness_QuietWindows :
    (let s : State := { activeWith [(K.qwCtrl 7, 2 ^ 31)] with stride := { StrideClock.reset with prev := -1 } }
     s.fastUp = true ∧ s.windowDue 7 = true ∧ s.windowBlocked = false ∧ s.qw.openK ≠ some 7 ∧ s.qw.openK = none ∧
      (strideWork s).qw.openK = some 7 ∧
      ∀ p, p < 8 → s.drives p = true → (s.windowMask 7).testBit p = true → s.exempt (field (s.get (K.qwCtrl 7)) 0 8) p = false) ∧
    (let s : State := { activeWith [(K.qwCtrl 7, 2 ^ 31)] with
        stride := { StrideClock.reset with prev := -1 }, qw := { QuietWindows.reset with openK := some 7, closeAt := 100001 } }
     s.windowDue 7 = true ∧ s.qw.openK = some 7 ∧ s.clock.beat * 100 < s.qw.closeAt ∧ s.clock.beat * 100 + 100 < 100101) ∧
    (activeWith []).windowDue 7 = false ∧ (activeWith []).qw.openK = none ∧
    (let s : State := { activeWith [] with qw := { QuietWindows.reset with openK := some 7, closeAt := 100, still := 1 } }
     s.qw.openK = some 7 ∧ s.qw.closeAt ≤ s.clock.beat * 100 + 100 ∧ (∀ n, n < 8 → (s.railE n).burstHeld = false) ∧
      s.qw.still.getLsbD 0 = true ∧ s.qw.breached = false) ∧
    (let s : State := { twoPhases 2 2 [] with qw := { QuietWindows.reset with openK := some 7, closeAt := 100200, still := 1 } }
     s.qw.openK = some 7 ∧ s.qw.still.getLsbD 0 = true ∧ s.drives 0 = true) ∧
    ({ QuietWindows.reset with breached := true } : QuietWindows).breached = true := by
  decide +kernel

theorem witness_RemountAndPhaseCommands :
    (let s : State := { twoPhases 4 5 [(K.railState 0, 3)] with
        rails := Vector.replicate 16 { RailEngine.reset with fswUse := 500 } }
     s.fastUp = true ∧ s.phase 0 = .shadow ∧ (s.rail (s.phaseE 0).rail).regulating = true ∧ s.cyclesOver 0 64 = true ∧
      (s.phaseE 0).passes < 3 ∧ 3 ≤ (s.phaseE 1).passes ∧ s.phase 1 = .ramp ∧ s.cyclesOver 1 256 = true) ∧
    (let s : State := { twoPhases 4 5 [] with clock := ⟨0, 0, 0, false⟩, rails := Vector.replicate 16 { RailEngine.reset with fswUse := 500 } }
     s.cyclesOver 0 64 = false ∧ s.cyclesOver 1 256 = false) ∧
    (let b := (withEntries [(K.devState, 5)]).openTick; b.answers .spi = true ∧ b.dev.live = false) ∧
    (let b := (twoPhases 2 6 [(K.railState 0, 3)]).openTick
     b.answers .spi = true ∧ b.dev.live = true ∧ b.phase 0 ≠ .unused ∧ b.lastPhase 0 = true ∧ b.phasesHeld.testBit 1 = false ∧
      b.phase 1 = .fault ∧ (b.rail (b.phaseE 1).rail).regulating = true ∧ b.phase 0 ≠ .disabled ∧ b.phase 0 ≠ .fault) ∧
    (let b := (twoPhases 2 7 [(K.railState 0, 1)]).openTick
     b.lastPhase 0 = false ∧ b.phase 0 ≠ .disabled ∧ b.phase 1 = .disabled ∧ (b.rail (b.phaseE 1).rail).regulating = false) ∧
    (let s : State := { twoPhases 2 6 [] with fc := { Collector.reset with held := [⟨0x2001, 1, false, 0⟩] } }
     s.openTick.dev.live = true ∧ s.openTick.phase 1 = .fault ∧ s.openTick.phasesHeld.testBit 1 = true) := by decide +kernel

theorem witness_AuxiliaryRails :
    (let s : State := { activeWith [(K.railState 8, 3), (K.xbRegion 0, 1), (K.xbClTime 0, 0), (K.xbMode 0, 1), (K.xbTSd 0, 1500)] with
        rails := Vector.replicate 16 { RailEngine.reset with target := 4000, refFrom := 4000, vsetUse := 4000 } }
     s.fastUp = true ∧ s.xbWorks 0 = true ∧ (s.rail (8 + 0)).driven = true ∧
      regionOf (s.get (K.xbRegion 0)) (s.railRef (8 + 0)) 20000 ≠ s.get (K.xbRegion 0) ∧
      regionOf (s.get (K.xbRegion 0)) (s.railRef (8 + 0)) 10000 = s.get (K.xbRegion 0) ∧
      (activeWith []).xbWorks 0 = false ∧ s.get (K.xbClTime 0) ≤ (s.railE (8 + 0)).clCount ∧ (s.get (K.xbTSd 0) : Int) ≤ 1500 ∧ (s.xbE 0).hot = false) ∧
    (let s : State := { activeWith [(K.railState 8, 3), (K.xbMode 0, 1)] with
        xb := Vector.replicate 4 { XbEngine.reset with lowCount := 4 } }
     s.rail (8 + 0) = .on ∧ (s.xbE 0).skipping = false ∧ s.get (K.xbMode 0) = 1 ∧ 4 ≤ (s.xbE 0).lowCount) ∧
    (let s := activeWith [(K.railState 15, 3), (K.ldoClTime 3, 0), (K.ldoTSd, 1500)]
     s.fastUp = true ∧ s.rail (12 + 3) ≠ .off ∧ s.get (K.ldoClTime 3) ≤ (s.railE (12 + 3)).clCount ∧
      (s.railE (12 + 3)).limited = false ∧ s.canRailFault (12 + 3) = true ∧ s.alwaysOn (12 + 3) = false ∧
      (s.get K.ldoTSd : Int) ≤ 1500 ∧ s.ao.ldoHot = false ∧ 1399 < 1400) ∧
    (let s : State := { activeWith [] with
        bk := { Backup.reset with l0On := true, l0Vset := 720 }, ao := { AlwaysOn.reset with blockedBy := some 1 } }
     s.fastUp = true ∧ s.bk.l0On = true ∧ s.ao.blockedBy = some 1 ∧ s.aoGood 2000 = true ∧ s.bk.l0Vset ≠ 0 ∧
      s.get (K.railVout 12) * 2 < s.bk.l0Vset * 5) ∧
    (let s : State := { activeWith [(K.ldoTSd, 1500)] with
        bk := { Backup.reset with l0On := true, l0Vset := 720 }, ao := { AlwaysOn.reset with blockedBy := some 3 } }
     s.ao.blockedBy = some 3 ∧ 3 ≠ 1 ∧ (1350 : Int) ≤ (s.get K.ldoTSd : Int) - 150) ∧
    (let s : State := { activeWith [(K.railVout 12, 1800)] with bk := { Backup.reset with l0On := true, l0Vset := 720 } }
     s.bk.l0On = true ∧ s.ao.blockedBy = none ∧ s.rail 12 = .off ∧ s.aoGood 2000 = true ∧
      s.bk.l0Vset * 5 ≤ s.get (K.railVout 12) * 2) ∧
    ({ activeWith [] with ao := { AlwaysOn.reset with ldoHot := true } } : State).ao.ldoHot = true ∧
    Backup.reset.l0Vset = 0 := by decide +kernel

/-! ## Witnesses: supervision, health, faults -/

/-- Channel 23 (1,000 mV nominal) monitors every enabled level, past the first samples of its deglitch; rail 15 ON does so past its
blanking. -/
theorem witness_SupervisorSourcesAndGood :
    (let s := atEdge 900000 (activeWith [(K.supEn 23, 1), (K.supXscale 7, 1000), (K.supOvWarn 23, 1050), (K.supUvWarn 23, 950),
        (K.supOvFlt 23, 1090), (K.supUvFlt 23, 910)])
     s.canMeet 23 0 1050 60000 = true ∧ s.canMeet 23 1 950 60000 = true ∧ s.canMeet 23 3 1090 60000 = true ∧
      s.canMeet 23 4 910 60000 = true ∧ s.canMeet 23 4 911 60000 = false ∧ s.goodEvaluated 23 = true ∧
      s.stands 23 3 = false ∧ (s.supLevel 23 0).isSome = true ∧ (s.supLevel 23 6).isSome = true ∧ s.meetsOv 23 1000 = false ∧
      s.get (K.supPgDeglitch 23) ≤ 60000 ∧ 60000 + s.goodSince 23 ≤ s.clock.beat + 1 ∧
      s.get (K.supGood 23) ≠ 1 ∧ s.get (K.supGood 23) = 0) ∧
    (let s : State := { atEdge 900000 (activeWith [(K.supEn 15, 1), (K.railState 15, 3), (K.supOcWarn 15, 50), (K.supOcFlt 15, 60)]) with
        rails := Vector.replicate 16 { RailEngine.reset with target := 400, vsetUse := 400 } }
     s.fastUp = true ∧ s.canMeet 15 2 60000 60000 = true ∧ s.canMeet 15 5 60000 60000 = true ∧ s.goodEvaluated 15 = true) ∧
    ((activeWith [(K.supEn 0, 0)]).canMeet 0 4 0 60000 = false) ∧
    (let s : State := { atEdge 900000 (activeWith [(K.supEn 23, 1), (K.supXscale 7, 1000), (K.supOvFlt 23, 1090)]) with
        sup := Vector.replicate 24 { SupEngine.reset with standing := 8 } }
     s.goodEvaluated 23 = true ∧ s.stands 23 (condBit .ov) = true ∧ condBit .ov < 6 ∧
      (s.supLevel 23 (condBit .ov)).any (fun level => leaves (condBit .ov) (s.supValue 23 (condBit .ov) 900) level (s.supHyst 23)) = true ∧
      (s.supLevel 23 (condBit .ov)).any (fun level => leaves (condBit .ov) (s.supValue 23 (condBit .ov) 1090) level (s.supHyst 23)) = false) := by
  decide +kernel

/-- A run of rail 8 that has not begun. -/
def runOf (n : Nat) (started : Bool) : RhRun := ⟨n, [], 0, started, none, false, 0, 0, 0, 0, 0, 0, 0, 0⟩

theorem witness_RailHealth :
    (let b := (activeWith []).openTick
     b.answers .spi = true ∧ b.coreUp = true ∧ b.dev ≠ .stall ∧ 11 < (12#8).toNat ∧ (11#8).toNat ≤ 11 ∧ b.rhRunJob = false ∧
      b.jobChoice = some 0 ∧ 0xFFF < (0x1000#16).toNat ∧ (0xFFF#16 : BitVec 16) ≠ 0 ∧ (0xFFF#16).toNat ≤ 0xFFF) ∧
    (let b := (withEntries [(K.devState, 5)]).openTick; b.answers .spi = true ∧ b.dev = .stall) ∧
    (let s : State := { activeWith [] with rh := { RhEngine.reset with queued := some (1, 0) } }
     s.openTick.answers .spi = true ∧ s.openTick.rhRunJob = true) ∧
    (let s := atEdge 5000000 (activeWith [(K.rhEn 11, 1), (K.rhInterval 11, 5)])
     s.fastUp = true ∧ s.get (K.rhEn 11) = 1 ∧ s.get (K.rhInterval 11) ≠ 0 ∧
      s.get (K.rhInterval 11) ≤ s.clock.epochs - s.rh.lastEnd.toArray.getD 11 0) ∧
    (activeWith [(K.rhEn 11, 0)]).get (K.rhEn 11) = 0 ∧
    (let s : State := { activeWith [] with arb := ⟨some 3, some 4⟩ }
     s.get K.rhArbOwner = 0 ∧ s.arb.rhSince = some 3 ∧ s.arb.estSince = some 4 ∧ 3 < 4) ∧
    (let s : State := { activeWith [] with arb := ⟨some 3, some 3⟩ }
     s.arb.rhSince = some 3 ∧ s.arb.estSince = some 3 ∧ 3 ≤ 3) ∧
    (activeWith [(K.rhArbOwner, 1)]).get K.rhArbOwner ≠ 0 := by decide +kernel

theorem witness_RailHealth_starts :
    (let s : State := { activeWith [(K.rhState, rhWait), (K.rhArbOwner, 1), (K.railState 8, 3), (K.rhPlace 8, 0),
        (K.supUvWarn 8, 0), (K.supOvWarn 8, 0)] with rh := { RhEngine.reset with run := some (runOf 8 true) } }
     s.fastUp = true ∧ s.rh.run = some (runOf 8 true) ∧ s.get K.rhState = rhWait ∧ s.get K.rhArbOwner = 1 ∧
      s.pairExcludes 8 = false ∧ s.amplitudeOk 8 = true ∧ s.injects 8 = true ∧ s.get (K.rhPlace 8) = 0 ∧ s.clock.beat % 1000 = 0) ∧
    (let s : State := { activeWith [(K.rhState, rhWait), (K.rhArbOwner, 1), (K.rhAmp 8, 60), (K.supUvWarn 8, 1)] with
        clock := ⟨1001, 1000, 0, false⟩, rh := { RhEngine.reset with run := some (runOf 8 false) } }
     s.pairExcludes 8 = false ∧ s.amplitudeOk 8 = false ∧ (runOf 8 false).started = false ∧ s.rhPlaced 8 = false) ∧
    (let s : State := { activeWith [] with rails := Vector.replicate 16 { RailEngine.reset with pairMode := 2 } }
     s.pairExcludes 8 = true) ∧
    (let s : State := { atEdge 9000000 (activeWith [(K.rhState, rhSettle), (K.rhFLo 8, 1000), (K.rhFHi 8, 10000), (K.rhPoints, 2)]) with
        rh := { RhEngine.reset with run := some (runOf 8 true) } }
     s.get K.rhState = rhSettle ∧ s.periodsOver (runOf 8 true) 8 = true) ∧
    (let s : State := { activeWith [(K.rhState, rhSettle), (K.rhFLo 8, 1000), (K.rhFHi 8, 10000), (K.rhPoints, 2)] with
        clock := ⟨10, 0, 0, false⟩, rh := { RhEngine.reset with run := some (runOf 8 true) } }
     s.periodsOver (runOf 8 true) 8 = false) := by decide +kernel

theorem witness_RailHealth_points :
    (let s : State := { atEdge 9000000 (activeWith [(K.rhState, rhInject), (K.railState 8, 3), (K.rhPoints, 2), (K.rhMaxTries, 1),
        (K.rhFLo 8, 1000), (K.rhFHi 8, 10000), (K.rhBlankMax, 0), (K.rhCycles, 4)]) with
        rh := { RhEngine.reset with run := some { runOf 8 true with blank := 1 } } }
     s.get K.rhState = rhInject ∧ (runOf 8 true).points.length + 1 < s.get K.rhPoints ∧
      s.periodsOver (runOf 8 true) (s.get K.rhCycles) = true ∧ (s.rail 8).regulating = true ∧ s.dev = .active ∧
      s.blankedOut { runOf 8 true with blank := 1 } = true ∧ s.blankedOut (runOf 8 true) = false ∧ s.injectable 8 = true ∧
      s.amplitudeOk 8 = true ∧ s.get K.rhMaxTries ≤ 0 + 1) ∧
    (activeWith [(K.rhPoints, 1)]).get K.rhPoints ≤ (runOf 8 true).points.length + 1 ∧
    (activeWith []).rail 8 = .off ∧ (withEntries [(K.devState, 2)]).dev ≠ .active ∧ (activeWith []).openTick.coreUp = true ∧
    (let s : State := { activeWith [(K.rhState, rhCompute), (K.rhPoints, 0)] with rh := { RhEngine.reset with run := some (runOf 11 true) } }
     s.fastUp = true ∧ s.rh.run = some (runOf 11 true) ∧ 11 < 12 ∧ s.rh.commissions = [] ∧ s.dev = .active ∧ s.get K.rhState = rhCompute ∧
      crossover (s.get (K.rhFLo 11)) (s.get (K.rhFHi 11)) (s.get K.rhPoints) (runOf 11 true).points = none ∧
      s.get (K.rhBaseValid 11) ≠ 1) := by decide +kernel

/-- The injection of a point under way, outside a hold and in one. -/
theorem witness_HealthInjection :
    State.reset.rh.run = none ∧
    (let s (a b : Nat) : State := { activeWith [(K.rhState, rhSettle)] with
        rh := { RhEngine.reset with run := some { runOf 8 true with heldFrom := a, heldUntil := b } } }
     (s 0 0).rh.run = some { runOf 8 true with heldFrom := 0, heldUntil := 0 } ∧ (runOf 8 true).rail ≠ 7 ∧ (runOf 8 true).rail = 8 ∧
      (s 0 0).get K.rhState = rhSettle ∧ 0 ≤ (s 0 0).clock.beat * 100 ∧ 99000 ≤ (s 99000 101000).clock.beat * 100 ∧
      (s 99000 101000).clock.beat * 100 < 101000) ∧
    ((activeWith [(K.rhState, rhCompute)]).get K.rhState ≠ rhSettle ∧ (activeWith [(K.rhState, rhCompute)]).get K.rhState ≠ rhInject) := by
  decide +kernel

theorem witness_FaultClassification :
    (∀ j, j < 32 → bitOf ((activeWith []).get (K.faultRemap j)) 31 = false) ∧
    (let s := activeWith [(K.faultRemap 31, 2 ^ 31 + 3 * 2 ^ 16 + 0x20FF)]
     31 < 32 ∧ bitOf (s.get (K.faultRemap 31)) 31 = true ∧ field (s.get (K.faultRemap 31)) 8 8 = SrcKind.phOc.type ∧
      field (s.get (K.faultRemap 31)) 0 8 = 0xFF ∧ ∀ h, h < 31 → bitOf (s.get (K.faultRemap h)) 31 = false) ∧
    (1 < (activeWith [(K.faultLatchMin, 2)]).get K.faultLatchMin ∧ (activeWith [(K.faultLatchMin, 2)]).get K.faultLatchMin ≤ 2 ∧
      (activeWith []).get K.faultFirstValid = 0 ∧ (activeWith [(K.faultFirstValid, 1)]).get K.faultFirstValid ≠ 0) := by
  decide +kernel

theorem witness_MildSourcesTurnNothingOff :
    effectiveClass (openBeat (activeWith [])).fc.unackAtStart ((activeWith []).raisedClass .clkXtalLost 0) ≤ 1 := by decide +kernel

theorem witness_ErrorRegisterAndEmergencies :
    ({ Collector.reset with emcy := List.replicate 16 ⟨0x8130, 0, 0, 2, 2, 0, false, false⟩ } : Collector).emcy.length = 16 ∧
    ({ Collector.reset with emcy := List.replicate 15 ⟨0x8130, 0, 0, 2, 2, 0, false, false⟩ } : Collector).emcy.length < 16 := by
  decide +kernel

theorem witness_FaultCommands :
    (let b := (activeWith []).openTick
     b.answers .spi = true ∧ b.fc.held = [] ∧ b.get K.faultLockout = 0) ∧
    ({ Collector.reset with held := [⟨0x2001, 1, false, 0⟩] } : Collector).held ≠ [] ∧
    (let b := (activeWith [(K.faultLockout, 1)]).openTick
     b.answers .spi = true ∧ b.get K.faultLockout ≠ 0 ∧ b.jobChoice = some 0) := by decide +kernel

theorem witness_Recovery :
    (let s : State := { atEdge 1002000 (activeWith [(K.faultAutoAck, 1)]) with fc := { Collector.reset with lastRelease := some 1 } }
     s.openTick.coreUp = true ∧ s.openTick.fc.lastRelease = some 1 ∧ s.openTick.get K.faultAutoAck ≠ 0 ∧
      1 + s.openTick.get K.faultAutoAck * 1000 ≤ s.openTick.tick) ∧
    (let s : State := { activeWith [(K.faultQuiet, 10), (K.faultQuietCnt, 9)] with
        fc := { Collector.reset with held := [⟨0x2001, 2, false, 0⟩] } }
     s.openTick.fc.held ≠ [] ∧ s.openTick.faultBusy = false ∧ s.openTick.get K.faultLockout = 0 ∧
      s.openTick.get K.faultQuiet ≤ s.openTick.get K.faultQuietCnt + 1 ∧
      s.openTick.restartRails = 0 ∧ s.openTick.restartsDevice = false) ∧
    (let s : State := { activeWith [] with fc := { Collector.reset with held := [⟨0x2001, 2, true, 0⟩] } }
     s.openTick.faultBusy = true) ∧
    (let s : State := { activeWith [] with fc := { Collector.reset with restart := 2 ^ 15 } }
     s.openTick.dev = .active ∧ (maskList 16 s.openTick.fc.restart).filter (fun j => s.openTick.rail j == .off) = [15]) ∧
    (let s := atEdge 10000000 (activeWith [(K.faultRetryWin, 10)])
     s.openTick.fc.lastSevere + s.openTick.get K.faultRetryWin * 1000000 ≤ s.openTick.clock.beat) := by decide +kernel

/-! ## Witnesses: the sequencer -/

theorem witness_SequencerWordsRoundTrip :
    seqWf (.enable true 5 0x8001) = true ∧ seqWf (.jump 3 1 255) = true ∧ seqWf (.slew 15 true 1440) = true ∧
    decodeSeq 0x18058001#32 = some (.enable true 5 0x8001) := by decide +kernel

/-- A device in ACTIVE with a sequencer state and entries. -/
def seqAt (st : Nat) (l : List (Nat × Nat)) : State := activeWith ((K.seqState, st) :: l)

/-- A step that waits since beat 0, at beat 900,000. -/
def waits (i : SeqInstr) (l : List (Nat × Nat)) : State :=
  atEdge 900000 { seqAt 1 l with seq := { State.reset.seq with waiting := some i } }

/-- Power-up, power-down and a user program stand ready; the flag and the loop counter may have either value. -/
theorem witness_ImmediateSteps :
    (seqAt 1 []).seqReady ∧ (seqAt 2 []).seqReady ∧ (seqAt 3 []).seqReady ∧
    ((seqAt 1 []).openTick.seqState = .powerUp ∧ (seqAt 2 []).openTick.seqState = .powerDown ∧
      (seqAt 3 []).openTick.seqState = .user) ∧
    ((seqAt 1 [(K.seqFlag, 1)]).seqReady ∧ (seqAt 1 [(K.seqFlag, 1)]).openTick.get K.seqFlag = 1) := by
  simp only [State.seqReady]
  decide +kernel

/-- Rails 15 and 0; an advance of the gait state by one, in both directions. -/
theorem witness_WaitingSteps :
    (let s := seqAt 1 [(K.railVset 15, 600), (K.ldoLdoin 3, 3000)]
     s.seqReady ∧ ((0x8000#16).getLsbD 12 && s.openTick.bk.l0On) = false ∧
      ∀ n, n ∈ railsOf 0x8000 → (seqBegin (.enable true 0 0x8000) s.openTick).enableRefusal n = none) ∧
    (seqAt 1 [(K.strideState, 2)]).openTick.strideState = .locked ∧
    (1#6).toNat = (seqAt 1 []).openTick.get K.seqGaitState + 1 ∧
    (63#6).toNat = (seqAt 1 [(K.seqGaitState, 62)]).openTick.get K.seqGaitState + 1 ∧
    (let s := seqAt 2 [(K.seqGaitState, 5)]
     s.seqReady ∧ s.openTick.seqState = .powerDown ∧ (4#6).toNat + 1 = s.openTick.get K.seqGaitState ∧
      s.openTick.get K.seqGaitState ≤ (5#6).toNat) ∧
    (let s := seqAt 1 [(K.railState 0, 3)]
     s.openTick.alwaysOn 0 = false ∧ (s.openTick.rail 0).regulating = true) := by
  simp only [State.seqReady]
  decide +kernel

theorem witness_StepsThatFailAtStart :
    (let s : State := { seqAt 1 [] with bk := { Backup.reset with l0On := true } }
     s.seqReady ∧ (0x1000#16).getLsbD 12 = true ∧ s.openTick.bk.l0On = true) ∧
    (let u := seqBegin (.enable false 0 1) (seqAt 1 []).openTick
     (seqAt 1 []).seqReady ∧
      ((railsOf 1).filter (fun n => u.rail n == .off || u.rail n == .discharge || u.rail n == .fault)).filter
        (fun n => (u.enableRefusal n).isSome) = [0]) ∧
    ((seqAt 1 []).openTick.strideState ≠ .locked ∧ (seqAt 1 []).openTick.alwaysOn 0 = false ∧
      ((seqAt 1 []).openTick.rail 0).regulating = false ∧ (seqAt 1 []).openTick.seqState = .powerUp ∧
      (2#6).toNat ≠ (seqAt 1 []).openTick.get K.seqGaitState + 1) := by
  simp only [State.seqReady]
  decide +kernel

theorem witness_WaitsThatEnd :
    ((waits (.enable true 0 0x8000) [(K.railState 15, 3)]).fastUp = true ∧
      ∀ n, n ∈ railsOf 0x8000 → (waits (.enable true 0 0x8000) [(K.railState 15, 3)]).rail n = .on) ∧
    (∀ n, n ∈ railsOf 0x8000 → (waits (.disable true 1 0x8000) []).rests n = true) ∧
    (waits (.waitTime false 900000) []).seq.startBeat + (900000#27).toNat ≤ (waits (.waitTime false 900000) []).clock.beat ∧
    ((waits (.waitTime true 900) []).seq.startBeat / 1000 + (900#27).toNat) * 1000 ≤ (waits (.waitTime true 900) []).clock.beat ∧
    (let s : State := { waits (.waitStride false 0 0) [] with stride := { StrideClock.reset with prev := -1 } }
     s.seq.stridesLeft = 0 ∧ s.unitDue (0#12).toNat K.seqInstr = true ∧ s.seq.startBeat < s.clock.beat) ∧
    (let s : State := { waits (.slew 0 true 0) [(K.railState 0, 3)] with rails := Vector.replicate 16 RailEngine.reset }
     (s.rail 0).regulating = true ∧ s.railRef 0 = (0#13).toNat) ∧
    (let v := waits (.gait 1 1) []
     let s : State := { v with gait := { GaitLines.reset with released := true } }
     s.seq.waiting = some (.gait 1 1) ∧ s.get K.gaitAckN ≤ 900000 ∧ s.seq.startBeat + 900000 ≤ s.clock.beat ∧ s.gait.released = true) ∧
    (let s : State := { seqAt 1 [] with gait := { GaitLines.reset with pullAt := some 1000 } }
     s.fastUp = true ∧ s.gait.pullAt = some 1000 ∧ 1000 ≤ s.clock.beat) := by decide +kernel

/-- A CHECK on channel 0 that holds in its last beat and one that is broken; one on a pin that only the command sees, and that pin. -/
theorem witness_WaitsThatEnd_check :
    (let v := waits (.check false false 0 0 0) [(K.supGood 0, 1), (K.seqChkStable 0, 5)]
     let s : State := { v with seq := { v.seq with stable := 4, stableAt := some 899999 } }
     s.checkHolds false 0 0 = true ∧ s.seq.stableAt ≠ some s.clock.beat ∧ s.freePin 0 0 = false ∧
      s.get (K.seqChkStable 0) ≤ (countStable s).seq.stable) ∧
    (waits (.check false false 0 0 0) []).checkHolds false 0 0 = false ∧
    (let s := waits (.check false false 0 3 7) [(K.seqChkStable 0, 5)]
     s.freePin 3 7 = true ∧ s.get (K.seqChkStable 0) ≤ 5 ∧ s.seq.startBeat + 5 ≤ s.clock.beat + 1) := by decide +kernel

theorem witness_WaitsThatFail :
    (let s := waits (.enable true 1 0x8000) []
     s.fastUp = true ∧ s.seq.waiting = some (.enable true 1 0x8000) ∧
      (railsOf 0x8000).find? (fun n => s.rail n == .fault || s.rail n == .off) = some 15) ∧
    (let s := waits (.enable true 1 0x8000) [(K.railState 15, 2)]
     (railsOf 0x8000).find? (fun n => s.rail n == .fault || s.rail n == .off) = none ∧ s.seq.startBeat + s.waitLimit 1 ≤ s.clock.beat ∧
      (railsOf 0x8000).find? (fun n => !(s.rail n == .on || s.rail n == .ready)) = some 15) ∧
    (let s := waits (.disable true 1 1) [(K.railState 0, 5)]
     s.seq.startBeat + s.waitLimit 1 ≤ s.clock.beat ∧ (railsOf 1).find? (fun n => !s.rests n) = some 0) ∧
    (let s := waits (.check false true 31 0 23) [(K.seqChkTimeout 31, 900), (K.seqChkChat 31, 2), (K.seqChkToggles, 2)]
     s.seq.startBeat + s.get (K.seqChkTimeout 31) * 1000 ≤ s.clock.beat ∧ s.freePin 0 23 = false ∧
      s.get (K.seqChkChat 31) ≠ 0 ∧ s.get (K.seqChkChat 31) ≤ s.get K.seqChkToggles) ∧
    (let s := waits (.check false true 31 3 7) [(K.seqChkChat 31, 2), (K.seqChkToggles, 1)]
     s.get (K.seqChkChat 31) ≠ 0 ∧ s.freePin 3 7 = true ∧ s.get K.seqChkToggles < 2 ∧
      s.get (K.seqChkChat 31) ≤ (s.putFit K.seqChkToggles 2).get K.seqChkToggles) ∧
    (let s := waits (.gait 1 1) []
     s.seqState = .powerUp ∧ s.seq.startBeat + s.gaitLimit 1 ≤ s.clock.beat) := by decide +kernel

/-- An image of one word with no program in it (R180). -/
def tinyImage : List Byte :=
  let b := leBytes 4 0x4B535147 ++ leBytes 4 0x10001 ++ List.replicate 36 0#8
  b ++ leBytes 4 (crc32 b).toNat

/-- The line of another device, the own one at its last sample, and the release in the first beat it may come. -/
theorem witness_GaitAlarm :
    (let s : State := { activeWith [(K.gaitAlrmDeglitch, 10)] with gait := { GaitLines.reset with en := true } }
     s.fastUp = true ∧ s.gait.en = true ∧ s.gait.detected = false ∧ s.gait.alarm = false ∧ s.get K.gaitAlrmDeglitch ≤ 10 ∧
      s.openTick.answers .spi = true ∧ s.openTick.gait.en = true ∧ s.openTick.drivesGait = true) ∧
    (let s : State := { activeWith [(K.gaitAlrmDeglitch, 10)] with
        gait := { GaitLines.reset with en := true, alarm := true, alarmFrom := 990 } }
     s.fastUp = true ∧ s.gait.alarm = true ∧ s.get K.gaitAlrmDeglitch ≤ s.clock.beat - s.gait.alarmFrom) ∧
    (let s : State := { activeWith [(K.pairState, 3)] with gait := { GaitLines.reset with en := true } }
     s.openTick.answers .spi = true ∧ s.openTick.drivesGait = false) ∧
    ((activeWith []).openTick.gait.en = false ∧ (activeWith []).openTick.answers .spi = true ∧ (activeWith []).gait.alarm = false) ∧
    (let v := activeWith [(K.gaitAlrmMin, 10)]
     let s : State := atEdge 15000 { v with gait := { GaitLines.reset with en := true, alarm := true, alarmSince := 5000 } }
     s.gait.alarm = true ∧ s.gait.alarmSince + s.get K.gaitAlrmMin * 1000 ≤ s.clock.beat ∧ s.programRuns = false) := by decide +kernel

theorem witness_ProgramCommands :
    (let s : State := { activeWith [] with seq := { State.reset.seq with image := List.replicate 60 1#8 } }
     let b := s.openTick
     b.answers .spi = true ∧ 2 ≤ (7#8).toNat ∧ (7#8).toNat ≤ 7 ∧ b.dev = .active ∧ b.programRuns = false ∧
      (imageDir b.seq.image 7).2 ≠ 0 ∧ b.jobChoice = some 0) ∧
    ((activeWith []).openTick.answers .spi = true ∧ (1#8).toNat < 2 ∧ 7 < (8#8).toNat ∧
      (imageDir (activeWith []).openTick.seq.image 2).2 = 0) ∧
    ((seqAt 3 []).openTick.seqState = .user ∧ (activeWith []).openTick.seqState ≠ .user) ∧
    ((activeWith []).openTick.get K.cfgLock ≠ 1 ∧ (seqAt 3 []).openTick.programRuns = true ∧
      (activeWith []).openTick.programRuns = false ∧ okImage [] = false ∧ okImage tinyImage = true) := by decide +kernel

/-! ## Witnesses: power states -/

/-- The device's own thresholds lie within the bounds of R483: 14,200 to 14,800 mV and 15,500 to 16,000 mV of VSYS. -/
theorem test_thresholds : 14200 ≤ vsysUvMv ∧ vsysUvMv ≤ 14800 ∧ 15500 ≤ vsysGoodMv ∧ vsysGoodMv ≤ 16000 := by
  unfold vsysUvMv vsysGoodMv thresholdMv
  omega

/-- A device in a state with EN high. -/
def enAt (st : Nat) (req : Option Nat) (l : List (Nat × Nat)) : State :=
  { withEntries ((K.devState, st) :: l) with
    pins := { State.reset.pins with en := true }, power := { State.reset.power with req := req } }

theorem witness_StateRequests :
    (let b := (withEntries [(K.devState, 5)]).openTick; b.answers .spi = true ∧ b.dev = .stall) ∧
    (let b := (activeWith [(K.pairState, 1)]).openTick; b.answers .spi = true ∧ b.joining = true) ∧
    (let b := (withEntries [(K.devState, 2)]).openTick; b.answers .spi = true ∧ b.joining = false ∧ b.dev = .standby) ∧
    (withEntries [(K.devState, 3)]).openTick.dev = .doze ∧
    (let b := (activeWith []).openTick; b.joining = false ∧ b.dev = .active ∧ b.programRuns = false ∧ b.get K.faultUnack &&& 0x3C = 0) ∧
    (activeWith [(K.faultUnack, 4)]).openTick.get K.faultUnack &&& 0x3C ≠ 0 ∧
    ((seqAt 2 []).openTick.seqState = .powerDown ∧ (seqAt 2 []).openTick.get K.seqOnLatch = 0 ∧
      (seqAt 2 []).openTick.programRuns = true) := by decide +kernel

theorem witness_StateRequests_tick :
    (let s := enAt 2 (some 4) []
     s.vsysLost = false ∧ s.fc.lockoutDue = false ∧ s.enHigh = true ∧ s.dev = .standby ∧ s.power.req = some 4) ∧
    (let s := enAt 4 (some 3) []
     s.vsysLost = false ∧ s.fc.lockoutDue = false ∧ s.enHigh = true ∧ s.dev = .active ∧ s.power.req = some 3 ∧ s.dozeAllowed = true) ∧
    (let s := enAt 3 (some 2) []
     s.enHigh = true ∧ s.dev = .doze ∧ s.fc.dozeWake = false ∧ s.power.req = some 2) ∧
    (let s := enAt 4 none []
     s.vsysLost = false ∧ s.enHigh = true ∧ s.dev = .active ∧ s.power.req = none) := by decide +kernel

theorem witness_TickTransitions :
    (let s : State := { withEntries [(K.devState, 2)] with power := { State.reset.power with autostartDue := true } }
     let b := s.openTick
     b.coreUp = true ∧ b.fc.lockoutDue = false ∧ b.dev = .standby ∧ b.power.autostartDue = true ∧ b.joining = false ∧
      b.power.since < b.tick) ∧
    (withEntries [(K.devState, 2), (K.seqOnLatch, 1)]).openTick.latchDue = true ∧
    (let s : State := { seqAt 2 [] with
        seq := { State.reset.seq with atEnd := true, cause := 1 }, pins := { State.reset.pins with en := true } }
     let b := s.openTick
     b.coreUp = true ∧ b.downDone = true ∧ b.enHigh = true ∧ b.seq.cause = 1 ∧ b.fc.restartDev = false) ∧
    ((activeWith []).openTick.dev = .active ∧ (activeWith []).openTick.seqState = .idle ∧
      (activeWith []).openTick.power.offPending = none) ∧
    (let s : State := { activeWith [] with fc := { State.reset.fc with lockoutDue := true } }
     s.vsysLost = false ∧ s.fc.lockoutDue = true ∧ s.dev.live = true) := by decide +kernel

/-- VSYS at 0 mV: undervoltage, loss, no supply. -/
theorem witness_TickTransitions_vsys :
    ({ activeWith [] with divider := { State.reset.divider with hist := [0] } } : State).vsysLost = true ∧
    0 < vsysUvMv ∧ vsysUvMv ≤ 14800 ∧ startSupply 20000 0 0 = some 3 ∧ startSupply 0 0 0 = none ∧ supplyOf 0 0 0 = none ∧
    supplyOf 20000 0 0 = some 3 := by
  simp [State.vsysLost, startSupply, supplyOf, vsysUvMv, vsysStartMv, vbakStartMv, packStartMv, vsysHoldMv, vbakHoldMv, packHoldMv, thresholdMv]

theorem witness_SuppliesAndReset :
    ((activeWith []).openTick.fastUp = true ∧ (activeWith []).dev.main = true ∧ State.reset.dev = .off) ∧
    (let s : State := { withEntries [(K.devState, 1)] with power := { State.reset.power with boot := some ⟨0, false, false, []⟩ } }
     s.openTick.power.boot ≠ none) ∧
    (let s := withEntries [(K.devState, 1)]
     s.dev = .backup ∧ s.power.boot = none ∧ s.power.held = false ∧ s.bkUp = true ∧ s.dev.main = false ∧ 3 ≠ s.bk.supply) := by
  decide +kernel

theorem witness_Boots :
    (State.reset.dev.main = false ∧ State.reset.power.boot = none ∧ State.reset.power.held = false ∧
      State.reset.pins.vddioGood = true) ∧
    ({ State.reset with power := { State.reset.power with held := true } } : State).power.held = true ∧
    (let s : State := { withEntries [(K.devState, 5)] with power := { State.reset.power with retryAt := some 0 } }
     s.openTick.retryDue = true ∧ s.openTick.answers .spi = true ∧ s.openTick.dev = .stall ∧ s.openTick.jobChoice = some 0) ∧
    ({ State.reset with power := { State.reset.power with boot := some ⟨0, false, false, []⟩ } } : State).power.boot =
      some ⟨0, false, false, []⟩ := by
  decide +kernel

/-! ## Witnesses: power path, charger, budget, estimator -/

theorem witness_PowerPath :
    (let s : State := { activeWith [(K.pathQual, 3), (K.pathVinOvp, 20000)] with
        path := { State.reset.path with vinQual := 3, auxQual := 3 } }
     s.fastUp = true ∧ s.get K.pathQual ≤ s.path.vinQual ∧ s.get K.pathQual ≤ s.path.auxQual ∧ s.get K.pathVinOvp ≠ 0 ∧
      15499 < s.get K.pathVinOvp ∧ s.get K.pathVinOvp ≤ 20000 ∧ s.fc.due = []) ∧
    (let s := activeWith [(K.pathSource, 1), (K.chgVbat, 60000), (K.pathVTake, 48000)]
     s.get K.pathSource = 1 ∧ s.batValid = true ∧ s.path.batOn = false ∧ 47999 < s.get K.pathVTake ∧ s.get K.pathVTake + 1000 ≤ 49000) ∧
    (let s : State := { activeWith [(K.pathSource, 3), (K.chgVbat, 60000), (K.pathCutoffTicks, 4)] with
        path := { State.reset.path with cutoffTicks := 4 } }
     s.batPathOn = true ∧ s.get K.pathCutoffTicks ≤ s.path.cutoffTicks) ∧
    ({ activeWith [] with path := { State.reset.path with leaving := 1 } } : State).path.leaving ≠ 0 ∧
    (let s : State := { State.reset with
        bk := { Backup.reset with batStart := true, restartLevel := 40000, alarmDue := true }, pins := { State.reset.pins with wake := true } }
     s.dev.main = false ∧ s.bk.batStart = true ∧ s.bk.cutoff = false ∧ s.bk.restartLevel ≤ 40000 ∧ 39999 < s.bk.restartLevel ∧
      s.bk.alarmDue = true ∧ s.pins.wake = true) := by
  decide +kernel

/-- A device in ACTIVE with a charger state, its counts and entries. -/
def charging (st : Nat) (c : Charger) (l : List (Nat × Nat)) : State := { activeWith ((K.chgState, st) :: l) with chg := c }

theorem witness_ChargeCycle :
    (let s := charging 3 { State.reset.chg with preTicks := 10 } []
     s.coreUp = true ∧ s.chgState = .precharge ∧ 10 ≤ s.chg.preTicks) ∧
    ((charging 4 State.reset.chg []).chgState = .cc ∧ (charging 4 State.reset.chg []).chg.probing = false) ∧
    (let s := charging 5 { State.reset.chg with cvTicks := 10, eocTicks := 7 } [(K.chgEocTicks, 7)]
     s.chgState = .cv ∧ 10 ≤ s.chg.cvTicks ∧ s.get K.chgEocTicks ≤ s.chg.eocTicks) ∧
    (let s := charging 6 { State.reset.chg with rechgTicks := 100 } []
     s.chgState = .done ∧ 100 ≤ s.chg.rechgTicks) ∧
    (let s := charging 7 { State.reset.chg with regainTicks := 100 } []
     s.chgState = .suspend ∧ 100 ≤ s.chg.regainTicks) ∧
    (let s := charging 8 { State.reset.chg with stateTicks := 5000 } [(K.chgDetRetry, 5)]
     s.chgState = .missing ∧ s.chgHeld = false ∧ s.get K.chgDetRetry * 1000 ≤ s.chg.stateTicks) ∧
    (let s := charging 2 { State.reset.chg with stateTicks := 10, vOpen := 90000 } []
     s.chgState = .detect ∧ 10 ≤ s.chg.stateTicks ∧ s.rechargeLevel ≤ s.chg.vOpen) ∧
    (let s := charging 2 { State.reset.chg with stateTicks := 30, vOpen := 40000 } [(K.chgVbat, 41999)]
     30 ≤ s.chg.stateTicks ∧ s.chg.vOpen < s.rechargeLevel ∧ s.get K.chgVbat < s.chg.vOpen + 2000 ∧
      s.get K.chgVbat + 100 < s.cvTarget ∧ s.shortLevel ≤ s.get K.chgVbat) ∧
    (let s := charging 2 { State.reset.chg with stateTicks := 30, vOpen := 40000 } [(K.chgVbat, 42000)]
     s.chg.vOpen < s.rechargeLevel ∧ s.chg.vOpen + 2000 ≤ s.get K.chgVbat) := by decide +kernel

theorem witness_ChargerTakesState : ChgState.fault.charging = false := rfl

theorem witness_ChargeStops :
    (let s := charging 4 { State.reset.chg with accFast := 60000 * 2 ^ 32 } [(K.chgTimer, 1)]
     s.coreUp = true ∧ s.chgState = .cc ∧ s.chgState.stoppable = true ∧ s.get K.chgTimer * 60000 * 2 ^ 32 ≤ s.chg.accFast) ∧
    (charging 6 State.reset.chg []).chgState.stoppable = false ∧
    (let s := charging 5 { State.reset.chg with absFast := 120000 } [(K.chgTimer, 1)]
     s.chgState = .cv ∧ s.chg.accFast < s.get K.chgTimer * 60000 * 2 ^ 32 ∧ 2 * (s.get K.chgTimer * 60000) ≤ s.chg.absFast) ∧
    (let s := charging 3 { State.reset.chg with accPre := 60000 * 2 ^ 32 } [(K.chgPreTimer, 1)]
     s.chgState = .precharge ∧ s.get K.chgPreTimer * 60000 * 2 ^ 32 ≤ s.chg.accPre) ∧
    (let s := charging 4 { State.reset.chg with shortBeats := 3 } []
     s.chgState.charging = true ∧ 9 * (s.get K.chgILim : Int) ≤ 10 * s.get K.chgILim ∧ s.shortLevel - 1 < s.shortLevel ∧
      s.shortLevel - 1 ≤ s.ovLevel ∧ s.chg.shortBeats < 4 ∧ 4 ≤ s.chg.shortBeats + 1) ∧
    (let s := charging 4 { State.reset.chg with ovBeats := 3 } []
     s.ovLevel < s.ovLevel + 1 ∧ s.shortLevel ≤ s.ovLevel + 1 ∧ s.chg.ovBeats < 4 ∧ 4 ≤ s.chg.ovBeats + 1) ∧
    (let s := charging 4 { State.reset.chg with collapse := 999, collapseV := 50000, iRef := 1000 } []
     s.chg.probing = false ∧ s.collapses 0 = true ∧ s.collapses 900 = false ∧ s.chg.collapse + 0 < 1000 ∧ 1000 ≤ s.chg.collapse + 1 ∧
      (collapseCount 1 s).chg.collapseV + s.get K.chgRemoveDv ≤ 50000 + s.get K.chgRemoveDv ∧
      0 < (collapseCount 1 s).chg.collapseV + s.get K.chgRemoveDv) ∧
    (let s := charging 4 { State.reset.chg with probing := true, collapseV := 50000, probeLeft := 2 } []
     s.chg.probing = true ∧ 49249 * 1000 < s.chg.collapseV * 985 ∧ s.chg.collapseV * 985 ≤ 49250 * 1000 ∧ 1 < s.chg.probeLeft ∧
      s.chg.probeLeft ≤ 2) ∧
    (let s := charging 10 { State.reset.chg with revShortTicks := 10 } []
     s.chgState = .reverse ∧ 10 ≤ s.chg.revShortTicks) := by decide +kernel

theorem witness_HarvestAndReverse :
    (let s := charging 4 { State.reset.chg with sweeping := true, sweepTicks := 50 } []
     s.coreUp = true ∧ s.chg.sweeping = true ∧ 50 ≤ s.chg.sweepTicks) ∧
    (let s := charging 4 { State.reset.chg with harvesting := true, periodTicks := 100 } [(K.mpptPeriod, 100)]
     s.chg.harvesting = true ∧ s.chg.sweeping = false ∧ s.get K.mpptPeriod ≤ s.chg.periodTicks ∧ s.chg.bound = false) ∧
    (let s : State := { activeWith [] with path := { State.reset.path with harvestValid := true } }
     s.path.harvestValid = true ∧ s.get K.chgInput ≠ 2) ∧
    (let s := charging 6 State.reset.chg [(K.pathSource, 1), (K.chgVbat, 60000), (K.revV, 24000)]
     s.openTick.answers .spi = true ∧ s.openTick.canReverse = true) ∧
    ((activeWith []).openTick.canReverse = false ∧ (activeWith [(K.revV, 24000)]).get K.revV + 2000 < 26001) ∧
    10 ≤ (charging 10 { State.reset.chg with revLowTicks := 10 } []).chg.revLowTicks := by decide +kernel

theorem witness_BudgetAndThermal :
    ((activeWith []).coreUp = true ∧ (activeWith []).budget.above = false ∧
      (activeWith [(K.budgetPeak, 9), (K.budgetCont, 5), (K.budgetPeakTime, 3)]).eMax ≠ 0) ∧
    ({ activeWith [] with budget := { State.reset.budget with above := true } } : State).budget.above = true ∧
    (let s : State := { activeWith [] with budget := { State.reset.budget with noneLeft := 10 } }
     10 ≤ s.budget.noneLeft ∧ s.budget.overRaised = false) ∧
    (let s : State := { activeWith [] with therm := { State.reset.therm with counts := Vector.replicate 12 10 } }
     10 ≤ s.therm.counts.toArray.getD 11 0 ∧ s.excluded 11 = false) ∧
    (let s := activeWith [(K.thermTjMax, 2000), (K.thermPdiss, 2000000), (K.chgITherm, 0), (K.thermShedTicks, 0), (K.railState 15, 3),
        (K.budgetPrio 15, 7)]
     s.thermOver = true ∧ s.get K.chgITherm = 0 ∧ s.get K.thermShedTicks ≤ s.therm.shedCount ∧ s.shedChoice 16 = some 15) := by
  decide +kernel

/-- A measurement's point, asked of the arbiter, granted or begun at beat 0. -/
def pointOf (granted started : Bool) : Measurement :=
  { point := 6, tries := 0, granted := granted, started := started, job := none, tSum := 0, tCount := 0, t0 := 0, amp := 0, base := 0,
    heldAt := none, blank := 0, dark := [], st0 := 0, in0 := 0 }

theorem witness_EstimatorEvents :
    (let v := activeWith [(K.estState, 2), (K.estHibT, 60), (K.estZInterval, 60)]
     let s : State := atEdge 2000000 { v with est := { State.reset.est with hibCount := 60, sinceZ := 60 } }
     s.fastUp = true ∧ s.estState = estRun ∧ s.get K.estHibT ≠ 0 ∧ s.get K.estHibT ≤ s.est.hibCount ∧ s.est.measure = none ∧
      s.clock.beat % 1000000 = 0 ∧ s.get K.estZInterval ≠ 0 ∧ s.get K.estZInterval ≤ s.est.sinceZ ∧ s.estState ≠ estOffCode) ∧
    (let b := (activeWith []).openTick
     b.answers .spi = true ∧ b.dev ≠ .stall ∧ b.est.measure = none ∧ b.jobChoice = some 0 ∧ b.est.last = none) ∧
    ({ activeWith [] with est := { State.reset.est with last := some (5, 50000000) } } : State).openTick.est.last = some (5, 50000000) ∧
    (let s := activeWith [(K.estState, 3), (K.estWakeI, 50)]
     s.estState = estHib ∧ s.get K.estWakeI ≤ (-50 : Int).natAbs ∧ (49 : Int).natAbs < s.get K.estWakeI) ∧
    (let s : State := { activeWith [(K.estCkpt, 60)] with est := { State.reset.est with ckptAge := 60 } }
     s.coreUp = true ∧ s.get K.estCkpt ≤ s.est.ckptAge) := by decide +kernel

theorem witness_EstimatorEvents_points :
    (let m := pointOf true false
     let s : State := { activeWith [(K.estZPlace, 1), (K.estZPos, 0)] with
       est := { State.reset.est with measure := some m }, stride := { StrideClock.reset with prev := -1 } }
     s.est.measure = some m ∧ m.granted = true ∧ m.started = false ∧ s.chgKept m = true ∧ s.get K.estZPlace ≠ 0 ∧ s.unitDue (s.get K.estZPos) K.estZPos = true) ∧
    (activeWith [(K.estZPlace, 0)]).get K.estZPlace = 0 ∧ (activeWith [(K.chgState, 4)]).chgKept (pointOf true false) = false ∧
    (let m := pointOf true true
     let s : State := { activeWith [(K.estZTries, 2)] with est := { State.reset.est with measure := some m } }
     let t : State := { activeWith [(K.estZTries, 1)] with est := { State.reset.est with measure := some m } }
     m.started = true ∧ m.granted = true ∧ m.over (10 ^ 12) (m.settle + m.periods) = true ∧ m.point + 1 < 8 ∧
      s.openTick.coreUp = true ∧ s.openTick.est.measure = some m ∧ s.openTick.pointFails m true = true ∧
      m.tries + 1 < s.openTick.get K.estZTries ∧ t.openTick.get K.estZTries ≤ m.tries + 1) := by decide +kernel

/-- An epoch of 50 V and no current, at its boundary, with one reading of each NTC. -/
def epochOf : EpochInputs := { shunt := [(0, 1000000)], bat := [(50000000, 1000000)] }
def atEpoch (st : Nat) : State :=
  { activeWith [(K.estState, st)] with
    clock := ⟨1000000, 1000000, 1, true⟩, est := { State.reset.est with ntcNum := Vector.replicate 4 1 } }

theorem witness_EstimatorEpochs :
    (activeWith []).epochDue = false ∧
    ((atEpoch 0).epochDue = true ∧ (atEpoch 0).estState = estOffCode ∧ (atEpoch 0).dev.estimates = true) ∧
    ((atEpoch 2).epochDue = true ∧ (atEpoch 2).estState ≠ estOffCode) := by decide +kernel

theorem witness_EstimatorEpochs_states :
    (sampleEpoch epochOf (atEpoch 2)).estState = estRun ∧ (sampleEpoch epochOf (atEpoch 1)).estState = estInit ∧
    (sampleEpoch epochOf (atEpoch 3)).estState = estHib ∧ (sampleEpoch epochOf (atEpoch 4)).estState = estNoPack ∧
    (initEpoch ((atEpoch 1).epochI epochOf) (epochV epochOf) (sampleEpoch epochOf (atEpoch 1))).est.packGone = false ∧
    (let s : State := { atEpoch 1 with est := { (atEpoch 1).est with packGone := true } }
     let x : EpochInputs := { shunt := [(0, 1000000)], bat := [(0, 1000000)] }
     (initEpoch (s.epochI x) (epochV x) (sampleEpoch x s)).est.packGone = true ∧
      (initEpoch (s.epochI x) (epochV x) (sampleEpoch x s)).estState = estNoPack) := by decide +kernel

/-! ## Witnesses: the pair, the watchdog, the backup domain -/

/-- A device in ACTIVE with the pair in a state and a link, in beat 5,010 of its time. -/
def pairAt (st link : Nat) (p : Pair) (l : List (Nat × Nat)) : State :=
  { activeWith ((K.pairState, st) :: (K.pairLink, link) :: l) with pair := p, clock := ⟨5010, 5000, 0, true⟩ }

/-- A fast frame with a sequence number, the sender's pair state and the rails that it carries. -/
def fastFrame (seq carry : BitVec 16) : FastFrame :=
  ⟨seq, 0, 4, 6, true, false, false, 0, 0, 0, 0, 0, carry, 0, 0, 0, 0, 0, 0, 0, 0, 0, 0, 0, 0, 0, 0⟩

theorem witness_PairFrames :
    (let s := pairAt 6 2 Pair.reset []
     s.pairs = true ∧ s.get K.pairLink ≠ 0 ∧ s.clock.beat % 10 = 0 ∧ s.pair.txBeat ≠ some s.clock.beat) ∧
    ((pairAt 6 0 Pair.reset []).pairs = true ∧ (pairAt 6 0 Pair.reset []).get K.pairLink = 0) ∧
    (let s := pairAt 6 2 { Pair.reset with lastGood := some 4979 } []
     s.pair.lastGood = some 4979 ∧ s.linkUp = true ∧ 4979 + 31 ≤ s.clock.beat ∧ s.clock.beat < 4980 + 31) ∧
    (let s := pairAt 2 1 { Pair.reset with rxSeq := some 65535, goodRun := 1 } []
     s.get K.pairLink = 1 ∧ s.pair.rxSeq = some 65535 ∧ (0#16).toNat = (65535 + 1) % 2 ^ 16 ∧ s.pair.goodRun < 2 ∧
      (7#16).toNat ≠ (65535 + 1) % 2 ^ 16) ∧
    (let s := pairAt 3 2 { Pair.reset with bulkNext := 1 } []
     s.pairs = true ∧ s.dev ≠ .stall ∧ s.linkUp = true ∧ s.pairSt = pairBulk ∧ (2#16).toNat ≠ s.pair.bulkNext ∧
      (1#16).toNat = s.pair.bulkNext ∧ (1#16).toNat + 1 < (3#16).toNat ∧ (2#16 : BitVec 16) ≠ 0 ∧ s.pair.bulkSkip = false ∧
      s.pair.bulkNext ≠ 0) ∧
    (pairAt 3 2 { Pair.reset with bulkSkip := true } []).pair.bulkSkip = true ∧
    ((pairAt 3 2 Pair.reset []).pair.bulkNext = 0 ∧ 3 ≤ (pairAt 3 2 { Pair.reset with bulkTries := 3 } []).pair.bulkTries) := by decide +kernel

theorem witness_PairCarriage :
    (let e : RailEngine := { RailEngine.reset with pairMode := 2, vsetUse := 400 }
     let s : State := { pairAt 6 2 { Pair.reset with armed := 0xFFFF } [(K.railState 15, 8), (K.pairArmTime, 5010), (K.pairTakeDeglitch, 2)] with
        rails := Vector.replicate 16 e }
     s.decides = true ∧ s.rail 15 = .ready ∧ (s.railE 15).pairMode = 2 ∧ s.aboveTake 15 2000 = true ∧ s.aboveTake 15 0 = false ∧
      s.get K.pairArmTime ≤ 5010 ∧ (s.railE 15).entered + s.get K.pairArmTime ≤ s.clock.beat ∧ s.pair.armed.getLsbD 15 = true ∧
      s.get K.pairTakeDeglitch ≤ 2 ∧ 1 < s.get K.pairTakeDeglitch ∧ s.pair.stopSeen.getLsbD 15 = false) ∧
    (let s := pairAt 6 2 { Pair.reset with stops := [(15, 1, 5010)] } []
     s.fastUp = true ∧ s.pair.stops.find? (fun e => e.1 == (15 : Fin 16).val) = some (15, 1, 5010) ∧ 5010 ≠ 0 ∧ 5010 ≤ s.clock.beat) := by
  decide +kernel

/-- Handback of rail 15, an announcement of the partner, rejoining, and a wait whose end finds no partner. -/
theorem witness_PairCarriage_commands :
    (let p := { Pair.reset with
        peer := some { fastFrame 0 0x8000 with announce := 0x4000 }, stopSeen := 0x4000, slowCrc := some 0, peerSlow := some ⟨0, 0, 0, 0, 0, 0, 0, 0, 0, 0, 0, [], []⟩ }
     let v := atEdge 5000 (pairAt 6 2 p [(K.railState 15, 8), (K.cfgCrc, 0)])
     let b := ({ v with rails := Vector.replicate 16 { RailEngine.reset with pairMode := 2 } } : State).openTick
     b.answers .spi = true ∧ b.pairSt = pairPaired ∧ b.linkUp = true ∧ b.pair.peerSlow = some ⟨0, 0, 0, 0, 0, 0, 0, 0, 0, 0, 0, [], []⟩ ∧
      b.pair.slowCrc = some (0#32).toNat ∧ b.pair.peer = p.peer ∧
      (fastFrame 0 0x8000).pairState = 6 ∧ b.healthy = true ∧ b.pair.stopSeen.getLsbD 14 = true ∧
      ∀ n, n ∈ maskList 16 (0x8000#16).toNat → (b.railE n).pairMode = 2 ∧ b.rail n = .ready ∧
        (fastFrame 0 0x8000).carry.toNat.testBit n = true) ∧
    (let b := (atEdge 5000 (pairAt 2 2 Pair.reset [])).openTick
     b.answers .spi = true ∧ b.healthy = false ∧ b.pairSt ≠ pairPaired ∧ b.pairSt = pairSolo ∧ b.linkUp = true) ∧
    (atEdge 5000 (pairAt 2 1 Pair.reset [])).openTick.linkUp = false ∧
    (let b := (atEdge 6000 (pairAt 1 1 { Pair.reset with roleFixed := true } [(K.pairJoinWait, 6)])).openTick
     b.decides = true ∧ b.pairSt = pairWait ∧ b.pair.joinFrom + b.get K.pairJoinWait ≤ b.tick ∧
      (b.linkUp && b.partnerLive) = false ∧ b.linkUp = false ∧ b.pair.roleFixed = true) := by decide +kernel

/-- A device in ACTIVE with a watchdog state and entries, W at 100,000 of a period of 800,000. -/
def watched (st : Nat) (l : List (Nat × Nat)) : State :=
  { activeWith ((K.wdgState, st) :: l) with wdg := { State.reset.wdg with w := 100000, period := 800000, winN := 4 } }

theorem witness_CheckIns :
    (let s := watched 2 [(K.wdgTasks, 0x8000), (K.wdgPeriodStart, 1)]
     let v := wdgBeat s
     let u := stampNow ((v.put (K.wdgLastTag 15) 7).put (K.wdgLastTime 15) v.wdg.w)
     s.answers .spi = true ∧ v.bit K.wdgTasks 15 = true ∧ v.wdgSt = wdgRun ∧ v.wdg.w < u.wdgOpen) ∧
    (let s := watched 2 [(K.wdgTasks, 0x8000), (K.wdgPeriodStart, 0), (K.wdgMode, 1)]
     let v := wdgBeat { s with wdg := { s.wdg with w := 200000 } }
     let u := stampNow ((v.put (K.wdgLastTag 15) 7).put (K.wdgLastTime 15) v.wdg.w)
     u.wdgOpen ≤ v.wdg.w ∧ v.bit K.wdgSeen 15 = false ∧ v.get K.wdgMode ≠ 0) ∧
    ((wdgBeat (watched 2 [(K.wdgSeen, 0x8000)])).bit K.wdgSeen 15 = true ∧ (wdgBeat (watched 2 [])).get K.wdgMode = 0 ∧
      (wdgBeat (watched 0 [])).bit K.wdgTasks 0 = false) := by decide +kernel

theorem witness_WatchdogKeyAndLock :
    (let s : State := { watched 2 [] with wdg := { State.reset.wdg with w := 200, period := 800000, winN := 4, keyFirst := some 100 } }
     let v := stampNow (wdgBeat s)
     s.answers .spi = true ∧ v.get K.wdgLock ≠ 1 ∧ v.wdg.lockAsked = false ∧ v.keyHears = true ∧ v.wdg.keyFirst = some 100 ∧ v.wdg.w ≤ 100 + 100) ∧
    (stampNow (wdgBeat (watched 2 []))).wdg.keyFirst = none ∧ (stampNow (wdgBeat (watched 2 [(K.wdgLock, 1)]))).get K.wdgLock = 1 ∧
    (let s : State := { watched 2 [] with wdg := { State.reset.wdg with lockAsked := true } }
     (stampNow (wdgBeat s)).wdg.lockAsked = true ∧ s.wdg.lockAsked = true ∧ s.coreUp = true) ∧
    (let s : State := { watched 2 [] with clock := ⟨1, 0, 0, false⟩ }
     s.answers .spi = true ∧ s.clock.beat < s.clock.next) ∧
    (watched 4 []).clock.next ≤ (watched 4 []).clock.beat + 1000 ∧ (activeWith []).clock.next ≤ (activeWith []).clock.beat ∧
    (watched 4 []).openTick.answers .spi = true ∧ (watched 4 []).openTick.wdgSt = wdgDisabled ∧
    (watched 2 []).openTick.wdgSt ≠ wdgDisabled := by decide +kernel

/-- Watchdog counts of a period that is over. -/
def periodDone (l : List (Nat × Nat)) : State :=
  { activeWith ((K.wdgState, 2) :: l) with wdg := { State.reset.wdg with w := 200000, period := 200000, winN := 4 } }

theorem witness_Verdicts :
    (let s := periodDone []
     s.wdg.resetDue = false ∧ s.periodOver = true ∧ clearMask (s.get K.wdgTasks) (s.get K.wdgSeen) = 0 ∧ s.wdg.early = 0 ∧
      s.wdg.double = 0 ∧ s.get K.wdgTasks = 0) ∧
    (let s (a : Nat) := periodDone [(K.wdgTasks, 1), (K.wdgAction, a)]
     let v (a : Nat) := wdgVerdict false ((s a).get K.wdgPeriodStart + (s a).wdg.period) (s a)
     let p (a : Nat) := wdgPeriodFrom ((s a).get K.wdgPeriodStart + (s a).wdg.period) (v a).2
     (s 2).wdg.resetDue = false ∧ (s 2).periodOver = true ∧ (v 2).1 = true ∧ (p 2).get K.wdgAction = 2 ∧
      (v 0).1 = true ∧ (p 0).get K.wdgAction ≠ 2 ∧ (p 0).wdg.resetDue = false) ∧
    (let s (a : Nat) := watched 2 [(K.wdgTasks, 1), (K.wdgAction, a)]
     (s 0).clkWatched = true ∧ (wdgClkTrip (s 0)).wdg.resetDue = false ∧ (wdgClkTrip (s 2)).wdg.resetDue = true) ∧
    (let s := atEdge 100000 (watched 1 [(K.wdgStartDelay, 100)])
     s.fastUp = true ∧ s.wdgSt = wdgStart ∧ s.wdg.startBeat + s.get K.wdgStartDelay * 1000 ≤ s.clock.beat) ∧
    (let s (st : Nat) : State := { watched st [] with wdg := { State.reset.wdg with pulseEnd := some 1000 } }
     (s 1).wdg.pulseEnd = some 1000 ∧ 1000 ≤ (s 1).clock.beat ∧ (s 1).wdgSt ≠ wdgRun ∧ (s 2).wdgSt = wdgRun) ∧
    (activeWith []).dev.main = true ∧ (activeWith []).power.held = false := by decide +kernel

/-- The last second of 2399, one cycle before its end. -/
theorem witness_CalendarWraps :
    let s : State := { activeWith [] with bk := { Backup.reset with secs := calendarSpan - 1, sub := 32767, valid := true } }
    s.bkUp = true ∧ s.bk.secs + 1 = calendarSpan ∧ s.bk.turns = true ∧ s.bk.ops = [] := by decide +kernel

/-- The 29th of February of 2000, and the last second of 2399. -/
theorem witness_CalendarRoundTrip :
    (29 ≤ monthDays (20 * 100 + 0) 2 ∧ 31 ≤ monthDays (23 * 100 + 99) 12) ∧
    secondsOf ⟨59, 59, 23, 0, 31, 12, 99, 23⟩ + 1 = calendarSpan := by decide +kernel

theorem witness_BackupEvents :
    (let s : State := { activeWith [(K.rtcAlarmMask, 1), (K.rtcAlarm, 1)] with bk := { Backup.reset with sub := 32767 } }
     s.bkUp = true ∧ s.alarmNext = true ∧ s.dev.main = true) ∧
    (activeWith []).alarmNext = false ∧
    ({ activeWith [] with bk := { Backup.reset with window := 1048575 } } : State).bk.window = 1048575 ∧
    ({ activeWith [] with bk := { Backup.reset with internalOsc := false } } : State).bk.internalOsc = false ∧
    ({ activeWith [] with bk := { Backup.reset with internalOsc := true } } : State).bk.internalOsc = true ∧
    (let s (src : Nat) : State := { withEntries [(K.devState, 1)] with bk := { Backup.reset with pwronSrc := src, latch := false } }
     (s 2).bkUp = true ∧ (s 2).dev = .backup ∧ (s 2).power.boot = none ∧ (s 2).power.held = false ∧ (s 2).pins.wakeSeen = false ∧
      (s 0).bk.pwronSrc.testBit 1 = false ∧ (s 2).bk.pwronSrc.testBit 1 = true ∧ (s 2).bk.latch = false) ∧
    (let s : State := { withEntries [(K.devState, 1)] with
        bk := { Backup.reset with latch := true, pwronHold := 1, backupCycles := 32767 } }
     s.holdNext = true) := by decide +kernel

theorem witness_BackupCommands :
    (let b := (activeWith []).openTick
     b.answers .spi = true ∧ okSet 0x2000010100000000 = true ∧ okSet 0 = false ∧ okSet 0x2000022900000000 = true ∧
      okSet 0x2001022900000000 = false) ∧
    (let b := (activeWith [(K.ecatDcActive, 1)]).openTick
     60 ≤ (60#32).toNat ∧ (86400#32).toNat ≤ 86400 ∧ b.get K.ecatDcActive ≠ 0 ∧ b.cal = none ∧ b.dev ≠ .stall ∧
      b.jobChoice = some 0) ∧
    ((RtcOp.pwron true ∈ [RtcOp.pwron false, .pwron true]) ∧
      (let s : State := { activeWith [] with bk := { Backup.reset with ops := [.pwron false], latch := true } }
       s.bk.ops = [.pwron false] ∧ s.alarmNext = false)) ∧
    (let c (c1 : Nat) : Calibration := ⟨0, 60, 0, some 0, some c1⟩
     let s (c1 : Nat) : State := { activeWith [(K.rtcTrim, 0)] with cal := some (c c1) }
     (s 1966080).cal = some (c 1966080) ∧
      511 < ((s 1966080).getI K.rtcTrim - roundDiv (driftPpb (1966080 - 0) (59000000000 - 0) * 1048576) 1000000000).natAbs ∧
      ((s 1966080).getI K.rtcTrim - roundDiv (driftPpb (1966080 - 0) (60000000000 - 0) * 1048576) 1000000000).natAbs ≤ 511) := by
  decide +kernel

/-! ## Witnesses: recorder, store, configuration, ports, tick -/

theorem witness_RecorderCommands :
    (let s := activeWith [(K.ecatAlState, 2)]
     let b := s.openTick
     s.coreUp = true ∧ b.answers .spi = true ∧ b.answers .ecat = true ∧ b.dev ≠ .stall ∧ b.jobChoice = some 0 ∧ b.log.flushTo = none ∧
      b.log.upload = none) ∧
    (let s : State := { activeWith [] with log := { State.reset.log with upload := some ⟨0, .ecat, [], 0⟩ } }
     s.log.upload = some ⟨0, .ecat, [], 0⟩ ∧ s.openTick.log.upload = some ⟨0, .ecat, [], 0⟩) ∧
    State.reset.log.failing.testBit Ring.logCtl.kind = false ∧
    (let v := activeWith [(K.strideCount, 4), (K.recTrig 7, 2 ^ 31 + 2 ^ 29 + 3 * 2 ^ 12)]
     let s : State := { v with stride := { StrideClock.reset with prev := -1 } }
     let w := s.get (K.recTrig 7)
     bitOf w 31 = true ∧ field w 28 3 = 2 ∧ s.get K.strideCount % (field w 12 8 + 1) = 0 ∧
      s.unitDue (field w 0 12) (K.recTrig 7) = true) ∧
    (let s := activeWith [(K.recTrig 7, 5)]
     s.unitDue (field (s.get (K.recTrig 7)) 0 12) (K.recTrig 7) = false) := by decide +kernel

theorem witness_StoreWorkEnds :
    ({ activeWith [] with log := { State.reset.log with flushTo := some 0 } } : State).log.flushTo = some 0 ∧
    ({ activeWith [] with log := { State.reset.log with flushTo := some 1 } } : State).log.flushTo = some (0 + 1) ∧
    ({ activeWith [] with log := { State.reset.log with save := some ⟨0, [], 0⟩ } } : State).log.save = some ⟨0, [], 0⟩ :=
  ⟨rfl, rfl, rfl⟩

/-- At the array's last bytes, with a payload of three bytes. -/
theorem witness_RecordRoundTrip :
    Mram.wf [] = true ∧ (Mram.size - 40) + recordSize [1#8, 2#8, 3#8].length ≤ Mram.size ∧ [1#8, 2#8, 3#8].length < 65536 ∧
    255 < 256 ∧ 2 ^ 32 - 1 < 2 ^ 32 ∧ 2 ^ 64 - 1 < 2 ^ 64 := by decide +kernel

theorem witness_ConfigurationCommands :
    (let b := (activeWith [(K.ecatAlState, 2)]).openTick
     b.answers .spi = true ∧ b.saving = false ∧ b.jobChoice = some 0 ∧ b.dev ≠ .stall ∧ b.power.mramFailed = false ∧
      b.get K.cfgLock ≠ 1 ∧ b.get K.ecatAlState = 2 ∧ b.programRuns = false ∧ b.staging.set = []) ∧
    (activeWith [(K.ecatAlState, 1)]).openTick.get K.ecatAlState ≠ 2 := by decide +kernel

theorem witness_JobsAndHistory :
    (let b := (activeWith [(K.jobReport 31, jobReport (255 * 256 + 31) .done 0)]).openTick
     b.answers .spi = true ∧ (0xFF1F#16).toNat % 256 ≤ 31 ∧ (0xFF1F#16).toNat / 256 ≠ 0 ∧
      b.jobHandle ((0xFF1F#16).toNat % 256) / 256 = (0xFF1F#16).toNat / 256 ∧ b.jobCode ((0xFF1F#16).toNat % 256) ≠ 1) ∧
    31 < (0x0120#16).toNat % 256 ∧
    (31 < 32 ∧ K.estZRun < 2 ^ 24 ∧ 2 ^ 32 - 1 < 2 ^ 32 ∧ State.reset.get (K.jobReport 31) < 2 ^ 64 ∧ State.reset.jobCode 31 ≠ 1) := by
  decide +kernel

theorem witness_EtherCatEvents :
    (let s := activeWith [(K.ecatAlState, 2)]
     s.coreUp = true ∧ (4#8).toNat < 16 ∧ (4#8).toNat ≠ s.get K.ecatAlState ∧ s.alRefusal 8 {} ≠ 0 ∧ s.alRefusal 1 {} = 0 ∧
      (0x22#8).toNat % 16 = s.get K.ecatAlState ∧ (0x22#8).getLsbD 5 = true) ∧
    ((activeWith [(K.ecatAlState, 8)]).get K.ecatAlState = 8 ∧ (activeWith [(K.ecatAlState, 1)]).get K.ecatAlState = 1 ∧
      State.reset.ecat.leftInit = false) := by decide +kernel

theorem witness_Mailbox :
    ((activeWith [(K.ecatAlState, 2)]).answers .ecat = true ∧ indexExists (0x5000#16).toNat = false ∧ (entryAt (0x2000 * 256 + 0x10)).isSome = true) ∧
    (let b := (activeWith [(K.ecatAlState, 2)]).openTick
     (∃ r, entryAt ((0x2510#16).toNat * 256 + (0x21#8).toNat) = some r ∧ r.acc ≠ .wo ∧ r.ty ≠ .str ∧ r.ty ≠ .domain) ∧
      (0x2510#16).toNat * 256 + (0x21#8).toNat ≠ K.chgFault ∧ (∃ r, entryAt ((BitVec.ofNat 16 (K.cfgCommit / 256)).toNat * 256 +
        (BitVec.ofNat 8 (K.cfgCommit % 256)).toNat) = some r ∧ r.acc = .wo) ∧
      (∃ d, readObject (0x2510#16).toNat (1#8).toNat (activeWith []) = .ok d) ∧ (1#8).toNat ≤ 1 ∧ (0x2510#16).toNat ≠ K.chgFault / 256 ∧
      ({ State.reset.ecat with sdo := some ⟨K.recLog, [1#8], false⟩ } : EcatPort).sdo = some ⟨K.recLog, [1#8], false⟩ ∧
      ({ State.reset.ecat with sdo := some ⟨5, [1#8], true⟩ } : EcatPort).sdo = some ⟨5, [1#8], true⟩ ∧ 5 ≠ K.recLog ∧
      [1#8].length ≤ 4 ∧ (List.replicate 496 1#8).length ≤ 496 ∧ 496 < (List.replicate 497 1#8).length ∧ 4 < (List.replicate 5 1#8).length ∧
      b.answers .ecat = true ∧ (activeWith [(K.cfgLock, 1)]).openTick.get K.cfgLock = 1 ∧ b.get K.cfgLock ≠ 1 ∧ b.programRuns = false ∧
      okImage tinyImage = true ∧ b.log.upload = none ∧ b.jobChoice = some 0) :=
  ⟨by decide +kernel, ⟨_, rfl, by decide, by decide, by decide⟩, by decide +kernel, ⟨_, rfl, rfl⟩, ⟨_, rfl⟩, by decide +kernel⟩

theorem witness_OutputCompletion :
    (let s := activeWith [(K.ecatAlState, 4)]
     let d := List.replicate (s.imageSize true) 0#8
     s.coreUp = true ∧ 4 ≤ s.get K.ecatAlState ∧ d.length = s.imageSize true ∧ (completeNow .ecat 0 d s).openTick.coreUp = true) ∧
    (let s := activeWith []
     checked K.devState (wrEntry .ecat K.devState 2 0) s = refuse 0x06010002 s ∧ 0x06010002 ≠ 0) := by decide +kernel

/-- A device in boot. -/
def inBoot : State := { State.reset with power := { State.reset.power with boot := some ⟨0, false, false, []⟩ } }

/-- Frames that a condition does not admit: a wrong CRC, a CMD of no row, a pending answer. -/
theorem witness_SpiErrors :
    State.reset.spiAlive = false ∧ inBoot.spiAlive = true ∧ inBoot.power.boot ≠ none ∧
    (let r : SpiFrame := { bytes := [1, 0, 0, 0x20, 1, 0, 0, 0] }
     (activeWith []).spiAlive = true ∧ (activeWith []).power.boot = none ∧ r.crcOk = false ∧ (activeWith []).spiAccepts r = true) ∧
    (let r := SpiFrame.of 0x0C 0 0 0 []
     r.crcOk = true ∧ r.badCmd = true ∧ (activeWith []).spiAccepts r = true) ∧
    (SpiFrame.of 1 0 0x2000 1 [7]).data ≠ [] ∧ (SpiFrame.of 1 0 0x2000 1 [7]).crcOk = true ∧
    (let r := SpiFrame.of 1 0 0x2000 1 []
     let s : State := { activeWith [] with spi := { State.reset.spi with pending := some ⟨1, 0, 0, []⟩, knownAt := 1000000 } }
     s.spiAlive = true ∧ s.power.boot = none ∧ r.crcOk = true ∧ r.badCmd = false ∧ r.data = [] ∧ s.spiAccepts r = false) ∧
    (let s : State := { activeWith [] with spi := { State.reset.spi with rseg := some (0, [], 0) } }
     s.spi.rseg = some (0, [], 0) ∧ s.log.upload = none ∧ s.clock.beat / 1000 < 0 + 10000 ∧
      0 + 10000 ≤ (atEdge 10000000 s).clock.beat / 1000) := by decide +kernel

theorem witness_SpiRequests :
    (let r := SpiFrame.of 1 0 0x2000 1 []
     let s := activeWith []
     let t := spiShift r s
     s.spiAlive = true ∧ s.power.boot = none ∧ r.crcOk = true ∧ r.badCmd = false ∧ s.spiAccepts r = true ∧ r.data = [] ∧
      frameKey r ≠ K.chgFault ∧ r.sub.toNat ≤ 1 ∧ r.index.toNat ≠ K.chgFault / 256 ∧ r.data.length ≤ 261 ∧
      stamped (frameKey r) = false ∧ t.locksEarly (frameKey r) r.data = false ∧ frameKey r ≠ K.recClear ∧ t.openTick.coreUp = true) ∧
    (let r := SpiFrame.of 2 0 (BitVec.ofNat 16 (K.recClear / 256)) (BitVec.ofNat 8 (K.recClear % 256)) [0xEA, 0xC1]
     r.crcOk = true ∧ frameKey r = K.recClear ∧ r.data.length ≤ 261) ∧
    (let r := SpiFrame.of 2 0 (BitVec.ofNat 16 (K.wdgLock / 256)) (BitVec.ofNat 8 (K.wdgLock % 256)) [1]
     (spiShift r { activeWith [] with clock := ⟨1, 0, 0, false⟩ }).locksEarly (frameKey r) r.data = true) ∧
    (let r := SpiFrame.of 1 0 (BitVec.ofNat 16 (K.chgFault / 256)) (BitVec.ofNat 8 (K.chgFault % 256)) []
     let t := spiShift r (activeWith [])
     frameKey r = K.chgFault ∧ (spiReadAnswer (spiAnswer 1 r.tag.toNat (spiValue (frameKey r) t)) t).openTick.coreUp = true) ∧
    (let r := SpiFrame.of 2 0 (BitVec.ofNat 16 (K.wdgKey / 256)) (BitVec.ofNat 8 (K.wdgKey % 256)) [0x1D, 0x4B]
     stamped (frameKey r) = true) := by decide +kernel

/-- Segments and images at the ends of their lengths. -/
theorem witness_SpiRequests_segments :
    (let r := SpiFrame.of 4 0 0x2000 1 (leBytes 4 256 ++ leBytes 2 256)
     let s : State := { activeWith [] with spi := { State.reset.spi with rseg := some (frameKey r, [1#8], 0) } }
     s.spiAlive = true ∧ r.crcOk = true ∧ r.badCmd = false ∧ r.data = leBytes 4 256 ++ leBytes 2 256 ∧ s.spiAccepts r = true ∧ (spiShift r s).spi.rseg = some (frameKey r, [1#8], 0) ∧
      (spiShift r (activeWith [])).spi.rseg = none ∧ frameKey r ≠ K.recLog ∧ frameKey r ≠ K.chgFault) ∧
    (let r := SpiFrame.of 5 0 0x2000 1 (leBytes 4 0 ++ [0#8] ++ [1#8])
     r.crcOk = true ∧ r.data = leBytes 4 0 ++ [0#8] ++ [1#8] ∧ (activeWith []).spiAccepts r = true ∧ [1#8] ≠ [] ∧ [1#8].length ≤ 256) ∧
    (let r := SpiFrame.of 5 0 0x2000 1 (leBytes 4 1 ++ [0#8] ++ [1#8])
     let s : State := { activeWith [] with spi := { State.reset.spi with wseg := some (frameKey r, [5#8]) } }
     r.crcOk = true ∧ r.data = leBytes 4 1 ++ [0#8] ++ [1#8] ∧ s.spiAccepts r = true ∧ (spiShift r s).spi.wseg = some (frameKey r, [5#8])) ∧
    (let r := SpiFrame.of 6 0 0 0 (leBytes 2 256)
     r.crcOk = true ∧ (activeWith []).spiAccepts r = true ∧ r.data = leBytes 2 256) ∧
    (let r := SpiFrame.of 7 0 0 0 [1#8]
     let s := activeWith [(K.ecatAlState, 2)]
     let t := spiShift r s
     r.crcOk = true ∧ r.badCmd = false ∧ s.spiAccepts r = true ∧ 1 ≤ r.data.length ∧ r.data.length ≤ 256 ∧ s.get K.ecatAlState < 4 ∧
      r.index.toNat + r.data.length ≤ s.imageSize true ∧
      (completeNow .spi 0 (overlay (sized (t.imageSize true) t.ecat.outImage) 0 r.data) t).openTick.coreUp = true) := by decide +kernel

theorem witness_ManagementTick :
    (let b := (activeWith []).openTick
     b.coreUp = true ∧ (activeWith []).clock.beat ≤ (activeWith []).clock.next) ∧
    (inBoot.coreUp = false ∧ inBoot.power.boot ≠ none) ∧ State.reset.fastUp = false ∧ State.reset.power.boot = none ∧
    (let s : State := { activeWith [] with power := { State.reset.power with stopped := true } }
     s.fastUp = true ∧ s.power.stopped = true) := by
  decide +kernel

theorem witness_ManagementTick_steps :
    (stateTick (seqTick (slowSources {} (sampleAll {} (tickCommits
      { (activeWith []).openTick with log := { (activeWith []).openTick.log with failing := 0 } }))))).dev.main = true := by decide +kernel

theorem witness_Publication :
    ({ activeWith [] with est := { State.reset.est with pubDue := true } } : State).est.pubDue = true ∧
    (activeWith []).est.pubDue = false ∧ estReadout K.estSoc = true ∧ estReadout K.devState = false := by decide +kernel

/-! ## Single commands, with results worked out from the rules -/

/-- Days of the week (R362): 2000-01-01 was a Saturday, 2024-02-29 a Thursday. -/
theorem test_calendar_days :
    fieldsOf 0 = ⟨0, 0, 0, 6, 1, 1, 0, 20⟩ ∧ fieldsOf (8825 * 86400 + 3661) = ⟨1, 1, 1, 4, 29, 2, 24, 20⟩ ∧
    secondsOf ⟨1, 1, 1, 4, 29, 2, 24, 20⟩ = 8825 * 86400 + 3661 := by decide +kernel

theorem test_write_value :
    after (exec (.hostWrite .spi 0x2300 5 [20#8, 0#8] 0) (activeWith [])) K.fdHoldTicks = some 20 := by decide +kernel
theorem test_write_locked :
    after (exec (.hostWrite .spi 0x2300 5 [20#8, 0#8] 0) (activeWith [(K.cfgLock, 1)])) K.fdHoldTicks = some (dflt K.fdHoldTicks) := by
  decide +kernel
/-- Filtered VSYS above 64,000 mV begins a surge; at 64,000 mV it does not (R59). -/
theorem test_surge_counts :
    after (exec (.fdSurge [(64001, 8)]) (activeWith [(K.fdSurgeCnt, 41)])) K.fdSurgeCnt = some 42 := by
  decide +kernel
theorem test_surge_below :
    after (exec (.fdSurge [(64000, 8)]) (activeWith [(K.fdSurgeCnt, 41)])) K.fdSurgeCnt = some 41 := by
  decide +kernel
/-- A counter that is full stays full (R11). -/
theorem test_crystal_lost_once :
    after (exec .clkXtalLost (activeWith [])) K.timeClkSrc = some 1 ∧
    after (exec .clkXtalLost (activeWith [(K.timeClkSrc, 1), (K.timeClkSwitchCnt, 5)])) K.timeClkSwitchCnt = some 5 := by decide +kernel
/-- An enable of rail 0 with no phase leaves the rail OFF (R91). -/
theorem test_enable_refused : after (exec (.railEnable .spi 0) (activeWith [])) (K.railState 0) = some 0 := by decide +kernel
theorem test_checkin_ignored : after (exec (.wdgCheckin .spi 3 7) (activeWith [])) K.wdgIgnoredCnt = some 1 := by decide +kernel
/-- VSYS at 0 mV is undervoltage with every threshold within the bounds of R483. -/
theorem test_vsys_uv_bound (v : Nat) (h : v < 14200) : v < vsysUvMv := Nat.lt_of_lt_of_le h test_thresholds.1
/-- EN low in ACTIVE starts power-down (R21). -/
theorem test_en_low_active :
    after (exec .enLow (activeWith [])) K.devState = some 4 ∧ after (exec .enLow (activeWith [])) K.seqState = some 2 := by decide +kernel
theorem test_gait_command_refused : after (exec (.gaitAlrmCmd .spi 1) (activeWith [])) K.gaitAlrmCnt = some 0 := by decide +kernel
theorem test_jump_loop :
    after (exec (.jump 3 2 0) (seqAt 1 [(K.seqLoop, 1)])) K.seqLoop = some 2 ∧
    after (exec (.jump 3 2 0) (seqAt 1 [(K.seqLoop, 2)])) K.seqLoop = some 0 := by decide +kernel
theorem test_mark : after (exec (.mark false false 0 0xBEEF) (seqAt 1 [])) K.seqLastMark = some 0xBEEF := by decide +kernel
theorem test_key_locked : after (exec (.wdgKey .spi 0x4B1D) (watched 2 [(K.wdgLock, 1)])) K.wdgState = some 2 := by decide +kernel
theorem test_al_refused : after (exec (.alStateRequest 8 {}) (activeWith [(K.ecatAlState, 2)])) K.ecatAlCode = some 0x11 := by
  decide +kernel
theorem test_spi_not_ready :
    (match exec (.spiNop (.of 0 0 0 0 [])) inBoot with
      | .next t => t.spi.lastSent
      | _ => none) = some ⟨0, 0, 3, []⟩ := by decide +kernel
theorem test_no_words : Sys2Proof.decodeTableWord 32 0 = none ∧ (State.reset.withFetchWord 32 0 = State.reset) := ⟨rfl, rfl⟩
/-- The check value of CRC-32: the digits 1 to 9. -/
theorem test_crc32 : crc32 ((upto 9).map (fun i => BitVec.ofNat 8 (0x31 + i))) = 0xCBF43926#32 := by decide +kernel
/-- The example of R439: a read of 0x2500:21 with TAG 5, as the bytes that the host sends. -/
theorem test_spi_example :
    (SpiFrame.of 1 5 0x2500 0x21 []).bytes = [0x01, 0x05, 0x00, 0x25, 0x21, 0x00, 0x00, 0x87] ∧
    (let r : SpiFrame := { bytes := [0x01, 0x05, 0x00, 0x25, 0x21, 0x00, 0x00, 0x87] }
     r.crcOk = true ∧ r.cmd = 1 ∧ r.tag = 5 ∧ frameKey r = 0x250021 ∧ r.data = []) := by decide +kernel
/-- A PWRON set and a clear that meet the same edge: the set wins (R373). -/
theorem test_pwron_set_wins :
    (bkEdge { activeWith [] with bk := { Backup.reset with ops := [.pwron true, .pwron false], latch := false } }).bk.latch = true := by
  decide +kernel
/-- Five bytes of a value go out as a normal upload, four as an expedited one (R425). -/
theorem test_sdo_forms :
    (sdoStart 0 [1, 2, 3, 4, 5] (activeWith [(K.ecatAlState, 2)])).ecat.mailbox = some (.normal 5 [1, 2, 3, 4, 5]) ∧
    (sdoStart 0 [1, 2, 3, 4] (activeWith [(K.ecatAlState, 2)])).ecat.mailbox = some (.expedited [1, 2, 3, 4]) := by decide +kernel
/-- R433: over the ASCII bytes "123456789" the CRC-8 gives 0xDF. -/
theorem test_crc8 : crc8 [0x31, 0x32, 0x33, 0x34, 0x35, 0x36, 0x37, 0x38, 0x39] = 0xDF#8 := by decide +kernel

end Sys2Proof.Tests
end

section
/-! The state at reset (R5, R20, R381). -/

namespace Sys2Proof.Machine

/-- At reset the dictionary lists `DEV.STATE` alone. -/
theorem State.reset_get {k : Nat} (h : k ≠ K.devState) : State.reset.get k = dflt k :=
  if_neg (Ne.symm h)

/-- Settles O7: the dictionary lists `DEV.STATE` alone, and the MRAM nothing. -/
theorem resetMeetsInvariantsAndDefaults : Obligations.ResetMeetsInvariantsAndDefaults := by
  have time : State.reset.TimeInv := ⟨rfl, Nat.le_refl 0, Nat.zero_le _⟩
  have store : State.reset.MramInv := rfl
  have off : State.reset.dev = .off := rfl
  exact ⟨⟨time, store⟩, off, rfl, rfl, fun _ => State.reset_get, fun _ => rfl⟩

end Sys2Proof.Machine
end

section
/-! What a host write does (R7, R9, R35): the answer of `hostDo` in each of its cases, the outcome of a row at the tick
boundary, and HOST_WRITE assembled from them. -/

namespace Sys2Proof.Machine

/-! ## The answer -/

section
variable {port : Port} {k : Nat} {wr : State → Written} {s : State}

theorem State.coreUp_of_answers (h : s.answers port = true) : s.coreUp = true := by
  unfold State.answers at h
  exact (Bool.and_eq_true_iff.1 h).1

theorem hostDo_silent (h : s.answers port = false) : hostDo port k wr s = { s with reply := none } := by
  rw [hostDo, h]
  rfl

theorem hostDo_checkRefuses (h : s.answers port = true) {a : Nat} (hc : writeCheck k s = some a) :
    hostDo port k wr s = { s with reply := some ⟨port, a⟩ } := by
  rw [hostDo, if_pos h, checked, hc]
  rfl

theorem hostDo_checkPasses (h : s.answers port = true) (hc : writeCheck k s = none) :
    hostDo port k wr s = answer port (wr s) := by
  rw [hostDo, if_pos h, checked, hc]

theorem hostDo_refuses (h : s.answers port = true) (hc : writeCheck k s = none) {a : Nat} (hw : wr s = refuse a s) :
    hostDo port k wr s = { s with reply := some ⟨port, a⟩ } := by
  rw [hostDo_checkPasses h hc, hw]
  rfl

theorem hostDo_accepts (h : s.answers port = true) (hc : writeCheck k s = none) {u : State} (hw : wr s = accept u) :
    hostDo port k wr s = { u with reply := some ⟨port, 0⟩ } := by
  rw [hostDo_checkPasses h hc, hw]
  rfl

/-! ## The outcome at the boundary -/

theorem hostRow_up (h : s.openTick.coreUp = true) :
    hostRow port k wr s = .next (s.atTick (hostDo port k wr s.openTick)) := by
  unfold hostRow
  exact if_pos h

theorem hostRow_down (h : s.openTick.coreUp = false) : hostRow port k wr s = .next { s with reply := none } := by
  simp only [hostRow, h, Bool.false_eq_true, ↓reduceIte]

theorem hostRowNv_up (h : s.openTick.coreUp = true) :
    hostRowNv port k wr s =
      .next { hostDo port k wr s.openTick with clock := s.openTick.clock, pending := s.pending } := by
  unfold hostRowNv
  exact if_pos h

theorem hostRowNv_down (h : s.openTick.coreUp = false) : hostRowNv port k wr s = .next { s with reply := none } := by
  simp only [hostRowNv, h, Bool.false_eq_true, ↓reduceIte]

/-- A write that leaves the store alone answers the same with either row. -/
theorem hostRowNv_storeKept (h : s.openTick.coreUp = true)
    (hm : (hostDo port k wr s.openTick).mram = s.openTick.mram) :
    hostRowNv port k wr s = .next (s.atTick (hostDo port k wr s.openTick)) := by
  rw [State.openTick_mram] at hm
  rw [hostRowNv_up h, State.atTick, ← hm]

end

/-! ## HOST_WRITE -/

section
variable {port : Port} {idx : BitVec 16} {sub : BitVec 8} {d : List Byte} {dc : BitVec 64} {s : State} {k : Nat}

/-- An entry without a stamp is written by the row of an ordinary write, `REC.CLEAR` by the one that reaches the store. -/
theorem exec_hostWrite_row (hk : k = idx.toNat * 256 + sub.toNat) (hs : stamped k = false)
    (hl : s.locksEarly k d = false) : exec (.hostWrite port idx sub d dc) s =
      if k = K.recClear then hostRowNv port k (wrBytes port k d dc.toNat) s
      else hostRow port k (wrBytes port k d dc.toNat) s := by
  subst hk
  show execHostWrite port idx sub d dc s = _
  simp only [execHostWrite, hs, hl, Bool.or_self, Bool.false_eq_true, ↓reduceIte]

theorem exec_hostWrite_down (hk : k = idx.toNat * 256 + sub.toNat) (hs : stamped k = false)
    (hl : s.locksEarly k d = false) (h : s.openTick.coreUp = false) :
    exec (.hostWrite port idx sub d dc) s = .next { s with reply := none } := by
  rw [exec_hostWrite_row hk hs hl, hostRowNv_down h, hostRow_down h, ite_self]

/-- With the core running the write takes effect at the boundary; of `REC.CLEAR` this says so where the store stays. -/
theorem exec_hostWrite_up (hk : k = idx.toNat * 256 + sub.toNat) (hs : stamped k = false)
    (hl : s.locksEarly k d = false) (h : s.openTick.coreUp = true) {t : State}
    (ht : hostDo port k (wrBytes port k d dc.toNat) s.openTick = t)
    (hm : k = K.recClear → t.mram = s.openTick.mram) : GivesAtTick (.hostWrite port idx sub d dc) s t := by
  subst ht
  rw [GivesAtTick, exec_hostWrite_row hk hs hl]
  split
  · next hr => exact hostRowNv_storeKept h (hm hr)
  · exact hostRow_up h

end

/-- Settles O9: each answer is a case of `hostDo` at the boundary, where `REC.CLEAR` alone may reach the store. -/
theorem hostWriteAnswers : Obligations.HostWriteAnswers := by
  rintro port idx sub d dc s _ k hk hs hl rfl
  refine ⟨exec_hostWrite_down hk hs hl, fun hc ha => ?_, fun ha a hw => ?_, fun ha hw a he => ?_,
    fun ha hw u he => ⟨fun hr => ?_, fun hr => ?_⟩⟩
  · exact exec_hostWrite_up hk hs hl hc (hostDo_silent ha) (fun _ => rfl)
  · exact exec_hostWrite_up hk hs hl (State.coreUp_of_answers ha) (hostDo_checkRefuses ha hw) (fun _ => rfl)
  · exact exec_hostWrite_up hk hs hl (State.coreUp_of_answers ha) (hostDo_refuses ha hw he) (fun _ => rfl)
  · exact exec_hostWrite_up hk hs hl (State.coreUp_of_answers ha) (hostDo_accepts ha hw he) (fun h => absurd h hr)
  · rw [exec_hostWrite_row hk hs hl, if_pos hr, hostRowNv_up (State.coreUp_of_answers ha), hostDo_accepts ha hw he]

end Sys2Proof.Machine
end

section
/-! The access checks of R7 and the width of a value (R437); a staged write beside one that waits for its stride (R44, R45). -/

namespace Sys2Proof.Machine

/-! ## The check before a write, and a read -/

section
variable {k : Nat} {s : State} {r : EntryRow}

theorem writeCheck_of_noRow (h : entryAt k = none) : writeCheck k s =
    some (if !indexExists (k / 256) then Abort.noEntry else if k % 256 = 0 then Abort.writeRo else Abort.noSub) := by
  rw [writeCheck, h]

theorem readEntry_of_noRow (h : entryAt k = none) : readEntry k s =
    if indexExists (k / 256) = false then .error Abort.noEntry
    else if k % 256 = 0 then .ok (leBytes 1 (highestSub (k / 256))) else .error Abort.noSub := by
  rw [readEntry, h]

theorem readEntry_of_wo (h : entryAt k = some r) (ha : r.acc = .wo) : readEntry k s = .error Abort.readWo := by
  simp only [readEntry, h, ha, ↓reduceIte]

theorem writeCheck_of_ro (h : entryAt k = some r) (ha : r.acc = .ro) : writeCheck k s = some Abort.writeRo := by
  simp only [writeCheck, h, ha]

theorem writeCheck_of_locked (h : entryAt k = some r) (ha : r.acc = .rwl) (hl : s.get K.cfgLock = 1) :
    writeCheck k s = some Abort.state := by
  simp only [writeCheck, h, ha, hl, ↓reduceIte]

theorem writeCheck_of_rwp (h : entryAt k = some r) (ha : r.acc = .rwp) (hp : s.get K.ecatAlState ≠ 2) :
    writeCheck k s = some Abort.state := by
  simp only [writeCheck, h, ha, hp, ↓reduceIte]

end

/-! ## The length of a value -/

section
variable {port : Port} {k : Nat} {d : List Byte} {dc : Nat} {s : State}

theorem wrBytes_tooShort (hq : k ≠ K.seqImage) (hi : k ≠ K.cfgImage) (h : d.length < widthOf k) :
    wrBytes port k d dc s = refuse Abort.length s := by
  rw [wrBytes, if_neg hq, if_neg hi, if_neg (Nat.lt_asymm h), if_pos h]

theorem wrBytes_tooLong (hq : k ≠ K.seqImage) (hi : k ≠ K.cfgImage) (h : widthOf k < d.length) :
    wrBytes port k d dc s = refuse Abort.tooLong s := by
  rw [wrBytes, if_neg hq, if_neg hi, if_pos h]

end

/-- Settles O10: the checks of R7, one by one, and the width of a value (R437). -/
theorem accessAborts : Obligations.AccessAborts := by
  refine ⟨fun k s hi he => ⟨?_, ?_⟩, fun k s hi he hs => ⟨?_, ?_⟩, fun _ _ _ => writeCheck_of_ro, fun _ _ _ => readEntry_of_wo,
    fun _ _ _ => writeCheck_of_locked, fun _ _ _ => writeCheck_of_rwp, fun _ _ _ _ _ => wrBytes_tooShort,
    fun _ _ _ _ _ => wrBytes_tooLong⟩
  · rw [writeCheck_of_noRow he, hi]
    rfl
  · rw [readEntry_of_noRow he, if_pos hi]
    rfl
  · rw [writeCheck_of_noRow he, hi, if_neg hs]
    rfl
  · rw [readEntry_of_noRow he, hi, if_neg hs]
    rfl

/-! ## A staged write while a direct one waits -/

/-- A user program runs, and a position of quiet window 3 that was written before it still waits for its stride (R44). -/
def waitsWhileProgramRuns : State :=
  { State.reset.put K.seqState 3 with staging := { Staging.reset with direct := [(2, K.qwPos 3, 9)] } }

/-- Refutes O11: the set's own fallback for an entry that it does not hold is the value in use, while a read through the set falls back
to the value that waits for its stride (R44). With a program running, FD.HOLD_TICKS is written to the set while QW.POS[3] = 9
waits: read through the set QW.POS[3] is 9 before, and the new set falls back to the 0 in use. -/
theorem not_plainAndStagedWrites : ¬ Obligations.PlainAndStagedWrites := by
  rintro ⟨-, staged⟩
  obtain ⟨t, written, -, others, -⟩ := staged K.fdHoldTicks 20 waitsWhileProgramRuns _ rfl (by decide) (by decide)
    (.inl (by decide +kernel)) (by decide +kernel) (by decide +kernel) (by decide)
  have inUse : lookupD t.staging.set (K.qwPos 3) (waitsWhileProgramRuns.get (K.qwPos 3)) = 0 := by
    rw [show t = (plainWrite K.fdHoldTicks 20 waitsWhileProgramRuns).2 by rw [written]; rfl]
    decide +kernel
  have waiting : waitsWhileProgramRuns.stagedGet (K.qwPos 3) = 9 := by decide +kernel
  have same := others (K.qwPos 3) (by decide)
  rw [inUse, waiting] at same
  exact absurd same (by decide)

end Sys2Proof.Machine
end

section
/-! MANAGEMENT_TICK and publication (R34, R282, R354). -/

namespace Sys2Proof.Machine

/-! ## The tick -/

section
variable {i : TickInputs} {s : State}

theorem State.coreUp_false_of_stopped (h : s.power.stopped = true) : s.coreUp = false := by
  simp [State.coreUp, h]

theorem State.coreUp_false_of_fastDown (h : s.fastUp = false) : s.coreUp = false := by
  simp [State.coreUp, h]

theorem State.fastUp_false_of_boot (h : s.power.boot ≠ none) : s.fastUp = false := by
  simp [State.fastUp, h]

theorem exec_managementTick_up (h : s.openTick.coreUp = true) :
    exec (.managementTick i) s = .next { tickWork i s.openTick with
      clock := if (tickWork i s.openTick).dev.main then s.openTick.clock.ticked else Clock.reset, pending := s.pending } := by
  show execManagementTick i s = _
  unfold execManagementTick
  exact if_pos h

theorem exec_managementTick_fast (hf : s.fastUp = true) (h : s.coreUp = false) :
    exec (.managementTick i) s = .next
      { backupTick i (closeBeat (lapse (s.clock.next - s.clock.beat) s)) with
        clock := s.clock.ticked, pending := s.pending, mram := s.mram } := by
  show execManagementTick i s = _
  simp only [execManagementTick, s.openTick_down h, h, hf, Bool.false_eq_true, ↓reduceIte]

theorem exec_managementTick_boot (h : s.power.boot ≠ none) :
    exec (.managementTick i) s =
      .next { backupTick i s.atBoundary with clock := s.clock.boundary.ticked, pending := s.pending } := by
  have hf := State.fastUp_false_of_boot h
  have hc := State.coreUp_false_of_fastDown hf
  show execManagementTick i s = _
  simp only [execManagementTick, s.openTick_down hc, hc, hf, Option.isSome_iff_ne_none.2 h, Bool.false_eq_true, ↓reduceIte]
  rfl

theorem exec_managementTick_idle (hf : s.fastUp = false) (h : s.power.boot = none) :
    Gives (.managementTick i) s (backupTick i s) := by
  have hc := State.coreUp_false_of_fastDown hf
  show execManagementTick i s = _
  simp only [execManagementTick, s.openTick_down hc, hc, hf, h, Option.isSome_none, Bool.false_eq_true, ↓reduceIte]
  rfl

/-- Where step 6 leaves a main domain, the tick makes steps 7 to 10. -/
theorem tickWork_of_main {b t u : State} (ht : t = { b with log := { b.log with failing := i.nvFail.toNat } })
    (hu : u = stateTick (seqTick (slowSources i (sampleAll i (tickCommits t))))) (hm : u.dev.main = true) :
    tickWork i b = publish i (emcyClear (recorderTick i (stepEight i (regulate i u)))) := by
  subst ht hu
  unfold tickWork
  exact if_pos hm

end

/-! ## Tables in parts -/

/-- What the first part does not list is read in the second. -/
theorem lookupD_append (l m : Dict) (k d : Nat) : lookupD (l ++ m) k d = lookupD l k (lookupD m k d) := by
  induction l with
  | nil => rfl
  | cons e t ih => simp only [List.cons_append, lookupD, ih]

/-- A selection of keys lists a key as the table does, or not at all. -/
theorem lookupD_filter (p : Nat → Bool) (l : Dict) (k d : Nat) :
    lookupD (l.filter (fun e => p e.1)) k d = if p k then lookupD l k d else d := by
  induction l with
  | nil => simp [lookupD]
  | cons e t ih =>
    by_cases hk : e.1 = k
    · subst hk
      cases hp : p e.1 <;> simp [lookupD, hp, ih]
    · cases hp : p e.1 <;> simp [lookupD, hp, hk, ih]

/-- Between the entries as they are now the estimator's readouts stay as published last (R282). -/
theorem lookupD_withOldEst (pub od : Dict) (k d : Nat) :
    lookupD (withOldEst pub od) k d = if estReadout k then lookupD pub k d else lookupD od k d := by
  have low (d : Nat) := lookupD_filter (fun k => decide (k < 0x2D2000)) od k d
  have high (d : Nat) := lookupD_filter (fun k => decide (0x2D5000 ≤ k)) od k d
  rw [withOldEst, lookupD_append, lookupD_append, low, high, lookupD_filter estReadout]
  by_cases below : k < 0x2D2000
  · have outside : estReadout k = false := by simp only [estReadout, decide_eq_false_iff_not]; omega
    have notAbove : ¬ 0x2D5000 ≤ k := by omega
    simp [below, outside, notAbove]
  · by_cases above : 0x2D5000 ≤ k
    · have outside : estReadout k = false := by simp only [estReadout, decide_eq_false_iff_not]; omega
      simp [below, outside, above]
    · have inside : estReadout k = true := by simp only [estReadout, decide_eq_true_eq]; omega
      simp [below, inside, above]

/-! ## What goes out, and what a publication finds -/

/-- The last publication, and the estimator, whose engine says whether its readouts go out: what the steps before a publication
find and leave. -/
def State.lastPub (s : State) : Dict × Estimator := (s.pub, s.est)

theorem State.pub_of_lastPub {s t : State} (h : t.lastPub = s.lastPub) : t.pub = s.pub := congrArg Prod.fst h
theorem State.est_of_lastPub {s t : State} (h : t.lastPub = s.lastPub) : t.est = s.est := congrArg Prod.snd h

@[simp] theorem State.lastPub_put (s : State) (k v : Nat) : (s.put k v).lastPub = s.lastPub := (rfl)

theorem showRef_lastPub (n : Nat) (s : State) : (showRef n s).lastPub = s.lastPub := State.lastPub_put _ _ _
theorem showJobs_lastPub (s : State) : (showJobs s).lastPub = s.lastPub := by simp only [showJobs, State.lastPub_put]
theorem showGait_lastPub (s : State) : (showGait s).lastPub = s.lastPub := State.lastPub_put _ _ _
theorem showStaging_lastPub (s : State) : (showStaging s).lastPub = s.lastPub := by
  simp only [showStaging, State.lastPub_put]

theorem showHeld_lastPub (s : State) : (showHeld s).lastPub = s.lastPub := by
  simp only [showHeld, State.lastPub_put]
  exact each_keeps _ _ State.lastPub _ (fun _ _ t => State.lastPub_put t _ _)

theorem showFault_lastPub (s : State) : (showFault s).lastPub = s.lastPub := by
  simp only [showFault, State.lastPub_put, showHeld_lastPub]

theorem computeCrc_lastPub (s : State) : (computeCrc s).lastPub = s.lastPub := by
  unfold computeCrc
  split <;> rfl

theorem updateCrc_lastPub (s : State) : (updateCrc s).lastPub = s.lastPub := by
  unfold updateCrc
  split <;> exact computeCrc_lastPub _

/-- The live dictionary as a publication finds it. -/
def State.shownLive (s : State) : State :=
  showGait (showJobs (showStaging (showFault (updateCrc (each (upto 16) showRef s)))))

theorem State.shownLive_lastPub (s : State) : s.shownLive.lastPub = s.lastPub := by
  rw [State.shownLive, showGait_lastPub, showJobs_lastPub, showStaging_lastPub, showFault_lastPub, updateCrc_lastPub]
  exact each_keeps _ _ State.lastPub _ (fun n _ t => showRef_lastPub n t)

theorem State.shownLive_pub (s : State) : s.shownLive.pub = s.pub := State.pub_of_lastPub s.shownLive_lastPub
theorem State.shownLive_est (s : State) : s.shownLive.est = s.est := State.est_of_lastPub s.shownLive_lastPub

/-- What a publication makes of the live dictionary: in the tick after an update all of it goes out, with a new `EST.SEQ`; in every other
tick the estimator's readouts stay as they were (R282). -/
def State.goOut (t : State) : State :=
  if t.est.pubDue then
    { t.bump K.estSeq with est := { t.est with pubDue := false }, pub := (t.bump K.estSeq).od, fresh := [] }
  else { t with pub := withOldEst t.pub t.od, fresh := [] }

theorem publishLive_eq (s : State) : publishLive s = s.shownLive.goOut := by
  unfold publishLive
  extract_lets _ t
  have ht : s.shownLive = t := rfl
  rw [ht]
  clear_value t
  rfl

theorem State.goOut_fresh (t : State) : t.goOut.fresh = [] := by
  unfold State.goOut
  split <;> rfl

theorem State.goOut_pub_of_due (t : State) (k : Nat) (h : t.est.pubDue = true) :
    lookupD t.goOut.pub k (dflt k) = t.goOut.get k := by
  rw [State.goOut, if_pos h]
  rfl

theorem State.goOut_pub_of_notDue (t : State) (k : Nat) (h : t.est.pubDue = false) :
    lookupD t.goOut.pub k (dflt k) = if estReadout k then lookupD t.pub k (dflt k) else t.goOut.get k := by
  rw [State.goOut, if_neg (Bool.eq_false_iff.1 h)]
  exact lookupD_withOldEst _ _ _ _

/-- Settles O60: the branches of MANAGEMENT_TICK, and publication with the estimator's readouts due and not due. -/
theorem tickAndPublication : Obligations.TickAndPublication := by
  refine ⟨?_, fun s k => ?_⟩
  · rintro i s _ t u rfl
    refine ⟨exec_managementTick_up, fun hc hb => ?_, tickWork_of_main, fun _ => exec_managementTick_boot,
      fun hf hs => exec_managementTick_fast hf (State.coreUp_false_of_stopped hs), exec_managementTick_idle⟩
    rw [s.openTick_beat hc]
    omega
  · rw [publishLive_eq, ← s.shownLive_est, ← s.shownLive_pub]
    refine ⟨State.goOut_pub_of_due _ k, fun hk => ?_, fun hd hk => ?_, State.goOut_fresh _⟩
    · cases hd : s.shownLive.est.pubDue with
      | true => exact State.goOut_pub_of_due _ k hd
      | false => rw [State.goOut_pub_of_notDue _ k hd, hk]; rfl
    · rw [State.goOut_pub_of_notDue _ k hd, if_pos hk]

end Sys2Proof.Machine
end

section
/-! The queue of commands and the pins stand beside what the engines do: the operations that leave both as they are. -/

namespace Sys2Proof.Machine

/-- The queue of commands and the pins stand as they stood. -/
abbrev SameQueuePins (s t : State) : Prop := t.pending = s.pending ∧ t.pins = s.pins

section
variable (s : State)

/-! ## Repeated effects -/

theorem ite_queuePins {c : Prop} [Decidable c] {a b : State} (ha : SameQueuePins s a) (hb : SameQueuePins s b) :
    SameQueuePins s (if c then a else b) := by
  split
  · exact ha
  · exact hb

/-- What every single effect leaves, the repetition leaves. -/
theorem each_queuePins_mem {α : Type} (l : List α) (f : α → State → State) (h : ∀ a ∈ l, ∀ t, SameQueuePins t (f a t)) :
    SameQueuePins s (each l f s) :=
  ⟨each_keeps l f State.pending s fun a ha t => (h a ha t).1, each_keeps l f State.pins s fun a ha t => (h a ha t).2⟩

@[simp] theorem each_queuePins {α : Type} (l : List α) (f : α → State → State) (h : ∀ a t, SameQueuePins t (f a t)) :
    SameQueuePins s (each l f s) :=
  each_queuePins_mem s l f fun a _ => h a

@[simp] theorem when_queuePins (c : Bool) (f : State → State) (h : ∀ t, SameQueuePins t (f t)) : SameQueuePins s (when c f s) :=
  ite_queuePins s (h s) ⟨rfl, rfl⟩

@[simp] theorem recount_queuePins (m : Nat) (f : State → State) (h : ∀ t, SameQueuePins t (f t)) :
    SameQueuePins s (recount m f s) := by
  unfold recount
  exact ite_queuePins s (h s) (h s)

/-! ## Entries -/

@[simp] theorem State.bump_queuePins (k : Nat) : SameQueuePins s (s.bump k) := ⟨rfl, rfl⟩
@[simp] theorem State.setMask_queuePins (k m : Nat) : SameQueuePins s (s.setMask k m) := ⟨rfl, rfl⟩
@[simp] theorem State.putBit_queuePins (k i : Nat) (b : Bool) : SameQueuePins s (s.putBit k i b) := ⟨rfl, rfl⟩
@[simp] theorem State.putRail_queuePins (n : Nat) (x : RailState) : SameQueuePins s (s.putRail n x) := ⟨rfl, rfl⟩
@[simp] theorem State.putPhase_queuePins (p : Nat) (x : PhaseState) : SameQueuePins s (s.putPhase p x) := ⟨rfl, rfl⟩
@[simp] theorem State.bumpBy_queuePins (k n : Nat) : SameQueuePins s (s.bumpBy k n) := by
  induction n generalizing s with
  | zero => exact ⟨rfl, rfl⟩
  | succ n ih => exact ih (s.bump k)

/-! ## Jobs, triggers, records -/

@[simp] theorem jobEnd_queuePins (i : Nat) (x : JobStatus) (r : Nat) : SameQueuePins s (jobEnd i x r s) := by
  unfold jobEnd
  split <;> simp [SameQueuePins]
@[simp] theorem jobEnd?_queuePins (i : Option Nat) (x : JobStatus) (r : Nat) : SameQueuePins s (jobEnd? i x r s) := by
  cases i with
  | none => exact ⟨rfl, rfl⟩
  | some i => exact jobEnd_queuePins s i x r
@[simp] theorem State.jobAllot_queuePins (p : Port) (k i : Nat) : SameQueuePins s (s.jobAllot p k i) := by
  simp [SameQueuePins, State.jobAllot]
@[simp] theorem noteSlot_queuePins (k d : Nat) : SameQueuePins s (noteSlot k d s) := by
  unfold noteSlot
  split
  · exact ⟨rfl, rfl⟩
  · exact ⟨rfl, rfl⟩
@[simp] theorem fireTrigger_queuePins (t : Trigger) : SameQueuePins s (fireTrigger t s) :=
  ite_queuePins s (each_queuePins s _ _ fun _ u => noteSlot_queuePins u _ _) ⟨rfl, rfl⟩
@[simp] theorem fillFfr_queuePins (a b c d e f : Nat) : SameQueuePins s (fillFfr a b c d e f s) :=
  ite_queuePins s ⟨rfl, rfl⟩ ⟨rfl, rfl⟩
@[simp] theorem enterDev_queuePins (d : DevState) (c : Nat) : SameQueuePins s (enterDev d c s) :=
  ite_queuePins s ⟨rfl, rfl⟩ (fireTrigger_queuePins _ _)

/-! ## Supervision and health runs -/

@[simp] theorem endCondition_queuePins (src : Nat) : SameQueuePins s (endCondition src s) := ⟨rfl, rfl⟩
@[simp] theorem offerToggle_queuePins (m : Nat) (p : SeqInstr → Bool) : SameQueuePins s (offerToggle m p s) := by
  unfold offerToggle
  split
  · exact ite_queuePins s ⟨rfl, rfl⟩ ⟨rfl, rfl⟩
  · exact ⟨rfl, rfl⟩
@[simp] theorem keepLevels_queuePins (m l : Nat) : SameQueuePins s (keepLevels m l s) := by
  simp [SameQueuePins, keepLevels]
@[simp] theorem pgood_queuePins : SameQueuePins s (pgood s) := ⟨rfl, rfl⟩
@[simp] theorem setGood_queuePins (m : Nat) (b : Bool) : SameQueuePins s (setGood m b s) :=
  ite_queuePins s ⟨rfl, rfl⟩ (by simp [SameQueuePins])
@[simp] theorem superviseState_queuePins (n : Nat) (x : RailState) : SameQueuePins s (superviseState n x s) :=
  ite_queuePins s (by simp [SameQueuePins]) (keepLevels_queuePins s _ _)
@[simp] theorem arbRelease_queuePins (o : Nat) : SameQueuePins s (arbRelease o s) := ite_queuePins s ⟨rfl, rfl⟩ ⟨rfl, rfl⟩
@[simp] theorem leaveRun_queuePins (r : RhRun) (x : Nat) : SameQueuePins s (leaveRun r x s) := by
  simp [SameQueuePins, leaveRun]
@[simp] theorem commissionNext_queuePins (c : RhCommission) (n : Nat) (w : Bool) : SameQueuePins s (commissionNext c n w s) :=
  ite_queuePins s (by simp [SameQueuePins]) ⟨rfl, rfl⟩
@[simp] theorem failRun_queuePins (r : RhRun) (x : Nat) : SameQueuePins s (failRun r x s) := by
  unfold failRun
  dsimp only
  split <;> simp [SameQueuePins]
@[simp] theorem rhStops_queuePins (n : Nat) : SameQueuePins s (rhStops n s) := by
  unfold rhStops
  split
  · exact ite_queuePins s (failRun_queuePins s _ _) ⟨rfl, rfl⟩
  · exact ⟨rfl, rfl⟩
@[simp] theorem endMeasure_queuePins (x : Nat) : SameQueuePins s (endMeasure x s) := by
  unfold endMeasure
  split <;> simp [SameQueuePins, setEst]
@[simp] theorem estOff_queuePins : SameQueuePins s (estOff s) :=
  ite_queuePins s ⟨rfl, rfl⟩ (by simp [SameQueuePins, setEst, leaveHib])
@[simp] theorem calEnd_queuePins (x : Nat) : SameQueuePins s (calEnd x s) := by
  unfold calEnd
  split <;> simp [SameQueuePins]

/-! ## Rails -/

@[simp] theorem orgate_queuePins (n : Nat) : SameQueuePins s (orgate n s) := ⟨rfl, rfl⟩
@[simp] theorem setRail_queuePins (n : Nat) (x : RailState) : SameQueuePins s (setRail n x s) := by
  simp [SameQueuePins, setRail]
@[simp] theorem reinterleave_queuePins (n : Nat) : SameQueuePins s (reinterleave n s) :=
  ite_queuePins s (by simp [SameQueuePins]) ⟨rfl, rfl⟩
@[simp] theorem burstStops_queuePins (n : Nat) : SameQueuePins s (burstStops n s) := by
  simp [SameQueuePins, burstStops]
@[simp] theorem idleReleased_queuePins (n : Nat) : SameQueuePins s (idleReleased n s) := by
  simp [SameQueuePins, idleReleased]
@[simp] theorem idlePhases_queuePins (n : Nat) : SameQueuePins s (idlePhases n s) := by
  simp [SameQueuePins, idlePhases]
@[simp] theorem noteRelease_queuePins (n c : Nat) : SameQueuePins s (noteRelease n c s) := ite_queuePins s ⟨rfl, rfl⟩ ⟨rfl, rfl⟩
@[simp] theorem railsLost_queuePins : SameQueuePins s (railsLost s) :=
  each_queuePins s _ _ fun n u => ite_queuePins u ⟨rfl, rfl⟩ (by simp [SameQueuePins, railToOff])
@[simp] theorem phaseBreach_queuePins (p n : Nat) : SameQueuePins s (phaseBreach p n s) := by
  unfold phaseBreach
  split
  · exact ite_queuePins s (by simp [SameQueuePins]) ⟨rfl, rfl⟩
  · exact ⟨rfl, rfl⟩
@[simp] theorem xbBreach_queuePins (c n : Nat) : SameQueuePins s (xbBreach c n s) := by
  unfold xbBreach
  split
  · exact ite_queuePins s (by simp [SameQueuePins]) ⟨rfl, rfl⟩
  · exact ⟨rfl, rfl⟩
@[simp] theorem railBreach_queuePins (n : Nat) : SameQueuePins s (railBreach n s) :=
  ite_queuePins s (by simp [SameQueuePins]) (by simp [SameQueuePins])
@[simp] theorem railFault_queuePins (n src chan : Nat) : SameQueuePins s (railFault n src chan s) :=
  ite_queuePins s ⟨rfl, rfl⟩ (by simp [SameQueuePins])
@[simp] theorem railsFault_queuePins (l : List Nat) (src chan : Nat) : SameQueuePins s (railsFault l src chan s) :=
  each_queuePins s _ _ fun n u => railFault_queuePins u n src chan

/-! ## Sources -/

@[simp] theorem pushHistory_queuePins (c src : Nat) : SameQueuePins s (pushHistory c src s) := by
  simp [SameQueuePins, pushHistory]
@[simp] theorem dropTaken_queuePins : SameQueuePins s (dropTaken s) := ⟨rfl, rfl⟩
@[simp] theorem ecatTakes_queuePins : SameQueuePins s (ecatTakes s) := ite_queuePins s (by simp [SameQueuePins]) ⟨rfl, rfl⟩
@[simp] theorem queueEmcy_queuePins (e : Emcy) : SameQueuePins s (queueEmcy e s) := by
  simp only [SameQueuePins, queueEmcy, ↓apply_ite State.pending, ↓apply_ite State.pins, ↓ecatTakes_queuePins, ↓State.flag_pending,
    ↓State.flag_pins, ↓State.put_pending, ↓State.put_pins, ↓State.bump_queuePins, ↓pushHistory_queuePins, ite_self, and_self]
@[simp] theorem showHeld_queuePins : SameQueuePins s (showHeld s) := by simp [SameQueuePins, showHeld]
@[simp] theorem openBeat_queuePins : SameQueuePins s (openBeat s) := ite_queuePins s ⟨rfl, rfl⟩ ⟨rfl, rfl⟩
@[simp] theorem latchSource_queuePins (a b c : Nat) : SameQueuePins s (latchSource a b c s) :=
  ite_queuePins s ⟨rfl, rfl⟩ (ite_queuePins s ⟨rfl, rfl⟩ ⟨rfl, rfl⟩)
@[simp] theorem offRequest_queuePins (c : Nat) : SameQueuePins s (offRequest c s) := by
  unfold offRequest
  split
  · split <;> exact ⟨rfl, rfl⟩
  · exact ⟨rfl, rfl⟩
  · exact ⟨rfl, rfl⟩
@[simp] theorem raiseAlarm_queuePins : SameQueuePins s (raiseAlarm s) := ⟨rfl, rfl⟩
@[simp] theorem assertAlarm_queuePins : SameQueuePins s (assertAlarm s) := ite_queuePins s ⟨rfl, rfl⟩ ⟨rfl, rfl⟩
@[simp] theorem reactF2_queuePins (k : SrcKind) (i : Nat) : SameQueuePins s (reactF2 k i s) :=
  ite_queuePins s (by simp [SameQueuePins]) (by simp [SameQueuePins])
@[simp] theorem reactF3_queuePins (k : SrcKind) (i : Nat) : SameQueuePins s (reactF3 k i s) := by
  simp [SameQueuePins, reactF3]
@[simp] theorem reactF4_queuePins (k : SrcKind) (i : Nat) : SameQueuePins s (reactF4 k i s) := by
  simp only [SameQueuePins, reactF4, ↓apply_ite State.pending, ↓apply_ite State.pins, ↓assertAlarm_queuePins, ↓offRequest_queuePins,
    ↓railsFault_queuePins, ↓reactF3_queuePins, ite_self, and_self]
@[simp] theorem reactF5_queuePins (k : SrcKind) (i : Nat) : SameQueuePins s (reactF5 k i s) :=
  ite_queuePins s (by simp [SameQueuePins]) (by simp [SameQueuePins])
@[simp] theorem react_queuePins (c : Nat) (k : SrcKind) (i : Nat) : SameQueuePins s (react c k i s) := by
  unfold react
  split <;> simp [SameQueuePins]
@[simp] theorem takeSource_queuePins (k : SrcKind) (i : Nat) : SameQueuePins s (takeSource k i s) := by
  simp only [SameQueuePins, takeSource, ↓apply_ite State.pending, ↓apply_ite State.pins, ↓endCondition_queuePins, ↓react_queuePins,
    ↓fireTrigger_queuePins, ↓queueEmcy_queuePins, ↓State.flag_pending, ↓State.flag_pins, ↓State.setMask_queuePins, ↓showHeld_queuePins,
    ↓latchSource_queuePins, ↓State.bump_queuePins, ↓openBeat_queuePins, ite_self, and_self]

/-! ## The watchdog -/

@[simp] theorem setWdg_queuePins (f : Watchdog → Watchdog) : SameQueuePins s (setWdg f s) := ⟨rfl, rfl⟩
@[simp] theorem wdgCapture_queuePins (a b c d w : Nat) : SameQueuePins s (wdgCapture a b c d w s) := by
  simp [SameQueuePins, wdgCapture]
@[simp] theorem wdgPulse_queuePins : SameQueuePins s (wdgPulse s) := ite_queuePins s ⟨rfl, rfl⟩ ⟨rfl, rfl⟩
@[simp] theorem wdgVerdict_queuePins (c : Bool) (w : Nat) : SameQueuePins s (wdgVerdict c w s).2 := by
  simp only [SameQueuePins, wdgVerdict, ↓apply_ite Prod.snd, ↓apply_ite State.pending, ↓apply_ite State.pins, ↓railsLost_queuePins,
    ↓wdgPulse_queuePins, ↓takeSource_queuePins, ↓wdgCapture_queuePins, ↓State.flag_pending, ↓State.flag_pins, ↓State.bump_queuePins,
    ite_self, and_self]
@[simp] theorem wdgToStart_queuePins : SameQueuePins s (wdgToStart s) := ⟨rfl, rfl⟩
@[simp] theorem wdgPeriodFrom_queuePins (w : Nat) : SameQueuePins s (wdgPeriodFrom w s) := ⟨rfl, rfl⟩
@[simp] theorem noteReset_queuePins (b : Bool) : SameQueuePins s (noteReset b s) := ite_queuePins s ⟨rfl, rfl⟩ ⟨rfl, rfl⟩
@[simp] theorem wdgPeriodEnd_queuePins : SameQueuePins s (wdgPeriodEnd s) :=
  ite_queuePins s (by simp [SameQueuePins]) ⟨rfl, rfl⟩
@[simp] theorem doWdgRstPulseEnd_queuePins : SameQueuePins s (doWdgRstPulseEnd s) := by
  unfold doWdgRstPulseEnd
  split
  · exact ite_queuePins s (ite_queuePins s ⟨rfl, rfl⟩ ⟨rfl, rfl⟩) ⟨rfl, rfl⟩
  · exact ⟨rfl, rfl⟩
@[simp] theorem doWdgStartDelayEnd_queuePins : SameQueuePins s (doWdgStartDelayEnd s) := ite_queuePins s ⟨rfl, rfl⟩ ⟨rfl, rfl⟩
@[simp] theorem wdgBeat_queuePins : SameQueuePins s (wdgBeat s) := ite_queuePins s (by simp [SameQueuePins]) ⟨rfl, rfl⟩
@[simp] theorem keyBad_queuePins : SameQueuePins s (keyBad s) := by simp [SameQueuePins, keyBad]
@[simp] theorem classCheckin_queuePins (t w : Nat) : SameQueuePins s (classCheckin t w s) := by
  refine ite_queuePins s (by simp [SameQueuePins]) (ite_queuePins s (ite_queuePins s ?_ ?_) ?_) <;> simp [SameQueuePins]
theorem wrWdgCheckin_queuePins (t tag : Nat) : SameQueuePins s (wrWdgCheckin t tag s).2 := by
  unfold wrWdgCheckin accept stampNow
  dsimp only
  split <;> simp [SameQueuePins]
theorem wrWdgKey_queuePins (v : Nat) : SameQueuePins s (wrWdgKey v s).2 := by
  unfold wrWdgKey accept stampNow
  dsimp only
  repeat' split
  all_goals simp [SameQueuePins]

/-! ## Reads -/

@[simp] theorem mail_queuePins (a : MailAnswer) : SameQueuePins s (mail a s) := ite_queuePins s ⟨rfl, rfl⟩ ⟨rfl, rfl⟩
@[simp] theorem endUpload_queuePins (x : JobStatus) : SameQueuePins s (endUpload x s) := by
  unfold endUpload
  split <;> simp [SameQueuePins]
@[simp] theorem sdoReplaces_queuePins (k : Nat) : SameQueuePins s (sdoReplaces k s) := ite_queuePins s (by simp [SameQueuePins]) ⟨rfl, rfl⟩
@[simp] theorem sdoStart_queuePins (k : Nat) (b : List Byte) : SameQueuePins s (sdoStart k b s) := by
  simp [SameQueuePins, sdoStart]
theorem sdoRead_queuePins (i j : Nat) (c : Bool) : SameQueuePins s (sdoRead i j c s) := by
  unfold sdoRead
  split <;> simp [SameQueuePins]
@[simp] theorem spiReadAnswer_queuePins (a : SpiAnswer) : SameQueuePins s (spiReadAnswer a s) := ⟨rfl, rfl⟩
@[simp] theorem dropSegments_queuePins : SameQueuePins s (dropSegments s) := by
  unfold dropSegments
  dsimp only
  split
  · exact ite_queuePins s (by simp [SameQueuePins]) ⟨rfl, rfl⟩
  · exact ⟨rfl, rfl⟩
@[simp] theorem startUpload_queuePins (p : Port) : SameQueuePins s (startUpload p s).2 := by
  unfold startUpload startJob
  repeat' split
  all_goals simp [SameQueuePins, accept, refuse]
@[simp] theorem nextSegment_queuePins (c t k : Nat) (b : List Byte) (o n : Nat) : SameQueuePins s (nextSegment c t k b o n s) := by
  simp only [SameQueuePins, nextSegment, ↓apply_ite State.pending, ↓apply_ite State.pins, ↓spiReadAnswer_queuePins, ↓endUpload_queuePins,
    ite_self, and_self]
theorem firstSegment_queuePins (c t k o n : Nat) : SameQueuePins s (firstSegment c t k o n s) := by
  unfold firstSegment
  dsimp only
  repeat' split
  all_goals simp [SameQueuePins]

end

/-! ## Stamped writes of a completed image -/

/-- A stamped entry is the key or lies among the check-ins. -/
theorem key_or_checkin_of_stamped {k : Nat} (h : stamped k = true) : k = K.wdgKey ∨ k / 256 = 0x2B10 := by
  simp only [stamped, Bool.or_eq_true, beq_iff_eq, decide_eq_true_eq] at h
  refine h.imp_right fun hk => ?_
  simp only [K.wdgCheckin] at hk
  omega

section
variable (port : Port) (v dc : Nat) (s : State)

theorem wrEntry_wdgKey : wrEntry port K.wdgKey v dc s = wrWdgKey v s := by
  simp [wrEntry, wrMapping, wrSystem, wrUnit]

theorem wrEntry_wdgCheckin {k : Nat} (h : k / 256 = 0x2B10) : wrEntry port k v dc s = wrWdgCheckin (k % 256 - 1) v s := by
  have other : ∀ j, j / 256 ≠ 0x2B10 → k ≠ j := fun j hj e => hj (e ▸ h)
  simp [wrEntry, wrMapping, wrSystem, wrUnit, h, other]

theorem wrEntry_stamped_queuePins {k : Nat} (h : stamped k = true) : SameQueuePins s (wrEntry port k v dc s).2 := by
  obtain rfl | hk := key_or_checkin_of_stamped h
  · rw [wrEntry_wdgKey]
    exact wrWdgKey_queuePins s v
  · rw [wrEntry_wdgCheckin port v dc s hk]
    exact wrWdgCheckin_queuePins s _ v

theorem checked_queuePins {k : Nat} {wr : State → Written} (h : SameQueuePins s (wr s).2) : SameQueuePins s (checked k wr s).2 := by
  unfold checked
  split
  · exact ⟨rfl, rfl⟩
  · exact h

theorem writeMapped_queuePins {e : Nat × Nat} (h : stamped e.1 = true) : SameQueuePins s (writeMapped port dc e s) :=
  ite_queuePins s (checked_queuePins s (wrEntry_stamped_queuePins port _ _ s h))
    (checked_queuePins s (wrEntry_stamped_queuePins port _ _ s h))

theorem completeNow_queuePins (data : List Byte) : SameQueuePins s (completeNow port dc data s) :=
  each_queuePins_mem s _ _ fun _ he t => writeMapped_queuePins port dc t (List.mem_filter.1 he).2

end

end Sys2Proof.Machine
end

section
/-! Every command answers with a next state and leaves the queue behind it alone (R20, R34, R35). -/

namespace Sys2Proof.Machine

/-- The outcome is a next state in which the commands of `q` wait. -/
def AnswersWith (q : List Instr) (o : Host.Outcome State Fault Refusal) : Prop := ∃ t, o = .next t ∧ t.pending = q

theorem AnswersWith.ite {q : List Instr} {c : Prop} [Decidable c] {o p : Host.Outcome State Fault Refusal}
    (ho : AnswersWith q o) (hp : AnswersWith q p) : AnswersWith q (if c then o else p) := by
  split
  · exact ho
  · exact hp

/-! ## The outcomes of a family of commands -/

section
variable (s : State)

theorem next_answers {t : State} (h : t.pending = s.pending) : AnswersWith s.pending (.next t) := ⟨t, rfl, h⟩

theorem event_answers (f : State → State) : AnswersWith s.pending (event f s) := ⟨_, rfl, rfl⟩

theorem retimed_answers (c : Clock → Clock) (f : State → State) : AnswersWith s.pending (retimed c f s) := ⟨_, rfl, rfl⟩

theorem atTick_answers (f : State → State) : AnswersWith s.pending (atTick f s) := .ite ⟨_, rfl, rfl⟩ ⟨_, rfl, rfl⟩

theorem atTickNv_answers (f : State → State) : AnswersWith s.pending (atTickNv f s) := .ite ⟨_, rfl, rfl⟩ ⟨_, rfl, rfl⟩

theorem hostRow_answers (port : Port) (k : Nat) (wr : State → Written) : AnswersWith s.pending (hostRow port k wr s) :=
  .ite ⟨_, rfl, rfl⟩ ⟨_, rfl, rfl⟩

theorem hostRowNv_answers (port : Port) (k : Nat) (wr : State → Written) : AnswersWith s.pending (hostRowNv port k wr s) :=
  .ite ⟨_, rfl, rfl⟩ ⟨_, rfl, rfl⟩

theorem seqRow_answers (i : SeqInstr) : AnswersWith s.pending (seqRow i s) := .ite ⟨_, rfl, rfl⟩ ⟨_, rfl, rfl⟩

theorem powerRow_answers (f : State → State) : AnswersWith s.pending (powerRow f s) := .ite ⟨_, rfl, rfl⟩ ⟨_, rfl, rfl⟩

theorem wdgOutcome_answers (x : BootInputs) (f : State → State) : AnswersWith s.pending (wdgOutcome x f s) :=
  .ite (retimed_answers s _ _) (event_answers s _)

/-- A read answers in its beat or, where it clears `CHG.FAULT`, at the tick boundary after it. -/
theorem readOutcome_answers (c : Bool) (f : State → State) (h : c = true → (f s).pending = s.pending) :
    AnswersWith s.pending (readOutcome c f s) := by
  unfold readOutcome
  split
  · next hc => exact h hc ▸ atTick_answers (f s) readFault
  · exact event_answers s f

theorem complete_answers (port : Port) (dc : Nat) (data : List Byte) (f : State → State) :
    AnswersWith s.pending (complete port dc data f s) := by
  unfold complete
  rw [← (completeNow_queuePins port dc s data).1]
  exact atTick_answers _ _

/-- A frame is answered as its service answers, which finds the queue as it stood. -/
theorem spiRow_answers (fields : Bool) (r : SpiFrame) (act : State → Host.Outcome State Fault Refusal)
    (h : ∀ t, AnswersWith t.pending (act t)) : AnswersWith s.pending (spiRow fields r act s) :=
  .ite (next_answers s rfl) <| .ite (event_answers s _) <| .ite (event_answers _ _) <| .ite (event_answers _ _) <|
    .ite (h (spiShift r s)) (event_answers _ _)

theorem spiQuiet_answers (r : SpiFrame) (f : State → State) : AnswersWith s.pending (spiQuiet r f s) :=
  .ite (event_answers s _) (spiRow_answers s _ r _ fun t => event_answers t f)

theorem spiWrite_answers (c t k : Nat) (data : List Byte) (dc : Nat) : AnswersWith s.pending (spiWrite c t k data dc s) :=
  .ite (event_answers s _) (.ite (atTickNv_answers s _) (atTick_answers s _))

/-! ## Commands with an outcome of their own -/

theorem execHostWrite_answers (port : Port) (i : BitVec 16) (j : BitVec 8) (d : List Byte) (dc : BitVec 64) :
    AnswersWith s.pending (execHostWrite port i j d dc s) :=
  .ite (event_answers s _) (.ite (hostRowNv_answers s _ _ _) (hostRow_answers s _ _ _))

theorem execManagementTick_answers (i : TickInputs) : AnswersWith s.pending (execManagementTick i s) :=
  .ite ⟨_, rfl, rfl⟩ <| .ite ⟨_, rfl, rfl⟩ <| .ite (s.atBoundary_pending ▸ retimed_answers s.atBoundary _ _) (event_answers s _)

theorem execVsysUv_answers (v : Nat) : AnswersWith s.pending (execVsysUv v s) := .ite ⟨_, rfl, rfl⟩ (next_answers s rfl)

theorem execFallToOff_answers (a b c : Nat) : AnswersWith s.pending (execFallToOff a b c s) :=
  .ite (retimed_answers s _ _) (next_answers s rfl)

theorem execBootBegin_answers (v n : Nat) (x : BootInputs) : AnswersWith s.pending (execBootBegin v n x s) :=
  .ite (retimed_answers s _ _) (next_answers s rfl)

theorem execEndOfBoot_answers : AnswersWith s.pending (execEndOfBoot s) := by
  unfold execEndOfBoot
  split
  · exact s.atBoundary_pending ▸ retimed_answers s.atBoundary _ _
  · exact next_answers s rfl

theorem execSysrstNAssert_answers : AnswersWith s.pending (execSysrstNAssert s) := .ite (retimed_answers s _ _) (next_answers s rfl)

theorem execSysrstNRelease_answers (x : BootInputs) : AnswersWith s.pending (execSysrstNRelease x s) :=
  .ite (retimed_answers s _ _) (next_answers s rfl)

theorem execRetryBoot_answers (x : BootInputs) : AnswersWith s.pending (execRetryBoot x s) := .ite ⟨_, rfl, rfl⟩ (next_answers s rfl)

theorem execWdgPeriodEnd_answers (x : BootInputs) : AnswersWith s.pending (execWdgPeriodEnd x s) :=
  .ite (wdgOutcome_answers s _ _) (next_answers s rfl)

theorem execWdgClk_answers (n : Nat) (x : BootInputs) : AnswersWith s.pending (execWdgClk n x s) :=
  .ite (wdgOutcome_answers s _ _) (next_answers s rfl)

theorem execWdgCoreTrip_answers (n : Nat) (x : BootInputs) : AnswersWith s.pending (execWdgCoreTrip n x s) :=
  .ite (.ite ⟨_, rfl, rfl⟩ ⟨_, rfl, rfl⟩) (.ite (retimed_answers s _ _) (next_answers s rfl))

theorem execWdgLock_answers (port : Port) (v : BitVec 8) : AnswersWith s.pending (execWdgLock port v s) :=
  .ite (event_answers s _) (hostRow_answers s _ _ _)

theorem execChgFaultRead_answers (port : Port) : AnswersWith s.pending (execChgFaultRead port s) := .ite ⟨_, rfl, rfl⟩ ⟨_, rfl, rfl⟩

theorem execRecLogUpload_answers (port : Port) : AnswersWith s.pending (execRecLogUpload port s) :=
  .ite (atTick_answers s _) ⟨_, rfl, rfl⟩

/-- A read that clears `CHG.FAULT` is an upload, which leaves the queue. -/
theorem doSdoInfo_pending {req : SdoInfoReq} (h : readsFault req = true) : (doSdoInfo req s).pending = s.pending := by
  unfold readsFault at h
  split at h
  · exact (sdoRead_queuePins s _ _ _).1
  · exact absurd h Bool.false_ne_true

theorem execSdoInfo_answers (req : SdoInfoReq) : AnswersWith s.pending (execSdoInfo req s) :=
  .ite (.ite (atTick_answers s _) (next_answers s rfl))
    (readOutcome_answers s _ _ fun h => doSdoInfo_pending s (Bool.and_eq_true_iff.1 h).1)

theorem execFoeRead_answers (f : FoeFile) (p : BitVec 32) : AnswersWith s.pending (execFoeRead f p s) :=
  .ite (atTick_answers s _) (event_answers s _)

theorem execPdOutputComplete_answers (d : List Byte) (dc : BitVec 64) : AnswersWith s.pending (execPdOutputComplete d dc s) :=
  .ite (complete_answers s _ _ _ _) (next_answers s rfl)

theorem execSpiRead_answers (r : SpiFrame) : AnswersWith s.pending (execSpiRead r s) :=
  spiRow_answers s _ r _ fun t => readOutcome_answers t _ _ fun _ => (spiReadAnswer_queuePins t _).1

theorem execSpiReadAll_answers (r : SpiFrame) : AnswersWith s.pending (execSpiReadAll r s) :=
  spiRow_answers s _ r _ fun t => readOutcome_answers t _ _ fun _ => (spiReadAnswer_queuePins t _).1

theorem execSpiReadSeg_answers (r : SpiFrame) : AnswersWith s.pending (execSpiReadSeg r s) := by
  unfold execSpiReadSeg
  refine spiRow_answers s _ r _ fun t => ?_
  have first : ∀ k tag off count, AnswersWith t.pending
      (if k = K.recLog then atTick (firstSegment 0x04 tag k off count) t
       else readOutcome (k == K.chgFault) (firstSegment 0x04 tag k off count) t) := fun k tag off count =>
    .ite (atTick_answers t _) (readOutcome_answers t _ _ fun _ => (firstSegment_queuePins t _ _ _ _ _).1)
  split
  · exact .ite (event_answers t _) (first _ _ _ _)
  · exact first _ _ _ _

theorem execSpiWrite_answers (r : SpiFrame) : AnswersWith s.pending (execSpiWrite r s) :=
  spiRow_answers s _ r _ fun t => spiWrite_answers t _ _ _ _ _

theorem execSpiWriteSeg_answers (r : SpiFrame) : AnswersWith s.pending (execSpiWriteSeg r s) := by
  unfold execSpiWriteSeg
  refine spiRow_answers s _ r _ fun t => ?_
  dsimp only
  split
  · exact .ite (event_answers t _) (.ite (spiWrite_answers _ _ _ _ _ _) (event_answers t _))
  · exact event_answers t _

theorem execSpiPiRead_answers (r : SpiFrame) : AnswersWith s.pending (execSpiPiRead r s) :=
  spiRow_answers s _ r _ fun t => event_answers t _

theorem execSpiPiWrite_answers (r : SpiFrame) : AnswersWith s.pending (execSpiPiWrite r s) := by
  unfold execSpiPiWrite
  refine spiRow_answers s _ r _ fun t => ?_
  dsimp only
  split
  · exact event_answers t _
  · split
    · exact event_answers t _
    · exact complete_answers t _ _ _ _

theorem execSpiEmcyRead_answers (r : SpiFrame) : AnswersWith s.pending (execSpiEmcyRead r s) :=
  spiRow_answers s _ r _ fun t => event_answers t _

end

/-! ## Every command -/

theorem exec_answers (c : Instr) (s : State) : AnswersWith s.pending (exec c s) := by
  cases c with
  | estimatorEpoch | backupStart | clkXtalLost | strideEdge | strideMissingEdge | strideHoldLong | strideStart | fdSurgeLong
  | fdSwapDone | fdBalanceDone | fdCflyImbal | fdSoftstartDone | fdStart | fdOffDelay | fdStopped | fdIbusOv | fdIbusUv | fdOc
  | fdGate | budgetPeak | budgetOver | railSoftstartDone | railSs | railSlewDone | railRampdownDone | railDisSlow | phaseShed
  | fastAdd | burstEntry | burstStart | burstSlot | burstEnd | burstExit | qwOpen | qwClose | phOc | phOvl | phNeg | phTsd | phSw
  | phDrv | phImbal | railPhLost | railReverse | remountShadowEnd | remountRampEnd | xbRegionChange | xbSkipEntry | xbCl | xbPk
  | xbTsd | xbSw | xbDrv | xbNeg | ldoInUv | ldoCl | ldoTsd | aoRestart | supOvWarn | supUvWarn | supOcWarn | supOv | supUv
  | supOc | supConditionEnd | goodRise | goodFall | rhDue | rhSettleStart | rhSettleDone | rhPointDone | rhPointAbandon
  | enableWaitDone | enableWaitTmo | disableWaitDone | disableWaitTmo | waitTimeDone | waitStrideDone | checkPass | checkChatter
  | checkTimeout | gaitAdvance | gaitTmo | gaitHoldEnd | slewWaitDone | gaitalrmDetect | gaitalrmRelease | pathSourceValid
  | pathSwitch | pathAuxOv | batTakeover | batDisarm | pathBatCutoff | batteryStart | detectDone | prechargeDone | cvEntry
  | cvToCc | endOfCharge | recharge | chgTempRegain | chgTimer | chgPreTmo | collapseConfirm | removalProbeDone | chgBatShort
  | chgBatOv | chgConv | chgDetRetry | mpptSweep | mpptStep | revOtherSource | revVbatLow | chgRevShort | estHibernate | estWake
  | estZDue | estZPointDone | estAdc | fastFrameSend | fastFrameRx | slowFrameRx | bulkFrameRx | linkAlign | pairLinkLost
  | takeoverArm | takeoverEvidence | announcedStop | wdgCheckin | wdgRstPulseEnd | wdgStartDelayEnd | wdgKey | rtcWrap
  | trimWindow | rtcCalDone | rtcOscFail | rtcAlarm | wakeNAssert | pwronHoldExpire | alStateRequest | smWdgExpire
  | portLinkChange | dcActivate | siiWrite | mailboxUnsupported | segReadTimeout | thermShed | thermSensor | angleTrigger
  | estZPointStart | backupSupplyChange | vddioLoss | ecatPreopReached | tetherFrameDiscarded | linkSymbolLoss | gaitalrmLineHigh
  | harvestLost | masterUploadAbort | ldoin0Good | fdSurge | vsysPfw | pfwClear | fdRisingChange | fdFallingChange
  | fdForcedChange | fdVsysOv | estCheckpoint | recFlushDone | cfgSaveDone =>
    exact ⟨_, rfl, rfl⟩
  | stateReqActive | stateReqDoze | stateReqStandby | timeCapture | cfgCommit | cfgDiscard | fdRatioMode | railEnable
  | railDisable | phaseTakeOut | phaseReturn | rhRun | rhCommission | seqImage | seqRun | seqStop | gaitAlrmCmd | ffrRearm
  | faultAck | faultRearm | lockoutClear | revStart | revStop | estZRun | estReset | pairHandback | pairCmd | wdgCmd | rtcCapture
  | rtcSet | rtcCalRun | pwronSet | pwronClear | recTrigCmd | recFlush | comSave | comRestore | cfgImage | cfgLock | cfgUnlock
  | stRetry | jobRelease | errHistoryClear =>
    exact hostRow_answers s _ _ _
  | autostart | rhResults | autoAck | release | autoRestartEnable | retryWinExpire | joinWaitExpire | foeWrite =>
    exact atTick_answers s _
  | railDischarged n v => exact (atTick_answers s _ : AnswersWith _ (execRailDischarged n v s))
  | arbGrant => exact (atTick_answers s _ : AnswersWith _ (execArbGrant s))
  | estZPointAbandon v => exact (atTick_answers s _ : AnswersWith _ (execEstZPointAbandon v s))
  | nop | enable | disable | waitTime | waitStride | check | jump | gait | setout | mark | slew | seqEnd =>
    exact seqRow_answers s _
  | enterStandby | enLow =>
    exact powerRow_answers s _
  | spiNop | spiRepeat =>
    exact spiQuiet_answers s _ _
  | hostWrite => exact execHostWrite_answers s _ _ _ _ _
  | managementTick => exact execManagementTick_answers s _
  | vsysUv => exact execVsysUv_answers s _
  | fallToOff => exact execFallToOff_answers s _ _ _
  | bootBegin => exact execBootBegin_answers s _ _ _
  | endOfBoot => exact execEndOfBoot_answers s
  | sysrstNAssert => exact execSysrstNAssert_answers s
  | sysrstNRelease => exact execSysrstNRelease_answers s _
  | chgFaultRead => exact execChgFaultRead_answers s _
  | wdgPeriodEnd => exact execWdgPeriodEnd_answers s _
  | wdgClk => exact execWdgClk_answers s _ _
  | wdgLock => exact execWdgLock_answers s _ _
  | wdgCoreTrip => exact execWdgCoreTrip_answers s _ _
  | recClear => exact hostRowNv_answers s _ _ _
  | recLogUpload => exact execRecLogUpload_answers s _
  | retryBoot => exact execRetryBoot_answers s _
  | sdoInfo => exact execSdoInfo_answers s _
  | foeRead => exact execFoeRead_answers s _ _
  | pdOutputComplete => exact execPdOutputComplete_answers s _ _
  | spiRead => exact execSpiRead_answers s _
  | spiWrite => exact execSpiWrite_answers s _
  | spiReadAll => exact execSpiReadAll_answers s _
  | spiReadSeg => exact execSpiReadSeg_answers s _
  | spiWriteSeg => exact execSpiWriteSeg_answers s _
  | spiPiRead => exact execSpiPiRead_answers s _
  | spiPiWrite => exact execSpiPiWrite_answers s _
  | spiEmcyRead => exact execSpiEmcyRead_answers s _

/-- Settles O3: every command's outcome is one of its family's, and each family keeps the queue. -/
theorem commandsAnswerAndKeepTheQueue : Obligations.CommandsAnswerAndKeepTheQueue := by
  refine ⟨fun c s => ?_, fun c s t h => ?_⟩
  · obtain ⟨t, answered, -⟩ := exec_answers c s
    exact ⟨t, answered⟩
  · obtain ⟨u, answered, kept⟩ := exec_answers c s
    cases answered.symm.trans h
    exact kept

end Sys2Proof.Machine
end

section
/-! The entries that say which state the device and its sequencer stand in (R21, R28, R183, R204): the operations of a transition that
leave them, and those that write them. -/

namespace Sys2Proof.Machine

/-- The entries of the device's state: `DEV.STATE`, `DEV.STATE_CAUSE` and the latched on request. -/
def deviceKeys : List Nat := [K.devState, K.devStateCause, K.seqOnLatch]

/-- Those and the sequencer's state. -/
def controlKeys : List Nat := K.seqState :: deviceKeys

theorem controlKeys_of_deviceKeys {k : Nat} (h : k ∈ deviceKeys) : k ∈ controlKeys := List.mem_cons_of_mem _ h

theorem ne_of_mem {l : List Nat} {k j : Nat} (h : k ∈ l) (hj : j ∉ l) : k ≠ j := fun e => hj (e ▸ h)

theorem State.get_withDivider (s : State) (d : Divider) (k : Nat) : ({ s with divider := d } : State).get k = s.get k := (rfl)
theorem State.get_withSeq (s : State) (e : SeqEngine) (k : Nat) : ({ s with seq := e } : State).get k = s.get k := (rfl)
theorem State.get_withGait (s : State) (g : GaitLines) (k : Nat) : ({ s with gait := g } : State).get k = s.get k := (rfl)
theorem State.get_withPower (s : State) (p : Power) (k : Nat) : ({ s with power := p } : State).get k = s.get k := (rfl)
theorem State.get_withSeqPower (s : State) (e : SeqEngine) (p : Power) (k : Nat) :
    ({ s with seq := e, power := p } : State).get k = s.get k := (rfl)
theorem State.get_withFc (s : State) (c : Collector) (k : Nat) : ({ s with fc := c } : State).get k = s.get k := (rfl)
theorem State.get_withFcPower (s : State) (c : Collector) (p : Power) (k : Nat) :
    ({ s with fc := c, power := p } : State).get k = s.get k := (rfl)

section
variable {k : Nat}

/-! ## What leaves them -/

section
variable (h : k ∈ controlKeys) (s : State)
include h

theorem values_of_control : k = 0x290001 ∨ k = 0x200010 ∨ k = 0x200012 ∨ k = 0x29000D := by
  simpa [controlKeys, deviceKeys] using h

theorem ne_jobReport_of_control (i : Nat) (hi : i < 32) : k ≠ K.jobReport i := by
  have value := values_of_control h
  simp only [K.jobReport]
  omega

theorem jobEnd?_control (i : Option Nat) (x : JobStatus) (r : Nat) : (jobEnd? i x r s).get k = s.get k :=
  jobEnd?_get i x r s k (ne_of_mem h (by decide)) (ne_of_mem h (by decide)) (ne_jobReport_of_control h)

theorem noteSlot_control (n d : Nat) : (noteSlot n d s).get k = s.get k := by
  unfold noteSlot
  split
  · change ((State.bump _ _).flag _ _).get k = _
    rw [State.get_flag_ne _ _ _ _ (ne_of_mem h (by decide)), State.get_bump_ne _ _ _ (ne_of_mem h (by decide))]
    rfl
  · rfl

theorem fireTrigger_control (t : Trigger) : (fireTrigger t s).get k = s.get k := by
  unfold fireTrigger
  split
  · exact each_keeps _ _ (State.get · k) s fun n _ u => noteSlot_control h u n t.detail
  · rfl

theorem endMeasure_control (x : Nat) : (endMeasure x s).get k = s.get k := by
  unfold endMeasure
  split
  · rfl
  · dsimp only
    rw [jobEnd?_control h, State.get_flag_ne _ _ _ _ (ne_of_mem h (by decide)), State.get_put_ne _ _ _ _ (ne_of_mem h (by decide))]
    exact arbRelease_get _ _ _ (ne_of_mem h (by decide))

theorem offRun_control (n : Nat) : offRun n k := by
  refine ⟨?_, ne_jobReport_of_control h⟩
  have value := values_of_control h
  simp only [runWrites, K.rhRunStatus, K.rhResultSeq, K.rhArbOwner, K.rhState, K.rhRail, K.rhStatus, K.jobStatus, K.hostAlert,
    List.mem_cons, List.not_mem_nil, or_false, not_or]
  omega

theorem rhLeaves_control : (rhLeaves s).get k = s.get k := by
  unfold rhLeaves
  split
  · exact failRun_get _ _ _ _ (offRun_control h _)
  · rfl

theorem not_ffr_of_control : k ∉ ffrWrites := by
  revert h
  revert k
  decide

theorem offPhases_control : offPhases k := by
  have value := values_of_control h
  refine ⟨fun p hp => ?_, fun n hn => ?_, fun c hc => ?_, ?_⟩ <;> simp only [K.phaseState, K.phaseAngle, K.railPhActive,
    K.railSubmode, K.phaseQwBreachCnt, K.phaseStatus, K.railStatus, K.xbQwBreachCnt, K.xbStatus, K.paQwStatus] <;> omega

theorem railFault_control {n : Nat} (hn : n < 16) (src chan : Nat) : (railFault n src chan s).get k = s.get k := by
  have value := values_of_control h
  refine railFault_get n src chan s k ?_ (offRun_control h n) (offPhases_control h) (not_ffr_of_control h) ?_ ?_ <;>
    simp only [railWrites, goodWrites, K.railState, K.railCause, K.railStatus, K.railOrgate, K.supGood, K.supStatus, K.supChatterCnt,
      K.supGoodMap, K.supPgood, K.seqChkToggles, List.mem_cons, List.not_mem_nil, or_false, not_or] <;>
    omega

theorem railsFault_control (src chan : Nat) : (railsFault (upto 16) src chan s).get k = s.get k :=
  each_keeps _ _ (State.get · k) s fun _ hn u => railFault_control h u (List.mem_range.1 hn) src chan

theorem noteFailure_control (c r n : Nat) : (noteFailure c r n s).get k = s.get k := by
  refine (fillFfr_get 1 r n c 0 _ _ k (not_ffr_of_control h)).trans ?_
  rw [State.get_flag_ne _ _ _ _ (ne_of_mem h (by decide)), State.get_bump_ne _ _ _ (ne_of_mem h (by decide)),
    State.get_put_ne _ _ _ _ (ne_of_mem h (by decide)), State.get_put_ne _ _ _ _ (ne_of_mem h (by decide))]

theorem abandonStep_control (c : Nat) : (abandonStep c s).get k = s.get k := by
  unfold abandonStep
  split
  · rw [State.get_flag_ne _ _ _ _ (ne_of_mem h (by decide)), noteFailure_control h]
  · exact noteFailure_control h _ _ _ _

theorem raiseAlarm_control : (raiseAlarm s).get k = s.get k :=
  State.get_flag_ne s K.gaitStatus 8 k (ne_of_mem h (by decide))

theorem wdgResume_control : (wdgResume s).get k = s.get k := by
  unfold wdgResume
  split
  · exact State.get_put_ne s K.wdgState wdgStart k (ne_of_mem h (by decide))
  · rfl

theorem showTrim_control : (showTrim s).get k = s.get k := by
  have trimmed : (when (s.clamps && !s.divider.trimming) (fun u => u.flag K.fdStatus 8) s).get k = s.get k := by
    unfold when
    split
    · exact State.get_flag_ne _ _ _ _ (ne_of_mem h (by decide))
    · rfl
  exact (State.get_put_ne _ _ _ _ (ne_of_mem h (by decide))).trans trimmed

theorem setFd_control (x : FdState) : (setFd x s).get k = s.get k :=
  (showTrim_control h _).trans (State.get_putFd_ne s k x (ne_of_mem h (by decide)))

theorem setIbusGood_control (b : Bool) : (setIbusGood b s).get k = s.get k := by
  unfold setIbusGood
  by_cases same : s.get K.fdIbusGood = if b then 1 else 0
  · rw [if_pos same]
  · rw [if_neg same, offerToggle_get _ _ _ _ (ne_of_mem h (by decide)), State.get_put_ne _ _ _ _ (ne_of_mem h (by decide))]

theorem fdHalt_control : (fdHalt s).get k = s.get k := by
  unfold fdHalt
  split
  · rw [State.get_withDivider, setIbusGood_control h, setFd_control h]
  · rfl

end

/-! ## What writes them -/

section
variable (s : State)

theorem State.dev_of_get {s : State} {d : DevState} (h : s.get K.devState = d.code) : s.dev = d := by
  rw [State.dev, h, DevState.ofCode_code]

theorem State.seqState_of_get {s : State} {x : SeqState} (h : s.get K.seqState = x.code) : s.seqState = x := by
  rw [State.seqState, h, SeqState.ofCode_code]

theorem enterDev_get (h : k ∈ controlKeys) (hd : k ≠ K.devState) (hc : k ≠ K.devStateCause) (d : DevState) (c : Nat) :
    (enterDev d c s).get k = s.get k := by
  unfold enterDev
  split
  · exact State.get_put_ne _ _ _ _ hc
  · rw [fireTrigger_control h, State.get_flag_ne _ _ _ _ (ne_of_mem h (by decide)), State.get_put_ne _ _ _ _ hc,
      State.get_put_ne _ _ _ _ hd]

theorem enterDev_dev (d : DevState) (c : Nat) : (enterDev d c s).dev = d := by
  unfold enterDev
  split
  · next same => rw [State.dev, State.get_put_ne _ _ _ _ (by decide)]; exact same
  · exact State.dev_of_get (by rw [fireTrigger_control (by decide)]; simp)

theorem enterDev_cause (d : DevState) (c : Nat) : (enterDev d c s).get K.devStateCause = c := by
  unfold enterDev
  split
  · exact State.get_put_self _ _ _
  · rw [fireTrigger_control (by decide)]; simp

/-- What ends with a state before the next is entered: a health run, an impedance measurement. -/
def leaveDev (d : DevState) (s : State) : State :=
  let t := if s.dev = .active ∧ d ≠ .active then rhLeaves s else s
  if s.dev.live ∧ d.live = false then endMeasure 5 t else t

theorem moveDev_eq (d : DevState) (c : Nat) :
    moveDev d c s = { enterDev d c (leaveDev d s) with
      power := { (enterDev d c (leaveDev d s)).power with since := (enterDev d c (leaveDev d s)).tick } } := rfl

theorem leaveDev_control (h : k ∈ controlKeys) (d : DevState) : (leaveDev d s).get k = s.get k := by
  have ran : (if s.dev = .active ∧ d ≠ .active then rhLeaves s else s).get k = s.get k := by
    split
    · exact rhLeaves_control h s
    · rfl
  unfold leaveDev
  dsimp only
  split
  · exact (endMeasure_control h _ 5).trans ran
  · exact ran

theorem moveDev_dev (d : DevState) (c : Nat) : (moveDev d c s).dev = d := by
  rw [moveDev_eq, State.dev, State.get_withPower]
  exact enterDev_dev _ d c

theorem moveDev_cause (d : DevState) (c : Nat) : (moveDev d c s).get K.devStateCause = c := by
  rw [moveDev_eq, State.get_withPower, enterDev_cause]

theorem moveDev_seqState (d : DevState) (c : Nat) : (moveDev d c s).seqState = s.seqState := by
  rw [moveDev_eq, State.seqState, State.get_withPower, enterDev_get _ (by decide) (by decide) (by decide),
    leaveDev_control _ (by decide), ← State.seqState]

/-! ### Programs -/

theorem settleGait_get (k : Nat) : (settleGait s).get k = s.get k := by
  unfold settleGait
  split
  · rfl
  · exact State.get_withGait s _ k

theorem startProgram_device (h : k ∈ deviceKeys) (st : SeqState) (slot pc : Nat) : (startProgram st slot pc s).get k = s.get k := by
  unfold startProgram
  rw [settleGait_get, State.get_withSeq, State.get_put_ne _ _ _ _ (ne_of_mem h (by decide)),
    State.get_flag_ne _ _ _ _ (ne_of_mem h (by decide)), State.get_put_ne _ _ _ _ (ne_of_mem h (by decide)),
    State.get_put_ne _ _ _ _ (ne_of_mem h (by decide)), State.get_put_ne _ _ _ _ (ne_of_mem h (by decide)),
    State.get_put_ne _ _ _ _ (ne_of_mem h (by decide)), State.get_put_ne _ _ _ _ (ne_of_mem h (by decide))]

theorem startProgram_seqState (st : SeqState) (slot pc : Nat) : (startProgram st slot pc s).seqState = st := by
  refine State.seqState_of_get ?_
  unfold startProgram
  rw [settleGait_get, State.get_withSeq]
  simp

theorem seqIdle_device (h : k ∈ deviceKeys) : (seqIdle s).get k = s.get k := by
  unfold seqIdle
  rw [settleGait_get, State.get_withSeq, State.get_put_ne _ _ _ _ (ne_of_mem h (by decide)),
    State.get_put_ne _ _ _ _ (ne_of_mem h (by decide)), State.get_put_ne _ _ _ _ (ne_of_mem h (by decide)),
    State.get_put_ne _ _ _ _ (ne_of_mem h (by decide))]

theorem seqIdle_seqState : (seqIdle s).seqState = .idle := by
  refine State.seqState_of_get ?_
  unfold seqIdle
  rw [settleGait_get, State.get_withSeq]
  simp

theorem enterPowerDown_device (h : k ∈ deviceKeys) (c : Nat) : (enterPowerDown c s).get k = s.get k := by
  unfold enterPowerDown
  rw [State.get_withSeqPower, startProgram_device _ h]

theorem enterPowerDown_seqState (c : Nat) : (enterPowerDown c s).seqState = .powerDown :=
  startProgram_seqState s .powerDown 1 s.downEntry

theorem alarmActs_device (h : k ∈ deviceKeys) : (alarmActs s).get k = s.get k := by
  have hc := controlKeys_of_deviceKeys h
  unfold alarmActs
  split
  · rw [enterPowerDown_device _ h, abandonStep_control hc]
  · rw [enterPowerDown_device _ h, endUser, seqIdle_device _ h, jobEnd?_control hc, abandonStep_control hc]
  · split
    · rfl
    · exact State.get_flag_ne s K.gaitStatus 0x10 k (ne_of_mem h (by decide))
    · rfl
  · rfl

theorem beginProgram_device (h : k ∈ deviceKeys) (st : SeqState) (slot : Nat) : (beginProgram st slot s).get k = s.get k := by
  unfold beginProgram
  dsimp only
  split
  · rw [alarmActs_device _ h, startProgram_device _ h]
  · exact startProgram_device _ h _ _ _

/-- The power-up program writes none of the entries that its transition left: ACTIVE, the cause, no on request latched. -/
theorem startUp_device (h : k ∈ deviceKeys) (c : Nat) : (startUp c s).get k = ((moveDev .active c s).put K.seqOnLatch 0).get k := by
  unfold startUp startPowerUp
  rw [State.get_withSeq, beginProgram_device _ h, State.get_withPower]

theorem startUp_dev (c : Nat) : (startUp c s).dev = .active := by
  rw [State.dev, startUp_device _ (by decide), State.get_put_ne _ _ _ _ (by decide), ← State.dev, moveDev_dev]

theorem startUp_cause (c : Nat) : (startUp c s).get K.devStateCause = c := by
  rw [startUp_device _ (by decide), State.get_put_ne _ _ _ _ (by decide), moveDev_cause]

theorem startUp_latch (c : Nat) : (startUp c s).get K.seqOnLatch = 0 := by
  rw [startUp_device _ (by decide), State.get_put_self]

/-! ### LOCKOUT -/

theorem seqHalt_device (h : k ∈ deviceKeys) : (seqHalt s).get k = s.get k := by
  have hc := controlKeys_of_deviceKeys h
  unfold seqHalt
  dsimp only
  rw [State.get_put_ne _ _ _ _ (ne_of_mem h (by decide)), seqIdle_device _ h]
  have halted : (if s.programRuns && !s.seq.atEnd then abandonStep 0x0E s else s).get k = s.get k := by
    split
    · exact abandonStep_control hc s _
    · rfl
  split
  · rw [jobEnd?_control hc, halted]
  · exact halted

theorem seqHalt_seqState : (seqHalt s).seqState = .halted := State.seqState_of_get (State.get_put_self _ _ _)

end

end

end Sys2Proof.Machine
end

section
/-! Requests to `DEV.STATE_REQ` (R21, R22, R25, R204): the answer to each in each state, and step 6 of the tick, which acts on it. -/

namespace Sys2Proof.Machine

/-! ## The row of a host write -/

section
variable {port : Port} {k : Nat} {wr : State → Written} {s : State}

theorem hostRow_accepts (h : s.openTick.answers port = true) (hc : writeCheck k s.openTick = none) {u : State}
    (hw : wr s.openTick = accept u) : hostRow port k wr s = .next (s.atTick { u with reply := some ⟨port, 0⟩ }) := by
  rw [hostRow_up (State.coreUp_of_answers h), hostDo_accepts h hc hw]

theorem hostRow_refuses (h : s.openTick.answers port = true) (hc : writeCheck k s.openTick = none) {a : Nat}
    (hw : wr s.openTick = refuse a s.openTick) :
    hostRow port k wr s = .next (s.atTick { s.openTick with reply := some ⟨port, a⟩ }) := by
  rw [hostRow_up (State.coreUp_of_answers h), hostDo_refuses h hc hw]

end

/-! ## The answers -/

section
variable {s : State}

/-- `DEV.STATE_REQ` is written without a condition. -/
theorem writeCheck_devStateReq : writeCheck K.devStateReq s = none := by
  obtain ⟨r, row, acc⟩ : ∃ r, entryAt K.devStateReq = some r ∧ r.acc = .wo :=
    ⟨⟨0x2000, 0x11, 1, 0, 0, .u8, .wo, .v, 0, .any⟩, by decide +kernel, rfl⟩
  simp only [writeCheck, row, acc]

theorem refusesRequest_iff : s.refusesRequest = true ↔ s.dev = .stall ∨ s.dev = .lockout ∨ s.joining = true := by
  simp [State.refusesRequest, or_assoc]

theorem wrReqActive_refuses (h : s.refusesRequest = true) : wrReqActive s = refuse Abort.state s := if_pos h
theorem wrReqDoze_refuses (h : s.refusesRequest = true) : wrReqDoze s = refuse Abort.state s := if_pos h
theorem wrReqStandby_refuses (h : s.refusesRequest = true) : wrReqStandby s = refuse Abort.state s := if_pos h

theorem wrReqActive_standby (hd : s.dev = .standby) (hj : s.joining = false) : wrReqActive s = accept (noteRequest 4 s) := by
  simp [wrReqActive, State.refusesRequest, hd, hj]
theorem wrReqStandby_standby (hd : s.dev = .standby) (hj : s.joining = false) : wrReqStandby s = accept s := by
  simp [wrReqStandby, State.refusesRequest, hd, hj]
theorem wrReqDoze_standby (hd : s.dev = .standby) (hj : s.joining = false) : wrReqDoze s = refuse Abort.state s := by
  simp [wrReqDoze, State.refusesRequest, hd, hj]

theorem wrReqActive_doze (hd : s.dev = .doze) (hj : s.joining = false) : wrReqActive s = accept (noteRequest 4 s) := by
  simp [wrReqActive, State.refusesRequest, hd, hj]
theorem wrReqDoze_doze (hd : s.dev = .doze) (hj : s.joining = false) : wrReqDoze s = accept s := by
  simp [wrReqDoze, State.refusesRequest, hd, hj]
theorem wrReqStandby_doze (hd : s.dev = .doze) (hj : s.joining = false) :
    wrReqStandby s = accept (noteRequest 2 (offRequest 1 s)) := by
  simp [wrReqStandby, State.refusesRequest, hd, hj]

/-- DOZE waits for the programs and for the acknowledgement of the classes F2 to F5 (R21, R29). -/
theorem dozeAllowed_iff : s.dozeAllowed = true ↔ s.programRuns = false ∧ s.get K.faultUnack &&& 0x3C = 0 := by
  simp [State.dozeAllowed]

theorem wrReqDoze_active (hd : s.dev = .active) (hj : s.joining = false) :
    wrReqDoze s = if s.dozeAllowed then accept (noteRequest 3 s) else refuse Abort.state s := by
  simp [wrReqDoze, State.refusesRequest, hd, hj]
theorem wrReqStandby_active (hd : s.dev = .active) (hj : s.joining = false) : wrReqStandby s = accept (offRequest 1 s) := by
  simp [wrReqStandby, State.refusesRequest, hd, hj]
theorem wrReqActive_powerDown (hd : s.dev = .active) (hj : s.joining = false) (hp : s.seqState = .powerDown)
    (hl : s.get K.seqOnLatch = 0) : wrReqActive s = accept ((s.put K.seqOnLatch 1).flag K.seqStatus 0x20) := by
  simp only [wrReqActive, State.refusesRequest, hd, hj, hp, hl, and_self, ↓reduceIte]
  rfl

end

/-! ## Step 6 of the tick -/

section
variable {s : State}

/-- What step 6 leaves: no request is noted any more. -/
def requestsDone (s : State) : State := { s with power := { s.power with alarmWake := false, req := none } }

theorem powerTick_vsysLost (h : s.vsysLost = true) : powerTick s = requestsDone (enterBackup s.vsysNow 0 s) := by
  unfold powerTick
  rw [if_pos h]
  rfl

theorem powerTick_lockout (hv : s.vsysLost = false) (hl : s.fc.lockoutDue = true) (hd : s.dev.live = true) :
    powerTick s = requestsDone (enterLockout s) := by
  simp [powerTick, requestsDone, hv, hl, hd]

variable (hv : s.vsysLost = false) (hl : s.fc.lockoutDue = false) (he : s.enHigh = true)
include hv hl he

theorem powerTick_standby (hd : s.dev = .standby) :
    powerTick s = requestsDone (if s.power.req = some 4 then startUp 1 s else s) := by
  simp [powerTick, requestsDone, hv, hl, he, hd]

theorem powerTick_active (hd : s.dev = .active) :
    powerTick s = requestsDone (if s.power.req = some 3 ∧ s.dozeAllowed = true then enterDoze s else s) := by
  simp [powerTick, requestsDone, hv, hl, he, hd]

theorem powerTick_doze (hd : s.dev = .doze) : powerTick s = requestsDone (dozeTick s) := by
  simp [powerTick, requestsDone, hv, hl, he, hd]

end

theorem dozeTick_request {s : State} (hw : s.fc.dozeWake = false) (hr : s.power.req = some 4 ∨ s.power.req = some 2) :
    dozeTick s = leaveDoze 1 s := by
  simp [dozeTick, State.dozeExit, hw, hr]

/-- Settles O39: the answer to each request, and what step 6 makes of it. -/
theorem stateRequests : Obligations.StateRequests := by
  refine ⟨?_, fun s hv hl he => ⟨fun hd hr => ?_, fun hd hr ha => ?_, fun hd hw hr => ?_, ?_⟩⟩
  · rintro port s _ rfl ha
    refine ⟨fun hb => ?_, fun hj => ⟨fun hd => ?_, fun hd => ?_, fun hd => ?_⟩⟩
    · have h := refusesRequest_iff.2 hb
      exact ⟨hostRow_refuses ha writeCheck_devStateReq (wrReqActive_refuses h),
        hostRow_refuses ha writeCheck_devStateReq (wrReqDoze_refuses h),
        hostRow_refuses ha writeCheck_devStateReq (wrReqStandby_refuses h)⟩
    · exact ⟨hostRow_accepts ha writeCheck_devStateReq (wrReqActive_standby hd hj),
        hostRow_accepts ha writeCheck_devStateReq (wrReqStandby_standby hd hj),
        hostRow_refuses ha writeCheck_devStateReq (wrReqDoze_standby hd hj)⟩
    · exact ⟨hostRow_accepts ha writeCheck_devStateReq (wrReqActive_doze hd hj),
        hostRow_accepts ha writeCheck_devStateReq (wrReqDoze_doze hd hj),
        hostRow_accepts ha writeCheck_devStateReq (wrReqStandby_doze hd hj)⟩
    · refine ⟨fun hp hu => ?_, fun hn => ?_, hostRow_accepts ha writeCheck_devStateReq (wrReqStandby_active hd hj), fun hp hl => ?_⟩
      · exact hostRow_accepts ha writeCheck_devStateReq ((wrReqDoze_active hd hj).trans (if_pos (dozeAllowed_iff.2 ⟨hp, hu⟩)))
      · refine hostRow_refuses ha writeCheck_devStateReq ((wrReqDoze_active hd hj).trans (if_neg fun h => ?_))
        obtain ⟨idle, acknowledged⟩ := dozeAllowed_iff.1 h
        exact hn.elim (fun hr => absurd (idle.symm.trans hr) Bool.false_ne_true) fun hu => hu acknowledged
      · exact hostRow_accepts ha writeCheck_devStateReq (wrReqActive_powerDown hd hj hp hl)
  · rw [powerTick_standby hv hl he hd, if_pos hr]
    rfl
  · rw [powerTick_active hv hl he hd, if_pos ⟨hr, ha⟩]
    rfl
  · rw [powerTick_doze hv hl he hd, dozeTick_request hw hr]
    rfl
  · rintro (hd | hd) hr
    · rw [powerTick_standby hv hl he hd, hr]
      rfl
    · rw [powerTick_active hv hl he hd, hr]
      rfl

end Sys2Proof.Machine
end

section
/-! Transitions that a tick boundary brings about (R21, R22, R24, R25, R204) and those of the supplies and of SYSRST_N (R20, R26, R361,
R407). -/

namespace Sys2Proof.Machine

section
variable (s : State)

/-! ## BACKUP -/

theorem State.fastUp_main {s : State} (h : s.fastUp = true) : s.dev.main = true := by
  simp only [State.fastUp, Bool.and_eq_true] at h
  obtain ⟨⟨main, -⟩, -⟩ := h
  exact main

/-- The main domain that has gone down stands in BACKUP. -/
theorem mainReset_dev : (mainReset s).dev = .backup := State.dev_of_get (State.get_put_self _ _ _)

theorem mainReset_en : (mainReset s).pins.en = s.pins.en := (rfl)

theorem takeSupply_get (x : Nat) {k : Nat} (h : k ≠ K.bkStatus) : (takeSupply x s).get k = s.get k := by
  unfold takeSupply
  split
  · rfl
  · exact State.get_flag_ne _ _ _ _ h

theorem takeSupply_supply (x : Nat) : (takeSupply x s).bk.supply = x := by
  unfold takeSupply
  split
  · next same => exact same
  · rfl

theorem takeSupply_pins (x : Nat) : (takeSupply x s).pins = s.pins := by
  unfold takeSupply
  split <;> rfl

theorem takeSupply_ne {s : State} {x : Nat} (h : x ≠ s.bk.supply) :
    takeSupply x s = { s.flag K.bkStatus 4 with bk := { s.bk with supply := x } } := if_neg (Ne.symm h)

section
variable (vsys vbak vbat : Nat)

theorem supplyBackup_some {x : Nat} (h : supplyOf vsys vbak vbat = some x) : supplyBackup vsys vbak vbat s = takeSupply x s := by
  rw [supplyBackup, h]

theorem supplyBackup_none (h : supplyOf vsys vbak vbat = none) : supplyBackup vsys vbak vbat s = s := by
  rw [supplyBackup, h]

theorem supplyBackup_get {k : Nat} (h : k ≠ K.bkStatus) : (supplyBackup vsys vbak vbat s).get k = s.get k := by
  cases found : supplyOf vsys vbak vbat with
  | none => rw [supplyBackup_none s _ _ _ found]
  | some x => rw [supplyBackup_some s _ _ _ found, takeSupply_get s x h]

theorem supplyBackup_pins : (supplyBackup vsys vbak vbat s).pins = s.pins := by
  cases found : supplyOf vsys vbak vbat with
  | none => rw [supplyBackup_none s _ _ _ found]
  | some x => rw [supplyBackup_some s _ _ _ found, takeSupply_pins]

theorem supplyBackup_dev : (supplyBackup vsys vbak vbat s).dev = s.dev := by
  rw [State.dev, supplyBackup_get s _ _ _ (by decide), State.dev]

end

theorem mainDown_en : (mainDown s).pins.en = s.pins.en := by
  unfold mainDown
  rw [mainReset_en, (railsLost_queuePins _).2, (calEnd_queuePins _ _).2, (estOff_queuePins _).2]

theorem State.get_setPair (f : Pair → Pair) (k : Nat) : (setPair f s).get k = s.get k := (rfl)

/-- The device on its way into BACKUP: the rails off, what it carried of the pair's rails released (R21, R321). -/
def railsGone (c : Nat) (s : State) : State :=
  let t := railsLost (enterDev .backup c s)
  setPair (fun p => { p with release := p.release ||| BitVec.ofNat 16 (t.get K.pairCarry) }) t

theorem railsGone_pins (c : Nat) : (railsGone c s).pins = s.pins := by
  simp [railsGone, setPair]

/-- Then the main domain goes down, the pair's last frame is sent, and the backup domain takes its supply. -/
theorem enterBackup_eq (vsys c : Nat) : ∃ p, enterBackup vsys c s =
    supplyBackup vsys (s.get K.bkVbak) (s.get K.chgVbat) (setPair p ((mainDown (railsGone c s)).put K.devStateCause c)) :=
  ⟨_, rfl⟩

theorem mainDown_dev : (mainDown s).dev = .backup := mainReset_dev _

theorem enterBackup_dev (vsys c : Nat) : (enterBackup vsys c s).dev = .backup := by
  obtain ⟨p, entered⟩ := enterBackup_eq s vsys c
  rw [entered, supplyBackup_dev, State.dev, State.get_setPair, State.get_put_ne _ _ _ _ (by decide), ← State.dev, mainDown_dev]

theorem enterBackup_cause (vsys c : Nat) : (enterBackup vsys c s).get K.devStateCause = c := by
  obtain ⟨p, entered⟩ := enterBackup_eq s vsys c
  rw [entered, supplyBackup_get _ _ _ _ (by decide), State.get_setPair, State.get_put_self]

theorem enterBackup_en (vsys c : Nat) : (enterBackup vsys c s).pins.en = s.pins.en := by
  obtain ⟨p, entered⟩ := enterBackup_eq s vsys c
  have down : (setPair p ((mainDown (railsGone c s)).put K.devStateCause c)).pins = (mainDown (railsGone c s)).pins := rfl
  rw [entered, supplyBackup_pins, down, mainDown_en, railsGone_pins]

theorem enterBackup_supply (vsys c : Nat) {x : Nat} (h : supplyOf vsys (s.get K.bkVbak) (s.get K.chgVbat) = some x) :
    (enterBackup vsys c s).bk.supply = x := by
  obtain ⟨p, entered⟩ := enterBackup_eq s vsys c
  rw [entered, supplyBackup_some _ _ _ _ h, takeSupply_supply]

/-! ## Power-down and LOCKOUT -/

section
variable {s : State} (he : s.enHigh = true) (hc : s.seq.cause ≠ 3) (hr : s.fc.restartDev = false)
include he hc hr

/-- With EN high, power-down that neither EN nor an F4 restart asked for ends in STANDBY, the divider off. -/
theorem finishDown_get (k : Nat) : (finishDown s).get k = (fdHalt (moveDev .standby s.seq.cause (seqIdle s))).get k := by
  simp only [finishDown, he, hr, ↓reduceIte, Bool.or_false, beq_iff_eq, hc]
  exact State.get_withFc _ _ k

theorem finishDown_dev : (finishDown s).dev = .standby := by
  rw [State.dev, finishDown_get he hc hr, fdHalt_control (by decide), ← State.dev, moveDev_dev]

theorem finishDown_cause : (finishDown s).get K.devStateCause = s.seq.cause := by
  rw [finishDown_get he hc hr, fdHalt_control (by decide), moveDev_cause]

theorem finishDown_seqState : (finishDown s).seqState = .idle := by
  rw [State.seqState, finishDown_get he hc hr, fdHalt_control (by decide), ← State.seqState, moveDev_seqState, seqIdle_seqState]

end

theorem enterLockout_control {k : Nat} (h : k ∈ controlKeys) :
    (enterLockout s).get k = (seqHalt (wdgResume (railsFault (upto 16) s.fc.lastSrc 0xFF (moveDev .lockout 7 s)))).get k := by
  unfold enterLockout
  dsimp only
  rw [State.get_withFcPower]
  split
  · rw [raiseAlarm_control h, State.get_setPair, fdHalt_control h]
  · rw [State.get_setPair, fdHalt_control h]

theorem enterLockout_device {k : Nat} (h : k ∈ deviceKeys) : (enterLockout s).get k = (moveDev .lockout 7 s).get k := by
  have hc := controlKeys_of_deviceKeys h
  rw [enterLockout_control s hc, seqHalt_device _ h, wdgResume_control hc, railsFault_control hc]

theorem enterLockout_dev : (enterLockout s).dev = .lockout := by
  rw [State.dev, enterLockout_device s (by decide), ← State.dev, moveDev_dev]

theorem enterLockout_cause : (enterLockout s).get K.devStateCause = 7 := by
  rw [enterLockout_device s (by decide), moveDev_cause]

theorem enterLockout_seqState : (enterLockout s).seqState = .halted := by
  rw [State.seqState, enterLockout_control s (by decide), ← State.seqState, seqHalt_seqState]

/-! ## The outcome of an event of step 6 -/

/-- The event's effect with the queue and the store as they were, and the time of the boundary or, in BACKUP, of a reset. -/
def State.atPowerTick (s t : State) : State :=
  { t with clock := if t.dev = .backup then Clock.reset else s.openTick.clock, pending := s.pending, mram := s.mram }

variable {s : State}

theorem powerRow_up (h : s.openTick.coreUp = true) (f : State → State) : powerRow f s = .next (s.atPowerTick (f s.openTick)) :=
  if_pos h

variable {t : State}

theorem State.atPowerTick_get (k : Nat) : (s.atPowerTick t).get k = t.get k := (rfl)
theorem State.atPowerTick_dev : (s.atPowerTick t).dev = t.dev := (rfl)
theorem State.atPowerTick_seqState : (s.atPowerTick t).seqState = t.seqState := (rfl)
theorem State.atPowerTick_pins : (s.atPowerTick t).pins = t.pins := (rfl)
theorem State.atPowerTick_clock_backup (h : t.dev = .backup) : (s.atPowerTick t).clock = Clock.reset := if_pos h

/-! ## EN low -/

/-- The state with EN sampled low. -/
def State.withEnLow (s : State) : State := { s with pins := { s.pins with en := false } }

theorem doEnLow_eq : doEnLow s = enActsLow s.withEnLow := rfl

theorem enActsLow_backup (hl : s.fc.lockoutDue = false) (hd : s.dev = .standby ∨ s.dev = .stall ∨ s.dev = .lockout) :
    enActsLow s = enterBackup s.vsysNow 3 s := by
  obtain hd | hd | hd := hd <;> simp [enActsLow, hl, hd]

theorem enActsLow_active (hl : s.fc.lockoutDue = false) (hd : s.dev = .active) (hs : s.seqState = .idle)
    (hp : s.power.offPending = none) : enActsLow s = enterPowerDown 3 s := by
  simp [enActsLow, hl, hd, hs, hp]

theorem settleGait_pins (t : State) : (settleGait t).pins = t.pins := by
  unfold settleGait
  split <;> rfl

theorem enterPowerDown_pins (c : Nat) : (enterPowerDown c s).pins = s.pins := settleGait_pins _

end

/-! ## Transitions at a boundary -/

section
variable {s : State}

theorem doAutostart_due (hd : s.dev = .standby) (ha : s.power.autostartDue = true) (hj : s.joining = false)
    (ht : s.power.since < s.tick) (hl : s.fc.lockoutDue = false) : doAutostart s = startUp 2 s :=
  if_pos ⟨hd, ha, hj, ht, hl⟩

theorem execAutostart_up (h : s.openTick.coreUp = true) : GivesAtTick .autostart s (doAutostart s.openTick) := if_pos h

theorem latchDue_dev (h : s.latchDue = true) : s.dev = .standby := by
  simp only [State.latchDue, Bool.and_eq_true, beq_iff_eq] at h
  obtain ⟨⟨⟨⟨dev, -⟩, -⟩, -⟩, -⟩ := h
  exact dev

theorem downDone_dev (h : s.downDone = true) : s.dev = .active := by
  simp only [State.downDone, Bool.and_eq_true, beq_iff_eq] at h
  obtain ⟨⟨⟨dev, -⟩, -⟩, -⟩ := h
  exact dev

theorem doEnterStandby_down (hl : s.fc.lockoutDue = false) (h : s.downDone = true) : doEnterStandby s = finishDown s := by
  simp [doEnterStandby, hl, h]

theorem doEnterStandby_latch (hl : s.fc.lockoutDue = false) (h : s.latchDue = true) : doEnterStandby s = startUp 1 s := by
  have up : s.downDone = false := by
    refine Bool.eq_false_iff.2 fun hd => ?_
    exact absurd ((latchDue_dev h).symm.trans (downDone_dev hd)) (by decide)
  simp [doEnterStandby, hl, h, up]

end

/-- Settles O40: each transition by its own lemma, the frame of the entries it must leave or write, and the order of step 6. -/
theorem tickTransitions : Obligations.TickTransitions := by
  refine ⟨?_, fun s hv => powerTick_vsysLost hv, fun s hv hl hd => ?_⟩
  · rintro s _ rfl up hl
    refine ⟨fun hd ha hj ht => ?_, fun h => ?_, fun h he hc hr => ?_, fun hd => ?_, fun hd hs hp => ?_⟩
    · exact doAutostart_due hd ha hj ht hl ▸ execAutostart_up up
    · refine ⟨_, powerRow_up up doEnterStandby, ?_⟩
      rw [doEnterStandby_latch hl h, State.atPowerTick_dev, State.atPowerTick_get, State.atPowerTick_get]
      exact ⟨startUp_dev _ 1, startUp_latch _ 1, startUp_cause _ 1⟩
    · refine ⟨_, powerRow_up up doEnterStandby, ?_⟩
      rw [doEnterStandby_down hl h, State.atPowerTick_dev, State.atPowerTick_get, State.atPowerTick_seqState]
      have other : s.openTick.seq.cause ≠ 3 := by omega
      exact ⟨finishDown_dev he other hr, (finishDown_cause he other hr).trans hc, finishDown_seqState he other hr⟩
    · refine ⟨_, powerRow_up up doEnLow, ?_⟩
      rw [doEnLow_eq, enActsLow_backup (s := s.openTick.withEnLow) hl hd]
      have down := enterBackup_dev s.openTick.withEnLow s.openTick.withEnLow.vsysNow 3
      exact ⟨down, enterBackup_cause _ _ 3, State.atPowerTick_clock_backup down, enterBackup_en _ _ 3⟩
    · refine ⟨_, powerRow_up up doEnLow, ?_⟩
      rw [doEnLow_eq, enActsLow_active (s := s.openTick.withEnLow) hl hd hs hp]
      refine ⟨?_, enterPowerDown_seqState _ 3, rfl, ?_⟩
      · rw [State.atPowerTick_dev, State.dev, enterPowerDown_device _ (by decide)]
        exact hd
      · rw [State.atPowerTick_pins, enterPowerDown_pins]
        rfl
  · rw [powerTick_lockout hv hl hd]
    exact ⟨enterLockout_dev s, enterLockout_cause s, enterLockout_seqState s, rfl⟩

/-! ## Supplies and SYSRST_N -/

section
variable {s : State}

theorem execVsysUv_low {v : Nat} (hv : v < vsysUvMv) (h : s.openTick.dev.main = true ∨ s.openTick.power.boot.isSome = true) :
    exec (.vsysUv v) s =
      .next { doVsysUv v s.openTick with clock := Clock.reset, pending := s.pending, mram := s.mram } :=
  if_pos ⟨hv, h.imp_right .inl⟩

theorem execVsysUv_high {v : Nat} (hv : vsysUvMv ≤ v) : exec (.vsysUv v) s = .next s := if_neg fun h => Nat.not_lt.2 hv h.1

theorem doVsysUv_main {v : Nat} (h : s.fastUp = true) : doVsysUv v s = enterBackup v 0 s := if_pos h

theorem doVsysUv_boot {v : Nat} (h : s.fastUp = false) : doVsysUv v s = supplyBackup v (s.get K.bkVbak) (s.get K.chgVbat)
    { mainReset s with power := { Power.reset with coreTripped := s.power.coreTripped } } := if_neg (Bool.eq_false_iff.1 h)

theorem takeSupply_power (x : Nat) : (takeSupply x s).power = s.power := by
  unfold takeSupply
  split <;> rfl

theorem supplyBackup_power (a b c : Nat) : (supplyBackup a b c s).power = s.power := by
  cases found : supplyOf a b c with
  | none => rw [supplyBackup_none s _ _ _ found]
  | some x => rw [supplyBackup_some s _ _ _ found, takeSupply_power]

theorem backupStart_gives (a b c : Nat) : Gives (.backupStart a b c) s (doBackupStart a b c s) := rfl

theorem doBackupStart_some {a b c x : Nat} (hd : s.dev = .off) (h : startSupply a b c = some x) :
    doBackupStart a b c s = setBk (fun k => { k with supply := x }) (s.put K.devState DevState.backup.code) := by
  simp [doBackupStart, h, hd]

theorem doBackupStart_none {a b c : Nat} (h : startSupply a b c = none) : doBackupStart a b c s = s := by
  rw [doBackupStart, h]

theorem backupSupplyChange_gives (a b c : Nat) : Gives (.backupSupplyChange a b c) s (doBackupSupplyChange a b c s) := rfl

theorem doBackupSupplyChange_main {a b c : Nat} (h : s.dev.main = true) : doBackupSupplyChange a b c s = takeSupply 0 s := if_pos h

theorem doBackupSupplyChange_backup {a b c x : Nat} (hm : s.dev.main = false) (hu : s.bkUp = true) (h : supplyOf a b c = some x) :
    doBackupSupplyChange a b c s = takeSupply x s := by
  simp [doBackupSupplyChange, hm, hu, supplyBackup_some s a b c h]

theorem doSysrstNAssert_dev : (doSysrstNAssert s).dev = .backup := by
  unfold doSysrstNAssert
  dsimp only
  rw [State.dev, State.get_withPower, State.get_flag_ne _ _ _ _ (by decide), ← State.dev, mainReset_dev]

end

/-- Settles O41: each event by what it does with the main domain and with the backup supply. -/
theorem suppliesAndReset : Obligations.SuppliesAndReset := by
  intro s
  refine ⟨?_, fun a b c x hd h => ?_, fun a b c h => ?_, fun a b c hd hb hh h => ?_, fun hm => ?_, fun mv => rfl,
    fun a b c => ⟨?_, ?_⟩, fun x => takeSupply_ne⟩
  · rintro _ v rfl
    refine ⟨fun hv up => ?_, fun hv hb => ?_, execVsysUv_high⟩
    · refine ⟨_, execVsysUv_low hv (.inl (State.fastUp_main up)), ?_⟩
      rw [doVsysUv_main up]
      exact ⟨enterBackup_dev _ v 0, enterBackup_cause _ v 0, rfl, rfl, fun x => enterBackup_supply _ v 0⟩
    · refine ⟨_, execVsysUv_low hv (.inr (Option.isSome_iff_ne_none.2 hb)), ?_⟩
      rw [doVsysUv_boot (State.fastUp_false_of_boot hb)]
      exact ⟨(supplyBackup_dev _ v _ _).trans (mainReset_dev _), congrArg Power.boot (supplyBackup_power v _ _), rfl, rfl⟩
  · have started := backupStart_gives (s := s) a b c
    rw [doBackupStart_some hd h] at started
    exact ⟨_, started, State.dev_of_get (State.get_put_self s K.devState DevState.backup.code), rfl⟩
  · have stayed := backupStart_gives (s := s) a b c
    rwa [doBackupStart_none h] at stayed
  · exact ⟨_, if_pos ⟨hd, hb, hh, h⟩, rfl, rfl, rfl, rfl⟩
  · exact ⟨_, if_pos (.inl hm), rfl, doSysrstNAssert_dev, doSysrstNAssert_mram s, rfl⟩
  · exact fun hm => doBackupSupplyChange_main hm ▸ backupSupplyChange_gives a b c
  · exact fun x hm hu h => doBackupSupplyChange_backup hm hu h ▸ backupSupplyChange_gives a b c

end Sys2Proof.Machine
end

section
/-! Time and a boot under way stand beside what the engines do: the operations within a beat that leave both as they are, down to
those that a stamped write and a read can reach. -/

namespace Sys2Proof.Machine

/-- Time stands as it stood, and so does a boot under way. -/
abbrev SameTimeBoot (s t : State) : Prop := t.clock = s.clock ∧ t.power.boot = s.power.boot

/-- The two under a choice. -/
theorem ite_timeBoot (c : Prop) [Decidable c] (a b : State) :
    (if c then a else b).clock = (if c then a.clock else b.clock) ∧
    (if c then a else b).power.boot = if c then a.power.boot else b.power.boot :=
  ⟨apply_ite State.clock c a b, apply_ite (fun t => t.power.boot) c a b⟩

section
variable (s : State)

/-! ## Repeated effects -/

theorem each_timeBoot_mem {α : Type} (l : List α) (f : α → State → State) (h : ∀ a ∈ l, ∀ t, SameTimeBoot t (f a t)) :
    SameTimeBoot s (each l f s) :=
  ⟨each_keeps l f State.clock s fun a ha t => (h a ha t).1, each_keeps l f (fun t => t.power.boot) s fun a ha t => (h a ha t).2⟩

@[simp] theorem each_timeBoot {α : Type} (l : List α) (f : α → State → State) (h : ∀ a t, SameTimeBoot t (f a t)) :
    SameTimeBoot s (each l f s) := each_timeBoot_mem s l f fun a _ => h a

@[simp] theorem when_timeBoot (c : Bool) (f : State → State) (h : ∀ t, SameTimeBoot t (f t)) : SameTimeBoot s (when c f s) := by
  simp [SameTimeBoot, when, ite_timeBoot, h]

@[simp] theorem recount_timeBoot (m : Nat) (f : State → State) (h : ∀ t, SameTimeBoot t (f t)) :
    SameTimeBoot s (recount m f s) := by
  simp [SameTimeBoot, recount, ite_timeBoot, h]

/-! ## Entries -/

@[simp] theorem State.bump_timeBoot (k : Nat) : SameTimeBoot s (s.bump k) := ⟨rfl, rfl⟩
@[simp] theorem State.bumpBy_timeBoot (k n : Nat) : SameTimeBoot s (s.bumpBy k n) := by
  induction n generalizing s with
  | zero => exact ⟨rfl, rfl⟩
  | succ n ih => exact ih (s.bump k)

/-! ## Jobs, triggers, records -/

@[simp] theorem jobEnd_timeBoot (i : Nat) (x : JobStatus) (r : Nat) : SameTimeBoot s (jobEnd i x r s) := by
  simp [SameTimeBoot, jobEnd, ite_timeBoot]
@[simp] theorem jobEnd?_timeBoot (i : Option Nat) (x : JobStatus) (r : Nat) : SameTimeBoot s (jobEnd? i x r s) := by
  cases i with
  | none => exact ⟨rfl, rfl⟩
  | some i => exact jobEnd_timeBoot s i x r
@[simp] theorem noteSlot_timeBoot (k d : Nat) : SameTimeBoot s (noteSlot k d s) := by
  unfold noteSlot
  split <;> exact ⟨rfl, rfl⟩
@[simp] theorem fireTrigger_timeBoot (t : Trigger) : SameTimeBoot s (fireTrigger t s) := by
  simp [SameTimeBoot, fireTrigger, ite_timeBoot]
@[simp] theorem fillFfr_timeBoot (a b c d e f : Nat) : SameTimeBoot s (fillFfr a b c d e f s) := by
  simp [SameTimeBoot, fillFfr, ite_timeBoot]

/-! ## Rails -/

@[simp] theorem keepLevels_timeBoot (m l : Nat) : SameTimeBoot s (keepLevels m l s) := by
  simp [SameTimeBoot, keepLevels, endCondition]
@[simp] theorem offerToggle_timeBoot (m : Nat) (p : SeqInstr → Bool) : SameTimeBoot s (offerToggle m p s) := by
  unfold offerToggle
  split
  · simp [SameTimeBoot, ite_timeBoot]
  · exact ⟨rfl, rfl⟩
@[simp] theorem setGood_timeBoot (m : Nat) (b : Bool) : SameTimeBoot s (setGood m b s) := by
  simp [SameTimeBoot, setGood, pgood, State.putBit, ite_timeBoot]
@[simp] theorem superviseState_timeBoot (n : Nat) (x : RailState) : SameTimeBoot s (superviseState n x s) := by
  simp [SameTimeBoot, superviseState, ite_timeBoot]
@[simp] theorem commissionNext_timeBoot (c : RhCommission) (n : Nat) (w : Bool) : SameTimeBoot s (commissionNext c n w s) := by
  simp [SameTimeBoot, commissionNext, ite_timeBoot]
@[simp] theorem arbRelease_timeBoot (o : Nat) : SameTimeBoot s (arbRelease o s) := by
  unfold arbRelease
  split <;> exact ⟨rfl, rfl⟩
@[simp] theorem leaveRun_timeBoot (r : RhRun) (x : Nat) : SameTimeBoot s (leaveRun r x s) := by
  simp [SameTimeBoot, leaveRun]
@[simp] theorem failRun_timeBoot (r : RhRun) (x : Nat) : SameTimeBoot s (failRun r x s) := by
  unfold failRun
  dsimp only
  split <;> simp [SameTimeBoot]
@[simp] theorem rhStops_timeBoot (n : Nat) : SameTimeBoot s (rhStops n s) := by
  unfold rhStops
  split
  · split
    · exact failRun_timeBoot s _ _
    · exact ⟨rfl, rfl⟩
  · exact ⟨rfl, rfl⟩
@[simp] theorem setRail_timeBoot (n : Nat) (x : RailState) : SameTimeBoot s (setRail n x s) := by
  simp [SameTimeBoot, setRail, orgate, State.putRail]
@[simp] theorem idlePhases_timeBoot (n : Nat) : SameTimeBoot s (idlePhases n s) := by
  simp [SameTimeBoot, idlePhases, reinterleave, burstStops, idleReleased, State.putPhase, ite_timeBoot]
@[simp] theorem noteRelease_timeBoot (n c : Nat) : SameTimeBoot s (noteRelease n c s) := by
  simp [SameTimeBoot, noteRelease, ite_timeBoot]
@[simp] theorem railsLost_timeBoot : SameTimeBoot s (railsLost s) := by
  simp [SameTimeBoot, railsLost, railToOff, ite_timeBoot]
@[simp] theorem phaseBreach_timeBoot (p n : Nat) : SameTimeBoot s (phaseBreach p n s) := by
  unfold phaseBreach
  split
  · simp [SameTimeBoot, ite_timeBoot]
  · exact ⟨rfl, rfl⟩
@[simp] theorem xbBreach_timeBoot (c n : Nat) : SameTimeBoot s (xbBreach c n s) := by
  unfold xbBreach
  split
  · simp [SameTimeBoot, ite_timeBoot]
  · exact ⟨rfl, rfl⟩
@[simp] theorem railFault_timeBoot (n src chan : Nat) : SameTimeBoot s (railFault n src chan s) := by
  simp [SameTimeBoot, railFault, railBreach, ite_timeBoot]
@[simp] theorem railsFault_timeBoot (l : List Nat) (src chan : Nat) : SameTimeBoot s (railsFault l src chan s) := by
  simp [SameTimeBoot, railsFault]

/-! ## Sources -/

@[simp] theorem ecatTakes_timeBoot : SameTimeBoot s (ecatTakes s) := by
  simp [SameTimeBoot, ecatTakes, dropTaken, ite_timeBoot]
@[simp] theorem pushHistory_timeBoot (c src : Nat) : SameTimeBoot s (pushHistory c src s) := by simp [SameTimeBoot, pushHistory]
@[simp] theorem queueEmcy_timeBoot (e : Emcy) : SameTimeBoot s (queueEmcy e s) := by
  simp [SameTimeBoot, queueEmcy, ite_timeBoot]
@[simp] theorem offRequest_timeBoot (c : Nat) : SameTimeBoot s (offRequest c s) := by
  unfold offRequest
  split
  · split <;> exact ⟨rfl, rfl⟩
  · exact ⟨rfl, rfl⟩
  · exact ⟨rfl, rfl⟩
@[simp] theorem reactF3_timeBoot (k : SrcKind) (i : Nat) : SameTimeBoot s (reactF3 k i s) := by
  simp [SameTimeBoot, reactF3, reactF2, ite_timeBoot]
@[simp] theorem reactF4_timeBoot (k : SrcKind) (i : Nat) : SameTimeBoot s (reactF4 k i s) := by
  simp [SameTimeBoot, reactF4, assertAlarm, raiseAlarm, ite_timeBoot]
@[simp] theorem react_timeBoot (c : Nat) (k : SrcKind) (i : Nat) : SameTimeBoot s (react c k i s) := by
  unfold react
  split <;> simp [SameTimeBoot, reactF2, reactF5, ite_timeBoot]
@[simp] theorem takeSource_timeBoot (k : SrcKind) (i : Nat) : SameTimeBoot s (takeSource k i s) := by
  simp [SameTimeBoot, takeSource, endCondition, showHeld, latchSource, openBeat, State.setMask, ite_timeBoot]

/-! ## The watchdog -/

@[simp] theorem wdgCapture_timeBoot (a b c d w : Nat) : SameTimeBoot s (wdgCapture a b c d w s) := by
  simp [SameTimeBoot, wdgCapture, setWdg]
@[simp] theorem wdgVerdict_timeBoot (c : Bool) (w : Nat) : SameTimeBoot s (wdgVerdict c w s).2 := by
  simp [SameTimeBoot, wdgVerdict, wdgPulse, setWdg, ite_timeBoot, apply_ite Prod.snd]
@[simp] theorem wdgPeriodFrom_timeBoot (w : Nat) : SameTimeBoot s (wdgPeriodFrom w s) := ⟨rfl, rfl⟩
@[simp] theorem wdgPeriodEnd_timeBoot : SameTimeBoot s (wdgPeriodEnd s) := by
  simp [SameTimeBoot, wdgPeriodEnd, noteReset, setWdg, ite_timeBoot]
@[simp] theorem doWdgRstPulseEnd_timeBoot : SameTimeBoot s (doWdgRstPulseEnd s) := by
  unfold doWdgRstPulseEnd
  split
  · simp [SameTimeBoot, wdgToStart, setWdg, ite_timeBoot]
  · exact ⟨rfl, rfl⟩
@[simp] theorem doWdgStartDelayEnd_timeBoot : SameTimeBoot s (doWdgStartDelayEnd s) := by
  unfold doWdgStartDelayEnd
  split <;> exact ⟨rfl, rfl⟩
@[simp] theorem wdgBeat_timeBoot : SameTimeBoot s (wdgBeat s) := by simp [SameTimeBoot, wdgBeat, ite_timeBoot]
@[simp] theorem classCheckin_timeBoot (t w : Nat) : SameTimeBoot s (classCheckin t w s) := by
  simp [SameTimeBoot, classCheckin, State.putBit, setWdg, ite_timeBoot]
theorem wrWdgCheckin_timeBoot (t tag : Nat) : SameTimeBoot s (wrWdgCheckin t tag s).2 := by
  simp [SameTimeBoot, wrWdgCheckin, accept, stampNow, setWdg, ite_timeBoot, apply_ite Prod.snd]
@[simp] theorem keyBad_timeBoot : SameTimeBoot s (keyBad s) := by simp [SameTimeBoot, keyBad]
theorem wrWdgKey_timeBoot (v : Nat) : SameTimeBoot s (wrWdgKey v s).2 := by
  unfold wrWdgKey
  dsimp only
  repeat' split
  all_goals simp [SameTimeBoot, accept, stampNow, setWdg]

/-! ## Stamped writes of a completed image -/

theorem wrEntry_stamped_timeBoot {port : Port} {k v dc : Nat} (h : stamped k = true) :
    SameTimeBoot s (wrEntry port k v dc s).2 := by
  obtain rfl | hk := key_or_checkin_of_stamped h
  · rw [wrEntry_wdgKey]
    exact wrWdgKey_timeBoot s v
  · rw [wrEntry_wdgCheckin port v dc s hk]
    exact wrWdgCheckin_timeBoot s _ v

theorem checked_timeBoot {k : Nat} {wr : State → Written} (h : SameTimeBoot s (wr s).2) : SameTimeBoot s (checked k wr s).2 := by
  unfold checked
  split
  · exact ⟨rfl, rfl⟩
  · exact h

theorem writeMapped_timeBoot {port : Port} {dc : Nat} {e : Nat × Nat} (h : stamped e.1 = true) :
    SameTimeBoot s (writeMapped port dc e s) := by
  have written := checked_timeBoot s (k := e.1) (wrEntry_stamped_timeBoot s (port := port) (v := e.2) (dc := dc) h)
  simp [SameTimeBoot, writeMapped, ite_timeBoot, written]

theorem completeNow_timeBoot (port : Port) (dc : Nat) (data : List Byte) : SameTimeBoot s (completeNow port dc data s) :=
  each_timeBoot_mem s _ _ fun _ he t => writeMapped_timeBoot t (List.mem_filter.1 he).2

/-! ## Reads -/

@[simp] theorem endUpload_timeBoot (x : JobStatus) : SameTimeBoot s (endUpload x s) := by
  unfold endUpload
  split <;> simp [SameTimeBoot]
@[simp] theorem mail_timeBoot (a : MailAnswer) : SameTimeBoot s (mail a s) := by simp [SameTimeBoot, mail, ite_timeBoot]
@[simp] theorem sdoReplaces_timeBoot (k : Nat) : SameTimeBoot s (sdoReplaces k s) := by
  unfold sdoReplaces
  split
  · exact endUpload_timeBoot s _
  · exact ⟨rfl, rfl⟩
@[simp] theorem sdoStart_timeBoot (k : Nat) (b : List Byte) : SameTimeBoot s (sdoStart k b s) := by
  simp [SameTimeBoot, sdoStart]
theorem sdoRead_timeBoot (i j : Nat) (c : Bool) : SameTimeBoot s (sdoRead i j c s) := by
  unfold sdoRead
  split <;> simp [SameTimeBoot]
/-- A read that clears `CHG.FAULT` is an upload, which leaves time. -/
theorem doSdoInfo_timeBoot {req : SdoInfoReq} (h : readsFault req = true) : SameTimeBoot s (doSdoInfo req s) := by
  unfold readsFault at h
  split at h
  · exact sdoRead_timeBoot s _ _ _
  · exact absurd h Bool.false_ne_true
@[simp] theorem nextSegment_timeBoot (c t k : Nat) (b : List Byte) (o n : Nat) : SameTimeBoot s (nextSegment c t k b o n s) := by
  simp [SameTimeBoot, nextSegment, spiReadAnswer, spiPend, ite_timeBoot]
@[simp] theorem dropSegments_timeBoot : SameTimeBoot s (dropSegments s) := by
  unfold dropSegments
  dsimp only
  split
  · simp [SameTimeBoot, ite_timeBoot]
  · exact ⟨rfl, rfl⟩
@[simp] theorem startUpload_timeBoot (p : Port) : SameTimeBoot s (startUpload p s).2 := by
  unfold startUpload startJob
  repeat' split
  all_goals simp [SameTimeBoot, accept, refuse, State.jobAllot]
theorem firstSegment_timeBoot (c t k o n : Nat) : SameTimeBoot s (firstSegment c t k o n s) := by
  unfold firstSegment
  dsimp only
  repeat' split
  all_goals simp [SameTimeBoot, spiReadAnswer, spiPend]

end

end Sys2Proof.Machine
end

section
/-! Time in order (R30, R31): what keeps the present beat between the last tick boundary and the next. -/

namespace Sys2Proof.Machine

/-- A clock in order (R31): whole thousands of beats to the last tick, and the present beat between that and the next. -/
def Clock.Ordered (c : Clock) : Prop := c.lastTick % 1000 = 0 ∧ c.lastTick ≤ c.beat ∧ c.beat ≤ c.next

theorem State.timeInv_iff {s : State} : s.TimeInv ↔ s.clock.Ordered := Iff.rfl

theorem Clock.reset_ordered : Clock.reset.Ordered := ⟨rfl, Nat.le_refl 0, Nat.zero_le _⟩

theorem Clock.boundary_ordered {c : Clock} (h : c.Ordered) : c.boundary.Ordered := by
  simp only [Clock.Ordered, Clock.boundary, Clock.next] at h ⊢
  omega

theorem Clock.ticked_ordered {c : Clock} (h : c.Ordered) : c.ticked.Ordered := by
  simp only [Clock.Ordered, Clock.ticked, Clock.next] at h ⊢
  omega

/-! ## Beats -/

section
variable {s : State}

theorem State.TimeInv.of_clock {t : State} (h : s.TimeInv) (e : t.clock = s.clock) : t.TimeInv := by
  rwa [State.timeInv_iff, e]

theorem closeBeat_timeInv (h : s.TimeInv) : (closeBeat s).TimeInv := by
  simpa only [State.TimeInv, Clock.next, closeBeat_lastTick, closeBeat_beat] using h

theorem nextBeat_timeInv (h : s.TimeInv) (hb : s.clock.beat < s.clock.next) : (nextBeat s).TimeInv := by
  simp only [State.TimeInv, Clock.next, nextBeat_lastTick, nextBeat_beat] at h hb ⊢
  omega

theorem State.idle_timeInv (h : s.TimeInv) : s.idle.TimeInv := by
  unfold State.idle
  split
  · next passes =>
    have early : s.clock.beat < s.clock.next := of_decide_eq_true (Bool.and_eq_true_iff.1 passes).2
    refine nextBeat_timeInv (closeBeat_timeInv h) ?_
    simpa only [Clock.next, closeBeat_lastTick, closeBeat_beat] using early
  · exact h

theorem State.openTick_timeInv (h : s.TimeInv) : s.openTick.TimeInv := by
  cases up : s.coreUp with
  | false => rwa [s.openTick_down up]
  | true =>
    have there := s.openTick_beat up
    simp only [State.TimeInv, Clock.next, State.openTick_lastTick] at h there ⊢
    omega

/-- A boundary that passes without its tick leaves the present beat before the next one. -/
theorem State.leaveBoundary_timeInv (h : s.TimeInv) :
    s.leaveBoundary.TimeInv ∧ s.leaveBoundary.clock.beat < s.leaveBoundary.clock.next := by
  unfold State.leaveBoundary
  split <;> simp only [State.TimeInv, Clock.next] at * <;> omega

theorem lapse_timeInv (n : Nat) (h : s.TimeInv) : (lapse n s).TimeInv := by
  induction n generalizing s with
  | zero => exact h
  | succ n ih =>
    obtain ⟨kept, early⟩ := State.leaveBoundary_timeInv h
    refine ih (nextBeat_timeInv (closeBeat_timeInv kept) ?_)
    simpa only [Clock.next, closeBeat_lastTick, closeBeat_beat] using early

end

/-- The outcome is a next state whose time is in order. -/
def AnswersInOrder (o : Host.Outcome State Fault Refusal) : Prop := ∃ t, o = .next t ∧ t.TimeInv

theorem AnswersInOrder.ite {c : Prop} [Decidable c] {o p : Host.Outcome State Fault Refusal}
    (ho : AnswersInOrder o) (hp : AnswersInOrder p) : AnswersInOrder (if c then o else p) := by
  split
  · exact ho
  · exact hp

/-! ## The outcomes of a family of commands -/

section
variable {s : State}

theorem next_inOrder {t : State} (ht : t.clock.Ordered) : AnswersInOrder (.next t) := ⟨t, rfl, ht⟩

theorem restart_inOrder (f : State → State) : AnswersInOrder (retimed Clock.restart f s) := next_inOrder Clock.reset_ordered

variable (h : s.TimeInv)
include h

theorem event_inOrder (f : State → State) : AnswersInOrder (event f s) := next_inOrder h

theorem atTick_inOrder (f : State → State) : AnswersInOrder (atTick f s) :=
  .ite (next_inOrder (State.openTick_timeInv h)) (next_inOrder h)

theorem atTickNv_inOrder (f : State → State) : AnswersInOrder (atTickNv f s) :=
  .ite (next_inOrder (State.openTick_timeInv h)) (next_inOrder h)

theorem hostRow_inOrder (port : Port) (k : Nat) (wr : State → Written) : AnswersInOrder (hostRow port k wr s) :=
  .ite (next_inOrder (State.openTick_timeInv h)) (next_inOrder h)

theorem hostRowNv_inOrder (port : Port) (k : Nat) (wr : State → Written) : AnswersInOrder (hostRowNv port k wr s) :=
  .ite (next_inOrder (State.openTick_timeInv h)) (next_inOrder h)

theorem seqRow_inOrder (i : SeqInstr) : AnswersInOrder (seqRow i s) :=
  .ite (next_inOrder (State.openTick_timeInv h)) (next_inOrder h)

theorem powerRow_inOrder (f : State → State) : AnswersInOrder (powerRow f s) := by
  refine .ite (next_inOrder ?_) (next_inOrder h)
  dsimp only
  split
  · exact Clock.reset_ordered
  · exact State.openTick_timeInv h

theorem wdgOutcome_inOrder (x : BootInputs) (f : State → State) : AnswersInOrder (wdgOutcome x f s) :=
  .ite (restart_inOrder _) (event_inOrder h _)

theorem readOutcome_inOrder (c : Bool) (f : State → State) (hf : c = true → (f s).clock = s.clock) :
    AnswersInOrder (readOutcome c f s) := by
  unfold readOutcome
  split
  · next hc => exact atTick_inOrder (h.of_clock (hf hc)) readFault
  · exact event_inOrder h f

theorem complete_inOrder (port : Port) (dc : Nat) (data : List Byte) (f : State → State) :
    AnswersInOrder (complete port dc data f s) := by
  unfold complete
  exact atTick_inOrder (h.of_clock (completeNow_timeBoot s port dc data).1) _

theorem spiRow_inOrder (fields : Bool) (r : SpiFrame) (act : State → Host.Outcome State Fault Refusal)
    (ha : ∀ t : State, t.TimeInv → AnswersInOrder (act t)) : AnswersInOrder (spiRow fields r act s) :=
  have shifted : (spiShift r s).TimeInv := h
  .ite (next_inOrder h) <| .ite (event_inOrder h _) <| .ite (event_inOrder shifted _) <| .ite (event_inOrder shifted _) <|
    .ite (ha _ shifted) (event_inOrder shifted _)

theorem spiQuiet_inOrder (r : SpiFrame) (f : State → State) : AnswersInOrder (spiQuiet r f s) :=
  .ite (event_inOrder h _) (spiRow_inOrder h _ r _ fun _ ht => event_inOrder ht f)

theorem spiWrite_inOrder (c t k : Nat) (data : List Byte) (dc : Nat) : AnswersInOrder (spiWrite c t k data dc s) :=
  .ite (event_inOrder h _) (.ite (atTickNv_inOrder h _) (atTick_inOrder h _))

/-! ## Commands with an outcome of their own -/

theorem execManagementTick_inOrder (i : TickInputs) : AnswersInOrder (execManagementTick i s) := by
  refine .ite (next_inOrder ?_) <| .ite (next_inOrder (Clock.ticked_ordered h)) <|
    .ite (next_inOrder (Clock.ticked_ordered (Clock.boundary_ordered h))) (event_inOrder h _)
  dsimp only
  split
  · exact Clock.ticked_ordered (State.openTick_timeInv h)
  · exact Clock.reset_ordered

theorem execEndOfBoot_inOrder : AnswersInOrder (execEndOfBoot s) := by
  unfold execEndOfBoot
  split
  · exact next_inOrder (Clock.ticked_ordered (Clock.boundary_ordered h))
  · exact next_inOrder h

theorem execWdgCoreTrip_inOrder (n : Nat) (x : BootInputs) : AnswersInOrder (execWdgCoreTrip n x s) := by
  have stopped : ({ s with power := { s.power with stopped := true } } : State).TimeInv := h
  exact .ite (.ite (next_inOrder Clock.reset_ordered) (next_inOrder (lapse_timeInv _ stopped))) <|
    .ite (restart_inOrder _) (next_inOrder h)

theorem execSdoInfo_inOrder (req : SdoInfoReq) : AnswersInOrder (execSdoInfo req s) :=
  .ite (.ite (atTick_inOrder h _) (next_inOrder h))
    (readOutcome_inOrder h _ _ fun hc => (doSdoInfo_timeBoot s (Bool.and_eq_true_iff.1 hc).1).1)

theorem execSpiReadSeg_inOrder (r : SpiFrame) : AnswersInOrder (execSpiReadSeg r s) := by
  unfold execSpiReadSeg
  refine spiRow_inOrder h _ r _ fun t ht => ?_
  have first : ∀ k tag off count, AnswersInOrder
      (if k = K.recLog then atTick (firstSegment 0x04 tag k off count) t
       else readOutcome (k == K.chgFault) (firstSegment 0x04 tag k off count) t) := fun k tag off count =>
    .ite (atTick_inOrder ht _) (readOutcome_inOrder ht _ _ fun _ => (firstSegment_timeBoot t _ _ _ _ _).1)
  split
  · exact .ite (event_inOrder ht _) (first _ _ _ _)
  · exact first _ _ _ _

theorem execSpiWriteSeg_inOrder (r : SpiFrame) : AnswersInOrder (execSpiWriteSeg r s) := by
  unfold execSpiWriteSeg
  refine spiRow_inOrder h _ r _ fun t ht => ?_
  have ended : ({ t with spi := { t.spi with wseg := none } } : State).TimeInv := ht
  dsimp only
  split
  · exact .ite (event_inOrder ht _) (.ite (spiWrite_inOrder ended _ _ _ _ _) (event_inOrder ht _))
  · exact event_inOrder ht _

theorem execSpiPiWrite_inOrder (r : SpiFrame) : AnswersInOrder (execSpiPiWrite r s) := by
  unfold execSpiPiWrite
  refine spiRow_inOrder h _ r _ fun t ht => ?_
  dsimp only
  split
  · exact event_inOrder ht _
  · exact .ite (event_inOrder ht _) (complete_inOrder ht _ _ _ _)

end

/-! ## Every command -/

theorem exec_inOrder (c : Instr) {s : State} (h : s.TimeInv) : AnswersInOrder (exec c s) := by
  cases c with
  | estimatorEpoch | backupStart | clkXtalLost | strideEdge | strideMissingEdge | strideHoldLong | strideStart | fdSurgeLong
  | fdSwapDone | fdBalanceDone | fdCflyImbal | fdSoftstartDone | fdStart | fdOffDelay | fdStopped | fdIbusOv | fdIbusUv | fdOc
  | fdGate | budgetPeak | budgetOver | railSoftstartDone | railSs | railSlewDone | railRampdownDone | railDisSlow | phaseShed
  | fastAdd | burstEntry | burstStart | burstSlot | burstEnd | burstExit | qwOpen | qwClose | phOc | phOvl | phNeg | phTsd | phSw
  | phDrv | phImbal | railPhLost | railReverse | remountShadowEnd | remountRampEnd | xbRegionChange | xbSkipEntry | xbCl | xbPk
  | xbTsd | xbSw | xbDrv | xbNeg | ldoInUv | ldoCl | ldoTsd | aoRestart | supOvWarn | supUvWarn | supOcWarn | supOv | supUv
  | supOc | supConditionEnd | goodRise | goodFall | rhDue | rhSettleStart | rhSettleDone | rhPointDone | rhPointAbandon
  | enableWaitDone | enableWaitTmo | disableWaitDone | disableWaitTmo | waitTimeDone | waitStrideDone | checkPass | checkChatter
  | checkTimeout | gaitAdvance | gaitTmo | gaitHoldEnd | slewWaitDone | gaitalrmDetect | gaitalrmRelease | pathSourceValid
  | pathSwitch | pathAuxOv | batTakeover | batDisarm | pathBatCutoff | batteryStart | detectDone | prechargeDone | cvEntry
  | cvToCc | endOfCharge | recharge | chgTempRegain | chgTimer | chgPreTmo | collapseConfirm | removalProbeDone | chgBatShort
  | chgBatOv | chgConv | chgDetRetry | mpptSweep | mpptStep | revOtherSource | revVbatLow | chgRevShort | estHibernate | estWake
  | estZDue | estZPointDone | estAdc | fastFrameSend | fastFrameRx | slowFrameRx | bulkFrameRx | linkAlign | pairLinkLost
  | takeoverArm | takeoverEvidence | announcedStop | wdgCheckin | wdgRstPulseEnd | wdgStartDelayEnd | wdgKey | rtcWrap
  | trimWindow | rtcCalDone | rtcOscFail | rtcAlarm | wakeNAssert | pwronHoldExpire | alStateRequest | smWdgExpire
  | portLinkChange | dcActivate | siiWrite | mailboxUnsupported | segReadTimeout | thermShed | thermSensor | angleTrigger
  | estZPointStart | backupSupplyChange | vddioLoss | ecatPreopReached | tetherFrameDiscarded | linkSymbolLoss | gaitalrmLineHigh
  | harvestLost | masterUploadAbort | ldoin0Good | fdSurge | vsysPfw | pfwClear | fdRisingChange | fdFallingChange
  | fdForcedChange | fdVsysOv | estCheckpoint | recFlushDone | cfgSaveDone =>
    exact ⟨_, rfl, h⟩
  | stateReqActive | stateReqDoze | stateReqStandby | timeCapture | cfgCommit | cfgDiscard | fdRatioMode | railEnable
  | railDisable | phaseTakeOut | phaseReturn | rhRun | rhCommission | seqImage | seqRun | seqStop | gaitAlrmCmd | ffrRearm
  | faultAck | faultRearm | lockoutClear | revStart | revStop | estZRun | estReset | pairHandback | pairCmd | wdgCmd | rtcCapture
  | rtcSet | rtcCalRun | pwronSet | pwronClear | recTrigCmd | recFlush | comSave | comRestore | cfgImage | cfgLock | cfgUnlock
  | stRetry | jobRelease | errHistoryClear =>
    exact hostRow_inOrder h _ _ _
  | autostart | rhResults | autoAck | release | autoRestartEnable | retryWinExpire | joinWaitExpire | foeWrite =>
    exact atTick_inOrder h _
  | railDischarged n v => exact (atTick_inOrder h _ : AnswersInOrder (execRailDischarged n v s))
  | arbGrant => exact (atTick_inOrder h _ : AnswersInOrder (execArbGrant s))
  | estZPointAbandon v => exact (atTick_inOrder h _ : AnswersInOrder (execEstZPointAbandon v s))
  | nop | enable | disable | waitTime | waitStride | check | jump | gait | setout | mark | slew | seqEnd =>
    exact seqRow_inOrder h _
  | enterStandby | enLow => exact powerRow_inOrder h _
  | spiNop | spiRepeat => exact spiQuiet_inOrder h _ _
  | hostWrite => exact .ite (event_inOrder h _) (.ite (hostRowNv_inOrder h _ _ _) (hostRow_inOrder h _ _ _))
  | managementTick => exact execManagementTick_inOrder h _
  | vsysUv => exact .ite (next_inOrder Clock.reset_ordered) (next_inOrder h)
  | fallToOff => exact .ite (restart_inOrder _) (next_inOrder h)
  | bootBegin => exact .ite (restart_inOrder _) (next_inOrder h)
  | endOfBoot => exact execEndOfBoot_inOrder h
  | sysrstNAssert => exact .ite (restart_inOrder _) (next_inOrder h)
  | sysrstNRelease => exact .ite (restart_inOrder _) (next_inOrder h)
  | chgFaultRead => exact .ite (next_inOrder (State.openTick_timeInv h)) (next_inOrder h)
  | wdgPeriodEnd => exact .ite (wdgOutcome_inOrder h _ _) (next_inOrder h)
  | wdgClk => exact .ite (wdgOutcome_inOrder h _ _) (next_inOrder h)
  | wdgLock => exact .ite (event_inOrder h _) (hostRow_inOrder h _ _ _)
  | wdgCoreTrip => exact execWdgCoreTrip_inOrder h _ _
  | recClear => exact hostRowNv_inOrder h _ _ _
  | recLogUpload => exact .ite (atTick_inOrder h _) (next_inOrder h)
  | retryBoot => exact .ite (next_inOrder Clock.reset_ordered) (next_inOrder h)
  | sdoInfo => exact execSdoInfo_inOrder h _
  | foeRead => exact .ite (atTick_inOrder h _) (event_inOrder h _)
  | pdOutputComplete => exact .ite (complete_inOrder h _ _ _ _) (next_inOrder h)
  | spiRead | spiReadAll => exact spiRow_inOrder h _ _ _ fun _ ht => readOutcome_inOrder ht _ _ fun _ => rfl
  | spiWrite => exact spiRow_inOrder h _ _ _ fun _ ht => spiWrite_inOrder ht _ _ _ _ _
  | spiReadSeg => exact execSpiReadSeg_inOrder h _
  | spiWriteSeg => exact execSpiWriteSeg_inOrder h _
  | spiPiRead | spiEmcyRead => exact spiRow_inOrder h _ _ _ fun _ ht => event_inOrder ht _
  | spiPiWrite => exact execSpiPiWrite_inOrder h _

/-- Settles O5: a beat of idling stops at the boundary, and each command's outcome is one of its family's, whose time is in
order. -/
theorem stepKeepsTimeOrdered : Obligations.StepKeepsTimeOrdered := by
  intro s t h stepped
  unfold step at stepped
  split at stepped
  · cases stepped
    exact State.idle_timeInv h
  · next c rest _ =>
    obtain ⟨u, answered, ordered⟩ := exec_inOrder c (s := { s with pending := rest }) h
    cases answered.symm.trans stepped
    exact ordered

end Sys2Proof.Machine
end

section
/-! The store and the commands (R394, R438): a segmented write of `REC.CLEAR` reaches the MRAM. -/

namespace Sys2Proof.Machine

/-- A device in ACTIVE at its first tick boundary, the work of that beat done. -/
def activeAtBoundary : State := { State.reset.put K.devState DevState.active.code with clock := ⟨1000, 0, 0, true⟩ }

/-- A segmented write of one segment (R438), flagged last: the word that clears the log to `REC.CLEAR` (R394). -/
def clearLogSegment : SpiFrame :=
  .of 5 0 (BitVec.ofNat 16 (K.recClear / 256)) (BitVec.ofNat 8 (K.recClear % 256)) (leBytes 4 0 ++ [1#8] ++ leBytes 2 0xC1EA)

/-- A byte of the MRAM after a command. -/
def storeAfter (o : Host.Outcome State Fault Refusal) (a : Nat) : Option Byte :=
  match o with
  | .next t => some (Mram.read t.mram a)
  | _ => none

theorem storeAfter_next {o : Host.Outcome State Fault Refusal} {t : State} (h : o = .next t) (a : Nat) :
    storeAfter o a = some (Mram.read t.mram a) := by
  subst h
  rfl

/-- Refutes O4: SPI_WRITE_SEG is listed as leaving the MRAM alone, yet its last segment acts as SPI_WRITE does, and a write of
`REC.CLEAR` commits a log control record (R394). The record's first byte, blank before, reads 1. -/
theorem not_frameOfTimeAndStore : ¬ Obligations.FrameOfTimeAndStore := by
  rintro ⟨-, frame⟩
  obtain ⟨t, answered, -⟩ := exec_answers (.spiWriteSeg clearLogSegment) activeAtBoundary
  have same := frame _ _ t rfl answered Ring.logCtl.base
  have written : storeAfter (exec (.spiWriteSeg clearLogSegment) activeAtBoundary) Ring.logCtl.base = some 1 := by decide +kernel
  rw [storeAfter_next answered, same] at written
  exact absurd written (by decide)

end Sys2Proof.Machine
end

section
/-! Commands of time and of the staging set (R46, R47, R55, R353). -/

namespace Sys2Proof.Machine

/-! ## Access -/

section
variable {k : Nat} (s : State)

theorem writeCheck_of_wo (h : (entryAt k).map EntryRow.acc = some .wo) : writeCheck k s = none := by
  obtain ⟨r, row, acc⟩ := Option.map_eq_some_iff.1 h
  simp only [writeCheck, row, acc]
theorem writeCheck_of_rw (h : (entryAt k).map EntryRow.acc = some .rw) : writeCheck k s = none := by
  obtain ⟨r, row, acc⟩ := Option.map_eq_some_iff.1 h
  simp only [writeCheck, row, acc]

theorem writeCheck_timeCapture : writeCheck K.timeCapture s = none := writeCheck_of_wo s (by decide +kernel)
theorem writeCheck_cfgCommit : writeCheck K.cfgCommit s = none := writeCheck_of_wo s (by decide +kernel)
theorem writeCheck_cfgDiscard : writeCheck K.cfgDiscard s = none := writeCheck_of_wo s (by decide +kernel)

end

/-! ## The writes -/

section
variable {s : State}

theorem State.lockedSet_iff : s.lockedSet = true ↔
    s.get K.wdgLock = 1 ∧ ∃ e ∈ s.staging.set, K.wdgEn ≤ e.1 ∧ e.1 ≤ K.wdgStartDelay := by
  simp only [State.lockedSet, Bool.and_eq_true, beq_iff_eq, List.any_eq_true, decide_eq_true_eq]

theorem wrCfgCommit_refuses (h : s.staging.set = [] ∨ s.staging.commit ≠ none ∨ s.lockedSet = true) (n : Nat) :
    wrCfgCommit n s = refuse Abort.state s := by
  refine if_pos ?_
  rwa [List.isEmpty_iff, Option.isSome_iff_ne_none]

/-- A set that waits for no commit and holds no locked entry is committed for the stride named, or for the next that it can meet. -/
theorem wrCfgCommit_open (hs : s.staging.set ≠ []) (hc : s.staging.commit = none) (hl : s.lockedSet = false) (n : Nat) :
    wrCfgCommit n s =
    if n = 0 then accept (showStaging { s with staging := { s.staging with
      commit := some (if s.staging.set.any (fun e => strideScheduled e.1) then .stride s.strideTarget else .tick) } })
    else if 2 ^ 31 ≤ stridesAhead s.strideTarget n then refuse Abort.value s
    else accept (showStaging { s with staging := { s.staging with commit := some (.stride n) } }) := by
  simp only [wrCfgCommit, List.isEmpty_iff, hs, hc, hl, Option.isSome_none, Bool.false_eq_true, or_self, ↓reduceIte]

end

/-- Settles O13: each command is a host write in a row of its own, which its access check lets pass. -/
theorem captureCommitDiscard : Obligations.CaptureCommitDiscard := by
  rintro port s _ rfl up
  refine ⟨fun dc => ?_, fun v dc hv => ?_, fun v hv => ?_, fun hs hc hl => ⟨?_, fun v hv => ?_⟩, ?_, fun v hv => ?_⟩
  · exact hostRow_accepts up (writeCheck_timeCapture _) rfl
  · exact hostRow_refuses up (writeCheck_timeCapture _) (if_pos (BitVec.toNat_ne.1 hv))
  · rw [← State.lockedSet_iff] at hv
    exact hostRow_refuses up (writeCheck_cfgCommit _) (wrCfgCommit_refuses hv _)
  · exact hostRow_accepts up (writeCheck_cfgCommit _) (wrCfgCommit_open hs hc hl 0)
  · have row := (wrCfgCommit_open hs hc hl v.toNat).trans (if_neg (BitVec.toNat_ne.1 hv))
    split
    · next near => exact hostRow_accepts up (writeCheck_cfgCommit _) (row.trans (if_neg (Nat.not_le.2 near)))
    · next far => exact hostRow_refuses up (writeCheck_cfgCommit _) (row.trans (if_pos (Nat.not_lt.1 far)))
  · exact hostRow_accepts up (writeCheck_cfgDiscard _) rfl
  · exact hostRow_refuses up (writeCheck_cfgDiscard _) (if_pos (BitVec.toNat_ne.1 hv))

end Sys2Proof.Machine
end

section
/-! Save, restore, image, lock and unlock of the configuration (R446, R457, R461 to R463), jobs and the error history (R448 to R451,
R456). -/

namespace Sys2Proof.Machine

/-! ## Access -/

section
variable (s : State)

theorem writeCheck_comSave : writeCheck K.comSave s = none := writeCheck_of_rw s (by decide +kernel)
theorem writeCheck_comRestore : writeCheck K.comRestore s = none := writeCheck_of_rw s (by decide +kernel)
theorem writeCheck_cfgLock : writeCheck K.cfgLock s = none := writeCheck_of_rw s (by decide +kernel)
theorem writeCheck_cfgUnlock : writeCheck K.cfgUnlock s = none := writeCheck_of_wo s (by decide +kernel)
theorem writeCheck_jobRelease : writeCheck K.jobRelease s = none := writeCheck_of_wo s (by decide +kernel)
theorem writeCheck_comErrCnt : writeCheck K.comErrCnt s = none := writeCheck_of_rw s (by decide +kernel)

/-- An entry that the lock of the configuration protects, and the watchdog's does not, is written while that lock is open. -/
theorem writeCheck_of_unlocked {k : Nat} (h : (entryAt k).map EntryRow.acc = some .rwl) (hl : s.get K.cfgLock ≠ 1)
    (hw : ¬ (K.wdgEn ≤ k ∧ k ≤ K.wdgStartDelay)) : writeCheck k s = none := by
  obtain ⟨r, row, acc⟩ := Option.map_eq_some_iff.1 h
  have other : ¬ (s.get K.wdgLock = 1 ∧ K.wdgEn ≤ k ∧ k ≤ K.wdgStartDelay) := fun ⟨_, within⟩ => hw within
  simp only [writeCheck, row, acc, if_neg hl, if_neg other]

end

/-! ## Jobs -/

section
variable {s : State} {port : Port} {k i : Nat}

theorem startJob_accepts (hd : s.dev ≠ .stall ∨ jobInStall k = true) (hi : s.jobChoice = some i) (f : Nat → State → State) :
    startJob port k f s = accept (f i (s.jobAllot port k i)) := by
  have runs : ¬ (s.dev = .stall ∧ jobInStall k = false) := fun ⟨stalled, no⟩ => by
    obtain live | may := hd
    · exact live stalled
    · exact absurd (no.symm.trans may) (by decide)
  rw [startJob, if_neg runs, hi]

theorem State.jobAllot_log : (s.jobAllot port k i).log = s.log := by simp only [State.jobAllot, State.flag_log, State.put_log]
theorem State.jobAllot_seq : (s.jobAllot port k i).seq = s.seq := by simp only [State.jobAllot, State.flag_seq, State.put_seq]
theorem State.jobAllot_tick : (s.jobAllot port k i).tick = s.tick := by
  simp only [State.tick, State.jobAllot, State.flag_clock, State.put_clock]

theorem State.stalled_eq_false (h : s.dev ≠ .stall) : s.stalled = false := beq_eq_false_iff_ne.2 h

theorem wrComSave_accepts (hs : s.saving = false) (hi : s.jobChoice = some i)
    (h : s.dev ≠ .stall ∨ s.power.mramFailed = false) :
    wrComSave port saveSignature s = accept { s.jobAllot port K.comSave i with
      log := { s.log with save := some ⟨i, cfgPayload (s.jobAllot port K.comSave i).get s.seq.image, s.tick⟩ } } := by
  have stored : (s.stalled && s.power.mramFailed) = false := by
    rw [Bool.and_eq_false_iff]
    exact h.imp_left State.stalled_eq_false
  simp only [wrComSave, ne_eq, not_true_eq_false, stored, hs, Bool.false_eq_true, ↓reduceIte]
  rw [startJob_accepts (.inr (by decide)) hi, State.jobAllot_log, State.jobAllot_seq, State.jobAllot_tick]

theorem wrComRestore_accepts (hs : s.saving = false) (hi : s.jobChoice = some i) (hd : s.dev ≠ .stall)
    (hl : s.get K.cfgLock ≠ 1) : wrComRestore port restoreSignature s = accept { s.jobAllot port K.comRestore i with
      log := { s.log with save := some ⟨i, cfgPayload dflt [], s.tick⟩ } } := by
  have free : ¬ (s.get K.cfgLock = 1 ∨ s.stalled = true ∨ s.saving = true) := by
    simp only [hl, State.stalled_eq_false hd, hs, Bool.false_eq_true, or_self, not_false_eq_true]
  simp only [wrComRestore, ne_eq, not_true_eq_false, free, ↓reduceIte]
  rw [startJob_accepts (.inl hd) hi, State.jobAllot_log, State.jobAllot_tick]

end

/-! ## The image, the lock -/

section
variable {s : State}

theorem wrCfgImage_parsed {d : List Byte} {c : ConfigSet} (hd : parseImage d = some c) (ha : s.get K.ecatAlState = 2)
    (hp : s.programRuns = false) (hs : s.staging.set = []) : wrCfgImage d s =
      if (s.changes c.items).any (fun e => strideScheduled e.1) then
        accept { s with staging := { s.staging with
          image := some (.stride s.strideTarget, c.items, some c.image)
          direct := s.staging.direct.filter (fun e => e.1 != s.strideTarget) } }
      else accept { s with staging := { s.staging with image := some (.tick, c.items, some c.image), seqImage := none } } := by
  have quiet : ¬ (s.get K.ecatAlState ≠ 2 ∨ s.programRuns = true ∨ (!s.staging.set.isEmpty) = true) := by
    simp only [ha, hp, hs, List.isEmpty_nil, ne_eq, not_true_eq_false, Bool.false_eq_true, Bool.not_true, or_self,
      not_false_eq_true]
  simp only [wrCfgImage, hd, if_neg quiet]

theorem wrCfgImage_unparsed {d : List Byte} (hd : parseImage d = none) : wrCfgImage d s = refuse Abort.store s := by
  rw [wrCfgImage, hd]

/-- The lock comes into use as any entry does, and nothing hangs on it. -/
theorem applyValue_cfgLock_get (v k : Nat) : (applyValue K.cfgLock v s).get k = (s.put K.cfgLock v).get k := by
  have plain (u : State) : cameIntoUse K.cfgLock v u = u := by simp [cameIntoUse]
  have quiet (u : State) : wakeEst K.cfgLock u = u := by simp [wakeEst]
  unfold applyValue
  dsimp only
  rw [if_neg (by decide), plain, quiet]
  split
  · split <;> rfl
  · rfl

end

/-! ## Reports -/

theorem jobReport_handle {h : Nat} (hh : h < 2 ^ 16) (x : JobStatus) (r : Nat) : field (jobReport h x r) 48 16 = h := by
  cases x <;> simp only [field, jobReport, JobStatus.code, Nat.shiftRight_eq_div_pow, reduceCtorEq, ↓reduceIte] <;> omega

theorem jobReport_code (h : Nat) (x : JobStatus) (r : Nat) : field (jobReport h x r) 40 8 = x.code := by
  cases x <;> simp only [field, jobReport, JobStatus.code, Nat.shiftRight_eq_div_pow, reduceCtorEq, ↓reduceIte] <;> omega

theorem jobReport_result {r : Nat} (hr : r < 2 ^ 32) (h : Nat) : jobReport h .done r % 2 ^ 32 = r := by
  simp only [jobReport, JobStatus.code, ↓reduceIte]
  omega

theorem jobReport_free (h r : Nat) : jobReport h .free r = h * 2 ^ 48 := by
  simp only [jobReport, JobStatus.code, reduceCtorEq, ↓reduceIte, Nat.zero_mul, Nat.add_zero]

/-- The handle that a slot's next job gets: the next generation, which is never 0, over the slot's number. -/
def nextHandle (handle i : Nat) : Nat := (if handle / 256 = 255 then 1 else handle / 256 + 1) * 256 + i

theorem nextHandle_slot {i : Nat} (hi : i < 32) (h : Nat) : nextHandle h i % 256 = i := by
  simp only [nextHandle]
  omega

theorem nextHandle_generation {i : Nat} (hi : i < 32) (h : Nat) : nextHandle h i / 256 ≠ h / 256 := by
  simp only [nextHandle]
  split <;> omega

theorem nextHandle_lt {h i : Nat} (hi : i < 32) (hh : h < 2 ^ 16) : nextHandle h i < 2 ^ 16 := by
  simp only [nextHandle]
  split <;> omega

section
variable {s : State} {i : Nat} (hi : i < 32)

theorem State.jobHandle_lt (s : State) (i : Nat) : s.jobHandle i < 2 ^ 16 := Nat.mod_lt _ (by decide)

include hi

theorem State.jobAllot_report (port : Port) (k : Nat) :
    (s.jobAllot port k i).get (K.jobReport i) = jobReport (nextHandle (s.jobHandle i) i) .pending 0 := by
  unfold State.jobAllot
  dsimp only
  rw [State.get_flag_ne, State.get_put_ne, State.get_put_ne, State.get_put_self]
  · rfl
  · simp only [K.jobReport, K.jobOrigin]
    omega
  · cases port
    · simp only [K.jobReport, K.jobLastEcat]
      omega
    · simp only [K.jobReport, K.jobLastSpi]
      omega
  · simp only [K.jobReport, K.jobStatus]
    omega

theorem State.jobAllot_code (port : Port) (k : Nat) : (s.jobAllot port k i).jobCode i = 1 := by
  rw [State.jobCode, State.jobAllot_report hi, jobReport_code]
  rfl

theorem State.jobAllot_handle (port : Port) (k : Nat) : (s.jobAllot port k i).jobHandle i = nextHandle (s.jobHandle i) i := by
  rw [State.jobHandle, State.jobAllot_report hi, jobReport_handle (nextHandle_lt hi (s.jobHandle_lt i))]

theorem jobEnd_report (h : s.jobCode i = 1) (x : JobStatus) (r : Nat) :
    (jobEnd i x r s).get (K.jobReport i) = jobReport (s.jobHandle i) x r := by
  rw [jobEnd, if_pos ⟨hi, h⟩]
  dsimp only
  rw [State.get_withJobEnded, State.get_flag_ne _ _ _ _ (by simp only [K.jobReport, K.hostAlert]; omega),
    State.get_flag_ne _ _ _ _ (by simp only [K.jobReport, K.jobStatus]; omega), State.get_put_self]

end

/-- A slot without a pending job has none to end. -/
theorem jobEnd_idle {s : State} {i : Nat} (h : s.jobCode i ≠ 1) (x : JobStatus) (r : Nat) : jobEnd i x r s = s :=
  if_neg fun ⟨_, pending⟩ => h pending

theorem jobRelease_accepts {s : State} {v : Nat} (hi : v % 256 ≤ 31) (hg : v / 256 ≠ 0)
    (hh : s.jobHandle (v % 256) / 256 = v / 256) (hc : s.jobCode (v % 256) ≠ 1) :
    jobRelease v s = accept (s.put (K.jobReport (v % 256)) (v * 2 ^ 48)) := by
  have named : ¬ (v % 256 > 31 ∨ v / 256 = 0) := by omega
  simp only [jobRelease, if_neg named, if_neg (not_not_intro hh), if_neg hc, jobReport_free]

/-! ## The error history -/

/-- Entries set to 0 one after another read 0, and every other as before. -/
theorem each_putZero_get (f : Nat → Nat) (l : List Nat) (s : State) (k : Nat) :
    (each l (fun i u => u.put (f i) 0) s).get k = if k ∈ l.map f then 0 else s.get k := by
  unfold each
  induction l generalizing s with
  | nil => rfl
  | cons i l ih =>
    rw [List.foldl_cons, ih, List.map_cons]
    by_cases hk : k = f i
    · simp [hk]
    · simp [hk]

theorem clearHistory_count (s : State) : (clearHistory s).get K.comErrCnt = 0 := State.get_put_self _ _ _

theorem clearHistory_entry (s : State) {i : Nat} (hi : i < 16) : (clearHistory s).get (K.comErrHist i) = 0 := by
  have other : K.comErrHist i ≠ K.comErrCnt := by simp only [K.comErrHist, K.comErrCnt]; omega
  have listed : K.comErrHist i ∈ (upto 16).map K.comErrHist := List.mem_map_of_mem (List.mem_range.2 hi)
  rw [clearHistory, State.get_put_ne _ _ _ _ other, each_putZero_get, if_pos listed]

/-! ## The statement -/

section
variable {port : Port} {s : State}

theorem State.atTick_reply_get (t : State) (r : Option Reply) (k : Nat) : (s.atTick { t with reply := r }).get k = t.get k :=
  (rfl)

theorem cfgImage_outcome (up : s.openTick.answers port = true) (d : List Byte) (hl : s.openTick.get K.cfgLock ≠ 1)
    (ha : s.openTick.get K.ecatAlState = 2) (hp : s.openTick.programRuns = false) (hs : s.openTick.staging.set = []) :
    match parseImage d with
    | some c =>
      if (s.openTick.changes c.items).any (fun e => strideScheduled e.1) then
        Accepts (.cfgImage port d) port s { s.openTick with staging := { s.openTick.staging with
          image := some (.stride s.openTick.strideTarget, c.items, some c.image)
          direct := s.openTick.staging.direct.filter (fun e => e.1 != s.openTick.strideTarget) } }
      else Accepts (.cfgImage port d) port s { s.openTick with staging := { s.openTick.staging with
        image := some (.tick, c.items, some c.image), seqImage := none } }
    | none => Refuses (.cfgImage port d) port 0x08000020 s := by
  have check := writeCheck_of_unlocked s.openTick (k := K.cfgImage) (by decide +kernel) hl (by decide)
  split
  · next c parsed =>
    have row := wrCfgImage_parsed parsed ha hp hs
    split
    · next scheduled => exact hostRow_accepts up check (row.trans (if_pos scheduled))
    · next atOnce => exact hostRow_accepts up check (row.trans (if_neg atOnce))
  · next broken => exact hostRow_refuses up check (wrCfgImage_unparsed broken)

/-- A write that puts a value into the lock's entry alone. -/
theorem cfgLock_outcome {k v : Nat} {wr : State → Written} (up : s.openTick.answers port = true)
    (hc : writeCheck k s.openTick = none) (hw : wr s.openTick = accept (applyValue K.cfgLock v s.openTick)) :
    ∃ t, hostRow port k wr s = .next t ∧ t.get K.cfgLock = v ∧ SameBut [K.cfgLock] s.openTick t := by
  refine ⟨_, hostRow_accepts up hc hw, ?_, fun k hk => ?_⟩
  · rw [State.atTick_reply_get, applyValue_cfgLock_get, State.get_put_self]
  · rw [State.atTick_reply_get, applyValue_cfgLock_get, State.get_put_ne _ _ _ _ (List.ne_of_not_mem_cons hk)]

end

/-- Settles O57: the writes by their answers at the boundary, the jobs by the report word of their slot. -/
theorem configurationAndJobs : Obligations.ConfigurationAndJobs := by
  refine ⟨?_, ?_, fun port k i r s hi _ hr _ => ⟨?_, ?_, ?_, ?_, ?_, fun h => jobEnd_idle h _ _⟩⟩
  · rintro port s _ rfl up
    refine ⟨fun i hs hi => ⟨fun h => ?_, fun hd hl => ?_⟩, fun v hv => ?_, fun v hv => ?_, fun d => cfgImage_outcome up d,
      ?_, ?_, fun ha => ?_, fun ha => ?_⟩
    · exact hostRow_accepts up (writeCheck_comSave _) (wrComSave_accepts hs hi h)
    · exact hostRow_accepts up (writeCheck_comRestore _) (wrComRestore_accepts hs hi hd hl)
    · exact hostRow_refuses up (writeCheck_comSave _) (if_pos hv)
    · exact hostRow_refuses up (writeCheck_comRestore _) (if_pos hv)
    · exact cfgLock_outcome up (writeCheck_cfgLock _) rfl
    · exact hostRow_refuses up (writeCheck_cfgLock _) rfl
    · exact cfgLock_outcome up (writeCheck_cfgUnlock _) ((if_neg (by decide)).trans (if_neg (not_not_intro ha)))
    · exact hostRow_refuses up (writeCheck_cfgUnlock _) ((if_neg (by decide)).trans (if_pos ha))
  · rintro port s _ rfl up
    refine ⟨fun v hi hg hh hc => ?_, fun v hi => ?_, ?_, fun v hv => ?_⟩
    · exact hostRow_accepts up (writeCheck_jobRelease _) (jobRelease_accepts hi hg hh hc)
    · exact hostRow_refuses up (writeCheck_jobRelease _) (if_pos (.inl hi))
    · refine ⟨_, hostRow_accepts up (writeCheck_comErrCnt _) (if_pos rfl), ?_, fun i hi => ?_⟩
      · rw [State.atTick_reply_get, clearHistory_count]
      · rw [State.atTick_reply_get, clearHistory_entry _ hi]
    · exact hostRow_refuses up (writeCheck_comErrCnt _) (if_neg (BitVec.toNat_ne.1 hv))
  · exact State.jobAllot_code hi port k
  · rw [State.jobAllot_handle hi, nextHandle_slot hi]
  · rw [State.jobAllot_handle hi]
    exact nextHandle_generation hi _
  · rw [State.jobCode, jobEnd_report hi (State.jobAllot_code hi port k), jobReport_code]
    rfl
  · rw [jobEnd_report hi (State.jobAllot_code hi port k), jobReport_result hr]

end Sys2Proof.Machine
end

section
/-! An empty queue (R31), the loss of the crystal (R32), and the stride clock: its starts (R40, R43, R54), its edges found and
missing (R36 to R39, R42). -/

namespace Sys2Proof.Machine

section
variable {s : State}

/-- A command whose outcome is that of an event gives what the event does. -/
theorem event_gives {c : Instr} {f : State → State} {t : State} (row : exec c s = event f s) (h : f s = t) : Gives c s t := by
  subst h
  exact row

/-! ## An empty queue -/

theorem step_of_empty (h : s.pending = []) : step s = .next s.idle := by
  rw [step, h]

theorem State.idle_of_standing (h : s.ticking = false) : s.idle = s := by
  rw [State.idle, h]
  rfl

theorem State.idle_of_boundary (h : s.clock.next ≤ s.clock.beat) : s.idle = s := by
  rw [State.idle, decide_eq_false (Nat.not_lt.2 h), Bool.and_false]
  rfl

theorem State.idle_of_passing (h : s.ticking = true) (hb : s.clock.beat < s.clock.next) : s.idle = nextBeat (closeBeat s) := by
  rw [State.idle, h, decide_eq_true hb]
  rfl

theorem closeBeat_of_fastDown (h : s.fastUp = false) : closeBeat s = s := if_neg (Bool.eq_false_iff.1 h)

/-- Settles O2: the cases of idling, and what one beat leaves. -/
theorem stepIdlesWhenNothingWaits : Obligations.StepIdlesWhenNothingWaits := by
  intro s empty
  rw [step_of_empty empty]
  refine ⟨fun h => ?_, fun h => ?_, fun h hb => ?_, ?_, closeBeat_of_fastDown⟩
  · rw [State.idle_of_standing h]
  · rw [State.idle_of_boundary h]
  · rw [State.idle_of_passing h hb]
  · rintro t rfl
    refine ⟨?_, ?_, rfl, ?_, fun a => ?_⟩
    · rw [nextBeat_beat, closeBeat_beat]
    · rw [nextBeat_lastTick, closeBeat_lastTick]
    · rw [nextBeat_pending, closeBeat_pending, empty]
    · rw [nextBeat_mram, closeBeat_mram]

/-! ## The crystal -/

theorem State.boot_none_of_fastUp (h : s.fastUp = true) : s.power.boot = none := by
  simp only [State.fastUp, Bool.and_eq_true, Option.isNone_iff_eq_none] at h
  obtain ⟨⟨-, idle⟩, -⟩ := h
  exact idle

theorem doClkXtalLost_fast (hc : s.get K.timeClkSrc = 0) (h : s.fastUp = true) :
    doClkXtalLost s = takeSource .clkXtalLost 0 ((s.put K.timeClkSrc 1).bump K.timeClkSwitchCnt) := by
  simp only [doClkXtalLost, hc, State.boot_none_of_fastUp h, h, ↓reduceIte]

theorem doClkXtalLost_boot (hc : s.get K.timeClkSrc = 0) {b : Boot} (h : s.power.boot = some b) :
    doClkXtalLost s = { (s.put K.timeClkSrc 1).bump K.timeClkSwitchCnt with
      power := { s.power with boot := some { b with found := b.found ++ [(.clkXtalLost, 0)] } } } := by
  simp only [doClkXtalLost, hc, h, ↓reduceIte]
  rfl

theorem doClkXtalLost_again (hc : s.get K.timeClkSrc ≠ 0) : doClkXtalLost s = s := if_neg hc

/-! ## The start of a stride -/

theorem doStrideStart_due (up : s.fastUp = true) (h0 : 0 < s.stride.length) (h : s.stride.length ≤ s.stride.elapsed) :
    doStrideStart s = newStride (strideWork s) :=
  if_pos (Bool.and_eq_true_iff.2 ⟨up, decide_eq_true ⟨h0, h⟩⟩)

theorem doStrideStart_early (h : s.stride.elapsed < s.stride.length) : doStrideStart s = s := by
  refine if_neg fun ends => ?_
  obtain ⟨-, reached⟩ := of_decide_eq_true (Bool.and_eq_true_iff.1 ends).2
  omega

/-- The stride that ends (R40, R54): what lies past its length stays, and its number goes up. -/
def State.strideOver (s : State) : State :=
  ({ s with
      stride := { s.stride with elapsed := s.stride.elapsed - s.stride.length, prev := -1
                                acted := s.stride.acted.filter (fun e => e.1 == 4096) }
      seq := { s.seq with stridesLeft := s.seq.stridesLeft - 1 } } : State).put K.strideCount (nextStride (s.get K.strideCount))

theorem State.strideOver_strideState : s.strideOver.strideState = s.strideState := by
  have stays : s.strideOver.get K.strideState = s.get K.strideState := State.get_put_ne _ _ _ _ (by decide)
  rw [State.strideState, stays, State.strideState]

theorem newStride_eq : newStride s = strideDue (nextStride (s.get K.strideCount))
    (if s.strideOver.strideState = .holdover then s.strideOver.bump K.strideHoldStrides else s.strideOver) := rfl

theorem newStride_other (h : s.strideState ≠ .holdover) :
    newStride s = strideDue (nextStride (s.get K.strideCount)) s.strideOver := by
  rw [newStride_eq, State.strideOver_strideState, if_neg h]

theorem newStride_holdover (h : s.strideState = .holdover) :
    newStride s = strideDue (nextStride (s.get K.strideCount)) (s.strideOver.bump K.strideHoldStrides) := by
  rw [newStride_eq, State.strideOver_strideState, if_pos h]

/-- Settles O14: the fallback of the clock by its three cases, the start of a stride by where the time since unit 0 stands. -/
theorem crystalAndStrideStart : Obligations.CrystalAndStrideStart := by
  refine ⟨?_, fun s t up => ⟨fun h0 h => ?_, fun h => ?_, ?_, fun hs hl h0 hw => ?_⟩⟩
  · rintro s _ rfl
    refine ⟨fun hc up => ?_, fun b hc hb => ?_, fun hc => ?_⟩
    · exact event_gives rfl (doClkXtalLost_fast hc up)
    · exact event_gives rfl (doClkXtalLost_boot hc hb)
    · exact event_gives rfl (doClkXtalLost_again hc)
  · exact event_gives (f := fun u => collectDue (doStrideStart u)) rfl (congrArg collectDue (doStrideStart_due up h0 h))
  · exact event_gives (f := fun u => collectDue (doStrideStart u)) rfl (congrArg collectDue (doStrideStart_early h))
  · rintro rfl
    exact ⟨newStride_other, newStride_holdover⟩
  · exact event_gives rfl (if_pos ⟨up, hs, hl, h0, hw⟩)

/-! ## Reference edges -/

section
variable (up : s.fastUp = true) (x : Int)
include up

theorem doStrideEdge_strideIn (rising : Bool) : doStrideEdge (.strideIn rising x) s =
    if s.stride.source < 2 ∧ (s.get K.strideEdge = 0 ↔ rising = true) then referenceEdge ((s.clock.lastTick : Int) * 100 + x) s
    else s := if_pos up

theorem doStrideEdge_sync0 : doStrideEdge (.sync0 x) s =
    if s.stride.source = 2 ∧ s.get K.ecatDcActive = 1 then referenceEdge ((s.clock.lastTick : Int) * 100 + x) s else s :=
  if_pos up

theorem doStrideEdge_glitch : doStrideEdge .glitch s = (s.bump K.strideRejectCnt).flag K.strideStatus 4 := if_pos up

end

theorem referenceEdge_holdover (h : s.strideState = .holdover) (x : Int) : referenceEdge x s =
    acceptEdge x { enterStride .acquiring s with stride := { (enterStride .acquiring s).stride with div := 0 } } := if_pos h

theorem referenceEdge_counted (h : s.strideState ≠ .holdover) (hd : s.stride.div + 1 < s.get K.strideDiv) (x : Int) :
    referenceEdge x s = { s with stride := { s.stride with div := s.stride.div + 1 } } := by
  rw [referenceEdge, if_neg h, if_neg (Nat.not_le.2 hd)]

/-! ## Missing edges -/

/-- A missing edge, counted and flagged (R39). -/
def State.edgeMissed (s : State) : State :=
  { (s.bump K.strideMissCnt).flag K.strideStatus 8 with stride := { s.stride with missed := s.stride.missed + 1 } }

theorem State.edgeMissed_get {k : Nat} (hc : k ≠ K.strideMissCnt) (hs : k ≠ K.strideStatus) : s.edgeMissed.get k = s.get k :=
  (State.get_flag_ne _ _ _ _ hs).trans (State.get_bump_ne _ _ _ hc)

theorem State.edgeMissed_strideState : s.edgeMissed.strideState = s.strideState := by
  rw [State.strideState, State.edgeMissed_get (by decide) (by decide), State.strideState]

/-- Another in a row. -/
def State.edgeMissedInRow (s : State) : State :=
  { s.edgeMissed with stride := { s.edgeMissed.stride with badRun := s.edgeMissed.stride.badRun + 1 } }

theorem State.edgeMissedInRow_get {k : Nat} (hc : k ≠ K.strideMissCnt) (hs : k ≠ K.strideStatus) :
    s.edgeMissedInRow.get k = s.get k := State.edgeMissed_get hc hs

theorem doStrideMissingEdge_eq (h : s.edgeMissing = true) : doStrideMissingEdge s =
    match s.strideState with
    | .locked =>
      if s.get K.strideMissN ≤ s.stride.badRun + 1 then enterStride .holdover s.edgeMissedInRow else s.edgeMissedInRow
    | .acquiring => enterStride .holdover s.edgeMissed
    | _ => s.edgeMissed := by
  rw [← State.edgeMissed_strideState (s := s),
    ← State.edgeMissedInRow_get (s := s) (k := K.strideMissN) (by decide) (by decide)]
  exact if_pos h

/-- Settles O15: edges by their source and place, missing ones by the state of the stride clock. -/
theorem strideEdgesFoundAndMissing : Obligations.StrideEdgesFoundAndMissing := by
  refine ⟨fun s up => ⟨fun rising x hs he => ?_, fun rising x other => ?_, ?_, fun x hs ha => ?_, fun x other => ?_,
    referenceEdge_holdover, referenceEdge_counted⟩, ?_⟩
  · exact event_gives rfl ((doStrideEdge_strideIn up x rising).trans (if_pos ⟨hs, he⟩))
  · exact event_gives rfl ((doStrideEdge_strideIn up x rising).trans (if_neg fun ⟨hs, he⟩ =>
      other.elim (fun h => Nat.not_lt.2 h hs) fun h => h he))
  · exact event_gives rfl (doStrideEdge_glitch up)
  · exact event_gives rfl ((doStrideEdge_sync0 up x).trans (if_pos ⟨hs, ha⟩))
  · exact event_gives rfl ((doStrideEdge_sync0 up x).trans (if_neg fun ⟨hs, ha⟩ => other.elim (· hs) (· ha)))
  · rintro s _ missing rfl
    have missed := doStrideMissingEdge_eq missing
    refine ⟨fun hs few => ?_, fun hs many => ?_, fun hs => ?_, fun hs => ?_⟩ <;> rw [hs] at missed
    · exact event_gives rfl (missed.trans (if_neg (Nat.not_le.2 few)))
    · exact event_gives rfl (missed.trans (if_pos many))
    · exact event_gives rfl missed
    · exact event_gives rfl missed

end

end Sys2Proof.Machine
end

section
/-! Boots and their ends (R404, R408, R413, R415). -/

namespace Sys2Proof.Machine

/-! ## The device's state while sources are taken -/

section
variable (s : State)

theorem railFault_dev (n src chan : Nat) : (railFault n src chan s).get K.devState = s.get K.devState := by
  have control : K.devState ∈ controlKeys := by decide
  refine railFault_get n src chan s _ ?_ (offRun_control control n) (offPhases_control control)
    (not_ffr_of_control control) ?_ ?_ <;>
    simp only [railWrites, goodWrites, K.devState, K.railState, K.railCause, K.railStatus, K.railOrgate, K.supGood, K.supStatus,
      K.supChatterCnt, K.supGoodMap, K.supPgood, K.seqChkToggles, List.mem_cons, List.not_mem_nil, or_false, not_or] <;>
    omega

theorem railsFault_dev (l : List Nat) (src chan : Nat) : (railsFault l src chan s).get K.devState = s.get K.devState :=
  each_keeps _ _ (State.get · K.devState) s fun n _ t => railFault_dev t n src chan

theorem State.get_ite (c : Prop) [Decidable c] (a b : State) (k : Nat) :
    (if c then a else b).get k = if c then a.get k else b.get k :=
  apply_ite (State.get · k) c a b

theorem showHeld_dev : (showHeld s).get K.devState = s.get K.devState := by
  have slots (x : State) (v : Nat → State → Nat) :
      (each (upto 32) (fun i u => u.put (K.faultHeld i) (v i u)) x).get K.devState = x.get K.devState :=
    each_keeps _ _ (State.get · K.devState) x fun i _ u => State.get_put_ne _ _ _ _ (by simp only [K.faultHeld, K.devState]; omega)
  unfold showHeld
  dsimp only
  rw [State.get_put_ne _ _ _ _ (by decide), State.get_put_ne _ _ _ _ (by decide), State.get_put_ne _ _ _ _ (by decide),
    State.get_put_ne _ _ _ _ (by decide)]
  exact slots s _

theorem latchSource_dev (a b c : Nat) : (latchSource a b c s).get K.devState = s.get K.devState := by
  unfold latchSource
  split
  · rfl
  · split <;> simp

theorem openBeat_dev : (openBeat s).get K.devState = s.get K.devState := by
  unfold openBeat
  split <;> rfl

theorem pushHistory_dev (c src : Nat) : (pushHistory c src s).get K.devState = s.get K.devState := by
  have shifted : (each ((upto 15).reverse) (fun i u => u.put (K.comErrHist (i + 1)) (u.get (K.comErrHist i))) s).get K.devState =
      s.get K.devState := by
    refine each_keeps _ _ (State.get · K.devState) s fun i hi u => State.get_put_ne _ _ _ _ ?_
    have few := List.mem_range.1 (List.mem_reverse.1 hi)
    simp only [K.comErrHist, K.devState]
    omega
  unfold pushHistory
  dsimp only
  rw [State.get_put_ne _ _ _ _ (by decide), State.get_put_ne _ _ _ _ (by decide), shifted]

theorem ecatTakes_dev : (ecatTakes s).get K.devState = s.get K.devState := by
  unfold ecatTakes
  split
  · exact State.get_put_ne _ _ _ _ (by decide)
  · rfl

theorem queueEmcy_dev (e : Emcy) : (queueEmcy e s).get K.devState = s.get K.devState := by
  have history : (if e.code = 0 then s else pushHistory e.code e.src s).get K.devState = s.get K.devState := by
    rw [State.get_ite, pushHistory_dev, ite_self]
  unfold queueEmcy
  dsimp only
  rw [State.get_ite, ecatTakes_dev, State.get_ite, State.get_flag_ne _ _ _ _ (by decide), State.get_put_ne _ _ _ _ (by decide),
    State.get_flag_ne _ _ _ _ (by decide), State.get_bump_ne _ _ _ (by decide), State.get_withFc, history, ite_self, ite_self]

theorem offRequest_dev (c : Nat) : (offRequest c s).get K.devState = s.get K.devState := by
  unfold offRequest
  split
  · split <;> rfl
  · rfl
  · rfl

theorem reactF2_dev (k : SrcKind) (i : Nat) : (reactF2 k i s).get K.devState = s.get K.devState := by
  unfold reactF2
  dsimp only
  rw [State.get_ite, State.get_withFc, railsFault_dev, ite_self]

theorem reactF3_dev (k : SrcKind) (i : Nat) : (reactF3 k i s).get K.devState = s.get K.devState :=
  (railsFault_dev (reactF2 k i s) _ _ _).trans (reactF2_dev s k i)

theorem reactF4_dev (k : SrcKind) (i : Nat) : (reactF4 k i s).get K.devState = s.get K.devState := by
  have asserted (t : State) : (assertAlarm t).get K.devState = t.get K.devState := by
    unfold assertAlarm
    split
    · exact raiseAlarm_control (by decide) t
    · rfl
  unfold reactF4
  dsimp only
  simp only [↓State.get_ite, ↓asserted, ↓State.get_withFc, ↓offRequest_dev, ↓railsFault_dev, ↓reactF3_dev, ite_self]

theorem reactF5_dev (k : SrcKind) (i : Nat) : (reactF5 k i s).get K.devState = s.get K.devState := by
  unfold reactF5
  dsimp only
  rw [State.get_ite, State.get_withFc, State.get_flag_ne _ _ _ _ (by decide), State.get_put_ne _ _ _ _ (by decide), reactF4_dev,
    ite_self]

theorem react_dev (c : Nat) (k : SrcKind) (i : Nat) : (react c k i s).get K.devState = s.get K.devState := by
  unfold react
  split
  · rfl
  · rfl
  · exact reactF2_dev s k i
  · exact reactF3_dev s k i
  · exact reactF4_dev s k i
  · exact reactF5_dev s k i

theorem faultCnt_ne_dev (c : Nat) : K.devState ≠ K.faultCnt c := by
  simp only [K.devState, K.faultCnt]
  omega

/-- Taking a source leaves the device in its state; what it asks for is done in step 6. -/
theorem takeSource_dev (k : SrcKind) (i : Nat) : (takeSource k i s).get K.devState = s.get K.devState := by
  have ended (src : Nat) (t : State) : (endCondition src t).get K.devState = t.get K.devState := State.get_withFc t _ _
  have fired (x : Trigger) (t : State) : (fireTrigger x t).get K.devState = t.get K.devState := fireTrigger_control (by decide) t x
  have flagged {j : Nat} (h : K.devState ≠ j) (t : State) (m : Nat) := State.get_flag_ne t j m K.devState h
  have bumped {j : Nat} (h : K.devState ≠ j) (t : State) := State.get_bump_ne t j K.devState h
  have masked (t : State) (m : Nat) := State.get_setMask_ne t K.faultUnack m K.devState (by decide)
  unfold takeSource
  simp only [↓State.get_ite, ↓ended, ↓react_dev, ↓fired, ↓queueEmcy_dev, ↓State.get_withFc, ↓showHeld_dev, ↓latchSource_dev,
    ↓flagged (j := K.faultStatus) (by decide), ↓flagged (j := K.hostAlert) (by decide), ↓masked,
    ↓bumped (faultCnt_ne_dev _), ↓bumped (j := K.faultEscCnt) (by decide), ↓openBeat_dev, ite_self]

theorem fillFfr_dev (a b c d e f : Nat) : (fillFfr a b c d e f s).get K.devState = s.get K.devState :=
  fillFfr_get a b c d e f s _ (not_ffr_of_control (by decide))

end

/-! ## A boot under way -/

section
variable (s : State)

/-- Every boot starts with its cause, out of reset. -/
theorem beginBoot_boot (c : Nat) (x : BootInputs) :
    ∃ p, (beginBoot c x s).power.boot = some p ∧ p.cause = c ∧ (beginBoot c x s).power.held = false := ⟨_, rfl, rfl, rfl⟩

theorem doBootBegin_boot (x : BootInputs) : ∃ p, (doBootBegin x s).power.boot = some p ∧ p.cause = 0 := by
  rw [doBootBegin]
  exact (beginBoot_boot _ 0 x).imp fun p ⟨boot, cause, _⟩ => ⟨boot, cause⟩

/-- A boot starts time anew; all else is what its function leaves. -/
theorem retimed_restart (f : State → State) : ∃ t, retimed Clock.restart f s = .next t ∧ t.clock = Clock.reset ∧
    t.power = (f s).power ∧ t.mram = (f s).mram := ⟨_, rfl, rfl, rfl, rfl⟩

theorem execBootBegin_boots {v n : Nat} (x : BootInputs) (hm : s.dev.main = false) (hb : s.power.boot = none)
    (hh : s.power.held = false) (hv : s.pins.vddioGood = true) (hg : vsysGoodMv ≤ v) (hn : 4 ≤ n) :
    ∃ t p, execBootBegin v n x s = .next t ∧ t.clock = Clock.reset ∧ t.power.boot = some p ∧ p.cause = 0 ∧ t.mram = s.mram := by
  obtain ⟨p, boot, cause⟩ := doBootBegin_boot s x
  obtain ⟨t, row, clock, power, mram⟩ := retimed_restart s (doBootBegin x)
  exact ⟨t, p, (if_pos ⟨hm, hb, hh, hv, hg, hn⟩).trans row, clock, (congrArg Power.boot power).trans boot, cause,
    mram.trans (doBootBegin_mram x s)⟩

theorem execSysrstNRelease_boots (x : BootInputs) (hh : s.power.held = true) :
    ∃ t p, execSysrstNRelease x s = .next t ∧ t.clock = Clock.reset ∧ t.power.boot = some p ∧ p.cause = 0x0A ∧
      t.power.held = false := by
  obtain ⟨p, boot, cause, free⟩ := beginBoot_boot s 0x0A x
  obtain ⟨t, row, clock, power, -⟩ := retimed_restart s (beginBoot 0x0A x)
  exact ⟨t, p, (if_pos hh).trans row, clock, (congrArg Power.boot power).trans boot, cause, (congrArg Power.held power).trans free⟩

theorem execRetryBoot_boots (x : BootInputs) (due : s.openTick.retryDue = true) :
    ∃ t p, execRetryBoot x s = .next t ∧ t.power.boot = some p ∧ p.cause = 9 ∧ t.clock = Clock.reset := by
  obtain ⟨p, boot, cause, -⟩ := beginBoot_boot
    (if s.openTick.fastUp then railsLost (calEnd 6 (estOff s.openTick)) else s.openTick) 9 x
  have row : execRetryBoot x s = .next
      { deviceReset 9 x s.openTick with clock := Clock.reset, pending := s.pending, mram := s.mram } :=
    if_pos due
  exact ⟨_, p, row, boot, cause, rfl⟩

/-! ## The end of boot -/

theorem moveDev_boot (d : DevState) (c : Nat) : (moveDev d c s).power.boot = s.power.boot := by
  have left (t : State) : (rhLeaves t).power.boot = t.power.boot := by
    unfold rhLeaves
    split
    · exact (failRun_timeBoot t _ _).2
    · rfl
  have ended (x : Nat) (t : State) : (endMeasure x t).power.boot = t.power.boot := by
    unfold endMeasure
    split
    · rfl
    · simp [setEst]
  simp only [moveDev, enterDev, ite_timeBoot, ended, left, fireTrigger_timeBoot, State.flag_power, State.put_power, ite_self]

end

/-- The device's state and a boot under way stand as they stood. -/
abbrev SameDevBoot (s t : State) : Prop := t.get K.devState = s.get K.devState ∧ t.power.boot = s.power.boot

theorem SameDevBoot.trans {s t u : State} (ht : SameDevBoot s t) (hu : SameDevBoot t u) : SameDevBoot s u :=
  ⟨hu.1.trans ht.1, hu.2.trans ht.2⟩

theorem SameDevBoot.ite {c : Prop} [Decidable c] {s a b : State} (ha : SameDevBoot s a) (hb : SameDevBoot s b) :
    SameDevBoot s (if c then a else b) := by
  split
  · exact ha
  · exact hb

section
variable (s : State)

theorem each_devBoot {α : Type} (l : List α) (f : α → State → State) (h : ∀ a ∈ l, ∀ t, SameDevBoot t (f a t)) :
    SameDevBoot s (each l f s) :=
  ⟨each_keeps l f (State.get · K.devState) s fun a ha t => (h a ha t).1,
    each_keeps l f (fun t => t.power.boot) s fun a ha t => (h a ha t).2⟩

theorem State.put_devBoot {k : Nat} (h : K.devState ≠ k) (v : Nat) : SameDevBoot s (s.put k v) :=
  ⟨State.get_put_ne _ _ _ _ h, rfl⟩

theorem State.flag_devBoot {k : Nat} (h : K.devState ≠ k) (m : Nat) : SameDevBoot s (s.flag k m) :=
  ⟨State.get_flag_ne _ _ _ _ h, rfl⟩

/-- A step that writes no entry of the dictionary and leaves a boot under way alone. -/
theorem SameDevBoot.of_od {s t : State} (ho : t.od = s.od) (hb : t.power.boot = s.power.boot) : SameDevBoot s t :=
  ⟨by rw [State.get, State.get, ho], hb⟩

theorem takeSource_devBoot (k : SrcKind) (i : Nat) : SameDevBoot s (takeSource k i s) :=
  ⟨takeSource_dev s k i, (takeSource_timeBoot s k i).2⟩

theorem railToOff_devBoot (n : Nat) : SameDevBoot s (railToOff n s) := by
  have control : K.devState ∈ controlKeys := by decide
  have other : K.devState ∉ railWrites n := by
    simp only [railWrites, goodWrites, K.devState, K.railState, K.railOrgate, K.supGood, K.supStatus, K.supChatterCnt, K.supGoodMap,
      K.supPgood, K.seqChkToggles, List.mem_cons, List.not_mem_nil, or_false, not_or]
    omega
  refine ⟨?_, ?_⟩
  · rw [railToOff, setRail_get _ _ _ _ other (offRun_control control n), idlePhases_get _ _ _ (offPhases_control control)]
  · rw [railToOff, (setRail_timeBoot _ _ _).2, (idlePhases_timeBoot _ _).2]

theorem takeCopies_devBoot : SameDevBoot s (takeCopies s) :=
  .ite ⟨rfl, rfl⟩ (.trans (railToOff_devBoot (setBk _ s) 12) (State.put_devBoot _ (by decide) _))

theorem raiseBoot_devBoot (e : SrcKind × Nat) : SameDevBoot s (raiseBoot e s) :=
  .trans (takeSource_devBoot s e.1 e.2) (.ite ⟨fillFfr_dev _ _ _ _ _ _ _, (fillFfr_timeBoot _ _ _ _ _ _ _).2⟩ ⟨rfl, rfl⟩)

theorem capture_devBoot : SameDevBoot s (capture s) := by
  unfold capture
  simp [SameDevBoot]

theorem wdgToStart_devBoot : SameDevBoot s (wdgToStart s) :=
  .trans (State.put_devBoot s (k := K.wdgState) (by decide) wdgStart) (.of_od rfl rfl)

theorem wdgPeriodFrom_devBoot (w : Nat) : SameDevBoot s (wdgPeriodFrom w s) :=
  .trans (State.put_devBoot s (k := K.wdgPeriodStart) (by decide) w) <|
    .trans (State.put_devBoot _ (k := K.wdgSeen) (by decide) 0) (.of_od rfl rfl)

theorem doWdgStartDelayEnd_devBoot : SameDevBoot s (doWdgStartDelayEnd s) :=
  .ite (.trans (State.put_devBoot s (k := K.wdgState) (by decide) wdgRun) <|
    .trans (State.flag_devBoot _ (k := K.wdgStatus) (by decide) 1) (wdgPeriodFrom_devBoot _ _)) ⟨rfl, rfl⟩

theorem pairBoot_devBoot : SameDevBoot s (pairBoot s) :=
  .ite (.trans (State.put_devBoot s (k := K.pairState) (by decide) pairWait) (.of_od rfl rfl))
    (State.put_devBoot s (k := K.pairCarry) (by decide) _)

theorem showBuf_devBoot : SameDevBoot s (showBuf s) :=
  .trans (State.put_devBoot s (k := K.recBufUsed) (by decide) _) (State.put_devBoot _ (k := K.recBufRecords) (by decide) _)

theorem enterBuf_devBoot (x : Nat) (b : List Byte) : SameDevBoot s (enterBuf x b s) := by
  unfold enterBuf
  refine .trans ?_ (showBuf_devBoot _)
  refine .trans ?_ (State.flag_devBoot _ (by decide) _)
  exact .trans (.of_od rfl rfl) (State.put_devBoot _ (by decide) _)

theorem State.bump_devBoot {k : Nat} (h : K.devState ≠ k) : SameDevBoot s (s.bump k) := State.put_devBoot s h _

theorem offerRecord_devBoot (x : Nat) (b : List Byte) : SameDevBoot s (offerRecord x b s) := by
  have dropped : SameDevBoot s ((s.bump K.recDropCnt).flag K.recStatus 4) :=
    .trans (State.bump_devBoot s (by decide)) (State.flag_devBoot _ (by decide) _)
  have full : SameDevBoot s (((s.put K.recState 2).flag K.recStatus 8).bump K.recRefusedCnt) :=
    .trans (State.put_devBoot s (by decide) _) <| .trans (State.flag_devBoot _ (by decide) _) (State.bump_devBoot _ (by decide))
  unfold offerRecord
  dsimp only
  split
  · exact ⟨rfl, rfl⟩
  · refine .ite (.trans full (takeSource_devBoot _ _ _)) (.ite (.ite dropped ?_) (enterBuf_devBoot s x b))
    exact .trans (dropped.trans (.of_od rfl rfl)) (takeSource_devBoot _ _ _)
  · exact State.bump_devBoot s (by decide)

/-- The start of the units in its steps: the counts of the boot zeroed, the watchdog started where it is enabled, the meters
begun. -/
def unitsZeroed (s : State) : State :=
  { setWdg (fun w => { w with w := 0, coreIdle := 0 }) s with stride := { s.stride with elapsed := 0 } }

def watchdogBegun (s : State) : State :=
  if s.get K.wdgEn = 1 ∧ s.dev ≠ .stall then doWdgStartDelayEnd (wdgToStart s) else s

def metersBegun (s : State) : State :=
  { s with fc := { s.fc with lastSevere := s.beat }, est := { s.est with lastEpoch := s.clock.epochs } }

def recorderBegun (s : State) : State := s.put K.recState s.recorderState

theorem startUnits_eq : startUnits s =
    bootRecord (pairBoot (recorderBegun (metersBegun ((watchdogBegun (unitsZeroed s)).put K.chgITherm 10000)))) := (rfl)

theorem watchdogBegun_devBoot : SameDevBoot s (watchdogBegun s) :=
  .ite (.trans (wdgToStart_devBoot s) (doWdgStartDelayEnd_devBoot _)) ⟨rfl, rfl⟩

theorem startUnits_devBoot : SameDevBoot s (startUnits s) := by
  have zeroed : SameDevBoot s (unitsZeroed s) := .of_od rfl rfl
  have metered (t : State) : SameDevBoot t (metersBegun t) := .of_od rfl rfl
  have recording (t : State) : SameDevBoot t (recorderBegun t) := State.put_devBoot t (k := K.recState) (by decide) _
  rw [startUnits_eq]
  exact zeroed.trans <| (watchdogBegun_devBoot _).trans <| (State.put_devBoot _ (k := K.chgITherm) (by decide) _).trans <|
    (metered _).trans <| (recording _).trans <| (pairBoot_devBoot _).trans (offerRecord_devBoot _ _ _)

theorem computeCrc_devBoot : SameDevBoot s (computeCrc s) := .ite (.of_od rfl rfl) ⟨rfl, rfl⟩

theorem updateCrc_devBoot : SameDevBoot s (updateCrc s) := by
  unfold updateCrc
  split
  · exact .trans (State.put_devBoot s (k := K.cfgCrc) (by decide) _) (.trans (.of_od rfl rfl) (computeCrc_devBoot _))
  · exact computeCrc_devBoot s

theorem showHeld_power_boot : (showHeld s).power.boot = s.power.boot := by
  unfold showHeld
  exact each_keeps _ _ (fun t : State => t.power.boot) s fun _ _ _ => rfl

theorem showFault_devBoot : SameDevBoot s (showFault s) := by
  have held : SameDevBoot s (showHeld s) := ⟨showHeld_dev s, showHeld_power_boot s⟩
  exact .trans held (State.put_devBoot _ (k := K.faultState) (by decide) _)

theorem showStaging_devBoot : SameDevBoot s (showStaging s) :=
  .trans (State.put_devBoot s (k := K.cfgStageCount) (by decide) _) <|
    .trans (State.put_devBoot _ (k := K.cfgStageState) (by decide) _) (State.put_devBoot _ (k := K.cfgCommitAt) (by decide) _)

theorem showJobs_devBoot : SameDevBoot s (showJobs s) :=
  .trans (State.put_devBoot s (k := K.jobInUse) (by decide) _) (State.put_devBoot _ (k := K.jobPending) (by decide) _)

theorem showRef_devBoot (n : Nat) : SameDevBoot s (showRef n s) :=
  State.put_devBoot s (by simp only [K.devState, K.railVrefNow]; omega) _

theorem showGait_devBoot : SameDevBoot s (showGait s) := State.put_devBoot s (k := K.gaitLine) (by decide) _

theorem shownLive_devBoot : SameDevBoot s s.shownLive := by
  have refs := each_devBoot s (upto 16) showRef fun n _ t => showRef_devBoot t n
  exact refs.trans <| (updateCrc_devBoot _).trans <| (showFault_devBoot _).trans <| (showStaging_devBoot _).trans <|
    (showJobs_devBoot _).trans (showGait_devBoot _)

theorem goOut_devBoot : SameDevBoot s s.goOut := by
  unfold State.goOut
  exact .ite (.trans (State.bump_devBoot s (k := K.estSeq) (by decide)) (.of_od rfl rfl)) (.of_od rfl rfl)

theorem publishFirst_devBoot : SameDevBoot s (publishFirst s) := by
  have published (t : State) : SameDevBoot t { t with pub := t.od, fresh := [] } := .of_od rfl rfl
  unfold publishFirst
  rw [publishLive_eq]
  exact .trans (shownLive_devBoot s) <| .trans (goOut_devBoot _) (published _)

/-- The end of boot in its steps after the state it enters: the sequencer halted or the copies of the backup domain taken, the noted
start of the battery, the sources of the boot, what the boot leaves behind, the automatic start, a lockout no longer due. -/
def bootSettled (d : DevState) (s : State) : State :=
  if d = .stall then (s.bumpSat K.stStallCnt).put K.seqState SeqState.halted.code
  else takeCopies (if d = .lockout then s.put K.seqState SeqState.halted.code else s)

def batteryNoted (s : State) : State :=
  if s.path.batStarted then { s.flag K.pathStatus 0x40 with path := { s.path with batStarted := false } } else s

def bootRaised (b : Boot) (s : State) : State := each (bootSources b s) raiseBoot s

def bootForgotten (s : State) : State :=
  { setBk (fun k => { k with alarmDue := false }) s with power := { s.power with coreTripped := false } }

def autostarted (d : DevState) (s : State) : State := if d = .standby then autostartNext s else s

def lockoutForgotten (s : State) : State :=
  if s.fc.lockoutDue ∧ s.dev = .standby then s else { s with fc := { s.fc with lockoutDue := false } }

theorem doEndOfBoot_eq (b : Boot) {d : DevState} {c : Nat} (ends : bootEnds b s = (d, c)) : doEndOfBoot b s =
    publishFirst (lockoutForgotten (autostarted d (startUnits (capture (bootForgotten (bootRaised b (batteryNoted (bootSettled d
      (moveDev d c { s with power := { s.power with boot := none, mramFailed := b.failMram } }))))))))) := by
  rw [doEndOfBoot, ends]
  rfl

theorem bootSettled_devBoot (d : DevState) : SameDevBoot s (bootSettled d s) := by
  have halted (t : State) : SameDevBoot t (t.put K.seqState SeqState.halted.code) := State.put_devBoot t (by decide) _
  have counted : SameDevBoot s (s.bumpSat K.stStallCnt) := State.put_devBoot s (by decide) _
  exact .ite (counted.trans (halted _)) (.trans (.ite (halted s) ⟨rfl, rfl⟩) (takeCopies_devBoot _))

theorem batteryNoted_devBoot : SameDevBoot s (batteryNoted s) :=
  .ite (.trans (State.flag_devBoot s (k := K.pathStatus) (by decide) 0x40) (.of_od rfl rfl)) ⟨rfl, rfl⟩

theorem doEndOfBoot_devBoot (b : Boot) {d : DevState} {c : Nat} (ends : bootEnds b s = (d, c)) :
    SameDevBoot (moveDev d c { s with power := { s.power with boot := none, mramFailed := b.failMram } }) (doEndOfBoot b s) := by
  have raised (t : State) : SameDevBoot t (bootRaised b t) := each_devBoot t _ _ fun e _ u => raiseBoot_devBoot u e
  have forgotten (t : State) : SameDevBoot t (bootForgotten t) := .of_od rfl rfl
  have started (t : State) : SameDevBoot t (autostarted d t) := .ite (.of_od rfl rfl) ⟨rfl, rfl⟩
  have dropped (t : State) : SameDevBoot t (lockoutForgotten t) := .ite ⟨rfl, rfl⟩ (.of_od rfl rfl)
  rw [doEndOfBoot_eq s b ends]
  exact (bootSettled_devBoot _ d).trans <| (batteryNoted_devBoot _).trans <| (raised _).trans <| (forgotten _).trans <|
    (capture_devBoot _).trans <| (startUnits_devBoot _).trans <| (started _).trans <| (dropped _).trans (publishFirst_devBoot _)

/-- The end of boot enters the state that `bootEnds` names, with no boot under way any more. -/
theorem doEndOfBoot_dev_boot (b : Boot) : (doEndOfBoot b s).dev = (bootEnds b s).1 ∧ (doEndOfBoot b s).power.boot = none := by
  rcases ends : bootEnds b s with ⟨d, c⟩
  obtain ⟨dev, boot⟩ := doEndOfBoot_devBoot s b ends
  exact ⟨(congrArg DevState.ofCode dev).trans (moveDev_dev _ d c), boot.trans (moveDev_boot _ d c)⟩

end

/-! ## The statement -/

section
variable {s : State}

theorem wrStRetry_accepts {port : Port} {i : Nat} (hd : s.dev = .stall) (hi : s.jobChoice = some i) :
    wrStRetry port 0x7E57 s = accept (jobEnd i .done 0 { (s.jobAllot port K.stRetry i).bumpSat K.stRetryCnt with
      power := { s.power with retryAt := some (s.power.retryAt.getD (s.tick + 10)) } }) := by
  have power : (s.jobAllot port K.stRetry i).power = s.power := by simp only [State.jobAllot, State.flag_power, State.put_power]
  simp only [wrStRetry, ne_eq, not_true_eq_false, hd, ↓reduceIte]
  rw [startJob_accepts (.inr (by decide)) hi, power, State.jobAllot_tick]

theorem writeCheck_stRetry : writeCheck K.stRetry s = none := writeCheck_of_wo s (by decide +kernel)

end

/-- Settles O42: each boot comes out of reset with its cause, the end of boot keeps the state it has entered through all that it
then does, and ST.RETRY is a host write with a job. -/
theorem boots : Obligations.Boots := by
  rintro s _ x rfl
  refine ⟨fun v n hm hb hh hv => ⟨execBootBegin_boots s x hm hb hh hv, fun few => ?_⟩, execSysrstNRelease_boots s x,
    execRetryBoot_boots s x, fun p hp => ?_, fun port i up hd hi => ?_, fun port v up hv => ?_⟩
  · exact if_neg fun ⟨_, _, _, _, hg, hn⟩ => by omega
  · have row : exec .endOfBoot s = retimed Clock.ticked (doEndOfBoot p) s.atBoundary := by
      show execEndOfBoot s = _
      rw [execEndOfBoot, hp]
    obtain ⟨dev, boot⟩ := doEndOfBoot_dev_boot s.atBoundary p
    exact ⟨_, row, boot, rfl, dev, s.atBoundary_pending⟩
  · exact hostRow_accepts up writeCheck_stRetry (wrStRetry_accepts hd hi)
  · exact hostRow_refuses up writeCheck_stRetry (if_pos (BitVec.toNat_ne.1 hv))

end Sys2Proof.Machine
end

section
/-! What an enable leaves (R91 to R93, R320). -/

namespace Sys2Proof.Machine

section
variable {n : Nat} {s : State}

/-! ## The states that a start enters -/

theorem reinterleave_rail (n : Nat) (s : State) {j : Nat} (hj : j < 16) : (reinterleave n s).rail j = s.rail j :=
  congrArg RailState.ofCode (reinterleave_get n s _ (offPhases_railState hj))

theorem aimRail_rail (n start target num den : Nat) (s : State) (j : Nat) : (aimRail n start target num den s).rail j = s.rail j :=
  (rfl)

theorem railToReady_rail (hn : n < 16) : (railToReady n s).rail n = .ready := by
  unfold State.rail railToReady
  rw [recount_get]
  exact (reinterleave_rail n _ hn).trans (setRail_rail n .ready _ hn)

theorem State.get_withPair (s : State) (p : Pair) (k : Nat) : ({ s with pair := p } : State).get k = s.get k := (rfl)

theorem railToOn_rail (hn : n < 16) : (railToOn n s).rail n = .on := by
  unfold State.rail railToOn blankUv
  dsimp only
  rw [State.get_withPair, State.get_setSupE, State.get_flag_ne _ _ _ _ (by simp)]
  exact setRail_rail n .on s hn

/-- Where VOUT has reached VSET a start goes directly to ON (R90). -/
theorem railToSoftstart_reached (h : s.startTarget n * 5 ≤ s.railVout n * 2) : ∃ t, railToSoftstart n s = railToOn n t := by
  unfold railToSoftstart
  dsimp only
  rw [if_pos h]
  exact ⟨_, rfl⟩

theorem railToSoftstart_below (h : ¬ s.startTarget n * 5 ≤ s.railVout n * 2) : ∃ t start target num den,
    railToSoftstart n s = aimRail n start target num den (reinterleave n (setRail n .softstart t)) := by
  unfold railToSoftstart
  dsimp only
  rw [if_neg h]
  exact ⟨_, _, _, _, _, rfl⟩

theorem railToSoftstart_rail (hn : n < 16) :
    (railToSoftstart n s).rail n = if s.startTarget n * 5 ≤ s.railVout n * 2 then .on else .softstart := by
  split
  · next reached =>
    obtain ⟨t, on⟩ := railToSoftstart_reached reached
    rw [on, railToOn_rail hn]
  · next below =>
    obtain ⟨t, start, target, num, den, aimed⟩ := railToSoftstart_below below
    rw [aimed, aimRail_rail, reinterleave_rail _ _ hn, setRail_rail _ _ _ hn]

/-! ## The enable -/

/-- A shed of rail `n` by the limiter or the thermal manager is over as the rail is enabled (R77, R502). -/
def shedOver (n : Nat) (s : State) : State := (s.putBit K.budgetShedMask n false).putBit K.thermShedMask n false

theorem shedOver_get {k : Nat} (hb : k ≠ K.budgetShedMask) (ht : k ≠ K.thermShedMask) : (shedOver n s).get k = s.get k :=
  (State.get_putBit_ne _ _ _ _ _ ht).trans (State.get_putBit_ne _ _ _ _ _ hb)

theorem shedOver_enableToReady : (shedOver n s).enableToReady n = s.enableToReady n := by
  unfold State.enableToReady State.bit
  rw [shedOver_get (by decide) (by decide)]
  rfl

theorem shedOver_startTarget (hn : n < 16) : (shedOver n s).startTarget n = s.startTarget n := by
  unfold State.startTarget
  rw [shedOver_get (by simp; omega) (by simp; omega)]
  rfl

theorem shedOver_railVout (hn : n < 16) : (shedOver n s).railVout n = s.railVout n :=
  shedOver_get (by simp; omega) (by simp; omega)

theorem railEnable_stays (ho : s.rail n ≠ .off) (hd : s.rail n ≠ .discharge) : railEnable n s = s :=
  if_neg fun h => h.elim ho hd

theorem railEnable_refused (h : s.rail n = .off ∨ s.rail n = .discharge) {c : Nat} (hc : s.enableRefusal n = some c) :
    railEnable n s = refuseEnable n c s := by
  rw [railEnable, if_pos h, hc]

theorem railEnable_granted (h : s.rail n = .off ∨ s.rail n = .discharge) (hc : s.enableRefusal n = none) : railEnable n s =
    if s.enableToReady n then railToReady n (shedOver n s)
    else if n < 12 ∧ s.get K.fdIbusGood = 0 then setRail n .enabling (takeTarget n (shedOver n s))
    else railToSoftstart n (shedOver n s) := by
  rw [← shedOver_enableToReady, ← shedOver_get (k := K.fdIbusGood) (n := n) (by decide) (by decide), railEnable, if_pos h, hc]
  rfl

theorem refuseEnable_get {k : Nat} (c : Nat) (hc : k ≠ K.railCause n) (hs : k ≠ K.railStatus n) :
    (refuseEnable n c s).get k = s.get k :=
  (State.get_flag_ne _ _ _ _ hs).trans (State.get_put_ne _ _ _ _ hc)

theorem refuseEnable_cause (c : Nat) : (refuseEnable n c s).get (K.railCause n) = c :=
  (State.get_flag_ne _ _ _ _ (by simp)).trans (State.get_put_self _ _ _)

end

/-- Settles O19: the cases of `railEnable`, and the state that each start enters. -/
theorem enableOutcome : Obligations.EnableOutcome := by
  refine fun n s hn => ⟨railEnable_stays, fun h => ⟨fun c hc => ?_, fun hc => ⟨fun ready => ?_, fun ready few bad => ?_,
    fun ready good => ?_⟩⟩⟩
  · rw [railEnable_refused h hc]
    refine ⟨congrArg RailState.ofCode (refuseEnable_get c (by simp) (by simp)), refuseEnable_cause c, fun k hk => ?_⟩
    simp only [List.mem_cons, List.not_mem_nil, or_false, not_or] at hk
    exact refuseEnable_get c hk.1 hk.2
  · rw [railEnable_granted h hc, if_pos ready, railToReady_rail hn]
  · rw [railEnable_granted h hc, ready, if_neg Bool.false_ne_true, if_pos ⟨few, bad⟩, setRail_rail n _ _ hn]
  · have started : ¬ (n < 12 ∧ s.get K.fdIbusGood = 0) := fun ⟨few, bad⟩ => good.elim (Nat.not_le.2 few) (· bad)
    rw [railEnable_granted h hc, ready, if_neg Bool.false_ne_true, if_neg started, railToSoftstart_rail hn, shedOver_startTarget hn,
      shedOver_railVout hn]

end Sys2Proof.Machine
end

section
/-! The front divider's states and stops (R58 to R62, R69, R71): which entries a change of state writes, what each run of samples
does, and how a stop leaves the rails that it feeds. -/

namespace Sys2Proof.Machine

/-! ## Entries -/

section
variable (s : State)

theorem showTrim_get {k : Nat} (hs : k ≠ K.fdStatus) (ht : k ≠ K.fdTrim) : (showTrim s).get k = s.get k := by
  have flagged : (when (s.clamps && !s.divider.trimming) (fun u => u.flag K.fdStatus 8) s).get k = s.get k := by
    unfold when
    split
    · exact State.get_flag_ne _ _ _ _ hs
    · rfl
  exact (State.get_put_ne _ _ _ _ ht).trans flagged

theorem showTrim_divider : (showTrim s).divider = { s.divider with trimming := s.clamps } := by
  unfold showTrim when
  dsimp only
  split <;> rfl

/-- The divider trims in RUN and SWAP alone (R62, R68). -/
theorem showTrim_trim (h : s.fd.regulating = false) : (showTrim s).get K.fdTrim = 0 := by
  obtain ⟨hr, hs⟩ := Bool.or_eq_false_iff.1 h
  have unclamped : s.clamps = false := by rw [State.clamps, hr, hs]; rfl
  have unchanged : s.trimsChange = false := by rw [State.trimsChange, hs]; rfl
  unfold showTrim
  rw [State.get_put_self, unclamped, unchanged]
  rfl

/-- The divider as it takes a state, before its trim is shown. -/
def fdTaken (x : FdState) (s : State) : State :=
  { s.putFd x with divider := { s.divider with
    entered := s.beat, riseBeats := 0, fallBeats := 0, forceBeats := 0
    ibusUvBeats := if s.fd.regulating && x.regulating then s.divider.ibusUvBeats else 0, slewEnd := none
    ranTick := s.divider.ranTick || x == .run } }

theorem setFd_eq (x : FdState) : setFd x s = showTrim (fdTaken x s) := rfl

theorem fdTaken_get (x : FdState) {k : Nat} (h : k ≠ K.fdState) : (fdTaken x s).get k = s.get k := State.get_putFd_ne s k x h

theorem fdTaken_fd (x : FdState) : (fdTaken x s).fd = x :=
  (congrArg FdState.ofCode (State.get_put_self s K.fdState x.code)).trans (FdState.ofCode_code x)

theorem setFd_get (x : FdState) {k : Nat} (hf : k ≠ K.fdState) (hs : k ≠ K.fdStatus) (ht : k ≠ K.fdTrim) :
    (setFd x s).get k = s.get k :=
  (showTrim_get _ hs ht).trans (fdTaken_get s x hf)

theorem setFd_fd (x : FdState) : (setFd x s).fd = x :=
  (congrArg FdState.ofCode (showTrim_get (fdTaken x s) (by decide) (by decide))).trans (fdTaken_fd s x)

theorem setFd_trim {x : FdState} (h : x.regulating = false) : (setFd x s).get K.fdTrim = 0 :=
  showTrim_trim (fdTaken x s) ((congrArg FdState.regulating (fdTaken_fd s x)).trans h)

theorem setFd_divider (x : FdState) :
    (setFd x s).divider = { (fdTaken x s).divider with trimming := (fdTaken x s).clamps } := showTrim_divider (fdTaken x s)

theorem setIbusGood_get (b : Bool) {k : Nat} (hg : k ≠ K.fdIbusGood) (ht : k ≠ K.seqChkToggles) :
    (setIbusGood b s).get k = s.get k := by
  unfold setIbusGood
  by_cases same : s.get K.fdIbusGood = if b then 1 else 0
  · rw [if_pos same]
  · rw [if_neg same, offerToggle_get _ _ _ _ ht, State.get_put_ne _ _ _ _ hg]

theorem setIbusGood_good (b : Bool) : (setIbusGood b s).get K.fdIbusGood = if b then 1 else 0 := by
  unfold setIbusGood
  by_cases same : s.get K.fdIbusGood = if b then 1 else 0
  · rw [if_pos same, same]
  · rw [if_neg same, offerToggle_get _ _ _ _ (by decide), State.get_put_self]

end

/-! ## Samples of VSYS -/

section
variable {s : State}

theorem vsysEvent_outcome (up : s.fastUp = true) (l : List (Nat × Nat)) :
    eventNv (vsysEvent l) s = .next { takeVsys l s with clock := s.clock, pending := s.pending } := by
  rw [eventNv, vsysEvent, if_pos up]

theorem takeVsys_raised {r : Nat × Nat} (l : List (Nat × Nat)) (hs : s.divider.pfw = false) (hr : (vsysRun r s).divider.pfw = true) :
    takeVsys (r :: l) s = takeVsys l (powerFailWork (vsysRun r s)) :=
  congrArg (takeVsys l) (if_pos ⟨hr, hs⟩)

theorem takeVsys_quiet {r : Nat × Nat} (l : List (Nat × Nat)) (h : s.divider.pfw = true ∨ (vsysRun r s).divider.pfw = false) :
    takeVsys (r :: l) s = takeVsys l (vsysRun r s) := by
  refine congrArg (takeVsys l) (if_neg fun ⟨hr, hs⟩ => ?_)
  rw [hr, hs] at h
  exact h.elim Bool.false_ne_true Bool.noConfusion

/-- What lies past the eighth sample does not matter to the newest eight. -/
theorem take_append_take (a b : List Nat) : (a ++ b.take 8).take 8 = (a ++ b).take 8 := by
  rw [List.take_append, List.take_append, List.take_take, Nat.min_eq_left (Nat.sub_le _ _)]

theorem filterBeats_held (m v : Nat) {h : List Nat} (hh : h.length ≤ 8) :
    (filterBeats m v h).2 = (List.replicate m v ++ h).take 8 := by
  induction m generalizing h with
  | zero => exact (List.take_of_length_le hh).symm
  | succ m ih =>
    calc (filterBeats m v ((v :: h).take 8)).2
      _ = (List.replicate m v ++ (v :: h).take 8).take 8 := ih (List.length_take_le _ _)
      _ = (List.replicate m v ++ v :: h).take 8 := take_append_take _ _
      _ = (List.replicate (m + 1) v ++ h).take 8 := by rw [List.replicate_succ', List.append_assoc, List.singleton_append]

/-- Eight equal samples settle the filter (R58). -/
theorem mean8_replicate (v : Nat) (h : List Nat) : mean8 (List.replicate 8 v ++ h) = v := by
  have newest : (List.replicate 8 v ++ h).take 8 = List.replicate 8 v := List.take_left' List.length_replicate
  have count : max 1 (min 8 (List.replicate 8 v ++ h).length) = 8 := by
    rw [List.length_append, List.length_replicate]
    omega
  have total : (List.replicate 8 v).foldl (· + ·) 0 = 8 * v := by
    simp only [List.replicate, List.foldl_cons, List.foldl_nil]
    omega
  rw [mean8, newest, count, total, Nat.mul_div_cancel_left v (by decide)]

theorem vsysComparator_reached {v : Nat} (hv : 80000 ≤ v) (h : s.divider.vsysOver = false) : vsysComparator v s =
    dividerFault .fdVsysOv { s with divider := { s.divider with vsysOver := true } } := by
  simp only [vsysComparator, Nat.not_lt.2 hv, h, decide_eq_true hv, Bool.false_eq_true, ↓reduceIte]

theorem vsysComparator_left {v : Nat} (hv : v < 80000) (h : s.divider.vsysOver = true) : vsysComparator v s =
    endCondition 0x1000 { s with divider := { s.divider with vsysOver := false } } := by
  simp only [vsysComparator, hv, h, decide_eq_false (Nat.not_le.2 hv), ↓reduceIte]
  rfl

/-! ## Samples of IBUS -/

/-- A run of IBUS samples is counted: the beats above and below the levels of R71, the latest value and the sums of the tick. -/
def ibusCounted (r : Nat × Nat) (s : State) : State :=
  { s with divider := { s.divider with
    ibusOvBeats := countBeats (decide (17000 < r.1)) r.2 s.divider.ibusOvBeats
    ibusUvBeats := countBeats (s.fd.regulating && decide (r.1 < 7500)) r.2 s.divider.ibusUvBeats
    ibusNow := r.1, ibusSum := s.divider.ibusSum + r.1 * r.2, ibusBeats := s.divider.ibusBeats + r.2 } }

/-- The divider stops where the counts reach their limits in this run. -/
def ibusFaults (r : Nat × Nat) (s : State) : State :=
  let u := ibusCounted r s
  let t := if 2 ≤ u.divider.ibusOvBeats ∧ s.divider.ibusOvBeats < 2 then dividerFault .fdIbusOv u else u
  if 4 ≤ u.divider.ibusUvBeats ∧ s.divider.ibusUvBeats < 4 then dividerFault .fdIbusUv t else t

theorem ibusRun_eq {r : Nat × Nat} (h : r.2 ≠ 0) : ibusRun r s = stopEnds r.1 (softstartEnds r.1 (ibusFaults r s)) := if_neg h

theorem ibusCounted_high {v : Nat} (hv : 17000 < v) (n : Nat) :
    (ibusCounted (v, n) s).divider.ibusOvBeats = s.divider.ibusOvBeats + n ∧ (ibusCounted (v, n) s).divider.ibusUvBeats = 0 := by
  have notLow : (s.fd.regulating && decide (v < 7500)) = false := by
    rw [decide_eq_false (by omega), Bool.and_false]
  exact ⟨if_pos (decide_eq_true hv), if_neg (Bool.eq_false_iff.1 notLow)⟩

theorem ibusCounted_low {v : Nat} (hv : v < 7500) (hf : s.fd = .run ∨ s.fd = .swap) (n : Nat) :
    (ibusCounted (v, n) s).divider.ibusOvBeats = 0 ∧ (ibusCounted (v, n) s).divider.ibusUvBeats = s.divider.ibusUvBeats + n := by
  have low : (s.fd.regulating && decide (v < 7500)) = true := by
    rw [decide_eq_true hv, Bool.and_true]
    rcases hf with h | h <;> rw [h] <;> rfl
  have notHigh : ¬ decide (17000 < v) = true := by
    rw [decide_eq_true_eq]
    omega
  exact ⟨if_neg notHigh, if_pos low⟩

theorem ibusRun_high {v n : Nat} (hv : 17000 < v) (hn : 2 ≤ n) (h0 : s.divider.ibusOvBeats = 0) : ibusRun (v, n) s =
    stopEnds v (softstartEnds v (dividerFault .fdIbusOv (ibusCounted (v, n) s))) := by
  obtain ⟨high, low⟩ := ibusCounted_high (s := s) hv n
  rw [ibusRun_eq (by dsimp only; omega), ibusFaults]
  dsimp only
  rw [low, if_neg (by omega), high, if_pos (by omega)]

theorem ibusRun_low {v n : Nat} (hv : v < 7500) (hn : 4 ≤ n) (h0 : s.divider.ibusUvBeats = 0) (hf : s.fd = .run ∨ s.fd = .swap) :
    ibusRun (v, n) s = stopEnds v (softstartEnds v (dividerFault .fdIbusUv (ibusCounted (v, n) s))) := by
  obtain ⟨high, low⟩ := ibusCounted_low (s := s) hv hf n
  rw [ibusRun_eq (by dsimp only; omega), ibusFaults]
  dsimp only
  rw [low, if_pos (by omega), high, if_neg (by omega)]

end

/-! ## A stop -/

section
variable {s : State}

theorem State.alwaysOn_low {n : Nat} (hn : n < 12) : s.alwaysOn n = false := by
  rw [State.alwaysOn, beq_false_of_ne (Nat.ne_of_lt hn), Bool.false_and]

theorem railsFault_append (a b : List Nat) (src chan : Nat) :
    railsFault (a ++ b) src chan s = railsFault b src chan (railsFault a src chan s) := List.foldl_append

theorem railsFault_other {l : List Nat} {j : Nat} (hj : j < 16) (h : j ∉ l) (src chan : Nat) :
    (railsFault l src chan s).rail j = s.rail j ∧ (railsFault l src chan s).get (K.railCause j) = s.get (K.railCause j) := by
  have other {n : Nat} (hn : n ∈ l) (t : State) := railFault_other n j src chan t hj (fun e => h (e ▸ hn))
  exact ⟨each_keeps _ _ (State.rail · j) s fun n hn t => (other hn t).1,
    each_keeps _ _ (State.get · (K.railCause j)) s fun n hn t => (other hn t).2⟩

/-- A fault reaction on several rails does to one of them what it does to that one alone. -/
theorem railsFault_at {l : List Nat} (nodup : l.Nodup) {j : Nat} (hj : j < 16) (hm : j ∈ l) (src chan : Nat) : ∃ u : State,
    u.rail j = s.rail j ∧ (railsFault l src chan s).rail j = (railFault j src chan u).rail j ∧
      (railsFault l src chan s).get (K.railCause j) = (railFault j src chan u).get (K.railCause j) := by
  obtain ⟨a, b, rfl⟩ := List.append_of_mem hm
  obtain ⟨-, tail, apart⟩ := List.nodup_append.1 nodup
  have before : j ∉ a := fun h => apart j h j List.mem_cons_self rfl
  have after : j ∉ b := (List.nodup_cons.1 tail).1
  rw [railsFault_append]
  exact ⟨railsFault a src chan s, (railsFault_other hj before src chan).1, railsFault_other hj after src chan⟩

/-- The divider is in FAULT, before its rails are turned off. -/
def fdFaulted (s : State) : State :=
  let u := (setIbusGood false (setFd .fault s)).flag K.fdStatus 1
  { u with divider := { u.divider with changeTo := none } }

theorem fdFaulted_get {k : Nat} (hs : k ≠ K.fdStatus) : (fdFaulted s).get k = (setIbusGood false (setFd .fault s)).get k :=
  (State.get_withDivider _ _ _).trans (State.get_flag_ne _ _ _ _ hs)

theorem fdFaulted_fd : (fdFaulted s).fd = .fault :=
  (congrArg FdState.ofCode ((fdFaulted_get (by decide)).trans (setIbusGood_get _ _ (by decide) (by decide)))).trans (setFd_fd s .fault)

theorem fdFaulted_ibusGood : (fdFaulted s).get K.fdIbusGood = 0 :=
  (fdFaulted_get (by decide)).trans (setIbusGood_good _ false)

theorem fdFaulted_trim : (fdFaulted s).get K.fdTrim = 0 :=
  (fdFaulted_get (by decide)).trans ((setIbusGood_get _ _ (by decide) (by decide)).trans (setFd_trim s rfl))

theorem fdFaulted_rail {n : Nat} (hn : n < 12) : (fdFaulted s).rail n = s.rail n := by
  unfold State.rail
  rw [fdFaulted_get (by simp; omega), setIbusGood_get _ _ (by simp; omega) (by simp; omega),
    setFd_get _ _ (by simp; omega) (by simp; omega) (by simp; omega)]

theorem fdStop_eq (h : s.fd = .balance ∨ s.fd = .softstart ∨ s.fd = .run ∨ s.fd = .swap) (src : Nat) :
    fdStop src s = railsFault (upto 12) src 0xFF (fdFaulted s) := by
  rw [fdStop, if_pos h]
  rfl

/-- The entries of the divider that a stop leaves at rest. -/
def restKeys : List Nat := [K.fdState, K.fdIbusGood, K.fdTrim]

theorem railFault_rest {k : Nat} (h : k ∈ restKeys) (n src chan : Nat) : (railFault n src chan s).get k = s.get k := by
  have value : k = 0x230018 ∨ k = 0x23001A ∨ k = 0x23001B := by simpa [restKeys] using h
  have run : offRun n k := by
    refine ⟨?_, fun i hi => by simp only [K.jobReport]; omega⟩
    simp only [runWrites, K.rhRunStatus, K.rhResultSeq, K.rhArbOwner, K.rhState, K.rhRail, K.rhStatus, K.jobStatus, K.hostAlert,
      List.mem_cons, List.not_mem_nil, or_false, not_or]
    omega
  have phases : offPhases k := by
    refine ⟨fun p hp => ?_, fun n hn => ?_, fun c hc => ?_, ?_⟩ <;> simp only [K.phaseState, K.phaseAngle, K.railPhActive,
      K.railSubmode, K.phaseQwBreachCnt, K.phaseStatus, K.railStatus, K.xbQwBreachCnt, K.xbStatus, K.paQwStatus] <;> omega
  have record : k ∉ ffrWrites := (by decide : ∀ j ∈ restKeys, j ∉ ffrWrites) k h
  refine railFault_get n src chan s k ?_ run phases record ?_ ?_ <;>
    simp only [railWrites, goodWrites, K.railState, K.railCause, K.railStatus, K.railOrgate, K.supGood, K.supStatus, K.supChatterCnt,
      K.supGoodMap, K.supPgood, K.seqChkToggles, List.mem_cons, List.not_mem_nil, or_false, not_or] <;>
    omega

theorem fdStop_rest (h : s.fd = .balance ∨ s.fd = .softstart ∨ s.fd = .run ∨ s.fd = .swap) {k : Nat} (hk : k ∈ restKeys) (src : Nat) :
    (fdStop src s).get k = (fdFaulted s).get k := by
  rw [fdStop_eq h]
  exact each_keeps _ _ (State.get · k) _ fun n _ t => railFault_rest hk n src 0xFF

/-- A rail that the divider feeds comes out of a stop as a fault reaction on it alone leaves it. -/
theorem fdStop_rail (h : s.fd = .balance ∨ s.fd = .softstart ∨ s.fd = .run ∨ s.fd = .swap) {n : Nat} (hn : n < 12) (src : Nat) :
    (s.rail n = .off ∨ s.rail n = .discharge ∨ s.rail n = .fault → (fdStop src s).rail n = s.rail n) ∧
    (¬ (s.rail n = .off ∨ s.rail n = .discharge ∨ s.rail n = .fault) →
      (fdStop src s).rail n = .fault ∧ (fdStop src s).get (K.railCause n) = 5) := by
  obtain ⟨u, same, rail, cause⟩ := railsFault_at (s := fdFaulted s) List.nodup_range (j := n) (by omega)
    (List.mem_range.2 hn) src 0xFF
  rw [fdFaulted_rail hn] at same
  obtain ⟨stays, faults⟩ := railFault_rail n src 0xFF u (by omega)
  rw [same, State.alwaysOn_low hn] at stays faults
  rw [fdStop_eq h, upto, rail, cause]
  refine ⟨fun hs => ?_, fun hs => faults fun e => hs ?_⟩
  · rw [stays (hs.imp_right (Or.imp_right .inl)), same]
  · simpa using e

end

/-- Settles O16: the steps of a run of samples, the sources by their grounds, and a stop by what each rail comes out as. -/
theorem dividerSurgeFaultsAndStop : Obligations.DividerSurgeFaultsAndStop := by
  refine ⟨fun s => ⟨?_, fun r l => ⟨takeVsys_raised l, takeVsys_quiet l⟩, fun v n h hh => ⟨filterBeats_held _ _ hh, mean8_replicate v h⟩,
    fun v hv hs => if_pos ⟨hv, hs⟩, fun v hv => if_neg fun ⟨h, _⟩ => Nat.not_lt.2 hv h, fun hp hb => if_pos ⟨hp, hb⟩,
    fun hp hb => if_pos ⟨hp, hb⟩, fun up hs hr ht => ?_⟩, fun s => ⟨fun v => vsysComparator_reached, fun v => vsysComparator_left,
    fun v n hv hn h0 => ?_, fun v n hv hn h0 hf => ?_, fun up => ⟨fun n hn => ?_, fun n hn => ?_, fun d n hd hc => ?_, fun d n hd => ?_,
    ?_⟩⟩, fun src s h => ?_⟩
  · rintro up l _ rfl
    have row := vsysEvent_outcome up l
    exact ⟨row, row, row, row, row, row, row⟩
  · exact event_gives rfl (if_pos (by simp only [up, hs, hr, ht, decide_true, Bool.not_false, Bool.and_self]))
  · exact ⟨_, ibusRun_high hv hn h0, by rw [(ibusCounted_high hv n).1, h0, Nat.zero_add], rfl⟩
  · exact ⟨_, ibusRun_low hv hn h0 hf, by rw [(ibusCounted_low hv hf n).2, h0, Nat.zero_add], rfl⟩
  · exact event_gives rfl (if_pos ⟨up, hn⟩)
  · exact event_gives rfl (if_neg fun ⟨_, h⟩ => Nat.not_le.2 hn h)
  · exact event_gives rfl (if_pos ⟨up, hd, hc⟩)
  · exact event_gives rfl (if_neg fun ⟨_, h, _⟩ => Nat.not_lt.2 hd h)
  · exact event_gives rfl (if_pos up)
  · refine ⟨?_, ?_, ?_, fun n hn => ?_⟩
    · exact (congrArg FdState.ofCode (fdStop_rest h (by decide) src)).trans fdFaulted_fd
    · exact (fdStop_rest h (by decide) src).trans fdFaulted_ibusGood
    · exact (fdStop_rest h (by decide) src).trans fdFaulted_trim
    · obtain ⟨stays, faults⟩ := fdStop_rail h hn src
      refine ⟨?_, fun off => (stays (.inl off)).trans off, fun no nd => ?_⟩
      · by_cases rest : s.rail n = .off ∨ s.rail n = .discharge ∨ s.rail n = .fault
        · rw [stays rest]
          rcases rest with e | e | e <;> rw [e] <;> rfl
        · rw [(faults rest).1]
          rfl
      · by_cases rest : s.rail n = .fault
        · exact .inr rest
        · exact .inl (faults fun e => e.elim no (·.elim nd rest))

end Sys2Proof.Machine
end

section
/-! The front divider's ratio changes and states (R59, R63, R65, R66, R68 to R71). -/

namespace Sys2Proof.Machine

/-! ## Ratio changes -/

section
variable {s : State}

/-- A rising or a falling change waits for the automatic mode and for the hold time (R66). -/
theorem heldChange (h : s.autoRatio = false ∨ s.holdOver = false) (asked : Bool) (t : State) :
    (if s.autoRatio && s.holdOver && asked then t else s) = s := by
  have held : (s.autoRatio && s.holdOver) = false := by rwa [Bool.and_eq_false_iff]
  rw [held]
  rfl

theorem risingChange_held (h : s.autoRatio = false ∨ s.holdOver = false) : risingChange s = s := heldChange h _ _

theorem fallingChange_held (h : s.autoRatio = false ∨ s.holdOver = false) : fallingChange s = s := heldChange h _ _

theorem forcedChange_off (h : s.autoRatio = false) : forcedChange s = s := by
  rw [forcedChange, h]
  rfl

theorem State.autoRatio_off (h : s.divider.surging = true ∨ s.fd ≠ .run ∨ s.get K.fdRatioMode ≠ 0) : s.autoRatio = false := by
  rw [State.autoRatio]
  rcases h with h | h | h
  · rw [h, Bool.not_true, Bool.and_false]
  · rw [beq_false_of_ne h, Bool.and_false, Bool.false_and, Bool.false_and]
  · rw [beq_false_of_ne h, Bool.and_false, Bool.false_and]

theorem autoChange_off (h : s.autoRatio = false) : autoChange s = s := by
  rw [autoChange, forcedChange_off h, risingChange_held (.inl h), fallingChange_held (.inl h)]

theorem startChange_get (n : Nat) {k : Nat} (hf : k ≠ K.fdState) (hs : k ≠ K.fdStatus) (ht : k ≠ K.fdTrim) :
    (startChange n s).get k = s.get k :=
  (State.get_withDivider _ _ _).trans (setFd_get s .swap hf hs ht)

theorem startChange_fd (n : Nat) : (startChange n s).fd = .swap := setFd_fd s .swap

/-! ## The swap -/

theorem doFdSwapDone_ready {n : Nat} (h : s.swapReady 0 = some n) : doFdSwapDone s = swapLadder n s := by
  rw [doFdSwapDone, h]

theorem doFdSwapDone_waits (h : s.swapReady 0 = none) : doFdSwapDone s = s := by
  rw [doFdSwapDone, h]

theorem State.swapReady_held (h : s.qw.openK ≠ none ∨ s.divider.surging = true) (pre : Nat) : s.swapReady pre = none := by
  unfold State.swapReady
  split
  · refine if_neg fun ready => ?_
    simp only [Bool.and_eq_true, Bool.not_eq_true', Option.isNone_iff_eq_none] at ready
    obtain ⟨⟨⟨⟨_, calm⟩, _⟩, closed⟩, _⟩ := ready
    exact h.elim (· closed) (Bool.eq_false_iff.1 calm)
  · rfl

/-- The ladder has swapped: the ratio it shows, its count and its flag (R68). -/
def ratioShown (n : Nat) (s : State) : State := ((s.put K.fdRatio n).bump K.fdRatioCnt).flag K.fdStatus 0x10

theorem ratioShown_ratio (n : Nat) : (ratioShown n s).get K.fdRatio = n := by
  rw [ratioShown, State.get_flag_ne _ _ _ _ (by decide), State.get_bump_ne _ _ _ (by decide), State.get_put_self]

theorem ratioShown_fd (n : Nat) : (ratioShown n s).fd = s.fd := by
  unfold State.fd
  rw [ratioShown, State.get_flag_ne _ _ _ _ (by decide), State.get_bump_ne _ _ _ (by decide), State.get_put_ne _ _ _ _ (by decide)]

/-- IBUS starts to slew up to its level at ratio `n` (R68). -/
def slewUp (n : Nat) (s : State) : State :=
  let t := ratioShown n s
  { t with divider := { t.divider with slewEnd := some (s.beat + s.slewBeats n (s.get K.fdRatio)) } }

theorem swapLadder_up {n : Nat} (h : n < s.get K.fdRatio) : swapLadder n s = showTrim (slewUp n s) := if_pos h

theorem swapLadder_ends {n : Nat} (h : s.get K.fdRatio ≤ n) : swapLadder n s = changeEnds (ratioShown n s) := if_neg (Nat.not_lt.2 h)

theorem showTrim_slewUp_get (n : Nat) {k : Nat} (hs : k ≠ K.fdStatus) (ht : k ≠ K.fdTrim) :
    (showTrim (slewUp n s)).get k = (ratioShown n s).get k :=
  (showTrim_get _ hs ht).trans (State.get_withDivider _ _ _)

theorem showTrim_slewUp_slewEnd (n : Nat) :
    (showTrim (slewUp n s)).divider.slewEnd = some (s.clock.beat + s.slewBeats n (s.get K.fdRatio)) := by
  rw [showTrim_divider]
  rfl

theorem modeAtRun_idle (h : s.divider.pendingMode = false) : modeAtRun s = s := if_neg (Bool.eq_false_iff.1 h)

/-- A change that ends with no mode pending leaves RUN, its beat and nothing to change to. -/
theorem changeEnds_idle (h : s.divider.pendingMode = false) : changeEnds s =
    { setFd .run s with divider := { (setFd .run s).divider with changeTo := none, lastChange := some s.beat } } := by
  have pending : (setFd .run s).divider.pendingMode = false := by
    rw [setFd_divider]
    exact h
  exact modeAtRun_idle pending

theorem changeEnds_get (h : s.divider.pendingMode = false) {k : Nat} (hf : k ≠ K.fdState) (hs : k ≠ K.fdStatus) (ht : k ≠ K.fdTrim) :
    (changeEnds s).get k = s.get k := by
  rw [changeEnds_idle h, State.get_withDivider, setFd_get _ _ hf hs ht]

theorem changeEnds_fd (h : s.divider.pendingMode = false) : (changeEnds s).fd = .run := by
  rw [changeEnds_idle h]
  exact setFd_fd s .run

end

/-! ## A write of FD.RATIO_MODE -/

section
variable {s : State} {k w : Nat} {r : EntryRow}

theorem plainWrite_outOfRange (row : entryAt k = some r) (h : r.rule.ok r.ty (clearMask w (reservedBits k)) = false) :
    plainWrite k w s = refuse Abort.value s := by
  simp only [plainWrite, row, h, ↓reduceIte]

/-- A write that nothing stages and that waits for no stride puts its value into use. -/
theorem plainWrite_direct (row : entryAt k = some r) (ha : r.acc ≠ .w1c) (h : r.rule.ok r.ty (clearMask w (reservedBits k)) = true)
    (hc : ∀ g, consistent k g = true) (hp : s.programRuns = false) (hs : s.staging.set = []) (hk : strideScheduled k = false) :
    plainWrite k w s = accept (applyValue k (clearMask w (reservedBits k)) s) := by
  simp only [plainWrite, row, h, ha, hc, hp, hs, hk, List.isEmpty_nil, Bool.not_true, Bool.or_self, Bool.and_false, Bool.true_eq_false,
    Bool.false_eq_true, ↓reduceIte]

theorem fdRatioMode_entry : entryAt K.fdRatioMode = some ⟨0x2300, 0x01, 1, 0, 0, .u8, .rwl, .s, 0, .range 0 4⟩ := by
  decide +kernel

theorem fdRatioMode_value (w : Nat) : clearMask w (reservedBits K.fdRatioMode) = w := by
  have unreserved : reservedBits K.fdRatioMode = 0 := by decide
  rw [unreserved, clearMask, Nat.and_zero, Nat.xor_zero]

theorem fdRatioMode_inRange (w : Nat) : ValueRule.ok (.range 0 4) .u8 w = true ↔ w ≤ 4 := by
  have bounds : ValueRule.ok (.range 0 4) .u8 w = decide ((0 : Int) ≤ w ∧ (w : Int) ≤ 4) := rfl
  rw [bounds, decide_eq_true_eq]
  omega

theorem writeCheck_fdRatioMode (h : s.get K.cfgLock ≠ 1) : writeCheck K.fdRatioMode s = none :=
  writeCheck_of_unlocked s (by rw [fdRatioMode_entry]; rfl) h (by decide)

theorem wrFdRatioMode_accepts (hw : w ≤ 4) (hp : s.programRuns = false) (hs : s.staging.set = []) :
    wrFdRatioMode w s = accept (applyValue K.fdRatioMode w s) := by
  have inRange : ValueRule.ok (.range 0 4) .u8 (clearMask w (reservedBits K.fdRatioMode)) = true := by
    rw [fdRatioMode_value]
    exact (fdRatioMode_inRange w).2 hw
  have alone (g : Nat → Nat) : consistent K.fdRatioMode g = true := rfl
  rw [wrFdRatioMode, plainWrite_direct fdRatioMode_entry (by decide) inRange alone hp hs (by decide), fdRatioMode_value]

theorem wrFdRatioMode_refuses (hw : 4 < w) : wrFdRatioMode w s = refuse Abort.value s := by
  refine plainWrite_outOfRange fdRatioMode_entry ?_
  rw [fdRatioMode_value]
  exact Bool.eq_false_iff.2 fun ok => Nat.not_le.2 hw ((fdRatioMode_inRange w).1 ok)

theorem hostRow_checkRefuses {port : Port} {wr : State → Written} (up : s.openTick.answers port = true) {a : Nat}
    (hc : writeCheck k s.openTick = some a) : hostRow port k wr s = .next (s.atTick { s.openTick with reply := some ⟨port, a⟩ }) := by
  rw [hostRow_up (State.coreUp_of_answers up), hostDo_checkRefuses up hc]

end

/-- Settles O17: changes by their conditions, the swap by the way IBUS has to go, and each state by its end. -/
theorem dividerRatioAndStates : Obligations.DividerRatioAndStates := by
  refine ⟨fun s => ⟨fun ha hh hr hd => ?_, fun ha hh hr hd => ?_, fun ha hr hb => ?_, fun h => ⟨risingChange_held h, fallingChange_held h⟩,
    fun h => autoChange_off (State.autoRatio_off h), fun n => ⟨startChange_fd n, rfl, fun k hk => ?_⟩,
    fun n h => event_gives rfl (doFdSwapDone_ready h), fun h => event_gives rfl (doFdSwapDone_waits h),
    State.swapReady_held, fun n hf hn => ?_, fun n hn hp => ?_⟩, ?_⟩
  · exact if_pos (by rw [ha, hh, decide_eq_true ⟨hr, hd⟩]; rfl)
  · exact if_pos (by rw [ha, hh, decide_eq_true ⟨hr, hd⟩]; rfl)
  · exact if_pos (by rw [ha, decide_eq_true ⟨hr, hb⟩]; rfl)
  · simp only [List.mem_cons, List.not_mem_nil, or_false, not_or] at hk
    obtain ⟨hf, hs, ht⟩ := hk
    exact startChange_get n hf hs ht
  · rw [swapLadder_up hn, State.fd, showTrim_slewUp_get n (by decide) (by decide), showTrim_slewUp_get n (by decide) (by decide),
      ← State.fd]
    exact ⟨ratioShown_ratio n, (ratioShown_fd n).trans hf, showTrim_slewUp_slewEnd n⟩
  · have pending : (ratioShown n s).divider.pendingMode = false := hp
    rw [swapLadder_ends hn]
    refine ⟨(changeEnds_get pending (by decide) (by decide) (by decide)).trans (ratioShown_ratio n), changeEnds_fd pending, ?_⟩
    rw [changeEnds_idle pending]
    exact ⟨rfl, rfl⟩
  · rintro s _ rfl
    refine ⟨fun d up hf hd => event_gives rfl (if_pos ⟨up, hf, hd⟩), fun l up => ?_, fun v hf hr => if_pos ⟨hf, hr⟩,
      fun v hf hr => if_neg fun ⟨_, h⟩ => Bool.eq_false_iff.1 hr h, fun v hf hv => if_pos ⟨hf, hv⟩,
      fun up hf hb => event_gives rfl (if_pos ⟨up, hf, hb⟩), fun up hf hu ht => event_gives rfl (if_pos ⟨up, hf, hu, ht⟩),
      fun port v up => ⟨fun hv hl hp hs => ?_, fun hv hl => ?_, fun hl => ?_⟩⟩
    · have sampled : ibusEvent l s = each l ibusRun s := if_pos up
      exact ⟨event_gives rfl sampled, event_gives rfl sampled, event_gives rfl sampled, event_gives rfl sampled⟩
    · exact hostRow_accepts up (writeCheck_fdRatioMode hl) (wrFdRatioMode_accepts hv hp hs)
    · exact hostRow_refuses up (writeCheck_fdRatioMode hl) (wrFdRatioMode_refuses hv)
    · exact hostRow_checkRefuses up (writeCheck_of_locked fdRatioMode_entry rfl hl)

end Sys2Proof.Machine
end

section
/-! The budget limiter and the thermal manager (R73 to R76, R498, R501). -/

namespace Sys2Proof.Machine

/-! ## The charger gives way to a peak -/

section
variable (s : State)

theorem State.get_withChg (c : Charger) (k : Nat) : ({ s with chg := c } : State).get k = s.get k := (rfl)

/-- The charger as it takes a state, before the charge cycle follows (R255). -/
def chgTaken (x : ChgState) (s : State) : State :=
  let t := s.put K.chgState x.code
  let t := { t with chg := { t.chg with
    fresh := true, stateTicks := 0, preTicks := 0, cvTicks := 0, rechgTicks := 0, eocTicks := 0, revLowTicks := 0, revShortTicks := 0,
    probing := s.chg.probing && x.charging, collapse := if x.charging then s.chg.collapse else 0,
    shortBeats := if x.charging then s.chg.shortBeats else 0 } }
  let t := if x.wakes then { t with est := { t.est with wakeDue := true } } else t
  if x = .suspend then { t.flag K.chgStatus 4 with chg := { t.chg with regainTicks := 0 } } else t

/-- The charge cycle begins, goes on or ends with the charger's new state (R255). -/
def cycleFollows (x : ChgState) (t : State) : State :=
  if x = .detect then (if t.chg.inCycle then t else beginCycle t)
  else if t.chg.inCycle then
    match x with
    | .done => { (t.bump K.chgCycleCnt).flag K.chgStatus 2 with chg := { t.chg with inCycle := false } }
    | .missing | .fault | .off => { t with chg := { t.chg with inCycle := false } }
    | .noSource | .suspend | .reverse => t.put K.chgCycleFlags (t.get K.chgCycleFlags ||| 8)
    | _ => t
  else t

theorem setChg_eq (x : ChgState) : setChg x s = cycleFollows x (chgTaken x s) := rfl

theorem chgTaken_chgState (x : ChgState) : (chgTaken x s).chgState = x := by
  have taken : (chgTaken x s).get K.chgState = x.code := by
    have flagged (t : State) : (t.flag K.chgStatus 4).get K.chgState = t.get K.chgState := State.get_flag_ne _ _ _ _ (by decide)
    simp only [chgTaken, ↓State.get_ite, ↓State.get_withChg, ↓flagged, ite_self]
    split <;> exact State.get_put_self s K.chgState x.code
  rw [State.chgState, taken, ChgState.ofCode_code]

theorem beginCycle_chgState : (beginCycle s).chgState = s.chgState := by
  unfold State.chgState beginCycle
  dsimp only
  rw [State.get_withChg, State.get_flag_ne _ _ _ _ (by decide), State.get_put_ne _ _ _ _ (by decide),
    State.get_put_ne _ _ _ _ (by decide)]

theorem cycleFollows_chgState (x : ChgState) : (cycleFollows x s).chgState = s.chgState := by
  have counted : ((s.bump K.chgCycleCnt).flag K.chgStatus 2).chgState = s.chgState := by
    rw [State.chgState, State.get_flag_ne _ _ _ _ (by decide), State.get_bump_ne _ _ _ (by decide), ← State.chgState]
  have marked (v : Nat) : (s.put K.chgCycleFlags v).chgState = s.chgState :=
    congrArg ChgState.ofCode (State.get_put_ne _ _ _ _ (by decide))
  unfold cycleFollows
  split
  · split
    · rfl
    · exact beginCycle_chgState s
  · split
    · cases x with
      | done => exact counted
      | noSource | suspend | reverse => exact marked _
      | _ => rfl
    · rfl

theorem setChg_chgState (x : ChgState) : (setChg x s).chgState = x := by
  rw [setChg_eq, cycleFollows_chgState, chgTaken_chgState]

theorem showGates_chgState : (showGates s).chgState = s.chgState :=
  congrArg ChgState.ofCode (State.get_put_ne _ _ _ _ (by decide))

theorem revEnd_chgState (c : Nat) : (revEnd c s).chgState ≠ .reverse := by
  unfold revEnd
  split
  · rw [setChg_chgState]
    split <;> decide
  · assumption

theorem forcePeak_chgState : (forcePeak s).chgState ≠ .reverse := by
  have ended := revEnd_chgState (s.flag K.budgetStatus 1) 3
  rw [← showGates_chgState] at ended
  exact ended

end

/-! ## A beat of P -/

section
variable {s : State}

theorem peakBeat_first (h : s.budget.above = false) : peakBeat true s = takeSource .budgetPeak 0
    (({ forcePeak s with budget := { (forcePeak s).budget with above := true } } : State).bump K.budgetPeakCnt) := by
  simp only [peakBeat, when, h, Bool.not_false, Bool.and_self, ↓reduceIte]

theorem peakBeat_later (h : s.budget.above = true) :
    peakBeat true s = { forcePeak s with budget := { (forcePeak s).budget with above := true } } := by
  simp only [peakBeat, when, h, Bool.not_true, Bool.and_false, Bool.false_eq_true, ↓reduceIte]

theorem setFull_budget (b : Bool) : (setFull b s).budget = { s.budget with full := b } := by
  unfold setFull when
  dsimp only
  split <;> rfl

/-- E follows P, held to e_max at each run's end (R73). -/
theorem powerBeats_e (p n : Nat) :
    (powerBeats p n s).budget.e = min s.eMax (s.budget.e + n * p - n * s.get K.budgetCont) := by
  unfold powerBeats
  dsimp only
  split
  · rfl
  · rw [setFull_budget]

theorem powerBeats_full (p n : Nat) (h : s.eMax ≠ 0) : (powerBeats p n s).budget.full = ((powerBeats p n s).budget.e == s.eMax) := by
  rw [powerBeats_e]
  unfold powerBeats
  dsimp only
  rw [if_neg h, setFull_budget]

theorem powerRun_many {n : Nat} (h : 2 ≤ n) (p : Nat) : powerRun (p, n) s = powerBeats p (n - 1) (powerBeats p 1 s) := by
  rw [powerRun, if_neg (by dsimp only; omega), if_neg (by dsimp only; omega)]

end

/-! ## The choice of a shed -/

section
variable {s : State}

/-- The better of two rails to shed: of higher `BUDGET.PRIO`, the later one among equals (R75). -/
def State.betterShed (s : State) (best : Option Nat) (n : Nat) : Option Nat :=
  match best with
  | some m => if s.get (K.budgetPrio m) ≤ s.get (K.budgetPrio n) then some n else some m
  | none => some n

/-- Rail `n` may be shed (R75, R136, R501). -/
def State.mayShed (s : State) (n : Nat) : Bool := (s.rail n).sheddable && !s.alwaysOn n && s.get (K.budgetPrio n) != 0

theorem State.shedChoice_eq (top : Nat) : s.shedChoice top = ((upto top).filter s.mayShed).foldl s.betterShed none := rfl

theorem State.mayShed_iff {n : Nat} :
    s.mayShed n = true ↔ (s.rail n).sheddable = true ∧ s.alwaysOn n = false ∧ s.get (K.budgetPrio n) ≠ 0 := by
  simp only [State.mayShed, Bool.and_eq_true, Bool.not_eq_true', bne_iff_ne, and_assoc]

/-- The better of two is one of them, and neither has a higher priority. -/
theorem State.betterShed_some (best : Option Nat) (n : Nat) : ∃ b, s.betterShed best n = some b ∧ (best = some b ∨ b = n) ∧
    s.get (K.budgetPrio n) ≤ s.get (K.budgetPrio b) ∧ ∀ m, best = some m → s.get (K.budgetPrio m) ≤ s.get (K.budgetPrio b) := by
  unfold State.betterShed
  cases best with
  | none => exact ⟨n, rfl, .inr rfl, Nat.le_refl _, fun m h => absurd h (Option.some_ne_none m).symm⟩
  | some m =>
    by_cases h : s.get (K.budgetPrio m) ≤ s.get (K.budgetPrio n)
    · exact ⟨n, if_pos h, .inr rfl, Nat.le_refl _, fun j e => Option.some.inj e ▸ h⟩
    · exact ⟨m, if_neg h, .inl rfl, Nat.le_of_not_le h, fun j e => Option.some.inj e ▸ Nat.le_refl _⟩

/-- The best of a list, and of one chosen before, is among them, and none has a higher priority. -/
theorem State.foldl_betterShed {l : List Nat} {best : Option Nat} {n : Nat} (h : l.foldl s.betterShed best = some n) :
    (best = some n ∨ n ∈ l) ∧ (∀ m ∈ l, s.get (K.budgetPrio m) ≤ s.get (K.budgetPrio n)) ∧
      ∀ m, best = some m → s.get (K.budgetPrio m) ≤ s.get (K.budgetPrio n) := by
  induction l generalizing best with
  | nil => exact ⟨.inl h, fun m hm => absurd hm List.not_mem_nil, fun m e => by rw [Option.some.inj (e.symm.trans h)]⟩
  | cons a l ih =>
    obtain ⟨b, step, chosen, above, before⟩ := s.betterShed_some best a
    obtain ⟨among, rest, first⟩ := ih h
    have least := first b step
    refine ⟨?_, fun m hm => ?_, fun m e => (before m e).trans least⟩
    · rcases among with e | hm
      · rw [Option.some.inj (step.symm.trans e)] at chosen
        exact chosen.imp_right fun (e : n = a) => e ▸ List.mem_cons_self
      · exact .inr (List.mem_cons_of_mem _ hm)
    · rcases List.mem_cons.1 hm with rfl | hm
      · exact above.trans least
      · exact rest m hm

/-- A shed takes a rail that may be shed, of the highest priority among them. -/
theorem State.shedChoice_best {top n : Nat} (h : s.shedChoice top = some n) : n < top ∧ s.mayShed n = true ∧
    ∀ m, m < top → s.mayShed m = true → s.get (K.budgetPrio m) ≤ s.get (K.budgetPrio n) := by
  obtain ⟨among, best, -⟩ := State.foldl_betterShed h
  have chosen := List.mem_filter.1 (among.resolve_left (Option.some_ne_none n).symm)
  exact ⟨List.mem_range.1 chosen.1, chosen.2, fun m hm may => best m (List.mem_filter.2 ⟨List.mem_range.2 hm, may⟩)⟩

theorem doThermShed_sheds (up : s.coreUp = true) (ho : s.thermOver = true) (hi : s.get K.chgITherm = 0)
    (ht : s.get K.thermShedTicks ≤ s.therm.shedCount) {n : Nat} (hn : s.shedChoice 16 = some n) :
    doThermShed s = raiseLater .thermShed n (railShed n 6 true
      (({ s with therm := { s.therm with shedCount := 0 } }.putBit K.thermShedMask n true).flag K.thermStatus 4)) := by
  rw [doThermShed, if_pos ⟨up, ho, hi, ht⟩]
  dsimp only
  rw [show State.shedChoice _ 16 = some n from hn]

end

theorem State.fastUp_of_coreUp {s : State} (h : s.coreUp = true) : s.fastUp = true := (Bool.and_eq_true_iff.1 h).1

/-- Settles O47: a run of P by its beats, the sources by their grounds, and the rail that is shed as the best of those that may be. -/
theorem budgetAndThermal : Obligations.BudgetAndThermal := by
  intro s up
  refine ⟨fun l => event_gives rfl (if_pos (State.fastUp_of_coreUp up)), peakBeat_first, peakBeat_later, rfl,
    fun p n => ⟨rfl, fun hn => powerRun_many hn p, powerBeats_e p n, powerBeats_full p n⟩, ⟨rfl, forcePeak_chgState s⟩,
    fun hn hr => ?_, fun x hc he => event_gives rfl (if_pos ⟨up, hc, he⟩), fun ho hi ht n hn => ?_, fun n hn => ?_⟩
  · exact event_gives (f := fun t => collectDue (doBudgetOver t)) rfl (congrArg collectDue (if_pos ⟨up, hn, hr⟩))
  · exact event_gives (f := fun t => thermEnd (doThermShed t)) rfl (congrArg thermEnd (doThermShed_sheds up ho hi ht hn))
  · obtain ⟨few, may, best⟩ := State.shedChoice_best hn
    obtain ⟨sheds, off, prio⟩ := State.mayShed_iff.1 may
    exact ⟨few, sheds, off, prio, fun m hm hs ha hp => best m hm (State.mayShed_iff.2 ⟨hs, ha, hp⟩)⟩

end Sys2Proof.Machine
end


section
/-! A rail's command, its states and its reference (R86 to R94, R149). -/

namespace Sys2Proof.Machine

/-! ## The reference -/

section
variable {e : RailEngine} {b : Nat}

theorem refSteps_mono (num den : Nat) {b c : Nat} (h : b ≤ c) : refSteps num den b ≤ refSteps num den c := by
  unfold refSteps
  split
  · exact Nat.le_refl 0
  · exact Nat.div_le_div_right (Nat.mul_le_mul_left num h)

theorem refSteps_none (num den : Nat) : refSteps num den 0 = 0 := by
  rw [refSteps, Nat.mul_zero, Nat.zero_div, ite_self]

/-- The steps that a reference has moved by a beat (R87). -/
def RailEngine.moved (e : RailEngine) (b : Nat) : Nat := refSteps e.rateNum e.rateDen (b - e.refBeat)

theorem RailEngine.refAt_up (h : e.refFrom ≤ e.target) : e.refAt b = min e.target (e.refFrom + e.moved b) := if_pos h

theorem RailEngine.refAt_down (h : e.target ≤ e.refFrom) : e.refAt b = max e.target (e.refFrom - e.moved b) := by
  rcases Nat.eq_or_lt_of_le h with there | above
  · rw [RailEngine.refAt_up there.ge]
    omega
  · exact if_neg (Nat.not_le.2 above)

theorem RailEngine.refAt_between (e : RailEngine) (b : Nat) :
    min e.refFrom e.target ≤ e.refAt b ∧ e.refAt b ≤ max e.refFrom e.target := by
  rcases Nat.le_total e.refFrom e.target with up | down
  · rw [RailEngine.refAt_up up]
    omega
  · rw [RailEngine.refAt_down down]
    omega

theorem RailEngine.refAt_start (h : b ≤ e.refBeat) : e.refAt b = e.refFrom := by
  have still : e.moved b = 0 := by rw [RailEngine.moved, Nat.sub_eq_zero_of_le h, refSteps_none]
  rcases Nat.le_total e.refFrom e.target with up | down
  · rw [RailEngine.refAt_up up, still, Nat.add_zero, Nat.min_eq_right up]
  · rw [RailEngine.refAt_down down, still, Nat.sub_zero, Nat.max_eq_right down]

theorem RailEngine.refAt_reached (h : (e.refFrom - e.target) + (e.target - e.refFrom) ≤ e.moved b) : e.refAt b = e.target := by
  rcases Nat.le_total e.refFrom e.target with up | down
  · rw [RailEngine.refAt_up up]
    omega
  · rw [RailEngine.refAt_down down]
    omega

theorem RailEngine.refAt_mono {c : Nat} (h : b ≤ c) :
    (e.refFrom ≤ e.target → e.refAt b ≤ e.refAt c) ∧ (e.target ≤ e.refFrom → e.refAt c ≤ e.refAt b) := by
  have further : e.moved b ≤ e.moved c := refSteps_mono _ _ (Nat.sub_le_sub_right h e.refBeat)
  refine ⟨fun up => ?_, fun down => ?_⟩
  · rw [RailEngine.refAt_up up, RailEngine.refAt_up up]
    omega
  · rw [RailEngine.refAt_down down, RailEngine.refAt_down down]
    omega

end

/-- Settles O20: what `setRail` writes, and the reference by the direction of its movement. -/
theorem railStateAndReference : Obligations.RailStateAndReference := by
  refine ⟨fun n x s hn => ⟨setRail_rail n x s hn, setRail_entered n x s hn, fun j hj hne => setRail_rail_ne n j x s hj hne,
    fun p hp => setRail_phase n p x s hp, setRail_good n x s hn⟩, fun e b hd => ?_⟩
  have moved : e.moved b = e.rateNum * (b - e.refBeat) / e.rateDen := if_neg hd
  rw [← moved]
  exact ⟨e.refAt_between b, RailEngine.refAt_start, RailEngine.refAt_reached, fun _ => RailEngine.refAt_mono⟩

/-! ## Commands and transitions of a rail -/

section
variable {n : Nat} {s : State}

theorem SrcKind.number_of_lt (k : SrcKind) {i : Nat} (h : i < 256) : k.number i = k.type * 256 + i :=
  congrArg (k.type * 256 + ·) (Nat.mod_eq_of_lt h)

theorem writeCheck_railCmd (n : Fin 16) (s : State) : writeCheck (K.railCmd n.val) s = none := by
  refine writeCheck_of_wo s ?_
  revert n
  decide +kernel

theorem State.railCommand_iff : s.railCommand n = true ↔ s.dev = .active ∧ s.programRuns = false ∧ s.alwaysOn n = false := by
  simp only [State.railCommand, Bool.and_eq_true, beq_iff_eq, Bool.not_eq_true', and_assoc]

theorem State.railCommand_not (h : s.dev ≠ .active ∨ s.programRuns = true ∨ s.alwaysOn n = true) : s.railCommand n ≠ true := by
  rw [ne_eq, State.railCommand_iff]
  rintro ⟨active, idle, switched⟩
  rcases h with h | h | h
  · exact h active
  · exact Bool.eq_false_iff.1 idle h
  · exact Bool.eq_false_iff.1 switched h

end

/-- Settles O18: the commands by their row, each transition by its ground. -/
theorem railCommandsAndTransitions : Obligations.RailCommandsAndTransitions := by
  refine ⟨?_, ?_⟩
  · rintro port n s _ rfl up
    refine ⟨fun active idle switched => ?_, fun h => ?_⟩
    · have may := State.railCommand_iff.2 ⟨active, idle, switched⟩
      exact ⟨hostRow_accepts up (writeCheck_railCmd n _) (if_pos may), hostRow_accepts up (writeCheck_railCmd n _) (if_pos may)⟩
    · have no := State.railCommand_not h
      exact ⟨hostRow_refuses up (writeCheck_railCmd n _) (if_neg no), hostRow_refuses up (writeCheck_railCmd n _) (if_neg no)⟩
  · rintro n v s _ rfl up
    have number : SrcKind.railSs.number n.val = 0x2900 + n.val :=
      SrcKind.number_of_lt .railSs (Nat.lt_trans n.isLt (by decide))
    refine ⟨fun hr ht hv => ?_, fun hr hf hl => ?_, fun hr ht => ?_, fun hr hv => ?_, fun core hr hv => ?_, fun hr hd hf hl => ?_⟩
    · exact event_gives rfl (if_pos ⟨hr, hv, .inl ⟨up, ht⟩⟩)
    · rw [← number]
      exact event_gives rfl (if_pos ⟨up, hr, hf, hl⟩)
    · exact event_gives rfl (if_pos ⟨up, hr, ht⟩)
    · exact event_gives rfl (if_pos ⟨up, hr, hv⟩)
    · have ends : doRailDischarged n.val v s.openTick =
          railToOff n.val (s.openTick.setRailE n.val { s.openTick.railE n.val with discharged := true }) := if_pos ⟨hr, hv⟩
      rw [← ends]
      exact if_pos core
    · exact event_gives rfl (if_pos ⟨up, hr, hd, hf, hl⟩)

end Sys2Proof.Machine
end

section
/-! The phase array: phases and what drives a rail (R82, R84, R110), shedding and fast add (R95), burst (R96 to R99). -/

namespace Sys2Proof.Machine

/-! ## The states of phases -/

section
variable {s : State} {p : Nat}

theorem State.putPhase_phase (s : State) (p : Nat) (x : PhaseState) : (s.putPhase p x).phase p = x := by
  rw [State.phase, State.putPhase, State.get_put_self, PhaseState.ofCode_code]

theorem startRemount_get {k : Nat} (h : k ≠ K.phaseState p) : (startRemount p s).get k = s.get k := State.get_putPhase_ne _ _ _ _ h

theorem startRemount_phase (p : Nat) (s : State) : (startRemount p s).phase p = .shadow := s.putPhase_phase p .shadow

theorem shedPhase_phase (p : Nat) (s : State) : (shedPhase p s).phase p = .shed := by
  rw [State.phase, shedPhase, State.get_flag_ne _ _ _ _ (by simp), ← State.phase, State.putPhase_phase]

theorem State.drives_iff : s.drives p = true ↔ s.phase p = .active ∨ s.phase p = .ramp := by
  simp only [State.drives, Bool.or_eq_true, beq_iff_eq]

theorem State.drives_of_get {t : State} (h : t.get (K.phaseState p) = s.get (K.phaseState p)) : t.drives p = s.drives p :=
  congrArg (fun v => PhaseState.ofCode v == .active || PhaseState.ofCode v == .ramp) h

theorem State.phasesIn_lt {n : Nat} {x : PhaseState} (h : p ∈ s.phasesIn n x) : p < 8 := mem_railPhases (List.mem_filter.1 h).1

/-! ## The interleave -/

/-- Entries that no interleave writes (R84). -/
def offInterleave (k : Nat) : Prop := (∀ p, p < 8 → k ≠ K.phaseAngle p) ∧ ∀ n, n < 8 → k ≠ K.railPhActive n

/-- The low three digits of a key tell the entries of a phase or a rail apart. -/
theorem offInterleave_of_low {k : Nat} (angle : k % 0x1000 ≠ 0x13) (active : k % 0x1000 ≠ 0x25) : offInterleave k := by
  refine ⟨fun p _ e => angle ?_, fun n _ e => active ?_⟩ <;> rw [e] <;> exact Nat.add_mul_mod_self_right _ _ _

theorem State.driving_lt (s : State) (n i : Nat) : (s.driving n).getD i 0 < 8 := by
  rw [List.getD_eq_getElem?_getD]
  cases at_i : (s.driving n)[i]? with
  | none => exact Nat.zero_lt_succ 7
  | some p => exact mem_railPhases (List.mem_filter.1 (List.mem_of_getElem? at_i)).1

theorem reinterleave_keeps {k : Nat} (h : offInterleave k) (n : Nat) (s : State) : (reinterleave n s).get k = s.get k := by
  obtain ⟨angle, active⟩ := h
  unfold reinterleave
  split
  · next hn =>
    dsimp only
    rw [State.get_put_ne _ _ _ _ (active n hn), each_keeps _ _ (State.get · k), each_keeps _ _ (State.get · k)]
    · exact fun p hp t => State.get_put_ne _ _ _ _ (angle p (mem_railPhases hp))
    · exact fun i _ t => State.get_put_ne _ _ _ _ (angle _ (s.driving_lt n i))
  · rfl

end

/-! ## Shedding and fast add -/

section
variable {n p : Nat} {s : State}

theorem doPhaseShed_sheds (up : s.fastUp = true) (he : s.get (K.railShedEn n) = 1) (hc : s.ccm n = true)
    (hp : (s.phasesIn n .active).getLast? = some p) (hm : s.get (K.railMinPh n) < (s.phasesIn n .active).length)
    (ht : s.get (K.railShedTicks n) ≤ (s.railE n).shedCount) :
    doPhaseShed n s = reinterleave n ((shedPhase p s).setRailE n { s.railE n with shedCount := 0 }) := by
  rw [doPhaseShed]
  dsimp only
  rw [if_pos ⟨up, he, hc, hm, ht⟩, hp]

theorem addShed_some (h : (s.phasesIn n .shed).head? = some p) : addShed n s = startRemount p s := by
  rw [addShed, h]

/-! ## Burst -/

theorem State.inBurst_of (hn : n < 8) (up : s.fastUp = true) (h : s.get (K.railSubmode n) = 1) : s.inBurst n = true := by
  simp only [State.inBurst, hn, up, h, decide_true, beq_self_eq_true, Bool.and_self]

theorem State.burstPhase_none (h : s.phasesIn n .active = []) : s.burstPhase n = none := by
  simp only [State.burstPhase, h, List.contains_nil, Bool.false_eq_true, ↓reduceIte, List.head?_nil]

/-- A rail whose burst phase sleeps, no window holding a start back: VOUT is judged at a beat (R96). -/
theorem doBurstStart_asleep (hb : s.inBurst n = true) (ha : (s.railE n).bursting = false) (hh : (s.railE n).burstHeld = false) (v : Nat) :
    doBurstStart n v s =
      if s.below n v < (s.get (K.railBurstBand n) : Int) * 500 then s.setRailE n { s.railE n with burstPending := false }
      else if s.get (K.railBurstPlace n) = 0 then burstGo n s
      else if (s.get (K.railBurstBand n) : Int) * 1500 ≤ s.below n v then
        burstGo n ((s.bump (K.railBurstUnplacedCnt n)).flag (K.railStatus n) 0x20)
      else s.setRailE n { s.railE n with burstPending := true } :=
  if_pos ⟨hb, ha, hh⟩

theorem doBurstStart_awake (h : (s.railE n).bursting = true ∨ (s.railE n).burstHeld = true) (v : Nat) : doBurstStart n v s = s :=
  if_neg fun ⟨_, ha, hh⟩ => h.elim (Bool.eq_false_iff.1 ha) (Bool.eq_false_iff.1 hh)

theorem doBurstSlot_awake (h : (s.railE n).bursting = true ∨ (s.railE n).burstHeld = true) : doBurstSlot n s = s :=
  if_neg fun ⟨_, ha, _, hh, _⟩ => h.elim (Bool.eq_false_iff.1 ha) (Bool.eq_false_iff.1 hh)

theorem burstStops_bursting (hn : n < 8) (h : s.get (K.railSubmode n) = 1) {k : Nat} :
    (burstStops n s).get k = ((s.put (K.railSubmode n) 0).flag (K.railStatus n) 0x10).get k := by
  rw [burstStops, State.get_setRailE, when, if_pos (decide_eq_true ⟨hn, h⟩)]

/-- A rail that leaves burst writes its own submode and status, beside what the phases do that come back (R97). -/
theorem burstLeave_bursting (hn : n < 8) (h : s.get (K.railSubmode n) = 1) {k : Nat} (hi : offInterleave k)
    (hp : ∀ p, p < 8 → k ≠ K.phaseState p) :
    (burstLeave n s).get k = ((s.put (K.railSubmode n) 0).flag (K.railStatus n) 0x10).get k := by
  rw [burstLeave, if_pos ⟨hn, h⟩]
  dsimp only
  rw [reinterleave_keeps hi, each_keeps _ _ (State.get · k), burstStops_bursting hn h]
  exact fun p hm t => startRemount_get (hp p (State.phasesIn_lt (List.mem_filter.1 hm).1))

theorem burstLeave_submode (hn : n < 8) (h : s.get (K.railSubmode n) = 1) : (burstLeave n s).get (K.railSubmode n) = 0 := by
  rw [burstLeave_bursting hn h (offInterleave_of_low (by simp) (by simp)) (by simp; omega), State.get_flag_ne _ _ _ _ (by simp),
    State.get_put_self]

theorem burstLeave_status (hn : n < 8) (h : s.get (K.railSubmode n) = 1) :
    ((burstLeave n s).get (K.railStatus n)).testBit 4 = true := by
  have left : Nat.testBit 0x10 4 = true := by decide
  rw [burstLeave_bursting hn h (offInterleave_of_low (by simp) (by simp)) (by simp; omega), State.get_flag_self, Nat.testBit_or, left,
    Bool.or_true]

end

/-- Settles O22: shedding and burst by their grounds; a rail that leaves burst by what it then shows. -/
theorem sheddingAndBurst : Obligations.SheddingAndBurst := by
  refine ⟨fun n s up he hc => ⟨fun p hp hm ht => event_gives rfl (doPhaseShed_sheds up he hc hp hm ht),
    fun p hp hr q i hq hi => ?_, fun q i hi => ?_, fun p _ => ⟨startRemount_phase p s, shedPhase_phase p s⟩⟩,
    fun n s up => ⟨fun hc h => event_gives rfl (if_pos ⟨up, hc, h⟩), fun _ h v => ?_, fun hb ha hh v => ?_,
      fun hb ha hp hh hm hs => ?_, fun hb => ?_⟩⟩
  · exact event_gives rfl ((if_pos ⟨up, he, hc, hr, hq, hi⟩).trans (addShed_some hp))
  · exact event_gives rfl (if_neg fun ⟨_, _, _, _, _, h⟩ => Int.not_lt.2 hi h)
  · exact ⟨event_gives rfl (doBurstStart_awake h v), event_gives rfl (doBurstSlot_awake h)⟩
  · have judged := doBurstStart_asleep (State.inBurst_of n.isLt up hb) ha hh v
    have wider : (s.get (K.railBurstBand n.val) : Int) * 500 ≤ (s.get (K.railBurstBand n.val) : Int) * 1500 := by omega
    refine ⟨fun below => ?_, fun hp deep => ?_, fun above => event_gives rfl (judged.trans (if_pos above))⟩
    · rw [if_neg (Int.not_lt.2 below)] at judged
      refine ⟨fun hp => event_gives rfl (judged.trans (if_pos hp)), fun hp guard => ?_⟩
      exact event_gives rfl (judged.trans ((if_neg hp).trans (if_neg (Int.not_le.2 guard))))
    · rw [if_neg (Int.not_lt.2 (wider.trans deep)), if_neg hp, if_pos deep] at judged
      exact event_gives rfl judged
  · exact event_gives rfl (if_pos ⟨State.inBurst_of n.isLt up hb, ha, hp, hh, hm, hs⟩)
  · have bursts := State.inBurst_of n.isLt up hb
    refine ⟨fun v h => event_gives rfl (if_pos ⟨bursts, h⟩), fun h => ?_, fun v h => ?_, fun hm hd => ?_, fun h => ?_, fun h => ?_,
      burstLeave_submode n.isLt hb, burstLeave_status n.isLt hb⟩
    · exact event_gives rfl ((if_pos bursts).trans (if_pos (decide_eq_true h)))
    · exact event_gives rfl ((if_pos bursts).trans (if_pos h))
    · exact event_gives rfl ((if_pos bursts).trans (if_pos ⟨hm, hd⟩))
    · exact event_gives rfl ((if_pos bursts).trans (if_neg h))
    · exact event_gives rfl ((if_pos bursts).trans (if_pos (State.burstPhase_none h)))

end Sys2Proof.Machine
end

section
/-! Remount of a phase, and the commands that take it out and back (R110 to R113). -/

namespace Sys2Proof.Machine

/-! ## The stages of a remount -/

section
variable {p : Nat} {s : State}

/-- A shadow stage that its cycles end is judged by its duty (R111). -/
theorem doRemountShadowEnd_over (up : s.fastUp = true) (hs : s.phase p = .shadow) (hr : (s.rail (s.phaseE p).rail).regulating = true)
    (hc : s.cyclesOver p 64 = true) (d : Nat) : doRemountShadowEnd p d s =
      if d ≤ 20 then reinterleave (s.phaseE p).rail
        ((s.putPhase p .ramp).setPhaseE p { s.phaseE p with since := s.beat, held := 0 })
      else if 4 ≤ (s.phaseE p).passes + 1 then takeSource .phImbal p (phaseOut p 8 s)
      else s.setPhaseE p { s.phaseE p with passes := (s.phaseE p).passes + 1, since := s.beat, held := 0 } :=
  if_pos ⟨up, hs, hr, hc⟩

theorem doRemountShadowEnd_early (hc : s.cyclesOver p 64 = false) (d : Nat) : doRemountShadowEnd p d s = s :=
  if_neg fun ⟨_, _, _, ended⟩ => Bool.eq_false_iff.1 hc ended

theorem doRemountRampEnd_early (hc : s.cyclesOver p 256 = false) : doRemountRampEnd p s = s :=
  if_neg fun ⟨_, _, ended⟩ => Bool.eq_false_iff.1 hc ended

/-! ## The commands -/

theorem writeCheck_phaseCmd (p : Fin 8) (s : State) : writeCheck (K.phaseCmd p.val) s = none := by
  refine writeCheck_of_wo s ?_
  revert p
  decide +kernel

theorem wrPhaseTakeOut_refuses (h : s.dev.live = false ∨ s.phase p = .unused ∨ s.lastPhase p = true) :
    wrPhaseTakeOut p s = refuse Abort.state s := by
  refine if_pos ?_
  simpa only [Bool.or_eq_true, Bool.not_eq_true', beq_iff_eq, or_assoc] using h

/-- A live device answers for a phase that some rail has. -/
theorem phaseCmd_open (hl : s.dev.live = true) (hu : s.phase p ≠ .unused) : (!s.dev.live || s.phase p == .unused) = false := by
  rw [hl, beq_eq_false_iff_ne.2 hu]
  rfl

theorem wrPhaseTakeOut_accepts (hl : s.dev.live = true) (hu : s.phase p ≠ .unused) (last : s.lastPhase p = false)
    (hd : s.phase p ≠ .disabled) : wrPhaseTakeOut p s = accept (reinterleave (s.phaseE p).rail
      ((s.putPhase p .disabled).setPhaseE p { s.phaseE p with passes := 0, released := false })) := by
  rw [wrPhaseTakeOut, phaseCmd_open hl hu, last, Bool.or_self, if_neg Bool.false_ne_true, if_neg hd]

theorem wrPhaseReturn_closed (h : s.dev.live = false ∨ s.phase p = .unused) : wrPhaseReturn p s = refuse Abort.state s := by
  refine if_pos ?_
  simpa only [Bool.or_eq_true, Bool.not_eq_true', beq_iff_eq] using h

section
variable (hl : s.dev.live = true) (hu : s.phase p ≠ .unused)
include hl hu

theorem wrPhaseReturn_open : wrPhaseReturn p s =
    if s.phase p = .disabled ∨ s.phase p = .fault then
      if s.phasesHeld.testBit p then refuse Abort.state s
      else accept (if (s.rail (s.phaseE p).rail).regulating then startRemount p (s.setPhaseE p { s.phaseE p with released := false })
        else (s.setPhaseE p { s.phaseE p with released := false }).putPhase p .idle)
    else accept s := by
  rw [wrPhaseReturn, phaseCmd_open hl hu, if_neg Bool.false_ne_true]

theorem wrPhaseReturn_held (out : s.phase p = .disabled ∨ s.phase p = .fault) (held : s.phasesHeld.testBit p = true) :
    wrPhaseReturn p s = refuse Abort.state s := by
  rw [wrPhaseReturn_open hl hu, if_pos out, if_pos held]

theorem wrPhaseReturn_back (out : s.phase p = .disabled ∨ s.phase p = .fault) (free : s.phasesHeld.testBit p = false) :
    wrPhaseReturn p s = accept
      (if (s.rail (s.phaseE p).rail).regulating then startRemount p (s.setPhaseE p { s.phaseE p with released := false })
        else (s.setPhaseE p { s.phaseE p with released := false }).putPhase p .idle) := by
  rw [wrPhaseReturn_open hl hu, if_pos out, if_neg (Bool.eq_false_iff.1 free)]

theorem wrPhaseReturn_stays (hd : s.phase p ≠ .disabled) (hf : s.phase p ≠ .fault) : wrPhaseReturn p s = accept s := by
  rw [wrPhaseReturn_open hl hu, if_neg fun out => out.elim hd hf]

end

end

/-- Settles O24: a stage by its cycles and its duty, the commands by the state they find the phase in. -/
theorem remountAndPhaseCommands : Obligations.RemountAndPhaseCommands := by
  refine ⟨fun p s up => ⟨fun hs hr hc d => ?_, fun hp hc => event_gives rfl (if_pos ⟨up, hp, hc⟩),
    fun hc d => event_gives rfl (doRemountShadowEnd_early hc d), fun hc => event_gives rfl (doRemountRampEnd_early hc)⟩, ?_⟩
  · have judged := doRemountShadowEnd_over up hs hr hc d
    refine ⟨fun agrees => event_gives rfl (judged.trans (if_pos agrees)), fun differs passes => ?_, fun differs passes => ?_⟩
    · exact event_gives rfl (judged.trans ((if_neg (Nat.not_le.2 differs)).trans (if_neg (by omega))))
    · exact event_gives rfl (judged.trans ((if_neg (Nat.not_le.2 differs)).trans (if_pos (by omega))))
  · rintro port p s _ rfl up
    have access := writeCheck_phaseCmd p s.openTick
    refine ⟨fun closed => ⟨?_, ?_⟩, fun hl hu => ⟨fun last => ?_, fun last hd => ?_, fun held out => ?_, fun free out => ?_,
      fun hd hf => ?_⟩⟩
    · exact hostRow_refuses up access (wrPhaseTakeOut_refuses (closed.imp_right .inl))
    · exact hostRow_refuses up access (wrPhaseReturn_closed closed)
    · exact hostRow_refuses up access (wrPhaseTakeOut_refuses (.inr (.inr last)))
    · exact hostRow_accepts up access (wrPhaseTakeOut_accepts hl hu last hd)
    · exact hostRow_refuses up access (wrPhaseReturn_held hl hu out held)
    · have back := wrPhaseReturn_back hl hu out free
      refine ⟨fun regulates => hostRow_accepts up access ?_, fun idles => hostRow_accepts up access ?_⟩
      · rw [back, if_pos regulates]
      · rw [back, if_neg (Bool.eq_false_iff.1 idles)]
    · exact hostRow_accepts up access (wrPhaseReturn_stays hl hu hd hf)

end Sys2Proof.Machine
end

section
/-! Phase faults (R106, R107, R109, R110) and reverse current (R115, R125). -/

namespace Sys2Proof.Machine

/-! ## A phase goes out -/

section
variable {p q c : Nat} {s : State}

theorem phaseBreach_keeps {k : Nat} (hb : k ≠ K.phaseQwBreachCnt p) (hs : k ≠ K.phaseStatus p) (hq : k ≠ K.paQwStatus) (n : Nat) :
    (phaseBreach p n s).get k = s.get k := by
  unfold phaseBreach
  split
  · split
    · dsimp only
      rw [State.get_withQw, State.get_flag_ne _ _ _ _ hq, State.get_flag_ne _ _ _ _ hs, State.get_bumpBy_ne _ _ _ _ hb]
    · rfl
  · rfl

/-- A phase as a fault leaves it, before its rail's interleave follows (R106, R107). -/
def phaseOff (p cause : Nat) (s : State) : State :=
  ((((((phaseBreach p 1 s).putPhase p .fault).put (K.phaseFaultCause p) cause).bump (K.phaseFaultCnt p)).flag
    (K.phaseStatus p) 0x20).put (K.phaseOvlBeats p) 0).setPhaseE p { s.phaseE p with passes := 0 }

theorem phaseFault_eq : phaseFault p c s = reinterleave (s.phaseE p).rail (phaseOff p c s) := rfl

/-- The entries that a phase's fault writes, beside those of the interleave. -/
def phaseFaultWrites (p : Nat) : List Nat :=
  [K.phaseQwBreachCnt p, K.paQwStatus, K.phaseState p, K.phaseFaultCause p, K.phaseFaultCnt p, K.phaseStatus p, K.phaseOvlBeats p]

theorem phaseFault_get {k : Nat} (h : k ∉ phaseFaultWrites p) (hi : offInterleave k) : (phaseFault p c s).get k = s.get k := by
  simp only [phaseFaultWrites, List.mem_cons, List.not_mem_nil, or_false, not_or] at h
  obtain ⟨breaches, windows, state, cause, count, status, beats⟩ := h
  rw [phaseFault_eq, reinterleave_keeps hi, phaseOff, State.get_setPhaseE, State.get_put_ne _ _ _ _ beats,
    State.get_flag_ne _ _ _ _ status, State.get_bump_ne _ _ _ count, State.get_put_ne _ _ _ _ cause,
    State.get_putPhase_ne _ _ _ _ state, phaseBreach_keeps breaches status windows]

theorem phaseFault_phase (p c : Nat) (s : State) : (phaseFault p c s).phase p = .fault := by
  have off : (phaseOff p c s).get (K.phaseState p) = PhaseState.fault.code := by
    rw [phaseOff, State.get_setPhaseE, State.get_put_ne _ _ _ _ (by simp), State.get_flag_ne _ _ _ _ (by simp),
      State.get_bump_ne _ _ _ (by simp), State.get_put_ne _ _ _ _ (by simp)]
    exact State.get_put_self _ _ _
  rw [State.phase, phaseFault_eq, reinterleave_keeps (offInterleave_of_low (by simp) (by simp)), off, PhaseState.ofCode_code]

theorem phaseFault_cause (p c : Nat) (s : State) : (phaseFault p c s).get (K.phaseFaultCause p) = c := by
  rw [phaseFault_eq, reinterleave_keeps (offInterleave_of_low (by simp) (by simp)), phaseOff, State.get_setPhaseE,
    State.get_put_ne _ _ _ _ (by simp), State.get_flag_ne _ _ _ _ (by simp), State.get_bump_ne _ _ _ (by simp), State.get_put_self]

theorem phaseFault_ovlBeats (p c : Nat) (s : State) : (phaseFault p c s).get (K.phaseOvlBeats p) = 0 := by
  rw [phaseFault_eq, reinterleave_keeps (offInterleave_of_low (by simp) (by simp)), phaseOff, State.get_setPhaseE,
    State.get_put_self]

theorem phaseFault_cnt (p c : Nat) (s : State) : (phaseFault p c s).get (K.phaseFaultCnt p) =
    countUp (K.phaseFaultCnt p) (bitsOf (K.phaseFaultCnt p)) (s.get (K.phaseFaultCnt p)) := by
  rw [phaseFault_eq, reinterleave_keeps (offInterleave_of_low (by simp) (by simp)), phaseOff, State.get_setPhaseE,
    State.get_put_ne _ _ _ _ (by simp), State.get_flag_ne _ _ _ _ (by simp), State.get_bump_self, State.get_put_ne _ _ _ _ (by simp),
    State.get_putPhase_ne _ _ _ _ (by simp), phaseBreach_keeps (by simp) (by simp) (by simp; omega)]

theorem phaseFault_phase_ne (hq : q < 8) (h : q ≠ p) (c : Nat) (s : State) : (phaseFault p c s).phase q = s.phase q := by
  refine congrArg PhaseState.ofCode (phaseFault_get ?_ (offInterleave_of_low (by simp) (by simp)))
  simp only [phaseFaultWrites, K.phaseQwBreachCnt, K.paQwStatus, K.phaseState, K.phaseFaultCause, K.phaseFaultCnt, K.phaseStatus,
    K.phaseOvlBeats, List.mem_cons, List.not_mem_nil, or_false, not_or]
  omega

theorem phaseFault_rail {n : Nat} (hn : n < 16) (c : Nat) (s : State) : (phaseFault p c s).rail n = s.rail n := by
  refine congrArg RailState.ofCode (phaseFault_get ?_ (offInterleave_of_low (by simp) (by simp)))
  simp only [phaseFaultWrites, K.phaseQwBreachCnt, K.paQwStatus, K.phaseState, K.phaseFaultCause, K.phaseFaultCnt, K.phaseStatus,
    K.phaseOvlBeats, K.railState, List.mem_cons, List.not_mem_nil, or_false, not_or]
  omega

theorem phaseOut_stays (h : s.canFault p = false) (c : Nat) : phaseOut p c s = s := if_neg (Bool.eq_false_iff.1 h)

/-- Outside burst on a rail that does not regulate nothing takes the place of a phase that goes out (R109). -/
theorem phaseOut_alone (hr : (s.phaseE p).rail < 16) (can : s.canFault p = true)
    (burst : s.get (K.railSubmode (s.phaseE p).rail) ≠ 1) (idle : (s.rail (s.phaseE p).rail).regulating = false) (c : Nat) :
    phaseOut p c s = phaseFault p c s := by
  rw [phaseOut, if_pos can]
  dsimp only
  rw [if_neg fun h => burst h.1, phaseFault_rail hr, idle, if_neg Bool.false_ne_true]

end

/-! ## The sources -/

section
variable {p : Nat} {s : State}

theorem switchingSource_drives (up : s.fastUp = true) (hd : s.drives p = true) (k : SrcKind) (c : Nat) :
    switchingSource k p c s = takeSource k p (phaseOut p c s) := if_pos (by rw [up, hd, Bool.and_self])

theorem doPhTsd_cool {temp : Int} (h : temp < s.get (K.phaseTSd p)) : doPhTsd p temp s = s :=
  if_neg fun ⟨hot, _⟩ => Int.not_lt.2 hot h

theorem doPhDrv_used (up : s.fastUp = true) (hu : s.phase p ≠ .unused) :
    doPhDrv p s = takeSource .phDrv p (phaseOut p 6 s) := if_pos (by rw [up, bne_iff_ne.2 hu, Bool.and_self])

theorem State.counts_of_drives (h : s.drives p = true) : s.phase p ≠ .fault ∧ s.phase p ≠ .unused := by
  rcases State.drives_iff.1 h with e | e <;> rw [e] <;> decide

/-- The overload timer after `n` beats above 10,000 mA, having risen from 0 before (R107). -/
theorem phaseRun_above (hf : s.phase p ≠ .fault) (hu : s.phase p ≠ .unused) {n : Nat} (hn : n ≠ 0)
    (hv : s.get (K.phaseOvlBeats p) ≠ 0)
    {t : State} (ht : t = (s.put (K.phaseOvlBeats p) (min 65535 (s.get (K.phaseOvlBeats p) + n))).setPhaseE p
      { s.phaseE p with under := 0 }) :
    phaseRun p (true, n) s = if 10000 ≤ s.get (K.phaseOvlBeats p) + n then switchingSource .phOvl p 2 t else t := by
  rw [ht, phaseRun, if_neg fun h => h.elim hf (·.elim hu hn), if_pos rfl, beq_eq_false_iff_ne.2 hv, when, if_neg Bool.false_ne_true]

theorem phaseRun_below (hf : s.phase p ≠ .fault) (hu : s.phase p ≠ .unused) {n : Nat} (hn : n ≠ 0) :
    phaseRun p (false, n) s = (s.put (K.phaseOvlBeats p) (s.get (K.phaseOvlBeats p) - ((s.phaseE p).under + n) / 9)).setPhaseE p
      { s.phaseE p with under := ((s.phaseE p).under + n) % 9 } := if_neg fun h => h.elim hf (·.elim hu hn)

/-- The overload timer's entry is none of those that say whether the fast plane runs and which phases drive. -/
theorem overload_view (hp : p < 8) (v : Nat) (e : PhaseEngine) :
    ((s.put (K.phaseOvlBeats p) v).setPhaseE p e).fastUp = s.fastUp ∧
      ((s.put (K.phaseOvlBeats p) v).setPhaseE p e).drives p = s.drives p := by
  have dev : (s.put (K.phaseOvlBeats p) v).dev = s.dev :=
    congrArg DevState.ofCode (State.get_put_ne _ _ _ _ (by simp only [K.devState, K.phaseOvlBeats]; omega))
  refine ⟨?_, State.drives_of_get ((State.get_setPhaseE _ _ _ _).trans (State.get_put_ne _ _ _ _ (by simp)))⟩
  exact congrArg (fun d : DevState => d.main && s.power.boot.isNone && !s.power.held) dev

theorem phaseRun_overload (hp : p < 8) (up : s.fastUp = true) (hd : s.drives p = true) {n : Nat} (hn : n ≠ 0)
    (hv : s.get (K.phaseOvlBeats p) ≠ 0) (ho : 10000 ≤ s.get (K.phaseOvlBeats p) + n) {t : State}
    (ht : t = (s.put (K.phaseOvlBeats p) (min 65535 (s.get (K.phaseOvlBeats p) + n))).setPhaseE p { s.phaseE p with under := 0 }) :
    phaseRun p (true, n) s = takeSource .phOvl p (phaseOut p 2 t) := by
  obtain ⟨hf, hu⟩ := State.counts_of_drives hd
  obtain ⟨fast, drives⟩ := overload_view (s := s) hp (min 65535 (s.get (K.phaseOvlBeats p) + n)) { s.phaseE p with under := 0 }
  rw [← ht] at fast drives
  rw [phaseRun_above hf hu hn hv ht, if_pos ho, switchingSource_drives (fast.trans up) (drives.trans hd)]

/-- After a reverse current the ORing FET is off (R115). -/
theorem orgate_reversed {n : Nat} (h : (s.railE n).reversed = true) : (orgate n s).get (K.railOrgate n) = 0 := by
  rw [orgate, h, Bool.not_true, Bool.and_false, Bool.false_and, State.get_put_self, if_neg Bool.false_ne_true]

theorem State.railE_setRailE {n : Nat} (hn : n < 16) (e : RailEngine) : (s.setRailE n e).railE n = e := by
  simp [State.railE, State.setRailE, hn]

end

/-- Settles O21: each source by its ground, and a phase that goes out by the entries of its fault. -/
theorem phaseFaults : Obligations.PhaseFaults := by
  refine ⟨fun p s up => ⟨fun hd => ?_, fun l => event_gives rfl (if_pos up), fun n t hd hv ho ht hn => ?_, fun n hf hu hn => ?_,
    fun hu => ⟨fun temp ht hh => ?_, fun temp ht => ?_, ?_⟩⟩,
    fun n s up => ⟨fun hr hd => ?_, fun m sum beats => ⟨fun ho hs hb => ?_, fun hs => ?_⟩⟩, fun p c s _ hr =>
    ⟨fun can burst idle => ?_, fun stays => phaseOut_stays stays c⟩⟩
  · have goes := switchingSource_drives up hd
    refine ⟨fun cycles i beats h => ?_, fun cycles h => ?_, fun cycles h => ?_, fun diff cycles h hc => ?_⟩
    · exact event_gives rfl ((if_pos h).trans (goes .phOc 1))
    · exact event_gives rfl ((if_pos h).trans (goes .phNeg 3))
    · exact event_gives rfl ((if_pos h).trans (goes .phSw 5))
    · exact event_gives rfl ((if_pos ⟨h, hc⟩).trans (goes .phImbal 7))
  · exact phaseRun_overload p.isLt up hd hn hv ho ht
  · exact phaseRun_below hf hu hn
  · exact event_gives rfl (if_pos ⟨ht, hh, up, hu⟩)
  · exact event_gives rfl (doPhTsd_cool ht)
  · exact event_gives rfl (doPhDrv_used up hu)
  · have number : SrcKind.railPhLost.number n.val = 0x2800 + n.val :=
      SrcKind.number_of_lt .railPhLost (Nat.lt_trans n.isLt (by decide))
    rw [← number]
    exact event_gives rfl (if_pos ⟨up, hr, List.isEmpty_iff.2 hd⟩)
  · exact ⟨event_gives rfl (if_pos ⟨up, ho, hs, hb⟩), orgate_reversed (by rw [State.railE_setRailE m.isLt])⟩
  · exact event_gives rfl (if_neg fun ⟨_, _, h, _⟩ => Int.not_lt.2 hs h)
  · rw [phaseOut_alone (Nat.lt_trans hr (by decide)) can burst idle]
    exact ⟨phaseFault_phase p c s, phaseFault_cause p c s, phaseFault_ovlBeats p c s, phaseFault_cnt p c s,
      fun q hq h => phaseFault_phase_ne hq h c s, fun n hn => phaseFault_rail hn c s⟩

end Sys2Proof.Machine
end

section
/-! Quiet windows (R41, R100 to R105). -/

namespace Sys2Proof.Machine

/-! ## The windows due in a beat -/

section
variable {s : State} {k j : Fin 8}

theorem State.dueWindows_up (up : s.fastUp = true) : s.dueWindows = (List.finRange 8).filter (fun k => s.windowDue k.val) := by
  have windows : ([0, 1, 2, 3, 4, 5, 6, 7] : List (Fin 8)) = List.finRange 8 := by decide
  rw [State.dueWindows, if_pos up, windows]

theorem State.mem_dueWindows (up : s.fastUp = true) : j ∈ s.dueWindows ↔ s.windowDue j.val = true := by
  rw [State.dueWindows_up up, List.mem_filter]
  exact and_iff_right (List.mem_finRange j)

theorem State.dueWindows_ascending (up : s.fastUp = true) : s.dueWindows.Pairwise (· < ·) := by
  rw [State.dueWindows_up up]
  exact List.Pairwise.filter _ (by decide)

/-- The first of an ascending list is its least. -/
theorem head?_eq_some_iff_least {α : Type} [LinearOrder α] {l : List α} {a : α} (asc : l.Pairwise (· < ·)) (ha : a ∈ l) :
    l.head? = some a ↔ ∀ b ∈ l, a ≤ b := by
  cases l with
  | nil => exact absurd ha List.not_mem_nil
  | cons c l =>
    have first : ∀ b ∈ l, c < b := (List.pairwise_cons.1 asc).1
    rw [List.head?_cons, Option.some.injEq]
    refine ⟨fun e b hb => ?_, fun least => ?_⟩
    · subst e
      rcases List.mem_cons.1 hb with rfl | hb
      · exact le_rfl
      · exact (first b hb).le
    · rcases List.mem_cons.1 ha with rfl | ha
      · rfl
      · exact absurd (first a ha) (least c List.mem_cons_self).not_gt

theorem State.lowestWindow_iff (up : s.fastUp = true) (hd : s.windowDue j.val = true) :
    (s.dueWindows.head? == some j) = true ↔ ∀ i : Fin 8, s.windowDue i.val = true → j ≤ i := by
  rw [beq_iff_eq, head?_eq_some_iff_least (State.dueWindows_ascending up) ((State.mem_dueWindows up).2 hd)]
  exact forall_congr' fun i => imp_congr_left (State.mem_dueWindows up)

/-- A window's item in the order of R41: the lowest window due is the one that may open (R102). -/
theorem State.mem_windowItems (up : s.fastUp = true) (u r : Nat) (may : Bool) :
    (u, r, StrideItem.window may j) ∈ s.windowItems ↔ s.windowDue j.val = true ∧
      u = (if s.windowUnit j.val = 4096 then 0 else s.windowUnit j.val) ∧ r = K.qwCtrl j.val ∧
      (may = true ↔ ∀ i : Fin 8, s.windowDue i.val = true → j ≤ i) := by
  have item : (u, r, StrideItem.window may j) ∈ s.windowItems ↔ ∃ i ∈ s.dueWindows,
      ((if s.windowUnit i.val = 4096 then 0 else s.windowUnit i.val), K.qwCtrl i.val,
        StrideItem.window (s.dueWindows.head? == some i) i) = (u, r, .window may j) := List.mem_map
  rw [item]
  constructor
  · rintro ⟨i, due, e⟩
    obtain ⟨rfl, rfl, rfl, rfl⟩ := by simpa only [Prod.mk.injEq, StrideItem.window.injEq] using e
    have hd := (State.mem_dueWindows up).1 due
    exact ⟨hd, rfl, rfl, State.lowestWindow_iff up hd⟩
  · rintro ⟨hd, rfl, rfl, lowest⟩
    refine ⟨j, (State.mem_dueWindows up).2 hd, ?_⟩
    rw [Bool.eq_iff_iff.2 ((State.lowestWindow_iff up hd).trans lowest.symm)]

/-- A window that has been taken is no longer due in its beat (R41). -/
theorem State.windowDue_taken (s : State) (k : Nat) : (s.unitTaken (s.windowUnit k) (K.qwCtrl k)).windowDue k = false := by
  have taken (u : Nat) : ((u, K.qwCtrl k) :: s.stride.acted).contains (u, K.qwCtrl k) = true := by
    rw [List.contains_cons, beq_self_eq_true, Bool.true_or]
  have unit : (s.unitTaken (s.windowUnit k) (K.qwCtrl k)).stride.acted = (s.windowUnit k, K.qwCtrl k) :: s.stride.acted := rfl
  have entries (i : Nat) : (s.unitTaken (s.windowUnit k) (K.qwCtrl k)).get i = s.get i := rfl
  rw [State.windowDue, entries, entries, entries, State.unitDue, unit]
  by_cases timed : bitOf (s.get (K.qwCtrl k)) 30 = true
  · have none_of : s.windowUnit k = 4096 := if_pos timed
    rw [if_pos timed, none_of, taken, Bool.not_true, Bool.and_false, Bool.and_false]
  · have placed : s.windowUnit k = s.get (K.qwPos k) := if_neg timed
    rw [if_neg timed, placed, taken, Bool.not_true, Bool.and_false, Bool.and_false]

end

/-! ## Opening -/

section
variable {s : State} {k : Fin 8}

/-- What a window shows: the dictionary, the open window and the pins. -/
def State.windowView (s : State) : Dict × QuietWindows × Pins := (s.od, s.qw, s.pins)

theorem State.get_of_windowView {s t : State} (h : t.windowView = s.windowView) (k : Nat) : t.get k = s.get k :=
  congrArg (fun v : Dict × QuietWindows × Pins => lookupD v.1 k (dflt k)) h

theorem State.heldStill_of_windowView {s t : State} (h : t.windowView = s.windowView) (p : Nat) : t.heldStill p = s.heldStill p := by
  have drives : t.drives p = s.drives p := State.drives_of_get (State.get_of_windowView h _)
  have window : t.qw = s.qw := congrArg (·.2.1) h
  rw [State.heldStill, State.heldStill, window, drives]

theorem stretchStage_windowView (len p : Nat) (s : State) : (stretchStage len p s).windowView = s.windowView := by
  rw [stretchStage]
  dsimp only
  split <;> rfl

theorem rhBlank_windowView (k : Fin 8) (s : State) : (rhBlank k s).windowView = s.windowView := by
  unfold rhBlank
  split
  · exact (apply_ite State.windowView _ _ _).trans (ite_self s.windowView)
  · rfl

/-- The length of window `k` in 10 ns (R100). -/
def State.windowLen (s : State) (k : Nat) : Nat := field (s.get (K.qwCtrl k)) 0 8

/-- A window as it opens with no phase exempt, before it stretches the stages of a remount (R100, R101, R103, R130). -/
def windowOpened (k : Fin 8) (s : State) : State :=
  let t := (s.bump K.paQwOpenCnt).flag K.paQwStatus 1
  { t with
    qw := { s.qw with
      openK := some k, closeAt := s.beat * 100 + s.windowLen k.val, breached := false
      still := BitVec.ofNat 8 (s.windowMask k.val)
      stillXb := BitVec.ofNat 4 (maskOf ((upto 4).filter fun c => bitOf (s.get (K.xbQwHold c)) k.val)), exempt := 0 }
    pins := { s.pins with quiet := true } }

/-- The phases that a window of its mask finds driving their rail are none of them exempt from it (R104). -/
def State.noneExempt (s : State) (k : Nat) : Prop :=
  ∀ p, p < 8 → s.drives p = true → (s.windowMask k).testBit p = true → s.exempt (s.windowLen k) p = false

theorem windowOpens_noneExempt (h : s.noneExempt k.val) :
    windowOpens k s = each (upto 8) (stretchStage (s.windowLen k.val)) (windowOpened k s) := by
  have none_exempt : (upto 8).filter (fun p => s.drives p && bitOf (s.windowMask k.val) p && s.exempt (s.windowLen k.val) p) = [] := by
    refine List.filter_eq_nil_iff.2 fun p hp => ?_
    rw [Bool.and_eq_true, Bool.and_eq_true]
    rintro ⟨⟨drives, named⟩, ex⟩
    exact Bool.eq_false_iff.1 (h p (List.mem_range.1 hp) drives named) ex
  unfold State.windowLen at none_exempt
  rw [windowOpens]
  dsimp only
  rw [none_exempt]
  rfl

theorem windowOpens_windowView (h : s.noneExempt k.val) : (windowOpens k s).windowView = (windowOpened k s).windowView := by
  rw [windowOpens_noneExempt h]
  exact each_keeps _ _ State.windowView _ fun p _ t => stretchStage_windowView _ p t

theorem windowOpened_get {i : Nat} (hc : i ≠ K.paQwOpenCnt) (hs : i ≠ K.paQwStatus) : (windowOpened k s).get i = s.get i :=
  (State.get_flag_ne _ _ _ _ hs).trans (State.get_bump_ne _ _ _ hc)

theorem windowOpened_cnt : (windowOpened k s).get K.paQwOpenCnt =
    countUp K.paQwOpenCnt (bitsOf K.paQwOpenCnt) (s.get K.paQwOpenCnt) :=
  (State.get_flag_ne _ _ _ _ (by decide)).trans (State.get_bump_self _ _)

theorem windowOpened_heldStill {p : Nat} (hp : p < 8) :
    (windowOpened k s).heldStill p = (s.drives p && (s.windowMask k.val).testBit p) := by
  have drives : (windowOpened k s).drives p = s.drives p := State.drives_of_get
    (windowOpened_get (by simp only [K.phaseState, K.paQwOpenCnt]; omega) (by simp only [K.phaseState, K.paQwStatus]; omega))
  have named : (windowOpened k s).qw.still.getLsbD p = (s.windowMask k.val).testBit p := by
    have still : (windowOpened k s).qw.still = BitVec.ofNat 8 (s.windowMask k.val) := rfl
    rw [still, BitVec.getLsbD_ofNat, decide_eq_true hp, Bool.true_and]
  have opened : (windowOpened k s).qw.openK.isSome = true := rfl
  have none_exempt : (windowOpened k s).qw.exempt.getLsbD p = false := BitVec.getLsbD_zero
  rw [State.heldStill, opened, named, none_exempt, drives, Bool.true_and, Bool.not_false, Bool.and_true, Bool.and_comm]

/-! ## A window that is due -/

theorem closeBy_keeps {x : Nat} (h : s.qw.openK = none ∨ x < s.qw.closeAt) : closeBy x s = s := by
  refine if_neg fun ⟨opened, ended⟩ => ?_
  rcases h with none_open | later
  · rw [none_open] at opened
    exact Bool.false_ne_true opened
  · exact Nat.not_le.2 later ended

theorem closeBy_ends {x : Nat} (ho : s.qw.openK ≠ none) (hx : s.qw.closeAt ≤ x) : closeBy x s = windowEnds s :=
  if_pos ⟨Option.isSome_iff_ne_none.2 ho, hx⟩

/-- Window `k` is taken in its beat (R41). -/
def windowTaken (k : Fin 8) (s : State) : State := s.unitTaken (s.windowUnit k.val) (K.qwCtrl k.val)

/-- No window ends in this beat before window `k` has its turn. -/
theorem openWindow_due (up : s.fastUp = true) (hd : s.windowDue k.val = true)
    (h : s.qw.openK = none ∨ s.clock.beat * 100 < s.qw.closeAt) (may : Bool) : openWindow may k s =
      if !may || s.windowBlocked then raiseLater .qwDrop k.val (((windowTaken k s).bump K.paQwDropCnt).flag K.paQwStatus 2)
      else rhBlank k (windowOpens k (windowTaken k s)) := by
  have kept : closeBy (s.beat * 100) (windowTaken k s) = windowTaken k s := closeBy_keeps h
  rw [openWindow, if_pos ⟨up, hd⟩]
  dsimp only
  rw [← windowTaken, kept]
  rfl

theorem openWindow_opens (up : s.fastUp = true) (hd : s.windowDue k.val = true) (free : s.windowBlocked = false)
    (h : s.noneExempt k.val) : (openWindow true k s).windowView = (windowOpened k s).windowView := by
  have none_open : s.qw.openK = none :=
    Option.isNone_iff_eq_none.1 (Option.isSome_eq_false_iff.1 (Bool.or_eq_false_iff.1 free).1)
  have none_exempt : (windowTaken k s).noneExempt k.val := h
  rw [openWindow_due up hd (.inl none_open), free, Bool.not_true, Bool.or_self, if_neg Bool.false_ne_true, rhBlank_windowView,
    windowOpens_windowView none_exempt]
  rfl

/-! ## Closing and breaches -/

theorem each_fixed {α : Type} {l : List α} {f : α → State → State} (h : ∀ a ∈ l, f a s = s) : each l f s = s := by
  unfold each
  induction l with
  | nil => rfl
  | cons a l ih => rw [List.foldl_cons, h a List.mem_cons_self, ih fun b hb => h b (List.mem_cons_of_mem _ hb)]

/-- A window closes as no burst waits for its end (R100, R101, R103). -/
theorem windowEnds_unheld (h : ∀ n, n < 8 → (s.railE n).burstHeld = false) : windowEnds s = { s with
    qw := { s.qw with openK := none, lastClose := some s.qw.closeAt, still := 0, stillXb := 0, exempt := 0 }
    pins := { s.pins with quiet := false } } :=
  each_fixed fun n hn => if_neg (Bool.eq_false_iff.1 (h n (List.mem_range.1 hn)))

theorem phaseBreach_counted {p n : Nat} (ho : s.qw.openK = some k) (hn : n ≠ 0) (named : s.qw.still.getLsbD p = true)
    (hd : s.drives p = true) : phaseBreach p n s =
      let t := ((s.bumpBy (K.phaseQwBreachCnt p) n).flag (K.phaseStatus p) 8).flag K.paQwStatus 4
      { t with qw := { t.qw with breachDue := if t.qw.breached then none else some k } } := by
  rw [phaseBreach, ho]
  exact if_pos ⟨hn, named, hd⟩

theorem phaseBreach_cnt {p n : Nat} (ho : s.qw.openK = some k) (hn : n ≠ 0) (named : s.qw.still.getLsbD p = true)
    (hd : s.drives p = true) :
    (phaseBreach p n s).get (K.phaseQwBreachCnt p) = (s.bumpBy (K.phaseQwBreachCnt p) n).get (K.phaseQwBreachCnt p) := by
  rw [phaseBreach_counted ho hn named hd]
  dsimp only
  rw [State.get_withQw, State.get_flag_ne _ _ _ _ (by simp; omega), State.get_flag_ne _ _ _ _ (by simp)]

theorem State.bumpBy_qw (s : State) (i n : Nat) : (s.bumpBy i n).qw = s.qw := by
  induction n generalizing s with
  | zero => rfl
  | succ n ih => exact ih (s.bump i)

theorem phaseBreach_due {p n : Nat} (ho : s.qw.openK = some k) (hn : n ≠ 0) (named : s.qw.still.getLsbD p = true)
    (hd : s.drives p = true) : (phaseBreach p n s).qw.breachDue = if s.qw.breached then none else some k := by
  rw [phaseBreach_counted ho hn named hd]
  dsimp only
  rw [State.flag_qw, State.flag_qw, State.bumpBy_qw]

end

/-- Settles O23: the items of the windows due, one window's turn by what stands open, and its edges by its mask. -/
theorem quietWindows : Obligations.QuietWindows := by
  intro k s up
  refine ⟨?_, fun u r may j => State.mem_windowItems up u r may, fun hd free none_exempt => ?_, fun may u hd hu h => ?_,
    fun may hd => ?_, s.windowDue_taken k.val, fun ho hx => event_gives rfl (closeBy_ends ho hx),
    fun h => event_gives rfl (closeBy_keeps h), windowEnds_unheld, fun p n ho hn named hd => ?_⟩
  · rintro edges xbEdges _ rfl
    refine ⟨fun before after => event_gives rfl ?_, fun h => event_gives rfl ?_⟩
    · rw [doQwOpen, if_pos ⟨before, after⟩]
    · rw [doQwOpen, if_neg fun ⟨before, after⟩ => h.elim before (· after)]
  · have view := openWindow_opens up hd free none_exempt
    have window : (openWindow true k s).qw = (windowOpened k s).qw := congrArg (·.2.1) view
    have pins : (openWindow true k s).pins = (windowOpened k s).pins := congrArg (·.2.2) view
    refine ⟨_, rfl, by rw [window]; rfl, by rw [pins]; rfl, by rw [window]; rfl, by rw [window]; rfl, fun p hp => ?_, ?_,
      fun i hi => ?_⟩
    · rw [State.heldStill_of_windowView view, windowOpened_heldStill hp]
    · rw [State.get_of_windowView view, windowOpened_cnt]
    · simp only [List.mem_cons, List.not_mem_nil, or_false, not_or] at hi
      obtain ⟨count, status⟩ := hi
      rw [State.get_of_windowView view, windowOpened_get count status]
  · subst hu
    have dropped : (!may || s.windowBlocked) = true := by
      rcases h with ⟨other, -⟩ | ⟨opened, -⟩
      · rw [other]
        rfl
      · rw [State.windowBlocked, Option.isSome_iff_ne_none.2 opened, Bool.true_or, Bool.or_true]
    rw [openWindow_due up hd (h.imp And.right And.right), if_pos dropped]
    rfl
  · exact if_neg fun ⟨_, due⟩ => Bool.eq_false_iff.1 hd due
  · have due := phaseBreach_due ho hn named hd
    refine ⟨phaseBreach_cnt ho hn named hd, fun first => ?_, fun later => ?_⟩
    · rw [due, first]
      rfl
    · rw [due, later]
      rfl

end Sys2Proof.Machine
end

section
/-! Buck-boost channels (R127 to R132), LDOs and the always-on L0 (R134 to R138). -/

namespace Sys2Proof.Machine

/-! ## Regions of a channel -/

/-- Where IBUS is there, BUCK asks for BUCKBOOST at D ≥ 0.85 (R127). -/
theorem regionOf_buck {ibus : Nat} (h : ibus ≠ 0) (ref : Nat) : regionOf 0 ref ibus = if 85 * ibus ≤ ref * 250 then 1 else 0 :=
  if_neg h

/-- BUCKBOOST gives way to BUCK at D ≤ 0.80 and to BOOST at D ≥ 1.20 (R127). -/
theorem regionOf_buckboost {ibus : Nat} (h : ibus ≠ 0) (ref : Nat) : regionOf 1 ref ibus =
    if ref * 250 ≤ 80 * ibus then 0 else if 120 * ibus ≤ ref * 250 then 2 else 1 := if_neg h

/-- BOOST asks for BUCKBOOST at D ≤ 1.15 (R127). -/
theorem regionOf_boost {ibus : Nat} (h : ibus ≠ 0) (ref : Nat) : regionOf 2 ref ibus = if ref * 250 ≤ 115 * ibus then 1 else 2 :=
  if_neg h

section
variable {c : Nat} {s : State}

theorem setRegion_region (c x : Nat) (s : State) : (setRegion c x s).get (K.xbRegion c) = x := by
  rw [setRegion, State.get_setXbE, State.get_flag_ne _ _ _ _ (by simp), State.get_bump_ne _ _ _ (by simp), State.get_put_self]

theorem setRegion_cnt (c x : Nat) (s : State) : (setRegion c x s).get (K.xbRegionCnt c) =
    countUp (K.xbRegionCnt c) (bitsOf (K.xbRegionCnt c)) (s.get (K.xbRegionCnt c)) := by
  rw [setRegion, State.get_setXbE, State.get_flag_ne _ _ _ _ (by simp), State.get_bump_self, State.get_put_ne _ _ _ _ (by simp)]

theorem State.xbE_setXbE (hc : c < 4) (e : XbEngine) (s : State) : (s.setXbE c e).xbE c = e := by
  simp [State.xbE, State.setXbE, hc]

/-- A channel that has stopped keeps its region, and a condition that it counted is void (R127). -/
theorem xbBeat_stopped (hc : c < 4) (stopped : s.xbWorks c = false) :
    (xbBeat c s).get (K.xbRegion c) = s.get (K.xbRegion c) ∧ ((xbBeat c s).xbE c).regBeats = 0 := by
  rw [xbBeat]
  dsimp only
  rw [stopped, if_neg Bool.false_ne_true]
  split
  · next none_counted => exact ⟨rfl, none_counted⟩
  · rw [State.get_setXbE, State.xbE_setXbE hc]
    exact ⟨rfl, rfl⟩

/-- What a sample of IBUS that has stood for `beats` beats does to a channel at work: IBUS is taken, and the region changes where
its ratio has asked for another one in 8 beats (R127). -/
theorem doXbRegionChange_works (works : s.xbWorks c = true) (ibus beats : Nat) {u : State}
    (hu : u = { s with divider := { s.divider with ibusNow := ibus } }) {x : Nat}
    (hx : x = regionOf (s.get (K.xbRegion c)) (s.railRef (8 + c)) ibus) :
    doXbRegionChange c ibus beats s = if x ≠ s.get (K.xbRegion c) ∧ 8 ≤ beats then setRegion c x u else u := by
  have up : s.fastUp = true := by
    rw [State.xbWorks, Bool.and_eq_true] at works
    exact works.1
  have sampled : u.xbWorks c = true := by rw [hu]; exact works
  have region : u.get (K.xbRegion c) = s.get (K.xbRegion c) := by rw [hu]; rfl
  have reference : u.railRef (8 + c) = s.railRef (8 + c) := by rw [hu]; rfl
  rw [doXbRegionChange, if_pos up, ← hu, sampled, region, reference, ← hx]
  simp only [true_and]

/-! ## Sources of a channel -/

theorem xbSwitching_driven (up : s.fastUp = true) (driven : (s.rail (8 + c)).driven = true) (k : SrcKind) (cause : Nat) :
    xbSwitching k c cause s = xbSource k c cause s := if_pos (by rw [up, driven, Bool.and_self])

/-- A peak in 16 consecutive cycles shows in STATUS and is a source (R132, R143). -/
theorem doXbPk_sixteen (up : s.fastUp = true) (driven : (s.rail (8 + c)).driven = true) {n : Nat} (h : 16 ≤ n) :
    doXbPk c n s = xbSource .xbPk c 1 (s.flag (K.xbStatus c) 2) :=
  (if_pos ⟨up, driven, Nat.ne_of_gt (Nat.lt_of_lt_of_le (by decide) h)⟩).trans (if_pos h)

end

/-! ## Sources of the LDOs -/

section
variable {l : Nat} {s : State}

theorem doLdoInUv_low (up : s.fastUp = true) (hl : l < 4) (hr : s.rail (12 + l) ≠ .off) {ldoin beats : Nat} (low : ldoin < 1400)
    (long : 4 ≤ beats) : doLdoInUv l ldoin beats s = takeSource .ldoInUv l (ldoOff (0x3800 + l) 1 l s) := by
  have number : SrcKind.ldoInUv.number l = 0x3800 + l := SrcKind.number_of_lt .ldoInUv (Nat.lt_trans hl (by decide))
  rw [← number]
  exact (if_neg fun h => h.elim hr (·.elim (Nat.not_le.2 low) (Nat.not_lt.2 long))).trans (if_pos up)

theorem doLdoInUv_stays {ldoin beats : Nat} (h : 1400 ≤ ldoin ∨ beats < 4) : doLdoInUv l ldoin beats s = s := if_pos (.inr h)

/-- The limit that has held turns off an LDO that is not always-on (R134, R138). -/
theorem doLdoCl_held (up : s.fastUp = true) (hl : l < 4) (held : s.get (K.ldoClTime l) ≤ (s.railE (12 + l)).clCount)
    (first : (s.railE (12 + l)).limited = false) (can : s.canRailFault (12 + l) = true) (switched : s.alwaysOn (12 + l) = false) :
    doLdoCl l s = takeSource .ldoCl l (ldoOff (0x3900 + l) 2 l
      (s.setRailE (12 + l) { s.railE (12 + l) with limited := true })) := by
  have number : SrcKind.ldoCl.number l = 0x3900 + l := SrcKind.number_of_lt .ldoCl (Nat.lt_trans hl (by decide))
  rw [← number]
  refine (if_pos ⟨up, held, first, can⟩).trans ?_
  rw [switched, if_neg Bool.false_ne_true]

theorem doLdoTsd_hot (up : s.fastUp = true) {temp : Int} (h : (s.get K.ldoTSd : Int) ≤ temp) (first : s.ao.ldoHot = false) :
    doLdoTsd temp s =
      takeSource .ldoTsd 0 (each (upto 4) (fun l u => ldoOff 0x3A00 3 l u) { s with ao := { s.ao with ldoHot := true } }) :=
  (if_neg fun h' => h'.elim (Int.not_lt.2 h) (Bool.eq_false_iff.1 first)).trans (if_pos up)

end

/-! ## The always-on L0 -/

section
variable {s : State}

theorem State.dev_ne_off_of_fastUp (up : s.fastUp = true) : s.dev ≠ .off := fun off => by
  have main := State.fastUp_main up
  rw [off] at main
  exact Bool.false_ne_true main

/-- What clears the cause that turned L0 off: LDOIN0 for its undervoltage, else the sensor (R137). -/
theorem State.aoCleared_of {ldoin : Nat} {temp : Int} (h : (s.ao.blockedBy = some 1 ∧ s.aoGood ldoin = true) ∨
    ∃ x, s.ao.blockedBy = some x ∧ x ≠ 1 ∧ temp ≤ (s.get K.ldoTSd : Int) - 150) : s.aoCleared ldoin temp = true := by
  rcases h with ⟨inUv, good⟩ | ⟨x, other, not_inUv, cool⟩
  · rw [State.aoCleared, inUv]
    exact good
  · rw [State.aoCleared, other]
    split
    · next is_inUv => exact absurd (Option.some.inj is_inUv) not_inUv
    · exact decide_eq_true cool
    · next nothing => exact absurd nothing (Option.some_ne_none x)

theorem aoBegin_cool (h : s.ao.ldoHot = false) : aoBegin s = aoStart s := if_neg (Bool.eq_false_iff.1 h)

theorem aoBegin_hot (h : s.ao.ldoHot = true) :
    aoBegin s = { s with ao := { s.ao with blockedBy := some 3, clearedAt := none } } := if_pos h

theorem aoStart_untargeted (h : s.bk.l0Vset = 0) : aoStart s = s := if_pos h

/-- L0 in SOFTSTART with the target of its copy, free of the cause that turned it off (R136, R137). -/
def aoSoftstart (s : State) : State :=
  let t := (setRail 12 .softstart s).setRailE 12 { s.railE 12 with vsetUse := s.bk.l0Vset, entered := s.beat }
  { t with ao := { t.ao with blockedBy := none, clearedAt := none } }

theorem aoStart_targeted (h : s.bk.l0Vset ≠ 0) : aoStart s =
    if s.bk.l0Vset * 5 ≤ s.railVout 12 * 2 then
      railToOn 12 (aimRail 12 s.bk.l0Vset s.bk.l0Vset s.bk.l0Vset s.bk.l0SsTime (aoSoftstart s))
    else aimRail 12 (s.railVout 12 * 2 / 5) s.bk.l0Vset s.bk.l0Vset s.bk.l0SsTime (aoSoftstart s) := if_neg h

theorem State.get_withAo (s : State) (a : AlwaysOn) (k : Nat) : ({ s with ao := a } : State).get k = s.get k := (rfl)

theorem aoSoftstart_rail (s : State) : (aoSoftstart s).rail 12 = .softstart := by
  unfold State.rail aoSoftstart
  dsimp only
  rw [State.get_withAo, State.get_setRailE]
  exact setRail_rail 12 .softstart s (by decide)

theorem recount_ao (m : Nat) (f : State → State) (s : State) : (recount m f s).ao = (f s).ao := by
  unfold recount
  dsimp only
  split <;> rfl

theorem keepLevels_ao (m levels : Nat) (s : State) : (keepLevels m levels s).ao = s.ao :=
  each_keeps _ _ State.ao _ fun _ _ _ => rfl

/-- A state that forces no GOOD to 0 only ends the conditions that it no longer evaluates (R149). -/
theorem superviseState_unforced {x : RailState} (h : x.forcesGood = false) (n : Nat) (s : State) :
    superviseState n x s = keepLevels n x.levels s := if_neg (Bool.eq_false_iff.1 h)

/-- ON neither ends a health run nor forces GOOD to 0 (R149, R163). -/
theorem setRail_on_ao (n : Nat) (s : State) : (setRail n .on s).ao = s.ao := by
  have running : when (!RailState.on.regulating) (rhStops n) s = s := if_neg Bool.false_ne_true
  rw [setRail]
  dsimp only
  rw [running, orgate, State.put_ao, State.setRailE_ao, recount_ao, superviseState_unforced rfl, keepLevels_ao, State.putRail,
    State.put_ao]

theorem railToOn_ao (n : Nat) (s : State) : (railToOn n s).ao = s.ao := by
  rw [railToOn, blankUv]
  dsimp only
  rw [State.setSupE_ao, State.flag_ao, setRail_on_ao]

/-- A start with a target frees L0 of the cause that turned it off, whichever state it enters. -/
theorem aoStart_blockedBy (h : s.bk.l0Vset ≠ 0) : (aoStart s).ao.blockedBy = none := by
  rw [aoStart_targeted h]
  split
  · rw [railToOn_ao]
    rfl
  · rfl

theorem aoStart_rail (h : s.bk.l0Vset ≠ 0) :
    (aoStart s).rail 12 = if s.bk.l0Vset * 5 ≤ s.railVout 12 * 2 then .on else .softstart := by
  rw [aoStart_targeted h]
  split
  · exact railToOn_rail (by decide)
  · rw [aimRail_rail, aoSoftstart_rail]

end

/-- Settles O25: each channel's and LDO's source by its ground, the regions by their ratio, and the starts of L0 by what holds it
off. -/
theorem auxiliaryRails : Obligations.AuxiliaryRails := by
  refine ⟨fun c s up => ⟨fun ibus beats x u works hu hx => ?_, xbBeat_stopped c.isLt,
    fun x _ => ⟨setRegion_region c.val x s, setRegion_cnt c.val x s⟩,
    fun ref ibus bus => ⟨regionOf_buck bus ref, regionOf_buckboost bus ref, regionOf_boost bus ref⟩, fun driven => ?_,
    fun temp hot first => event_gives rfl (if_pos ⟨up, first, hot⟩), event_gives rfl (if_pos up),
    fun on steady low => event_gives rfl (if_pos ⟨up, on, steady, low⟩)⟩,
    fun s up => ⟨fun l ldoin beats hr low long => event_gives rfl (doLdoInUv_low up l.isLt hr low long),
      fun l ldoin beats h => event_gives rfl (doLdoInUv_stays h),
      fun l held first can switched => event_gives rfl (doLdoCl_held up l.isLt held first can switched),
      fun temp hot first => event_gives rfl (doLdoTsd_hot up hot first),
      fun ldoin temp ms on waited cleared =>
        event_gives rfl (if_pos ⟨State.dev_ne_off_of_fastUp up, on, State.aoCleared_of cleared, waited⟩),
      fun ldoin on free down good => event_gives rfl (if_pos ⟨State.dev_ne_off_of_fastUp up, on, free, down, good⟩),
      aoBegin_cool, aoBegin_hot, aoStart_untargeted,
      fun target => ⟨aoStart_blockedBy target, fun reached => ?_, fun below => ?_⟩⟩⟩
  · have sampled := doXbRegionChange_works works ibus beats hu hx
    refine ⟨fun other long => event_gives rfl (sampled.trans (if_pos ⟨other, long⟩)), fun h => event_gives rfl (sampled.trans ?_)⟩
    exact if_neg fun ⟨other, long⟩ => h.elim other (Nat.not_lt.2 long)
  · have switching := xbSwitching_driven up driven
    refine ⟨fun held => ?_, fun n many => ?_, fun n many => ?_, fun n many => ?_⟩
    · exact event_gives rfl ((if_pos held).trans (switching .xbCl 2))
    · exact event_gives rfl (doXbPk_sixteen up driven many)
    · exact event_gives rfl ((if_pos many).trans (switching .xbSw 4))
    · exact event_gives rfl ((if_pos many).trans (switching .xbNeg 6))
  · exact (aoStart_rail target).trans (if_pos reached)
  · exact (aoStart_rail target).trans (if_neg (Nat.not_le.2 below))

end Sys2Proof.Machine
end

section
/-! Rail health (R157 to R168): its requests, the arbiter, what the engine adds to a reference, and its states up to the results. -/

namespace Sys2Proof.Machine

/-! ## Requests -/

section
variable {s : State} {port : Port} {k i v : Nat}

theorem writeCheck_rhRun (s : State) : writeCheck K.rhRun s = none := writeCheck_of_wo s (by decide +kernel)
theorem writeCheck_rhCommission (s : State) : writeCheck K.rhCommission s = none := writeCheck_of_wo s (by decide +kernel)

/-- A command whose outcome is that of an effect at the boundary gives what the effect does there. -/
theorem atTick_gives {c : Instr} {f : State → State} {t : State} (row : exec c s = atTick f s) (up : s.openTick.coreUp = true)
    (h : f s.openTick = t) : GivesAtTick c s t := by
  subst h
  exact row.trans (if_pos up)

theorem startJob_stalled (stalled : s.dev = .stall) (no : jobInStall k = false) (f : Nat → State → State) :
    startJob port k f s = refuse Abort.state s :=
  if_pos ⟨stalled, no⟩

theorem State.jobAllot_rh : (s.jobAllot port k i).rh = s.rh := by simp only [State.jobAllot, State.flag_rh, State.put_rh]

theorem wrRhRun_noRail (h : 11 < v) : wrRhRun port v s = refuse Abort.value s := if_pos h

theorem wrRhRun_busy (h : v ≤ 11) (busy : s.rhRunJob = true) : wrRhRun port v s = refuse Abort.state s :=
  (if_neg (Nat.not_lt.2 h)).trans (if_pos busy)

theorem wrRhRun_stalled (h : v ≤ 11) (stalled : s.dev = .stall) : wrRhRun port v s = refuse Abort.state s := by
  by_cases busy : s.rhRunJob = true
  · exact wrRhRun_busy h busy
  · exact (if_neg (Nat.not_lt.2 h)).trans ((if_neg busy).trans (startJob_stalled stalled (by decide) _))

theorem wrRhRun_accepts (h : v ≤ 11) (free : s.rhRunJob = false) (runs : s.dev ≠ .stall) (hi : s.jobChoice = some i) :
    wrRhRun port v s = accept { s.jobAllot port K.rhRun i with rh := { s.rh with queued := some (v, i) } } := by
  rw [wrRhRun, if_neg (Nat.not_lt.2 h), free, if_neg Bool.false_ne_true, startJob_accepts (.inl runs) hi, State.jobAllot_rh]

theorem wrRhCommission_noRail (h : v = 0 ∨ 0xFFF < v) : wrRhCommission port v s = refuse Abort.value s := if_pos h

theorem wrRhCommission_stalled (named : v ≠ 0) (h : v ≤ 0xFFF) (stalled : s.dev = .stall) :
    wrRhCommission port v s = refuse Abort.state s :=
  (if_neg (not_or.2 ⟨named, Nat.not_lt.2 h⟩)).trans (startJob_stalled stalled (by decide) _)

theorem wrRhCommission_accepts (named : v ≠ 0) (h : v ≤ 0xFFF) (runs : s.dev ≠ .stall) (hi : s.jobChoice = some i) :
    wrRhCommission port v s = accept { s.jobAllot port K.rhCommission i with
      rh := { s.rh with commissions := s.rh.commissions ++ [⟨v, 0, 0, 0, 0, 0, 0, i⟩] } } := by
  rw [wrRhCommission, if_neg (not_or.2 ⟨named, Nat.not_lt.2 h⟩), startJob_accepts (.inl runs) hi, State.jobAllot_rh]

end

/-! ## Rails that are due -/

section
variable {s : State} {n : Nat}

theorem State.rhDue_enabled (en : s.get (K.rhEn n) = 1) (timed : s.get (K.rhInterval n) ≠ 0)
    (passed : s.get (K.rhInterval n) ≤ s.clock.epochs - s.rh.lastEnd.toArray.getD n 0) : s.rhDue n = true := by
  simp only [State.rhDue, Bool.and_eq_true, beq_iff_eq, bne_iff_ne, decide_eq_true_eq]
  exact ⟨⟨en, timed⟩, passed⟩

theorem State.rhDue_without (h : s.get (K.rhEn n) = 0 ∨ s.get (K.rhInterval n) = 0) : s.rhDue n = false := by
  rw [State.rhDue]
  obtain off | untimed := h
  · rw [off]
    rfl
  · rw [untimed, bne_self_eq_false, Bool.and_false, Bool.false_and]

/-- While the fast plane runs the rail's bit follows whether it is due (R167). -/
theorem doRhDue_up (up : s.fastUp = true) : doRhDue n s = { s with rh := { s.rh with
    due := if s.rhDue n then s.rh.due ||| BitVec.ofNat 12 (2 ^ n) else s.rh.due &&& ~~~(BitVec.ofNat 12 (2 ^ n)) } } :=
  if_pos up

theorem doRhDue_due (up : s.fastUp = true) (due : s.rhDue n = true) :
    doRhDue n s = { s with rh := { s.rh with due := s.rh.due ||| BitVec.ofNat 12 (2 ^ n) } } := by
  rw [doRhDue_up up, if_pos due]

theorem doRhDue_notDue (up : s.fastUp = true) (due : s.rhDue n = false) :
    doRhDue n s = { s with rh := { s.rh with due := s.rh.due &&& ~~~(BitVec.ofNat 12 (2 ^ n)) } } := by
  rw [doRhDue_up up, due, if_neg Bool.false_ne_true]

end

/-! ## The arbiter (R159) -/

section
variable {s : State}

theorem exec_arbGrant (s : State) :
    exec .arbGrant s = atTick (fun t => doEstZPointStart (doRhSettleStart (doArbGrant t))) s := by
  rfl

/-- Rail health goes first where it has waited longer, or waits alone. -/
theorem Arbiter.choice_rh {a : Arbiter} {r : Nat} (waits : a.rhSince = some r) (longer : ∀ e, a.estSince = some e → r < e) :
    a.choice = 1 := by
  cases he : a.estSince with
  | none => simp only [Arbiter.choice, waits, he]
  | some e => simp only [Arbiter.choice, waits, he, longer e he, ↓reduceIte]

/-- The estimator goes first where rail health has not waited longer. -/
theorem Arbiter.choice_est {a : Arbiter} {e : Nat} (waits : a.estSince = some e) (notLater : ∀ r, a.rhSince = some r → e ≤ r) :
    a.choice = 2 := by
  cases hr : a.rhSince with
  | none => simp only [Arbiter.choice, waits, hr]
  | some r => simp only [Arbiter.choice, waits, hr, Nat.not_lt.2 (notLater r hr), ↓reduceIte]

theorem doArbGrant_owned (owned : s.get K.rhArbOwner ≠ 0) : doArbGrant s = s := if_neg fun h => owned h.2

theorem doArbGrant_rh (up : s.fastUp = true) (free : s.get K.rhArbOwner = 0) (first : s.arb.choice = 1) :
    doArbGrant s = { s.put K.rhArbOwner 1 with arb := { s.arb with rhSince := none } } := by
  rw [doArbGrant, if_pos ⟨up, free⟩, first]
  rfl

theorem doArbGrant_est (up : s.fastUp = true) (free : s.get K.rhArbOwner = 0) (first : s.arb.choice = 2) :
    (doArbGrant s).get K.rhArbOwner = 2 ∧ (doArbGrant s).arb.estSince = none ∧ (doArbGrant s).arb.rhSince = s.arb.rhSince := by
  have granted : (doArbGrant s).od = (s.put K.rhArbOwner 2).od ∧ (doArbGrant s).arb = { s.arb with estSince := none } := by
    rw [doArbGrant, if_pos ⟨up, free⟩, first]
    exact ⟨rfl, rfl⟩
  obtain ⟨od, arb⟩ := granted
  rw [State.get, od, arb]
  exact ⟨State.get_put_self s _ _, rfl, rfl⟩

end

/-! ## The injection (R160 to R162) -/

section
variable {s : State} {r : RhRun} {n : Nat}

theorem State.injection_idle (idle : s.rh.run = none) (n : Nat) : s.injection n = 0 := by rw [State.injection, idle]

theorem State.injection_outside (run : s.rh.run = some r)
    (h : r.rail ≠ n ∨ s.get K.rhState ≠ rhSettle ∧ s.get K.rhState ≠ rhInject) : s.injection n = 0 := by
  rw [State.injection, run]
  refine if_neg fun ⟨rail, state⟩ => ?_
  obtain other | ⟨noSettle, noInject⟩ := h
  · exact other rail
  · exact state.elim noSettle noInject

/-- In the states of a point the sine is added; a window that holds it stops its time at the hold's. -/
theorem State.injection_point (run : s.rh.run = some r) (rail : r.rail = n)
    (state : s.get K.rhState = rhSettle ∨ s.get K.rhState = rhInject) :
    s.injection n = s.rhSine r ((if r.heldFrom ≤ s.clock.beat * 100 ∧ s.clock.beat * 100 < r.heldUntil then r.heldFrom
      else s.clock.beat * 100) - r.began * 100) := by
  rw [State.injection, run]
  exact if_pos ⟨rail, state⟩

theorem State.injection_held (run : s.rh.run = some r) (rail : r.rail = n)
    (state : s.get K.rhState = rhSettle ∨ s.get K.rhState = rhInject) (lo : r.heldFrom ≤ s.clock.beat * 100)
    (hi : s.clock.beat * 100 < r.heldUntil) : s.injection n = s.rhSine r (r.heldFrom - r.began * 100) := by
  rw [State.injection_point run rail state, if_pos ⟨lo, hi⟩]

theorem State.injection_free (run : s.rh.run = some r) (rail : r.rail = n)
    (state : s.get K.rhState = rhSettle ∨ s.get K.rhState = rhInject)
    (h : s.clock.beat * 100 < r.heldFrom ∨ r.heldUntil ≤ s.clock.beat * 100) :
    s.injection n = s.rhSine r (s.clock.beat * 100 - r.began * 100) := by
  rw [State.injection_point run rail state, if_neg]
  omega

end

/-! ## From WAIT to SETTLE (R158, R164) -/

/-- The run's point begins: the first one shows in `RH.STATUS`, and a place in the stride is taken. -/
def rhBegins (r : RhRun) (s : State) : State :=
  let t := if r.started then s else s.flag K.rhStatus 1
  let t := { t with rh := { t.rh with run := some { r with
    started := true, since := s.clock.beat, began := s.clock.beat, blank := 0 } } }
  when (s.get (K.rhPlace r.rail) == 1) (fun u => u.unitTaken (s.get (K.rhPos r.rail)) (K.rhPos r.rail)) (t.put K.rhState rhSettle)

section
variable {s : State} {r : RhRun}

theorem doRhSettleStart_granted (up : s.fastUp = true) (run : s.rh.run = some r) (wait : s.get K.rhState = rhWait)
    (granted : s.get K.rhArbOwner = 1) : doRhSettleStart s =
      if s.pairExcludes r.rail then endRun 7 s
      else if r.started = false ∧ s.amplitudeOk r.rail = false then endRun 6 s
      else if s.injects r.rail ∧ s.amplitudeOk r.rail ∧ s.rhPlaced r.rail then rhBegins r s else s := by
  rw [doRhSettleStart, run]
  exact if_pos ⟨up, wait, granted⟩

theorem doRhSettleStart_excluded (up : s.fastUp = true) (run : s.rh.run = some r) (wait : s.get K.rhState = rhWait)
    (granted : s.get K.rhArbOwner = 1) (excluded : s.pairExcludes r.rail = true) : doRhSettleStart s = endRun 7 s :=
  (doRhSettleStart_granted up run wait granted).trans (if_pos excluded)

/-- An amplitude against R161 ends a run before its first point. -/
theorem doRhSettleStart_amplitude (up : s.fastUp = true) (run : s.rh.run = some r) (wait : s.get K.rhState = rhWait)
    (granted : s.get K.rhArbOwner = 1) (paired : s.pairExcludes r.rail = false) (high : s.amplitudeOk r.rail = false)
    (first : r.started = false) : doRhSettleStart s = endRun 6 s := by
  rw [doRhSettleStart_granted up run wait granted, paired, if_neg Bool.false_ne_true, if_pos ⟨first, high⟩]

/-- A run that has started goes on with its next point where R158 and R161 let it, at its place, and waits else. -/
theorem doRhSettleStart_started (up : s.fastUp = true) (run : s.rh.run = some r) (wait : s.get K.rhState = rhWait)
    (granted : s.get K.rhArbOwner = 1) (paired : s.pairExcludes r.rail = false) (started : r.started = true) :
    doRhSettleStart s = if s.injects r.rail ∧ s.amplitudeOk r.rail ∧ s.rhPlaced r.rail then rhBegins r s else s := by
  have notFirst : ¬ (r.started = false ∧ s.amplitudeOk r.rail = false) := fun ⟨first, _⟩ =>
    Bool.false_ne_true (first.symm.trans started)
  rw [doRhSettleStart_granted up run wait granted, paired, if_neg Bool.false_ne_true, if_neg notFirst]

/-- A later point at a tick boundary, the place of `PLACE` 0. -/
theorem rhBegins_atTick (started : r.started = true) (place : s.get (K.rhPlace r.rail) = 0) : rhBegins r s =
    { s with rh := { s.rh with run := some { r with
      started := true, since := s.clock.beat, began := s.clock.beat, blank := 0 } } }.put K.rhState rhSettle := by
  rw [rhBegins, started, place]
  rfl

theorem State.rhPlaced_atTick {n : Nat} (place : s.get (K.rhPlace n) = 0) (boundary : s.clock.beat % 1000 = 0) :
    s.rhPlaced n = true :=
  (if_pos place).trans (decide_eq_true boundary)

end

/-! ## Points (R162 to R164) -/

/-- A point under way is abandoned: a try is counted, and the last one ends the run. -/
def rhAbandons (r : RhRun) (s : State) : State :=
  let t := arbRelease 1 { s with rh := { s.rh with run := some { r with tries := r.tries + 1 } } }
  if s.get K.rhMaxTries ≤ r.tries + 1 then endRun 4 t
  else { t.put K.rhState rhWait with arb := { t.arb with rhSince := some t.tick } }

section
variable {s : State} {r : RhRun}

theorem doRhSettleDone_settling (up : s.fastUp = true) (run : s.rh.run = some r) (settling : s.get K.rhState = rhSettle) :
    doRhSettleDone s = if s.periodsOver r 8 then { s with rh := { s.rh with run := some { r with
      since := s.clock.beat, blank := s.rhHeld { r with since := s.clock.beat } 0 } } }.put K.rhState rhInject else s := by
  rw [doRhSettleDone, run]
  simp only [up, settling, true_and]
  rfl

theorem doRhPointDone_injecting (up : s.fastUp = true) (run : s.rh.run = some r) (injecting : s.get K.rhState = rhInject)
    (p : RhPoint) {t : State} (ht : t = { s with rh := { s.rh with run := some { r with
      points := r.points ++ [p], since := s.clock.beat, began := s.clock.beat, blank := 0 } } }) :
    doRhPointDone p s = if s.periodsOver r (s.get K.rhCycles) then
      if r.points.length + 1 < s.get K.rhPoints then t.put K.rhState rhSettle else arbRelease 1 (t.put K.rhState rhCompute)
    else s := by
  subst ht
  rw [doRhPointDone, run]
  simp only [up, injecting, true_and, List.length_append, List.length_singleton]
  rfl

theorem doRhPointAbandon_waiting (wait : s.get K.rhState = rhWait) : doRhPointAbandon s = s := by
  have noPoint : ¬ (s.fastUp = true ∧ (s.get K.rhState = rhSettle ∨ s.get K.rhState = rhInject)) := by
    rw [wait]
    exact fun h => absurd h.2 (by decide)
  unfold doRhPointAbandon
  split
  · exact if_neg noPoint
  · rfl

theorem doRhPointAbandon_point (up : s.fastUp = true) (run : s.rh.run = some r)
    (point : s.get K.rhState = rhSettle ∨ s.get K.rhState = rhInject) : doRhPointAbandon s =
      if (s.rail r.rail).regulating = false ∨ s.dev ≠ .active then endRun 5 s
      else if s.injectable r.rail ∧ s.amplitudeOk r.rail ∧ s.blankedOut r = false then s else rhAbandons r s := by
  rw [doRhPointAbandon, run]
  exact if_pos ⟨up, point⟩

/-- A rail that a point may go on with is ON in ACTIVE (R158). -/
theorem State.injectable_runs {n : Nat} (h : s.injectable n = true) :
    ¬ ((s.rail n).regulating = false ∨ s.dev ≠ .active) := by
  simp only [State.injectable, Bool.and_eq_true, beq_iff_eq] at h
  obtain ⟨⟨⟨active, on⟩, _⟩, _⟩ := h
  rw [active, on]
  decide

end

/-! ## A run leaves the engine -/

theorem jobEnd?_rh (i : Option Nat) (st : JobStatus) (result : Nat) (s : State) : (jobEnd? i st result s).rh = s.rh := by
  cases i with
  | none => rfl
  | some i =>
    rw [jobEnd?, jobEnd]
    split
    · simp only [State.flag_rh, State.put_rh]
    · rfl

theorem arbRelease_rh (owner : Nat) (s : State) : (arbRelease owner s).rh = s.rh := by
  rw [arbRelease]
  split <;> rfl

theorem leaveRun_run (r : RhRun) (x : Nat) (s : State) : (leaveRun r x s).rh.run = none := by
  rw [leaveRun]
  dsimp only
  rw [jobEnd?_rh, State.flag_rh]

theorem leaveRun_commissions (r : RhRun) (x : Nat) (s : State) : (leaveRun r x s).rh.commissions = s.rh.commissions := by
  rw [leaveRun]
  dsimp only
  rw [jobEnd?_rh, State.flag_rh]
  dsimp only
  rw [arbRelease_rh]
  rfl

/-- The readouts of a run's end are written before its job's report and the flag, which touch none of them. -/
theorem leaveRun_get_readout (r : RhRun) (x : Nat) (s : State) {k : Nat} (lo : 0x288000 ≤ k) (hi : k < K.rhArbOwner) :
    (leaveRun r x s).get k =
      ((((s.put (K.rhRunStatus r.rail) x).bump (K.rhResultSeq r.rail)).put K.rhState rhIdle).put K.rhRail 0xFF).get k := by
  have apart {j : Nat} (h : j < 0x288000) : k ≠ j := Nat.ne_of_gt (Nat.lt_of_lt_of_le h lo)
  rw [leaveRun]
  dsimp only
  rw [jobEnd?_get _ _ _ _ _ (apart (by decide)) (apart (by decide)) fun i hi => apart (by simp only [K.jobReport]; omega),
    State.get_flag_ne _ _ _ _ (Nat.ne_of_lt (Nat.lt_trans hi (by decide))), State.get_withRh,
    arbRelease_get _ _ _ (Nat.ne_of_lt hi)]

theorem leaveRun_rhRail (r : RhRun) (x : Nat) (s : State) : (leaveRun r x s).get K.rhRail = 0xFF := by
  rw [leaveRun_get_readout r x s (by decide) (by decide), State.get_put_self]

theorem leaveRun_rhState (r : RhRun) (x : Nat) (s : State) : (leaveRun r x s).get K.rhState = rhIdle := by
  rw [leaveRun_get_readout r x s (by decide) (by decide), State.get_put_ne _ _ _ _ (by decide), State.get_put_self]

theorem leaveRun_runStatus {r : RhRun} (hn : r.rail < 12) (x : Nat) (s : State) :
    (leaveRun r x s).get (K.rhRunStatus r.rail) = x := by
  have below : K.rhRunStatus r.rail < K.rhState := by simp only [K.rhRunStatus, K.rhState]; omega
  rw [leaveRun_get_readout r x s (by simp only [K.rhRunStatus]; omega) (Nat.lt_trans below (by decide)),
    State.get_put_ne _ _ _ _ (Nat.ne_of_lt (Nat.lt_trans below (by decide))), State.get_put_ne _ _ _ _ (Nat.ne_of_lt below),
    State.get_bump_ne _ _ _ (by simp), State.get_put_self]

/-- What the end of a run shows: its status, and an engine in IDLE without a rail. -/
theorem leaveRun_left {r : RhRun} (hn : r.rail < 12) (x : Nat) (s : State) :
    (leaveRun r x s).get (K.rhRunStatus r.rail) = x ∧ (leaveRun r x s).rh.run = none ∧
      (leaveRun r x s).get K.rhState = rhIdle ∧ (leaveRun r x s).get K.rhRail = 0xFF :=
  ⟨leaveRun_runStatus hn x s, leaveRun_run r x s, leaveRun_rhState r x s, leaveRun_rhRail r x s⟩

/-- A rail's results are none of the entries that the end of a run writes. -/
theorem offRun_result {n k : Nat} (hn : n < 12) (lo : 0x288012 ≤ k) (hi : k ≤ 0x28801A) : offRun n (k + n * 0x100) := by
  refine ⟨?_, fun i hi => ?_⟩
  · simp only [runWrites, K.rhRunStatus, K.rhResultSeq, K.rhArbOwner, K.rhState, K.rhRail, K.rhStatus, K.jobStatus, K.hostAlert,
      List.mem_cons, List.not_mem_nil, or_false, not_or]
    omega
  · simp only [K.jobReport]; omega

/-- Without a commissioning job a run that completes only leaves the engine. -/
theorem endRun_complete {s : State} {r : RhRun} {x : Nat} (run : s.rh.run = some r) (noJob : s.rh.commissions = [])
    (complete : x = 1 ∨ x = 2 ∨ x = 3) : endRun x s = leaveRun r x s := by
  have noneLeft : (leaveRun r x s).rh.commissions = [] := (leaveRun_commissions r x s).trans noJob
  rw [endRun, run]
  dsimp only
  rw [if_pos complete, commissionRun, noneLeft, ite_self]

/-! ## Results (R165, R166, R169) -/

theorem fitsType_zero (k : Nat) : fitsType k 0 = true := by
  rw [fitsType]
  split
  · split <;> simp
  · rfl

theorem fit_zero (k : Nat) : fit k 0 = 0 := by
  rw [fit, if_pos (fitsType_zero k), ofInt, Int.zero_emod]
  rfl

@[simp] theorem State.get_putFit_self (s : State) (k : Nat) (v : Int) : (s.putFit k v).get k = fit k v := State.get_put_self s k _

/-- The results of a run on rail `n` that nothing compares: its deviations read 0. -/
def rhUncompared (n fc : Nat) (pm : Int) (cout esr err : Nat) (s : State) : State :=
  let t := ((((s.putFit (K.rhFc n) fc).putFit (K.rhPm n) pm).putFit (K.rhCout n) cout).putFit (K.rhEsr n) esr).putFit
    (K.rhFitErr n) err
  (((t.putFit (K.rhDevCout n) 0).putFit (K.rhDevEsr n) 0).putFit (K.rhDevPm n) 0).putFit (K.rhDevFc n) 0

section
variable {s : State} {r : RhRun} {n fc cout esr err : Nat} {pm : Int}

theorem rhUncompared_rhFc : (rhUncompared n fc pm cout esr err s).get (K.rhFc n) = fit (K.rhFc n) fc := by simp [rhUncompared]
theorem rhUncompared_rhPm : (rhUncompared n fc pm cout esr err s).get (K.rhPm n) = fit (K.rhPm n) pm := by simp [rhUncompared]
theorem rhUncompared_rhCout : (rhUncompared n fc pm cout esr err s).get (K.rhCout n) = fit (K.rhCout n) cout := by
  simp [rhUncompared]
theorem rhUncompared_rhEsr : (rhUncompared n fc pm cout esr err s).get (K.rhEsr n) = fit (K.rhEsr n) esr := by
  simp [rhUncompared]
theorem rhUncompared_rhDevPm : (rhUncompared n fc pm cout esr err s).get (K.rhDevPm n) = 0 := by simp [rhUncompared, fit_zero]
theorem rhUncompared_rhDevFc : (rhUncompared n fc pm cout esr err s).get (K.rhDevFc n) = 0 := by simp [rhUncompared, fit_zero]

/-- Such results and the end of their run, where no commissioning job waits for them. -/
theorem endRun_uncompared {status : Nat} (run : s.rh.run = some r) (noJob : s.rh.commissions = [])
    (complete : status = 1 ∨ status = 2 ∨ status = 3) : endRun status (rhUncompared n fc pm cout esr err s) =
      leaveRun r status (rhUncompared n fc pm cout esr err s) :=
  endRun_complete run noJob complete

theorem doRhResults_inactive (h : s.dev ≠ .active) : doRhResults s = s := by
  rw [doRhResults]
  split
  · exact if_neg fun active => h active.1
  · rfl

section
variable {freq : Nat → Nat} {x : Option (Nat × Int)} (run : s.rh.run = some r) (active : s.dev = .active)
  (compute : s.get K.rhState = rhCompute)
  (hfreq : freq = rhFreq (s.get (K.rhFLo r.rail)) (s.get (K.rhFHi r.rail)) (s.get K.rhPoints))
  (hx : x = crossover (s.get (K.rhFLo r.rail)) (s.get (K.rhFHi r.rail)) (s.get K.rhPoints) r.points)
  (hfit : (cout, esr, err) = loadFit freq r)
include run active compute hfreq hx hfit

/-- Without a crossover, or with too bad a fit, the run ends with status 0x03 (R166). -/
theorem doRhResults_unfit (unfit : x = none ∨ s.get K.rhFitMax < err) : doRhResults s =
    endRun 3 (rhUncompared r.rail (x.elim 0 Prod.fst) (x.elim 0 Prod.snd) cout esr err s) := by
  subst hfreq
  rw [doRhResults, run]
  dsimp only
  rw [if_pos ⟨active, compute⟩, ← hfit, ← hx]
  dsimp only
  rw [if_pos (unfit.imp_left Option.isNone_iff_eq_none.2)]
  cases x <;> rfl

/-- Without a baseline for the VSET in use the run ends with status 0x02 (R166, R169). -/
theorem doRhResults_unbased {p : Nat × Int} (found : x = some p) (fits : err ≤ s.get K.rhFitMax)
    (unbased : s.get (K.rhBaseValid r.rail) ≠ 1 ∨ (s.railE r.rail).vsetUse ≠ s.get (K.rhBaseVset r.rail)) : doRhResults s =
    endRun 2 (rhUncompared r.rail p.1 p.2 cout esr err s) := by
  subst hfreq
  have fitFound : ¬ (x.isNone = true ∨ s.get K.rhFitMax < err) := by
    rw [found]
    exact not_or.2 ⟨Bool.false_ne_true, Nat.not_lt.2 fits⟩
  rw [doRhResults, run]
  dsimp only
  rw [if_pos ⟨active, compute⟩, ← hfit, ← hx]
  dsimp only
  rw [if_neg fitFound, if_neg (not_and_or.2 unbased), found]
  rfl

end

end

/-- Settles O27: each request by its answer, the grant by who has waited longer, and each state of the engine by the branch that its
ground takes. -/
theorem railHealth : Obligations.RailHealth := by
  refine ⟨?_, fun s n => ⟨rfl, fun idle => State.injection_idle idle n, fun r run =>
    ⟨State.injection_outside run, fun rail state =>
      ⟨State.injection_free run rail state, State.injection_held run rail state⟩⟩⟩, ?_⟩
  · rintro port s _ rfl
    refine ⟨fun ha stalled => ⟨fun v hv => ?_, fun v named hv => ?_⟩, fun ha runs => ⟨fun v hv => ?_, fun v hv busy => ?_,
      fun v i hv free hi => ?_, fun v hv => ?_, fun v i named hv hi => ?_⟩, fun up => ?_,
      fun up => ⟨fun n en interval passed => ?_, fun n off => ?_, fun free r waits longer => ?_, fun free e waits notLater => ?_,
        doArbGrant_owned⟩⟩
    · exact hostRow_refuses ha (writeCheck_rhRun _) (wrRhRun_stalled hv stalled)
    · exact hostRow_refuses ha (writeCheck_rhCommission _) (wrRhCommission_stalled (BitVec.toNat_ne.1 named) hv stalled)
    · exact hostRow_refuses ha (writeCheck_rhRun _) (wrRhRun_noRail hv)
    · exact hostRow_refuses ha (writeCheck_rhRun _) (wrRhRun_busy hv busy)
    · exact hostRow_accepts ha (writeCheck_rhRun _) (wrRhRun_accepts hv free runs hi)
    · exact hostRow_refuses ha (writeCheck_rhCommission _) (wrRhCommission_noRail (hv.imp_left BitVec.toNat_eq.1))
    · exact hostRow_accepts ha (writeCheck_rhCommission _) (wrRhCommission_accepts (BitVec.toNat_ne.1 named) hv runs hi)
    · exact atTick_gives (exec_arbGrant s) up rfl
    · exact event_gives rfl (doRhDue_due up (State.rhDue_enabled en interval passed))
    · exact event_gives rfl (doRhDue_notDue up (State.rhDue_without off))
    · exact doArbGrant_rh up free (Arbiter.choice_rh waits longer)
    · exact doArbGrant_est up free (Arbiter.choice_est waits notLater)
  · intro s r up run
    refine ⟨fun wait granted => ?_, fun settling => ?_, fun e y u t injecting ht => ?_, fun wait => ?_, fun point => ?_, ?_,
      doRhResults_inactive, fun x cout esr err freq hn noJob active compute hfreq hx hfit => ⟨_, rfl, fun unfit => ?_,
        fun p found fits unbased => ?_⟩⟩
    · refine ⟨fun excluded => event_gives rfl (doRhSettleStart_excluded up run wait granted excluded),
        fun paired high first => event_gives rfl (doRhSettleStart_amplitude up run wait granted paired high first),
        fun paired ok may started place boundary => event_gives rfl ?_, fun paired started away => event_gives rfl ?_⟩ <;>
        rw [doRhSettleStart_started up run wait granted paired started]
      · rw [if_pos ⟨may, ok, State.rhPlaced_atTick place boundary⟩, rhBegins_atTick started place]
      · exact if_neg fun ⟨_, _, placed⟩ => Bool.false_ne_true (away.symm.trans placed)
    · have settles := doRhSettleDone_settling up run settling
      refine ⟨fun u passed hu => event_gives rfl ?_, fun early => event_gives rfl (settles.trans ?_)⟩
      · rw [hu]
        exact settles.trans (if_pos passed)
      · exact if_neg (Bool.eq_false_iff.1 early)
    · have measures := doRhPointDone_injecting up run injecting _ ht
      refine ⟨fun passed => ⟨fun more => ?_, fun last => ?_⟩, fun early => ?_⟩ <;> refine event_gives rfl (measures.trans ?_)
      · rw [if_pos passed, if_pos more]
      · rw [if_pos passed, if_neg (Nat.not_lt.2 last)]
      · exact if_neg (Bool.eq_false_iff.1 early)
    · exact event_gives rfl (doRhPointAbandon_waiting wait)
    · have abandons := doRhPointAbandon_point up run point
      refine ⟨fun stopped => ?_, fun may ok quiet => ?_, fun regulates active blanked last => ?_⟩ <;>
        refine event_gives rfl (abandons.trans ?_)
      · exact if_pos stopped
      · rw [if_neg (State.injectable_runs may), if_pos ⟨may, ok, quiet⟩]
      · have runs : ¬ ((s.rail r.rail).regulating = false ∨ s.dev ≠ .active) := by
          rw [regulates, active]
          decide
        rw [if_neg runs, if_neg fun ⟨_, _, quiet⟩ => Bool.false_ne_true (quiet.symm.trans blanked)]
        exact if_pos last
    · rintro _ rfl up
      exact atTick_gives rfl up rfl
    · rw [doRhResults_unfit run active compute hfreq hx hfit unfit, endRun_uncompared run noJob (.inr (.inr rfl))]
      exact leaveRun_left hn 3 _
    · rw [doRhResults_unbased run active compute hfreq hx hfit found fits unbased, endRun_uncompared run noJob (.inr (.inl rfl))]
      obtain ⟨status, ended, idle, rail⟩ := leaveRun_left hn 2 (rhUncompared r.rail p.1 p.2 cout esr err s)
      have results {k : Nat} (off : offRun r.rail k) := leaveRun_get r 2 (rhUncompared r.rail p.1 p.2 cout esr err s) k off
      refine ⟨status, ended, idle, rail, (results ?_).trans rhUncompared_rhDevFc, (results ?_).trans rhUncompared_rhDevPm,
        (results ?_).trans rhUncompared_rhFc, (results ?_).trans rhUncompared_rhPm, (results ?_).trans rhUncompared_rhCout,
        (results ?_).trans rhUncompared_rhEsr⟩ <;> exact offRun_result hn (by decide) (by decide)

end Sys2Proof.Machine
end

section
/-! Words of the sequencer (R178, R181, R186 to R197): the fields of a word put together of fields, and a word put together of its own
fields. -/

namespace Sys2Proof.Machine

/-! ## One bit as a field, and the opcode -/

theorem getLsbD_ofBool_zero (b : Bool) : (BitVec.ofBool b).getLsbD 0 = b := by cases b <;> rfl

theorem ofBool_eq_zero_iff {b : Bool} : BitVec.ofBool b = 0#1 ↔ b = false := by cases b <;> decide

theorem getLsbD_zero_eq (b : BitVec 1) : b.getLsbD 0 = (b == 1) := by
  revert b
  decide

theorem ofBool_getLsbD {n : Nat} (w : BitVec n) (i : Nat) : BitVec.ofBool (w.getLsbD i) = w.extractLsb' i 1 := by
  refine BitVec.eq_of_getLsbD_eq fun j hj => ?_
  obtain rfl : j = 0 := Nat.lt_one_iff.1 hj
  simp

theorem ofNat_eq_opcode {w : BitVec 32} {k : Nat} (h : (w.extractLsb' 28 4).toNat = k) : BitVec.ofNat 4 k = w.extractLsb' 28 4 := by
  rw [← h, BitVec.ofNat_toNat, BitVec.setWidth_eq]

/-! ## Fields of a word -/

theorem fieldsSeq_encodeSeq (i : SeqInstr) : fieldsSeq (encodeSeq i) = some i := by
  cases i with
  | nop => rfl
  | _ =>
    simp (disch := decide) only [encodeSeq, fieldsSeq, BitVec.extractLsb'_append_eq_of_le, BitVec.extractLsb'_append_eq_of_add_le,
      BitVec.extractLsb'_eq_self, BitVec.getLsbD_append, BitVec.getLsbD_zero, getLsbD_ofBool_zero, BitVec.toNat_ofNat,
      BitVec.ofNat_eq_ofNat, Nat.reduceSub, Nat.reduceLT, Nat.reducePow, Nat.reduceMod, and_self, ↓reduceIte]

/-- A word in which no reserved bit is set is the fields it holds, side by side. -/
theorem encodeSeq_of_fieldsSeq {w : BitVec 32} {i : SeqInstr} (h : fieldsSeq w = some i) : encodeSeq i = w := by
  unfold fieldsSeq at h
  dsimp only at h
  split at h
  all_goals
    simp only [Option.ite_none_right_eq_some, Option.some.injEq, reduceCtorEq, BitVec.ofNat_eq_ofNat, ← ofBool_eq_zero_iff,
      ofBool_getLsbD] at h
  case h_1 op =>
    obtain ⟨reserved, rfl⟩ := h
    change 0#4 ++ 0#28 = w
    rw [ofNat_eq_opcode op, ← reserved]
    exact (BitVec.extractLsb'_append_extractLsb'_eq_extractLsb' rfl).trans BitVec.extractLsb'_eq_self
  case h_4 op =>
    obtain rfl := h
    rw [encodeSeq, ofNat_eq_opcode op]
    simp (disch := decide) only [ofBool_getLsbD, BitVec.extractLsb'_append_extractLsb'_eq_extractLsb', BitVec.extractLsb'_eq_self]
  case h_8 op =>
    obtain ⟨⟨reserved, upper⟩, rfl⟩ := h
    rw [encodeSeq, ofNat_eq_opcode op, ← reserved, ← upper]
    simp (disch := decide) only [BitVec.extractLsb'_append_extractLsb'_eq_extractLsb', BitVec.extractLsb'_eq_self]
  case h_2 op | h_3 op | h_5 op | h_6 op | h_7 op | h_9 op | h_10 op | h_11 op | h_12 op =>
    obtain ⟨reserved, rfl⟩ := h
    rw [encodeSeq, ofNat_eq_opcode op, ← reserved]
    simp (disch := decide) only [ofBool_getLsbD, BitVec.ofFin_toFin, BitVec.extractLsb'_append_extractLsb'_eq_extractLsb',
      BitVec.extractLsb'_eq_self]

theorem fieldsSeq_eq_some {w : BitVec 32} {i : SeqInstr} : fieldsSeq w = some i ↔ encodeSeq i = w :=
  ⟨encodeSeq_of_fieldsSeq, fun h => h ▸ fieldsSeq_encodeSeq i⟩

theorem decodeSeq_eq_filter (w : BitVec 32) : decodeSeq w = (fieldsSeq w).filter seqWf := by
  unfold decodeSeq
  cases fieldsSeq w <;> rfl

theorem decodeSeq_eq_some {w : BitVec 32} {i : SeqInstr} : decodeSeq w = some i ↔ encodeSeq i = w ∧ seqWf i = true := by
  rw [decodeSeq_eq_filter, Option.filter_eq_some_iff, fieldsSeq_eq_some]

/-- Settles O33: what a word decodes to is the one instruction, with fields that its table allows, whose word it is. -/
theorem sequencerWordsRoundTrip : Obligations.SequencerWordsRoundTrip :=
  ⟨fun _ wf => decodeSeq_eq_some.2 ⟨rfl, wf⟩, fun _ _ => decodeSeq_eq_some.1⟩

/-! ## Layouts -/

/-- A layout whose reserved bits are to be 0 decodes where they are and the fields are allowed. -/
theorem decodeSeq_layout {w : BitVec 32} {i : SeqInstr} {c : Prop} [Decidable c] (h : fieldsSeq w = if c then some i else none) :
    decodeSeq w = if c ∧ seqWf i = true then some i else none := by
  rw [decodeSeq_eq_filter, h]
  by_cases reserved : c <;> by_cases allowed : seqWf i = true <;> simp [reserved, allowed]

theorem fieldsSeq_append :
    (∀ f : BitVec 28, fieldsSeq (0#4 ++ f) = if f = 0 then some .nop else none) ∧
    (∀ f : BitVec 28, fieldsSeq (15#4 ++ f) = if f = 0 then some .seqEnd else none) ∧
    (∀ (w : BitVec 1) (r : BitVec 3) (tmo : BitVec 8) (mask : BitVec 16),
      fieldsSeq (1#4 ++ w ++ r ++ tmo ++ mask) = if r = 0 then some (.enable (w == 1) tmo mask) else none) ∧
    (∀ (w : BitVec 1) (r : BitVec 3) (tmo : BitVec 8) (mask : BitVec 16),
      fieldsSeq (2#4 ++ w ++ r ++ tmo ++ mask) = if r = 0 then some (.disable (w == 1) tmo mask) else none) ∧
    (∀ (u : BitVec 1) (n : BitVec 27), fieldsSeq (3#4 ++ u ++ n) = some (.waitTime (u == 1) n)) ∧
    (∀ (r : BitVec 12) (tmo : BitVec 8) (q : BitVec 2) (target : BitVec 6),
      fieldsSeq (7#4 ++ r ++ tmo ++ q ++ target) = if r = 0 ∧ q = 0 then some (.gait tmo target) else none) := by
  refine ⟨fun f => ?_, fun f => ?_, fun w r tmo mask => ?_, fun w r tmo mask => ?_, fun u n => ?_, fun r tmo q target => ?_⟩
  all_goals
    simp (disch := decide) only [fieldsSeq, BitVec.extractLsb'_append_eq_of_le, BitVec.extractLsb'_append_eq_of_add_le,
      BitVec.extractLsb'_eq_self, BitVec.getLsbD_append, getLsbD_zero_eq, BitVec.toNat_ofNat, Nat.reduceSub, Nat.reduceLT,
      Nat.reducePow, Nat.reduceMod, ↓reduceIte]

/-- Settles O34: of the six, ENABLE and DISABLE alone ask their fields for more, a rail in the mask. -/
theorem sequencerWordLayouts : Obligations.SequencerWordLayouts := by
  obtain ⟨nop, seqEnd, enable, disable, waitTime, gait⟩ := fieldsSeq_append
  refine ⟨fun f => ⟨?_, ?_⟩, fun w r tmo mask => ⟨?_, ?_⟩, fun u n => ?_, fun r tmo q target => ?_⟩
  · simpa only [seqWf, and_true] using decodeSeq_layout (nop f)
  · simpa only [seqWf, and_true] using decodeSeq_layout (seqEnd f)
  · simpa only [seqWf, bne_iff_ne] using decodeSeq_layout (enable w r tmo mask)
  · simpa only [seqWf, bne_iff_ne] using decodeSeq_layout (disable w r tmo mask)
  · rw [decodeSeq_eq_filter, waitTime]
    rfl
  · simpa only [seqWf, and_true] using decodeSeq_layout (gait r tmo q target)

end Sys2Proof.Machine
end

section
/-! Commands of the fault collector (R213, R225, R226, R237). -/

namespace Sys2Proof.Machine

section
variable {s : State} {v i : Nat} {port : Port}

theorem writeCheck_faultAck (s : State) : writeCheck K.faultAck s = none := writeCheck_of_wo s (by decide +kernel)
theorem writeCheck_faultRearm (s : State) : writeCheck K.faultRearm s = none := writeCheck_of_wo s (by decide +kernel)
theorem writeCheck_lockoutClear (s : State) : writeCheck K.faultLockoutClear s = none := writeCheck_of_wo s (by decide +kernel)
theorem writeCheck_ffrRearm (s : State) : writeCheck K.ffrRearm s = none := writeCheck_of_wo s (by decide +kernel)

theorem wrFaultRearm_held (held : s.fc.held ≠ []) : wrFaultRearm 1 s = refuse Abort.state s := by
  rw [wrFaultRearm, if_neg (not_not.2 rfl), if_pos (by simpa using held)]

theorem wrFaultRearm_accepts (free : s.fc.held = []) : wrFaultRearm 1 s = accept (((((((s.put K.faultFirstValid 0).put
    K.faultFirstSrc 0).put K.faultFirstRaised 0).put K.faultFirstClass 0).put K.faultFirstBeat 0).put K.faultFirstTime 0).put
    K.faultFirstOvf 0) := by
  rw [wrFaultRearm, if_neg (not_not.2 rfl), free]
  rfl

theorem State.jobAllot_fc (k : Nat) : (s.jobAllot port k i).fc = s.fc := by simp only [State.jobAllot, State.flag_fc, State.put_fc]

theorem wrLockoutClear_unlocked (free : s.get K.faultLockout = 0) : wrLockoutClear port 0x5A3C s = refuse Abort.state s := by
  rw [wrLockoutClear, if_neg (not_not.2 rfl), if_pos free]

theorem wrLockoutClear_accepts (locked : s.get K.faultLockout ≠ 0) (slot : s.jobChoice = some i) : wrLockoutClear port 0x5A3C s =
    accept { s.jobAllot port K.faultLockoutClear i with fc := { s.fc with clearJobs := s.fc.clearJobs ++ [i] } } := by
  rw [wrLockoutClear, if_neg (not_not.2 rfl), if_neg locked, startJob_accepts (.inr (by decide)) slot, State.jobAllot_fc]

theorem State.get_withLog (s : State) (l : Recorder) (k : Nat) : ({ s with log := l } : State).get k = s.get k := (rfl)

theorem emptyFfr_valid : (emptyFfr s).get K.ffrValid = 0 := by
  unfold emptyFfr
  rw [State.get_withLog]
  simp

theorem emptyFfr_rail : (emptyFfr s).get K.ffrRail = 0xFF := by
  unfold emptyFfr
  rw [State.get_withLog]
  simp

end

/-- Settles O31: each command is a host write in a row of its own, which answers by its value and by what the collector holds. -/
theorem faultCommands : Obligations.FaultCommands := by
  rintro port s _ rfl up
  refine ⟨fun v => ?_, fun free => ?_, fun held => ?_, fun v hv => ⟨?_, ?_⟩, fun v hv => ?_, fun free => ?_, fun i locked slot => ?_,
    ?_, emptyFfr_valid, emptyFfr_rail⟩
  · exact hostRow_accepts up (writeCheck_faultAck _) rfl
  · exact hostRow_accepts up (writeCheck_faultRearm _) (wrFaultRearm_accepts free)
  · exact hostRow_refuses up (writeCheck_faultRearm _) (wrFaultRearm_held held)
  · exact hostRow_refuses up (writeCheck_faultRearm _) (if_pos (BitVec.toNat_ne.1 hv))
  · exact hostRow_refuses up (writeCheck_ffrRearm _) (if_pos (BitVec.toNat_ne.1 hv))
  · exact hostRow_refuses up (writeCheck_lockoutClear _) (if_pos (BitVec.toNat_ne.1 hv))
  · exact hostRow_refuses up (writeCheck_lockoutClear _) (wrLockoutClear_unlocked free)
  · exact hostRow_accepts up (writeCheck_lockoutClear _) (wrLockoutClear_accepts locked slot)
  · exact hostRow_accepts up (writeCheck_ffrRearm _) rfl

end Sys2Proof.Machine
end

section
/-! Steps of the sequencer at their start (R183 to R198, R206): how an instruction begins, and what each does in its start beat. -/

namespace Sys2Proof.Machine

/-! ## An instruction begins -/

section
variable {s u : State} {i : SeqInstr}

/-- A command whose outcome is that of an instruction gives what the instruction does, where a program stands ready for it. -/
theorem seqRow_gives {c : Instr} {t : State} (row : exec c s = seqRow i s) (ready : s.seqReady) (begins : u = seqBegin i s.openTick)
    (h : seqEffect i u = t) : GivesAtTick c s t := by
  obtain ⟨starts, off, stop⟩ := ready
  subst h begins
  refine row.trans (if_pos ?_)
  rw [starts, off, stop]
  rfl

section
variable (begins : u = seqBegin i s)
include begins

theorem get_of_begins {k : Nat} (hp : k ≠ K.seqPc) (hi : k ≠ K.seqInstr) : u.get k = s.get k := by
  subst begins
  unfold seqBegin
  rw [State.get_withSeq, State.get_put_ne _ _ _ _ hi, State.get_put_ne _ _ _ _ hp]

theorem seqFlag_of_begins : u.get K.seqFlag = s.get K.seqFlag := get_of_begins begins (by decide) (by decide)
theorem seqLoop_of_begins : u.get K.seqLoop = s.get K.seqLoop := get_of_begins begins (by decide) (by decide)
theorem gaitState_of_begins : u.get K.seqGaitState = s.get K.seqGaitState := get_of_begins begins (by decide) (by decide)

theorem seqState_of_begins : u.seqState = s.seqState := congrArg SeqState.ofCode (get_of_begins begins (by decide) (by decide))
theorem strideState_of_begins : u.strideState = s.strideState :=
  congrArg StrideState.ofCode (get_of_begins begins (by decide) (by decide))

theorem rail_of_begins (n : Fin 16) : u.rail n.val = s.rail n.val := by
  refine congrArg RailState.ofCode (get_of_begins begins ?_ ?_) <;> revert n <;> decide

theorem offAfter_of_begins : u.seq.offAfter = s.seq.offAfter := by rw [begins]; rfl
theorem gait_of_begins : u.gait = s.gait := by rw [begins]; rfl
theorem bk_of_begins : u.bk = s.bk := by rw [begins]; rfl
theorem pins_of_begins : u.pins = s.pins := by rw [begins]; rfl

end

end

section
variable {s : State}

theorem State.flag_seqStatus_seqState (m : Nat) : (s.flag K.seqStatus m).seqState = s.seqState :=
  congrArg SeqState.ofCode (State.get_flag_ne _ _ _ _ (by decide))

theorem settleGait_seq : (settleGait s).seq = s.seq := by
  unfold settleGait
  split <;> rfl

/-! ## ENABLE and DISABLE (R188, R189) -/

section
variable {w : Bool} {tmo : BitVec 8} {mask : BitVec 16}

/-- The rails of a mask that an ENABLE turns on: those that are off, or on their way there. -/
def State.toEnable (s : State) (mask : BitVec 16) : List Nat :=
  (railsOf mask).filter (fun n => s.rail n == .off || s.rail n == .discharge || s.rail n == .fault)

theorem seqEnable_alwaysOn (named : mask.getLsbD 12 = true) (on : s.bk.l0On = true) : seqEnable w tmo mask s = stepFail 8 12 0xFF s :=
  if_pos (by rw [named, on]; rfl)

theorem seqEnable_allowed (free : (mask.getLsbD 12 && s.bk.l0On) = false) (h : ∀ n, n ∈ railsOf mask → s.enableRefusal n = none) :
    seqEnable w tmo mask s = if w then seqWait (.enable w tmo mask) (each (s.toEnable mask) tryEnable s)
      else stepDone (each (s.toEnable mask) tryEnable s) := by
  have none_refused : (s.toEnable mask).filter (fun n => (s.enableRefusal n).isSome) = [] := by
    refine List.filter_eq_nil_iff.2 fun n hn => ?_
    rw [h n (List.mem_of_mem_filter hn)]
    exact Bool.false_ne_true
  rw [seqEnable, free, if_neg Bool.false_ne_true]
  simp only [State.toEnable] at none_refused
  simp only [none_refused, State.toEnable]

theorem seqEnable_refused {n : Nat} {rest : List Nat} (free : (mask.getLsbD 12 && s.bk.l0On) = false)
    (h : (s.toEnable mask).filter (fun n => (s.enableRefusal n).isSome) = n :: rest) :
    seqEnable w tmo mask s = stepFail 3 n 0xFF (each (s.toEnable mask) tryEnable s) := by
  rw [seqEnable, free, if_neg Bool.false_ne_true]
  simp only [State.toEnable] at h
  simp only [h, State.toEnable]

theorem seqDisable_alwaysOn (named : mask.getLsbD 12 = true) (on : s.bk.l0On = true) : seqDisable w tmo mask s = stepFail 8 12 0xFF s :=
  if_pos (by rw [named, on]; rfl)

theorem seqDisable_allowed (free : (mask.getLsbD 12 && s.bk.l0On) = false) : seqDisable w tmo mask s =
    if w then seqWait (.disable w tmo mask) (each (railsOf mask) (fun n v => railDisable n 2 v) s)
    else stepDone (each (railsOf mask) (fun n v => railDisable n 2 v) s) := by
  rw [seqDisable, free, if_neg Bool.false_ne_true]

end

/-! ## WAIT_STRIDE (R191) -/

section
variable {lock : Bool} {skip : BitVec 8} {unit : BitVec 12}

theorem seqWaitStride_waits (h : lock = true → s.strideState = .locked) : seqWaitStride lock skip unit s =
    seqWait (.waitStride lock skip unit) { s with seq := { s.seq with
      stridesLeft := skip.toNat + if unit.toNat ≤ s.stride.phase then 1 else 0 } } := by
  refine if_neg ?_
  simpa using h

theorem seqWaitStride_unlocked (h : s.strideState ≠ .locked) : seqWaitStride true skip unit s = stepFail 0x0B 0xFF 0xFF s :=
  if_pos (by simpa using h)

end

/-! ## GAIT (R203, R206, R207) -/

section
variable {tmo : BitVec 8} {target : BitVec 6}

/-- The gait state moves to the target: with the lines in use once the other members let it, else at once. -/
def gaitMoves (tmo : BitVec 8) (target : BitVec 6) (s : State) : State :=
  if s.gait.en then seqWait (.gait tmo target) { s with gait := { s.gait with released := true, pullAt := none } }
  else stepDone (s.put K.seqGaitState target.toNat)

theorem seqGait_up (st : s.seqState = .powerUp) : seqGait tmo target s =
    if target.toNat = s.get K.seqGaitState + 1 then gaitMoves tmo target s else stepFail 7 0xFF 0xFF s := by
  simp only [seqGait, st]
  rfl

theorem seqGait_down (st : s.seqState = .powerDown) : seqGait tmo target s =
    if target.toNat + 1 = s.get K.seqGaitState then gaitMoves tmo target s
    else if s.get K.seqGaitState ≤ target.toNat then stepDone s else stepFail 7 0xFF 0xFF (s.put K.seqGaitState target.toNat) := by
  simp only [seqGait, st]
  rfl

theorem seqGait_down_passed (st : s.seqState = .powerDown) (h : s.get K.seqGaitState ≤ target.toNat) :
    seqGait tmo target s = stepDone s := by
  rw [seqGait_down st, if_neg (by omega), if_pos h]

end

/-! ## SLEW (R197) -/

section
variable {rail : Fin 16} {w : Bool} {code : BitVec 13}

theorem seqSlew_off (own : s.alwaysOn rail.val = false) (h : (s.rail rail.val).regulating = false) :
    seqSlew rail w code s = stepFail 9 rail.val 0xFF s := by
  simp only [seqSlew, own, h, Bool.false_eq_true, ↓reduceIte]

theorem seqSlew_regulating (own : s.alwaysOn rail.val = false) (h : (s.rail rail.val).regulating = true) : seqSlew rail w code s =
    if w then seqWait (.slew rail w code) (newTarget rail.val code.toNat s) else stepDone (newTarget rail.val code.toNat s) := by
  simp only [seqSlew, own, h, Bool.false_eq_true, Bool.true_eq_false, ↓reduceIte]

end

/-! ## END (R183, R205) -/

theorem seqFinish_up (st : s.seqState = .powerUp) (off : s.seq.offAfter = none) : seqFinish s = seqIdle (s.flag K.seqStatus 2) := by
  simp only [seqFinish, State.flag_seqStatus_seqState, State.flag_seq, st, off]

theorem seqFinish_user (st : s.seqState = .user) (off : s.seq.offAfter = none) : seqFinish s = endUser 0 (s.flag K.seqStatus 2) := by
  simp only [seqFinish, State.flag_seqStatus_seqState, State.flag_seq, st, off]

/-- Power-down stands at END with gait state 0 until it is left. -/
theorem seqFinish_down (st : s.seqState = .powerDown) :
    (seqFinish s).get K.seqGaitState = 0 ∧ (seqFinish s).seq.atEnd = true ∧ (seqFinish s).seqState = .powerDown := by
  have ended : ∃ e : SeqEngine, e.atEnd = true ∧
      seqFinish s = settleGait { (s.flag K.seqStatus 2).put K.seqGaitState 0 with seq := e } := by
    refine ⟨{ s.seq with atEnd := true, waiting := none }, rfl, ?_⟩
    simp only [seqFinish, State.flag_seqStatus_seqState, st]
    rfl
  obtain ⟨e, atEnd, eq⟩ := ended
  rw [eq, settleGait_get, State.get_withSeq, State.get_put_self, settleGait_seq, State.seqState, settleGait_get, State.get_withSeq,
    State.get_put_ne _ _ _ _ (by decide), ← State.seqState, State.flag_seqStatus_seqState]
  exact ⟨rfl, atEnd, st⟩

end

/-- Settles O35: each instruction is a row of the sequencer, whose effect is that of one branch of its own operation. -/
theorem sequencerStepsThatStart : Obligations.SequencerStepsThatStart := by
  refine ⟨?_, ?_⟩
  · rintro s _ u rfl ready
    refine ⟨fun begins => seqRow_gives rfl ready begins rfl, fun count target begins => seqRow_gives rfl ready begins rfl,
      fun count target begins => ?_, fun count target begins => ?_, fun count target begins => ?_,
      fun mask value m v begins hm hv => ?_, fun entry log gs id begins => seqRow_gives rfl ready begins rfl,
      fun begins => ⟨fun st => ?_, fun st => ?_, fun st => ?_⟩⟩
    · rw [← seqFlag_of_begins begins]
      exact seqRow_gives rfl ready begins rfl
    · rw [← seqFlag_of_begins begins]
      exact seqRow_gives rfl ready begins rfl
    · rw [← seqLoop_of_begins begins]
      exact seqRow_gives rfl ready begins rfl
    · rw [← pins_of_begins begins] at hm hv
      subst hm hv
      exact seqRow_gives rfl ready begins rfl
    · exact seqRow_gives rfl ready begins
        (seqFinish_up ((seqState_of_begins begins).trans st) ((offAfter_of_begins begins).trans ready.2.1))
    · exact seqRow_gives rfl ready begins
        (seqFinish_user ((seqState_of_begins begins).trans st) ((offAfter_of_begins begins).trans ready.2.1))
    · exact ⟨_, seqRow_gives rfl ready begins rfl, seqFinish_down ((seqState_of_begins begins).trans st)⟩
  · rintro s _ u rfl ready
    refine ⟨fun w tmo mask begins free h => ?_, fun w tmo mask begins free => ?_, fun x n begins => seqRow_gives rfl ready begins rfl,
      fun lock skip unit begins h => ?_, fun soft pol pset kind op begins => seqRow_gives rfl ready begins rfl,
      fun tmo target begins st next => ?_, fun tmo target begins st => ⟨fun next => ?_, fun passed => ?_⟩,
      fun rail w code begins own h => ?_⟩
    · rw [← bk_of_begins begins] at free
      exact seqRow_gives rfl ready begins (seqEnable_allowed free h)
    · rw [← bk_of_begins begins] at free
      exact seqRow_gives rfl ready begins (seqDisable_allowed free)
    · exact seqRow_gives rfl ready begins (seqWaitStride_waits fun l => (strideState_of_begins begins).trans (h l))
    · rw [← gaitState_of_begins begins] at next
      rw [← gait_of_begins begins]
      exact seqRow_gives rfl ready begins ((seqGait_up ((seqState_of_begins begins).trans st)).trans (if_pos next))
    · rw [← gaitState_of_begins begins] at next
      rw [← gait_of_begins begins]
      exact seqRow_gives rfl ready begins ((seqGait_down ((seqState_of_begins begins).trans st)).trans (if_pos next))
    · rw [← gaitState_of_begins begins] at passed
      exact seqRow_gives rfl ready begins (seqGait_down_passed ((seqState_of_begins begins).trans st) passed)
    · rw [State.alwaysOn, ← bk_of_begins begins] at own
      rw [← rail_of_begins begins] at h
      exact seqRow_gives rfl ready begins (seqSlew_regulating own h)

end Sys2Proof.Machine
end

section
/-! Waiting steps of the sequencer (R188 to R191, R197 to R199, R206): what a beat does to each, as it fails and as it ends. -/

namespace Sys2Proof.Machine

section
variable {s : State} (up : s.fastUp = true)

section
include up

theorem onWaiting_waits {i : SeqInstr} (h : s.seq.waiting = some i) (f : SeqInstr → State → State) : onWaiting f s = f i s := by
  rw [onWaiting, if_pos up, h]

/-! ## ENABLE and DISABLE (R188, R189) -/

section
variable {w : Bool} {tmo : BitVec 8} {mask : BitVec 16}

section
variable (h : s.seq.waiting = some (.enable w tmo mask))
include h

theorem doEnableWaitDone_arrived (arrived : ∀ n, n ∈ railsOf mask → s.rail n = .on ∨ s.rail n = .ready) :
    doEnableWaitDone s = stepDone s := by
  refine (onWaiting_waits up h _).trans (if_pos (List.all_eq_true.2 fun n hn => ?_))
  simpa using arrived n hn

theorem doEnableWaitTmo_broken {n : Nat} (broken : (railsOf mask).find? (fun n => s.rail n == .fault || s.rail n == .off) = some n) :
    doEnableWaitTmo s = stepFail 0x0A n 0xFF s := by
  rw [doEnableWaitTmo, onWaiting_waits up h]
  dsimp only
  rw [broken]

theorem doEnableWaitTmo_late {n : Nat} (whole : (railsOf mask).find? (fun n => s.rail n == .fault || s.rail n == .off) = none)
    (due : s.seq.startBeat + s.waitLimit tmo ≤ s.clock.beat)
    (late : (railsOf mask).find? (fun n => !(s.rail n == .on || s.rail n == .ready)) = some n) :
    doEnableWaitTmo s = stepFail 4 n 0xFF s := by
  rw [doEnableWaitTmo, onWaiting_waits up h]
  dsimp only
  rw [whole]
  dsimp only
  rw [State.beat, if_pos due, late]

end

section
variable (h : s.seq.waiting = some (.disable w tmo mask))
include h

theorem doDisableWaitDone_rests (rests : ∀ n, n ∈ railsOf mask → s.rests n = true) : doDisableWaitDone s = stepDone s :=
  (onWaiting_waits up h _).trans (if_pos (List.all_eq_true.2 rests))

theorem doDisableWaitTmo_late {n : Nat} (due : s.seq.startBeat + s.waitLimit tmo ≤ s.clock.beat)
    (late : (railsOf mask).find? (fun n => !s.rests n) = some n) : doDisableWaitTmo s = stepFail 5 n 0xFF s := by
  rw [doDisableWaitTmo, onWaiting_waits up h]
  dsimp only
  rw [State.beat, if_pos due, late]

end

end

/-! ## CHECK (R198, R199) -/

section
variable {soft pol : Bool} {pset : Fin 32} {kind : BitVec 4} {op : BitVec 16} (h : s.seq.waiting = some (.check soft pol pset kind op))
include h

theorem countStable_holds (holds : s.checkHolds pol kind op = true) (fresh : s.seq.stableAt ≠ some s.clock.beat) :
    countStable s = { s with seq := { s.seq with stable := s.seq.stable + 1, stableAt := some s.clock.beat } } :=
  (onWaiting_waits up h _).trans
    ((if_neg fun broken => Bool.false_ne_true (broken.symm.trans holds)).trans (if_neg fresh))

theorem countStable_broken (broken : s.checkHolds pol kind op = false) :
    countStable s = { s with seq := { s.seq with stable := 0, stableAt := some s.clock.beat } } :=
  (onWaiting_waits up h _).trans (if_pos broken)

/-- The count of stable beats is all that a beat of a waiting CHECK writes. -/
theorem countStable_writes : ∃ n b, countStable s = { s with seq := { s.seq with stable := n, stableAt := b } } := by
  by_cases broken : s.checkHolds pol kind op = false
  · exact ⟨_, _, countStable_broken up h broken⟩
  by_cases fresh : s.seq.stableAt = some s.clock.beat
  · exact ⟨s.seq.stable, s.seq.stableAt, (onWaiting_waits up h _).trans ((if_neg broken).trans (if_pos fresh))⟩
  · exact ⟨_, _, countStable_holds up h (Bool.not_eq_false _ ▸ broken) fresh⟩

/-- After that beat the CHECK passes by the count, or by what the command says of a pin that only it sees. -/
theorem doCheckPass_counted (n : Nat) (passes : if s.freePin kind op then
      s.get (K.seqChkStable pset.val) ≤ n ∧ s.seq.startBeat + n ≤ s.clock.beat + 1
      else s.get (K.seqChkStable pset.val) ≤ (countStable s).seq.stable) :
    doCheckPass n (countStable s) = stepDone ((countStable s).put K.seqFlag 0) := by
  obtain ⟨m, b, counted⟩ := countStable_writes up h
  rw [counted] at passes ⊢
  exact (onWaiting_waits (s := { s with seq := { s.seq with stable := m, stableAt := b } }) up h _).trans (if_pos passes)

theorem doCheckTimeout_over (due : s.seq.startBeat + s.get (K.seqChkTimeout pset.val) * 1000 ≤ s.clock.beat) :
    doCheckTimeout s = checkFail soft 1 (s.checkPlace kind op none).1 (s.checkPlace kind op none).2 s :=
  (onWaiting_waits up h _).trans (if_pos due)

/-- The toggles are those counted, or more where the command says so of a pin that only it sees. -/
theorem doCheckChatter_reached {n : Nat} {u : State} (limited : s.get (K.seqChkChat pset.val) ≠ 0)
    (hu : u = if s.freePin kind op ∧ s.get K.seqChkToggles < n then s.putFit K.seqChkToggles n else s)
    (reached : s.get (K.seqChkChat pset.val) ≤ u.get K.seqChkToggles) :
    doCheckChatter n s = checkFail soft 2 (u.checkPlace kind op (some s.seq.chatRail)).1
      (u.checkPlace kind op (some s.seq.chatRail)).2 u := by
  have kept : u.seq = s.seq := by
    rw [hu]
    split
    · exact State.put_seq s _ _
    · rfl
  rw [← kept]
  subst hu
  exact (onWaiting_waits up h _).trans (if_pos ⟨limited, reached⟩)

end

/-! ## WAIT_TIME, WAIT_STRIDE, SLEW and GAIT (R190, R191, R197, R206) -/

theorem doGaitTmo_up {tmo : BitVec 8} {target : BitVec 6} (h : s.seq.waiting = some (.gait tmo target)) (st : s.seqState = .powerUp)
    (due : s.seq.startBeat + s.gaitLimit tmo ≤ s.clock.beat) :
    doGaitTmo s = stepFail 6 0xFF 0xFF (pullGait (s.flag K.gaitStatus 2)) := by
  have rises : (pullGait (s.flag K.gaitStatus 2)).seqState ≠ .powerDown := by
    rw [State.seqState, pullGait, State.get_withGait, State.get_flag_ne _ _ _ _ (by decide), ← State.seqState, st]
    decide
  refine (onWaiting_waits up h _).trans ((if_pos due).trans ?_)
  dsimp only
  rw [if_neg rises]

theorem doGaitAdvance_high {tmo : BitVec 8} {target : BitVec 6} {n : Nat} (h : s.seq.waiting = some (.gait tmo target))
    (enough : s.get K.gaitAckN ≤ n) (since : s.seq.startBeat + n ≤ s.clock.beat) (released : s.gait.released = true) :
    doGaitAdvance n s =
      let u := (((s.put K.seqGaitState target.toNat).bump K.gaitStepCnt).flag K.gaitStatus 1).put K.gaitLastWait
        ((s.clock.beat - s.seq.startBeat) % 2 ^ 32)
      stepDone { u with gait := { u.gait with pullAt := some (s.clock.beat + s.get K.gaitHold) } } := by
  refine (onWaiting_waits up h _).trans (if_neg ?_)
  rintro (few | early | pulled)
  · exact Nat.not_lt.2 enough few
  · exact Nat.not_lt.2 since early
  · exact Bool.false_ne_true (pulled.symm.trans released)

end

theorem doGaitHoldEnd_over {t : Nat} (h : s.gait.pullAt = some t) (due : t ≤ s.clock.beat) : doGaitHoldEnd s = pullGait s := by
  rw [doGaitHoldEnd, h]
  exact if_pos due

end

/-- Settles O36: each start by the branch that refuses it, each wait by what a beat past its limit does. -/
theorem sequencerStepsThatFail : Obligations.SequencerStepsThatFail := by
  refine ⟨?_, ?_⟩
  · rintro s _ u rfl ready
    refine ⟨fun w tmo mask named on => ⟨fun begins => ?_, fun begins => ?_⟩, fun w tmo mask n rest begins free h => ?_,
      fun skip unit begins h => ?_, fun rail w code begins own h => ?_, fun tmo target begins st next => ?_⟩
    · rw [← bk_of_begins begins] at on
      exact seqRow_gives rfl ready begins (seqEnable_alwaysOn named on)
    · rw [← bk_of_begins begins] at on
      exact seqRow_gives rfl ready begins (seqDisable_alwaysOn named on)
    · rw [← bk_of_begins begins] at free
      exact seqRow_gives rfl ready begins (seqEnable_refused free h)
    · rw [← strideState_of_begins begins] at h
      exact seqRow_gives rfl ready begins (seqWaitStride_unlocked h)
    · rw [State.alwaysOn, ← bk_of_begins begins] at own
      rw [← rail_of_begins begins] at h
      exact seqRow_gives rfl ready begins (seqSlew_off own h)
    · rw [← gaitState_of_begins begins] at next
      exact seqRow_gives rfl ready begins ((seqGait_up ((seqState_of_begins begins).trans st)).trans (if_neg next))
  · intro s up
    refine ⟨fun w tmo mask n h => ⟨fun broken => ?_, fun whole due late => ?_⟩, fun w tmo mask n h due late => ?_,
      fun soft pol pset kind op h due => ?_,
      fun soft pol pset kind op n h limited => ⟨fun seen reached => ?_, fun u free more hu reached => ?_⟩,
      fun tmo target h st due => ?_⟩
    · exact event_gives rfl (doEnableWaitTmo_broken up h broken)
    · exact event_gives rfl (doEnableWaitTmo_late up h whole due late)
    · exact event_gives rfl (doDisableWaitTmo_late up h due late)
    · exact event_gives rfl (doCheckTimeout_over up h due)
    · exact event_gives rfl (doCheckChatter_reached up h limited (by rw [seen]; rfl) reached)
    · exact event_gives rfl (doCheckChatter_reached up h limited (hu.trans (if_pos ⟨free, more⟩).symm) reached)
    · exact event_gives rfl (doGaitTmo_up up h st due)

/-- Settles O37: each wait by what its beat does once what it awaits has come. -/
theorem sequencerWaitsThatEnd : Obligations.SequencerWaitsThatEnd := by
  intro s up
  refine ⟨fun w tmo mask h arrived => ?_, fun w tmo mask h rests => ?_, fun n h due => ?_, fun n h due => ?_,
    fun lock skip unit h left due after => ?_,
    fun soft pol pset kind op h => ⟨?_, ?_, fun seen enough n => ?_, fun n free enough since => ?_⟩,
    fun rail w code h regulates equal => ?_, fun tmo target n u h enough since released hu => ?_, fun t h due => ?_⟩
  · exact event_gives rfl (doEnableWaitDone_arrived up h arrived)
  · exact event_gives rfl (doDisableWaitDone_rests up h rests)
  · exact event_gives rfl ((onWaiting_waits up h _).trans (if_pos due))
  · exact event_gives rfl ((onWaiting_waits up h _).trans (if_pos due))
  · exact event_gives rfl ((onWaiting_waits up h _).trans (if_pos ⟨left, due, after⟩))
  · exact countStable_holds up h
  · exact countStable_broken up h
  · exact event_gives (f := fun u => doCheckPass n (countStable u)) rfl (doCheckPass_counted up h n (by rw [seen]; exact enough))
  · exact event_gives (f := fun u => doCheckPass n (countStable u)) rfl
      (doCheckPass_counted up h n (by rw [free]; exact ⟨enough, since⟩))
  · exact event_gives rfl ((onWaiting_waits up h _).trans (if_pos ⟨regulates, equal⟩))
  · subst hu
    exact event_gives rfl (doGaitAdvance_high up h enough since released)
  · exact event_gives rfl (doGaitHoldEnd_over h due)

end Sys2Proof.Machine
end

section
/-! GAITALRM (R208 to R210), and programs at the host's request (R181, R182, R205, R214). -/

namespace Sys2Proof.Machine

/-! ## The alarm -/

section
variable {s : State} {n : Nat}

/-- The alarm is detected for the first time, on lines in use. -/
theorem doGaitalrmDetect_samples (up : s.fastUp = true) (en : s.gait.en = true) (first : s.gait.detected = false)
    (enough : s.get K.gaitAlrmDeglitch ≤ max n s.ownLow) : doGaitalrmDetect n s =
      let t := { (s.bump K.gaitAlrmCnt).flag K.gaitStatus 4 with gait := { s.gait with detected := true } }
      alarmActs (if s.gait.alarm then t else takeSource .gaitAlrmIn 0 t) :=
  if_pos (by rw [up, en, first, decide_eq_true enough]; rfl)

theorem doGaitalrmDetect_unused (en : s.gait.en = false) : doGaitalrmDetect n s = s :=
  if_neg (by rw [en]; simp)

theorem State.ownLow_of_alarm (own : s.gait.alarm = true) : s.ownLow = s.clock.beat - s.gait.alarmFrom := if_pos own

theorem doGaitalrmRelease_idle (own : s.gait.alarm = true) (due : s.gait.alarmSince + s.get K.gaitAlrmMin * 1000 ≤ s.clock.beat)
    (idle : s.programRuns = false) : doGaitalrmRelease s = { s with gait := { s.gait with alarm := false } } :=
  if_pos ⟨own, due, .inl idle⟩

theorem doGaitalrmLineHigh_released (own : s.gait.alarm = false) :
    doGaitalrmLineHigh s = endCondition 0x5400 { s with gait := { s.gait with detected := false } } := by
  rw [doGaitalrmLineHigh, own, show SrcKind.gaitAlrmIn.number 0 = 0x5400 by decide]
  rfl

theorem wrGaitAlrmCmd_unused (en : s.gait.en = false) : wrGaitAlrmCmd 1 s = refuse Abort.state s := by
  rw [wrGaitAlrmCmd, if_neg (not_not.2 rfl), if_pos en]

theorem wrGaitAlrmCmd_accepts (en : s.gait.en = true) : wrGaitAlrmCmd 1 s = accept (assertAlarm s) := by
  rw [wrGaitAlrmCmd, if_neg (not_not.2 rfl), en, if_neg Bool.false_ne_true.symm]

end

/-! ## Programs -/

section
variable {s : State} {port : Port} {v i : Nat}

theorem wrSeqRun_noSlot (h : v < 2 ∨ 7 < v) : wrSeqRun port v s = refuse Abort.value s := if_pos h

theorem wrSeqRun_closed (lo : 2 ≤ v) (hi : v ≤ 7) (h : s.dev ≠ .active ∨ s.programRuns = true ∨ (imageDir s.seq.image v).2 = 0) :
    wrSeqRun port v s = refuse Abort.state s := by
  rw [wrSeqRun, if_neg (by omega), if_pos h]

theorem wrSeqRun_accepts (lo : 2 ≤ v) (hi : v ≤ 7) (active : s.dev = .active) (idle : s.programRuns = false)
    (program : (imageDir s.seq.image v).2 ≠ 0) (slot : s.jobChoice = some i) : wrSeqRun port v s =
      accept (beginProgram .user v { s.jobAllot port K.seqRun i with seq := { s.seq with job := some i } }) := by
  have runs : s.dev ≠ .stall := by rw [active]; decide
  rw [wrSeqRun, if_neg (by omega), if_neg (by simp [active, idle, program]), startJob_accepts (.inl runs) slot, State.jobAllot_seq]

theorem wrSeqStop_noUser (h : s.seqState ≠ .user) : wrSeqStop 1 s = refuse Abort.state s := by
  rw [wrSeqStop, if_neg (not_not.2 rfl), if_pos h]

theorem wrSeqStop_accepts (h : s.seqState = .user) :
    wrSeqStop 1 s = accept (giveWay { s with seq := { s.seq with stopAfter := true } }) := by
  rw [wrSeqStop, if_neg (not_not.2 rfl), if_neg (not_not.2 h)]

section
variable {d : List Byte}

theorem wrSeqImage_running (h : s.programRuns = true) : wrSeqImage d s = refuse Abort.state s := if_pos h

theorem wrSeqImage_unsound (idle : s.programRuns = false) (bad : okImage d = false) : wrSeqImage d s = refuse Abort.store s := by
  rw [wrSeqImage, idle, if_neg Bool.false_ne_true, if_pos bad]

theorem wrSeqImage_accepts (idle : s.programRuns = false) (ok : okImage d = true) :
    wrSeqImage d s = accept { s with staging := { s.staging with seqImage := some d } } := by
  rw [wrSeqImage, idle, if_neg Bool.false_ne_true, ok, if_neg Bool.false_ne_true.symm]

end

end

/-! ## Access -/

section
variable (s : State)

theorem writeCheck_gaitAlrmCmd : writeCheck K.gaitAlrmCmd s = none := writeCheck_of_wo s (by decide +kernel)
theorem writeCheck_seqRun : writeCheck K.seqRun s = none := writeCheck_of_wo s (by decide +kernel)
theorem writeCheck_seqStop : writeCheck K.seqStop s = none := writeCheck_of_wo s (by decide +kernel)
theorem writeCheck_seqImage (h : s.get K.cfgLock ≠ 1) : writeCheck K.seqImage s = none :=
  writeCheck_of_unlocked s (by decide +kernel) h (by decide)

end

/-- Settles O38: the alarm by what the line and the device do with it, the requests by their answers at the boundary. -/
theorem programsAndAlarm : Obligations.ProgramsAndAlarm := by
  refine ⟨fun s => ⟨fun up en first own n h => ?_, fun up en first own n h => ?_, fun en n => ?_, fun own due idle => ?_, fun own => ?_,
    ?_⟩, ?_⟩
  · refine event_gives rfl ((doGaitalrmDetect_samples up en first (le_max_of_le_left h)).trans ?_)
    rw [own]
    rfl
  · refine event_gives rfl ((doGaitalrmDetect_samples up en first (le_max_of_le_right ?_)).trans ?_)
    · rwa [State.ownLow_of_alarm own]
    · rw [own]
      rfl
  · exact event_gives rfl (doGaitalrmDetect_unused en)
  · exact event_gives rfl (doGaitalrmRelease_idle own due idle)
  · exact event_gives rfl (doGaitalrmLineHigh_released own)
  · rintro port _ rfl up
    refine ⟨fun en drives => ?_, fun en idle => ?_, fun en => ?_, fun v hv => ?_⟩
    · refine hostRow_accepts up (writeCheck_gaitAlrmCmd _) ((wrGaitAlrmCmd_accepts en).trans ?_)
      rw [assertAlarm, if_pos drives]
      rfl
    · refine hostRow_accepts up (writeCheck_gaitAlrmCmd _) ((wrGaitAlrmCmd_accepts en).trans ?_)
      rw [assertAlarm, idle]
      rfl
    · exact hostRow_refuses up (writeCheck_gaitAlrmCmd _) (wrGaitAlrmCmd_unused en)
    · exact hostRow_refuses up (writeCheck_gaitAlrmCmd _) (if_pos (BitVec.toNat_ne.1 hv))
  · rintro port s _ rfl up
    refine ⟨fun v i lo hi active idle program slot => ?_, fun v h => ?_, fun v lo hi h => ?_, fun h => ?_, fun h => ?_,
      fun d unlocked => ⟨fun runs => ?_, fun idle bad => ?_, fun idle ok => ?_⟩⟩
    · exact hostRow_accepts up (writeCheck_seqRun _) (wrSeqRun_accepts lo hi active idle program slot)
    · exact hostRow_refuses up (writeCheck_seqRun _) (wrSeqRun_noSlot h)
    · exact hostRow_refuses up (writeCheck_seqRun _) (wrSeqRun_closed lo hi h)
    · exact hostRow_accepts up (writeCheck_seqStop _) (wrSeqStop_accepts h)
    · exact hostRow_refuses up (writeCheck_seqStop _) (wrSeqStop_noUser h)
    · exact hostRow_refuses up (writeCheck_seqImage _ unlocked) (wrSeqImage_running runs)
    · exact hostRow_refuses up (writeCheck_seqImage _ unlocked) (wrSeqImage_unsound idle bad)
    · exact hostRow_accepts up (writeCheck_seqImage _ unlocked) (wrSeqImage_accepts idle ok)

end Sys2Proof.Machine
end

section
/-! The accounting of a source in the fault collector (R225 to R228, R239 to R241): which entries it writes whatever the class, and what
a source of class F0 or F1 leaves. -/

namespace Sys2Proof.Machine

/-! ## What the accounting writes -/

/-- The entries that the accounting of a source writes, beside the count of its class, the held words and the error history: the
collector's status, its first-source latch, what is held, emergencies, alerts, the recorder's merged triggers. -/
def accountKeys : List Nat :=
  [K.faultStatus, K.faultFirstValid, K.faultFirstSrc, K.faultFirstRaised, K.faultFirstClass, K.faultFirstBeat, K.faultFirstTime,
   K.faultFirstOvf, K.faultFirstOvfCnt, K.faultHeldCnt, K.faultRailHeld, K.faultPhaseHeld, K.comErrReg, K.comErrCnt,
   K.hostEmcyPending, K.hostAlert, K.faultEmcyLost, K.recMergedCnt, K.recStatus]

/-- An entry that the accounting of a source leaves, whatever the source. -/
structure OffAccount (j : Nat) : Prop where
  keys : j ∉ accountKeys
  held : ∀ i, i < 32 → j ≠ K.faultHeld i
  history : ∀ i, i < 16 → j ≠ K.comErrHist i

theorem OffAccount.ne {j x : Nat} (h : OffAccount j) (hx : x ∈ accountKeys) : j ≠ x := fun e => h.keys (e ▸ hx)

section
variable {j : Nat} (h : OffAccount j) (s : State)

theorem openBeat_get (j : Nat) : (openBeat s).get j = s.get j := by
  unfold openBeat
  split <;> rfl

include h

theorem noteSlot_get (n d : Nat) : (noteSlot n d s).get j = s.get j := by
  unfold noteSlot
  split
  · exact (State.get_flag_ne _ _ _ _ (h.ne (by decide))).trans (State.get_bump_ne _ _ _ (h.ne (by decide)))
  · rfl

theorem fireTrigger_get (t : Trigger) : (fireTrigger t s).get j = s.get j := by
  unfold fireTrigger
  split
  · exact each_keeps _ _ (State.get · j) s fun n _ u => noteSlot_get h u n t.detail
  · rfl

theorem showHeld_get : (showHeld s).get j = s.get j := by
  have words (v : Nat → State → Nat) : (each (upto 32) (fun i u => u.put (K.faultHeld i) (v i u)) s).get j = s.get j :=
    each_keeps _ _ (State.get · j) s fun i hi u => State.get_put_ne _ _ _ _ (h.held i (List.mem_range.1 hi))
  unfold showHeld
  dsimp only
  rw [State.get_put_ne _ _ _ _ (h.ne (by decide)), State.get_put_ne _ _ _ _ (h.ne (by decide)),
    State.get_put_ne _ _ _ _ (h.ne (by decide)), State.get_put_ne _ _ _ _ (h.ne (by decide)), words]

theorem latchSource_get (a b c : Nat) : (latchSource a b c s).get j = s.get j := by
  unfold latchSource
  split
  · rfl
  · split
    · repeat rw [State.get_put_ne _ _ _ _ (h.ne (by decide))]
    · rw [State.get_bump_ne _ _ _ (h.ne (by decide)), State.get_put_ne _ _ _ _ (h.ne (by decide))]

theorem pushHistory_get (c src : Nat) : (pushHistory c src s).get j = s.get j := by
  have shifted : (each ((upto 15).reverse) (fun i u => u.put (K.comErrHist (i + 1)) (u.get (K.comErrHist i))) s).get j = s.get j := by
    refine each_keeps _ _ (State.get · j) s fun i hi u => State.get_put_ne _ _ _ _ (h.history (i + 1) ?_)
    exact Nat.succ_lt_succ (List.mem_range.1 (List.mem_reverse.1 hi))
  unfold pushHistory
  dsimp only
  rw [State.get_put_ne _ _ _ _ (h.ne (by decide)), State.get_put_ne _ _ _ _ (h.history 0 (by decide)), shifted]

theorem ecatTakes_get : (ecatTakes s).get j = s.get j := by
  unfold ecatTakes
  split
  · exact State.get_put_ne _ _ _ _ (h.ne (by decide))
  · rfl

theorem queueEmcy_get (e : Emcy) : (queueEmcy e s).get j = s.get j := by
  have history : (if e.code = 0 then s else pushHistory e.code e.src s).get j = s.get j := by
    rw [State.get_ite, pushHistory_get h, ite_self]
  unfold queueEmcy
  dsimp only
  rw [State.get_ite, ecatTakes_get h, State.get_ite, State.get_flag_ne _ _ _ _ (h.ne (by decide)),
    State.get_put_ne _ _ _ _ (h.ne (by decide)), State.get_flag_ne _ _ _ _ (h.ne (by decide)),
    State.get_bump_ne _ _ _ (h.ne (by decide)), State.get_withFc, history, ite_self, ite_self]

end

/-! ## A source of class F0 or F1 -/

section
variable {s : State} {k : SrcKind} {i j : Nat}

theorem openBeat_raisedClass : (openBeat s).raisedClass k i = s.raisedClass k i := by
  unfold openBeat
  split <;> rfl

/-- Only classes F2 to F4 rise to the next (R225). -/
theorem effectiveClass_mild {u r : Nat} (mild : effectiveClass u r ≤ 1) : effectiveClass u r = r := by
  unfold effectiveClass at mild ⊢
  split at mild
  · omega
  · next same => exact if_neg same

/-- Classes F0 and F1 have no reaction (R228). -/
theorem react_mild {c : Nat} (mild : c ≤ 1) : react c k i s = s := by
  interval_cases c <;> rfl

theorem State.bump_get_congr {s t : State} {c : Nat} (counter : t.get c = s.get c) (entry : t.get j = s.get j) :
    (t.bump c).get j = (s.bump c).get j := by
  by_cases same : j = c
  · rw [same, State.get_bump_self, State.get_bump_self, counter]
  · rw [State.get_bump_ne _ _ _ same, State.get_bump_ne _ _ _ same, entry]

theorem offAccount_faultCnt {c : Nat} (mild : c ≤ 1) : OffAccount (K.faultCnt c) := by
  interval_cases c <;> exact ⟨by decide, by decide, by decide⟩

/-- Of the entries that no accounting writes, a source of class F0 or F1 writes the count of its class alone. -/
theorem takeSource_mild_get (mild : effectiveClass (openBeat s).fc.unackAtStart (s.raisedClass k i) ≤ 1) (h : OffAccount j) :
    (takeSource k i s).get j =
      (s.bump (K.faultCnt (effectiveClass (openBeat s).fc.unackAtStart (s.raisedClass k i)))).get j := by
  have same := effectiveClass_mild mild
  rw [same] at mild ⊢
  have low : ¬ 2 ≤ s.raisedClass k i := by omega
  have ended (src : Nat) (t : State) : (endCondition src t).get j = t.get j := State.get_withFc t _ _
  have flagged (t : State) (m : Nat) := State.get_flag_ne t K.faultStatus m j (h.ne (by decide))
  unfold takeSource
  simp only [openBeat_raisedClass, same, react_mild mild, low, ne_eq, not_true_eq_false, if_false]
  simp only [↓State.get_ite, ↓ended, ↓fireTrigger_get h, ↓queueEmcy_get h, ↓State.get_withFc, ↓showHeld_get h, ↓latchSource_get h,
    ↓flagged, ite_self]
  refine State.bump_get_congr ?_ ?_
  · exact (State.get_flag_ne _ _ _ _ ((offAccount_faultCnt mild).ne (by decide))).trans (openBeat_get s _)
  · exact (flagged _ 1).trans (openBeat_get s j)

end

theorem bitsOf_faultCnt {c : Nat} (mild : c ≤ 1) : bitsOf (K.faultCnt c) = 32 := by
  interval_cases c <;> decide +kernel

theorem offAccount_railState {n : Nat} (hn : n < 16) : OffAccount (K.railState n) := by
  refine ⟨?_, fun i hi => ?_, fun i hi => ?_⟩
  · revert n; decide
  · simp only [K.railState, K.faultHeld]; omega
  · simp only [K.railState, K.comErrHist]; omega

theorem offAccount_phaseState {p : Nat} (hp : p < 8) : OffAccount (K.phaseState p) := by
  refine ⟨?_, fun i hi => ?_, fun i hi => ?_⟩
  · revert p; decide
  · simp only [K.phaseState, K.faultHeld]; omega
  · simp only [K.phaseState, K.comErrHist]; omega

/-- Settles O29: a source without a reaction writes the entries of its accounting alone, and of the counts of classes its own. -/
theorem mildSourcesTurnNothingOff : Obligations.MildSourcesTurnNothingOff := by
  intro k i s mild
  have kept {j : Nat} (h : OffAccount j) (hc : ∀ c, c ≤ 1 → j ≠ K.faultCnt c) : (takeSource k i s).get j = s.get j :=
    (takeSource_mild_get mild h).trans (State.get_bump_ne _ _ _ (hc _ mild))
  have unack := kept (j := K.faultUnack) ⟨by decide, by decide, by decide⟩ (by decide)
  have device := kept (j := K.devState) ⟨by decide, by decide, by decide⟩ (by decide)
  have sequencer := kept (j := K.seqState) ⟨by decide, by decide, by decide⟩ (by decide)
  refine ⟨unack, congrArg DevState.ofCode device, congrArg SeqState.ofCode sequencer,
    fun n hn => congrArg RailState.ofCode (kept (offAccount_railState hn) ?_),
    fun p hp => congrArg PhaseState.ofCode (kept (offAccount_phaseState hp) ?_), ?_⟩
  · simp only [K.railState, K.faultCnt]; omega
  · simp only [K.phaseState, K.faultCnt]; omega
  · rw [takeSource_mild_get mild (offAccount_faultCnt mild), State.get_bump_self, bitsOf_faultCnt mild]

end Sys2Proof.Machine
end

section
/-! Release of everything held (R233), and recovery at a tick (R232 to R236). -/

namespace Sys2Proof.Machine

/-! ## What is held, while rails, phases and the divider follow -/

/-- The numbers of the held sources (R231). -/
def State.heldSources (s : State) : List Nat := s.fc.held.map HeldSource.src

theorem State.held_nil_iff {s : State} : s.fc.held = [] ↔ s.heldSources = [] := List.map_eq_nil_iff.symm

section
variable (s : State)

theorem each_fc {α : Type} (l : List α) (f : α → State → State) (h : ∀ a t, (f a t).fc = t.fc) : (each l f s).fc = s.fc :=
  each_keeps l f State.fc s fun a _ => h a

theorem when_fc (c : Bool) (f : State → State) (h : ∀ t, (f t).fc = t.fc) : (when c f s).fc = s.fc := by
  cases c with
  | false => rfl
  | true => exact h s

theorem ite_fc (c : Prop) [Decidable c] (a b : State) : (if c then a else b).fc = if c then a.fc else b.fc := apply_ite State.fc c a b

theorem State.bump_fc (k : Nat) : (s.bump k).fc = s.fc := rfl
theorem State.putBit_fc (k i : Nat) (b : Bool) : (s.putBit k i b).fc = s.fc := rfl
theorem State.putPhase_fc (p : Nat) (x : PhaseState) : (s.putPhase p x).fc = s.fc := rfl

theorem jobEnd_fc (i : Nat) (x : JobStatus) (r : Nat) : (jobEnd i x r s).fc = s.fc := by simp [jobEnd, ite_fc]

theorem jobEnd?_fc (i : Option Nat) (x : JobStatus) (r : Nat) : (jobEnd? i x r s).fc = s.fc := by
  cases i with
  | none => rfl
  | some i => exact jobEnd_fc s i x r

theorem leaveRun_fc (r : RhRun) (x : Nat) : (leaveRun r x s).fc = s.fc := by
  simp [leaveRun, arbRelease, jobEnd?_fc, ite_fc, State.bump_fc]

theorem commissionNext_fc (c : RhCommission) (n : Nat) (w : Bool) : (commissionNext c n w s).fc = s.fc := by
  simp [commissionNext, jobEnd_fc, ite_fc]

theorem failRun_fc (r : RhRun) (x : Nat) : (failRun r x s).fc = s.fc := by
  unfold failRun
  dsimp only
  split
  · rw [commissionNext_fc, leaveRun_fc]
  · exact leaveRun_fc s r x

theorem rhStops_fc (n : Nat) : (rhStops n s).fc = s.fc := by
  unfold rhStops
  split
  · simp [↓ite_fc, failRun_fc]
  · rfl

theorem offerToggle_fc (m : Nat) (p : SeqInstr → Bool) : (offerToggle m p s).fc = s.fc := by
  unfold offerToggle
  split
  · simp [ite_fc, State.bump_fc]
  · rfl

theorem setGood_fc (m : Nat) (b : Bool) : (setGood m b s).fc = s.fc := by
  simp [setGood, pgood, offerToggle_fc, ite_fc, State.bump_fc, State.putBit_fc]

theorem reinterleave_fc (n : Nat) : (reinterleave n s).fc = s.fc := by simp [reinterleave, ite_fc, each_fc]

theorem burstStops_fc (n : Nat) : (burstStops n s).fc = s.fc := by simp [burstStops, when_fc]

theorem idlePhases_fc (n : Nat) : (idlePhases n s).fc = s.fc := by
  have idled (l : List Nat) (t : State) : (each l (fun p u => u.putPhase p .idle) t).fc = t.fc := each_fc t l _ fun _ _ => rfl
  simp [idlePhases, idleReleased, reinterleave_fc, burstStops_fc, each_fc, idled, State.putPhase_fc]

theorem setIbusGood_fc (b : Bool) : (setIbusGood b s).fc = s.fc := by
  unfold setIbusGood
  rw [ite_fc, offerToggle_fc, State.put_fc, ite_self]

theorem setFd_fc (x : FdState) : (setFd x s).fc = s.fc := by simp [setFd_eq, showTrim, fdTaken, when_fc, State.putFd]

theorem fdToOff_fc : (fdToOff s).fc = s.fc := by simp [fdToOff, setIbusGood_fc, setFd_fc]

theorem releasePhase_fc (p : Nat) : (releasePhase p s).fc = s.fc := by
  unfold releasePhase startRemount
  simp only [↓ite_fc, State.setPhaseE_fc, State.putPhase_fc, ite_self]

theorem showHeld_fc : (showHeld s).fc = s.fc := by simp [showHeld, each_fc]

theorem endCondition_heldSources (src : Nat) : (endCondition src s).heldSources = s.heldSources := by
  rw [State.heldSources, endCondition, List.map_map]
  refine List.map_congr_left fun h _ => ?_
  dsimp only [Function.comp_apply]
  split <;> rfl

theorem keepLevels_heldSources (m l : Nat) : (keepLevels m l s).heldSources = s.heldSources :=
  each_keeps _ _ State.heldSources _ fun _ _ t => endCondition_heldSources t _

theorem superviseState_heldSources (n : Nat) (x : RailState) : (superviseState n x s).heldSources = s.heldSources := by
  unfold superviseState
  split
  · rw [State.heldSources, setGood_fc]
    exact keepLevels_heldSources s n _
  · exact keepLevels_heldSources s n _

/-- A rail that takes a state ends conditions of its channel; which sources are held stays. -/
theorem setRail_heldSources (n : Nat) (x : RailState) : (setRail n x s).heldSources = s.heldSources := by
  have stopped : (when (!x.regulating) (rhStops n) s).fc = s.fc := by
    unfold when
    split
    · exact rhStops_fc s n
    · rfl
  have counted (f : State → State) (u : State) : (recount n f u).heldSources = (f u).heldSources := by
    unfold recount
    dsimp only
    split <;> rfl
  refine (counted _ _).trans ((superviseState_heldSources _ n x).trans ?_)
  exact congrArg (fun c => c.held.map HeldSource.src) stopped

theorem railToDischarge_heldSources (n : Nat) : (railToDischarge n s).heldSources = s.heldSources :=
  (setRail_heldSources _ n .discharge).trans (congrArg (fun c => c.held.map HeldSource.src) (idlePhases_fc s n))

end

/-! ## The release (R233) -/

section
variable (s : State) {n : Nat}

/-- An effect repeated over distinct numbers, where only number `n` touches a reading and there by `g`, does `g` to it. -/
theorem each_at {β : Type} {l : List Nat} (nodup : l.Nodup) (hn : n ∈ l) (f : Nat → State → State) (read : State → β) (g : β → β)
    (own : ∀ t, read (f n t) = g (read t)) (other : ∀ m, m ∈ l → m ≠ n → ∀ t, read (f m t) = read t) :
    read (each l f s) = g (read s) := by
  obtain ⟨a, b, rfl⟩ := List.append_of_mem hn
  obtain ⟨-, tail, apart⟩ := List.nodup_append.1 nodup
  have before : read (each a f s) = read s :=
    each_keeps a f read s fun m hm => other m (List.mem_append_left _ hm) (apart m hm n List.mem_cons_self)
  have after (t : State) : read (each b f t) = read t :=
    each_keeps b f read t fun m hm => other m (List.mem_append_right _ (List.mem_cons_of_mem _ hm)) fun e =>
      (List.nodup_cons.1 tail).1 (e ▸ hm)
  calc read (each (a ++ n :: b) f s)
      = read (each b f (f n (each a f s))) := by simp only [each, List.foldl_append, List.foldl_cons]
    _ = g (read s) := by rw [after, own, before]

theorem railToDischarge_rail (hn : n < 16) : (railToDischarge n s).rail n = .discharge := setRail_rail n _ _ hn

theorem railToDischarge_rail_ne {m : Nat} (hn : n < 16) (h : n ≠ m) : (railToDischarge m s).rail n = s.rail n :=
  (setRail_rail_ne m n _ _ hn h).trans (congrArg RailState.ofCode (idlePhases_get m s _ (offPhases_railState hn)))

/-- A rail in FAULT goes to DISCHARGE. -/
def dischargeFaulted (n : Nat) (s : State) : State := if s.rail n = .fault then railToDischarge n s else s

theorem dischargeFaulted_rail (hn : n < 16) :
    (dischargeFaulted n s).rail n = if s.rail n = .fault then .discharge else s.rail n := by
  unfold dischargeFaulted
  split
  · exact railToDischarge_rail s hn
  · rfl

theorem dischargeFaulted_rail_ne {m : Nat} (hn : n < 16) (h : n ≠ m) : (dischargeFaulted m s).rail n = s.rail n := by
  unfold dischargeFaulted
  split
  · exact railToDischarge_rail_ne s hn h
  · rfl

theorem dischargeFaulted_heldSources (n : Nat) : (dischargeFaulted n s).heldSources = s.heldSources := by
  unfold dischargeFaulted
  split
  · exact railToDischarge_heldSources s n
  · rfl

/-- The divider goes OFF from FAULT. -/
def stopFaulted (s : State) : State := if s.fd = .fault then fdToOff s else s

theorem stopFaulted_fc : (stopFaulted s).fc = s.fc := by
  unfold stopFaulted
  split
  · exact fdToOff_fc s
  · rfl

theorem stopFaulted_rail (hn : n < 16) : (stopFaulted s).rail n = s.rail n := by
  unfold stopFaulted
  split
  · refine congrArg RailState.ofCode ?_
    unfold fdToOff
    rw [State.get_withDivider, State.get_put_ne _ _ _ _ (by simp; omega), setIbusGood_get _ _ (by simp; omega) (by simp; omega),
      setFd_get _ _ (by simp; omega) (by simp; omega) (by simp; omega)]
  · rfl

theorem releasePhase_rail (n p : Nat) : (releasePhase p s).rail n = s.rail n := by
  have other : K.railState n ≠ K.phaseState p := by simp; omega
  refine congrArg RailState.ofCode ?_
  unfold releasePhase
  dsimp only
  split
  · split
    · split
      · exact startRemount_get other
      · rfl
    · exact State.get_putPhase_ne _ _ _ _ other
  · rfl

/-- ORGATEn follows its rail again, a reverse current forgotten (R115). -/
def reopenGate (n : Nat) (s : State) : State := orgate n (s.setRailE n { s.railE n with reversed := false })

theorem reopenGate_fc (n : Nat) : (reopenGate n s).fc = s.fc := rfl

theorem reopenGate_rail (n m : Nat) : (reopenGate m s).rail n = s.rail n :=
  congrArg RailState.ofCode (orgate_get m _ _ (by simp; omega))

/-- Rails, divider, phases and gates as a release leaves them, before it is shown. -/
def released (s : State) : State :=
  each (upto 16) reopenGate (each (upto 8) releasePhase (stopFaulted (each (upto 16) dischargeFaulted
    { s with fc := { s.fc with held := [], lastRelease := some s.tick, cleared := true } })))

theorem releaseAll_eq : releaseAll s = showHeld (((released s).put K.faultQuietCnt 0).flag K.faultStatus 8) := rfl

theorem released_heldSources : (released s).heldSources = [] := by
  have discharged (t : State) : (each (upto 16) dischargeFaulted t).heldSources = t.heldSources :=
    each_keeps _ _ State.heldSources t fun m _ u => dischargeFaulted_heldSources u m
  unfold released
  rw [State.heldSources, each_fc _ _ _ fun m t => reopenGate_fc t m, each_fc _ _ _ fun p t => releasePhase_fc t p, stopFaulted_fc,
    ← State.heldSources, discharged]
  rfl

theorem releaseAll_held : (releaseAll s).fc.held = [] := by
  rw [releaseAll_eq, showHeld_fc, State.flag_fc, State.put_fc]
  exact State.held_nil_iff.2 (released_heldSources s)

theorem releaseAll_quietCnt : (releaseAll s).get K.faultQuietCnt = 0 := by
  rw [releaseAll_eq, showHeld_get ⟨by decide, by decide, by decide⟩, State.get_flag_ne _ _ _ _ (by decide), State.get_put_self]

theorem released_rail (hn : n < 16) : (released s).rail n = if s.rail n = .fault then .discharge else s.rail n := by
  have gates (t : State) : (each (upto 16) reopenGate t).rail n = t.rail n :=
    each_keeps _ _ (State.rail · n) t fun m _ u => reopenGate_rail u n m
  have phases (t : State) : (each (upto 8) releasePhase t).rail n = t.rail n :=
    each_keeps _ _ (State.rail · n) t fun p _ u => releasePhase_rail u n p
  unfold released
  rw [gates, phases, stopFaulted_rail _ hn]
  exact each_at _ List.nodup_range (List.mem_range.2 hn) dischargeFaulted (State.rail · n)
    (fun x => if x = .fault then .discharge else x) (fun t => dischargeFaulted_rail t hn)
    fun m _ apart t => dischargeFaulted_rail_ne t hn apart.symm

/-- A release takes every rail out of FAULT to DISCHARGE and leaves the state of every other (R233). -/
theorem releaseAll_rail (hn : n < 16) : (releaseAll s).rail n = if s.rail n = .fault then .discharge else s.rail n := by
  rw [← released_rail s hn, releaseAll_eq]
  refine congrArg RailState.ofCode ?_
  rw [showHeld_get (offAccount_railState hn), State.get_flag_ne _ _ _ _ (by simp; omega), State.get_put_ne _ _ _ _ (by simp; omega)]

end

/-! ## Recovery at a tick -/

section
variable {s : State} {n r : Nat}

/-- The acknowledge by time (R236). -/
def autoAcked (s : State) : State :=
  { ((openBeat s).put K.faultUnack ((openBeat s).get K.faultUnack &&& 0x20 ||| (openBeat s).fc.takenNow)).flag K.faultStatus 0x80 with
    fc := { (openBeat s).fc with lastRelease := none } }

theorem doAutoAck_due (hr : s.fc.lastRelease = some r) (on : s.get K.faultAutoAck ≠ 0)
    (due : r + s.get K.faultAutoAck * 1000 ≤ s.tick) : doAutoAck s = autoAcked s := by
  rw [doAutoAck, hr]
  exact if_pos ⟨on, due⟩

theorem autoAcked_flag : ((autoAcked s).get K.faultStatus).testBit 7 = true := by
  rw [autoAcked, State.get_withFc, State.get_flag_self, Nat.testBit_or, Bool.or_eq_true]
  exact .inr (by decide)

theorem autoAcked_unack :
    (autoAcked s).get K.faultUnack = (s.get K.faultUnack &&& 0x20) ||| (openBeat s).fc.takenNow := by
  rw [autoAcked, State.get_withFc, State.get_flag_ne _ _ _ _ (by decide), State.get_put_self, openBeat_get]

theorem doRelease_busy (busy : s.faultBusy = true) : doRelease s = s := if_pos busy

theorem restartAfter_none : restartAfter 0 false s = s := if_pos ⟨rfl, rfl⟩

/-- A full quiet count releases everything held; with nothing to restart that is all. -/
theorem doRelease_quiet (held : s.fc.held ≠ []) (idle : s.faultBusy = false) (unlocked : s.get K.faultLockout = 0)
    (quiet : s.get K.faultQuiet ≤ s.get K.faultQuietCnt + 1) (rails : s.restartRails = 0) (device : s.restartsDevice = false) :
    doRelease s = releaseAll s := by
  have due : (!s.fc.held.isEmpty && s.get K.faultLockout == 0 && decide (s.get K.faultQuiet ≤ s.get K.faultQuietCnt + 1)) = true := by
    rw [unlocked, decide_eq_true quiet]
    simp [held]
  rw [doRelease, idle, if_neg Bool.false_ne_true, releaseAt, if_pos due, rails, device, restartAfter_none]

theorem doAutoRestartEnable_one (hd : s.dev = .active)
    (off : (maskList 16 s.fc.restart).filter (fun j => s.rail j == .off) = [n]) :
    doAutoRestartEnable s = railEnable n { s with fc := { s.fc with restart := withBit s.fc.restart n false } } := by
  rw [doAutoRestartEnable, if_pos hd, off]
  rfl

theorem doRetryWinExpire_past (past : s.fc.lastSevere + s.get K.faultRetryWin * 1000000 ≤ s.clock.beat) :
    doRetryWinExpire s = s.put K.faultRetryCnt 0 := if_pos past

end

/-- Settles O32: each step of the tick by its own lemma; the release by what it does to held sources, to the quiet count and to rails. -/
theorem recovery : Obligations.Recovery := by
  rintro s _ rfl up
  refine ⟨fun r hr on due => ?_, fun held idle unlocked quiet rails device => ⟨?_, releaseAll_held _, releaseAll_quietCnt _,
    fun n hn => releaseAll_rail _ hn⟩, fun busy => ?_, fun n hd off => ?_, fun past => ?_⟩
  · exact ⟨_, atTick_gives rfl up (doAutoAck_due hr on due), autoAcked_flag, rfl, autoAcked_unack⟩
  · exact atTick_gives rfl up (doRelease_quiet held idle unlocked quiet rails device)
  · exact atTick_gives rfl up (doRelease_busy busy)
  · exact atTick_gives rfl up (doAutoRestartEnable_one hd off)
  · exact atTick_gives rfl up (doRetryWinExpire_past past)

end Sys2Proof.Machine
end

section
/-! The charge cycle (R255 to R258): which entries and counts a change of the charger's state writes, DETECT's outcomes, and the end of each
state of the cycle. -/

namespace Sys2Proof.Machine

/-! ## A change of state -/

/-- The entries that a change of the charger's state writes. -/
def chargerKeys : List Nat := [K.chgState, K.chgStatus, K.chgCycleFlags, K.chgChargeIn, K.chgCycleCnt]

section
variable (s : State) (x : ChgState) {j : Nat}

theorem State.get_withEst (e : Estimator) (k : Nat) : ({ s with est := e } : State).get k = s.get k := (rfl)

theorem ne_of_offCharger {k : Nat} (h : j ∉ chargerKeys) (hk : k ∈ chargerKeys) : j ≠ k := fun e => h (e ▸ hk)

theorem chgTaken_get (h : j ∉ chargerKeys) : (chgTaken x s).get j = s.get j := by
  have state : (s.put K.chgState x.code).get j = s.get j := State.get_put_ne _ _ _ _ (ne_of_offCharger h (by decide))
  have flagged (t : State) : (t.flag K.chgStatus 4).get j = t.get j := State.get_flag_ne _ _ _ _ (ne_of_offCharger h (by decide))
  simp only [chgTaken, ↓State.get_ite, ↓State.get_withChg, ↓flagged, ite_self]
  split <;> exact state

theorem beginCycle_get (h : j ∉ chargerKeys) : (beginCycle s).get j = s.get j := by
  unfold beginCycle
  dsimp only
  rw [State.get_withChg, State.get_flag_ne _ _ _ _ (ne_of_offCharger h (by decide)),
    State.get_put_ne _ _ _ _ (ne_of_offCharger h (by decide)), State.get_put_ne _ _ _ _ (ne_of_offCharger h (by decide))]

theorem cycleFollows_get (h : j ∉ chargerKeys) : (cycleFollows x s).get j = s.get j := by
  have counted : ((s.bump K.chgCycleCnt).flag K.chgStatus 2).get j = s.get j :=
    (State.get_flag_ne _ _ _ _ (ne_of_offCharger h (by decide))).trans (State.get_bump_ne _ _ _ (ne_of_offCharger h (by decide)))
  have marked (v : Nat) : (s.put K.chgCycleFlags v).get j = s.get j :=
    State.get_put_ne _ _ _ _ (ne_of_offCharger h (by decide))
  unfold cycleFollows
  split
  · split
    · rfl
    · exact beginCycle_get s h
  · split
    · cases x with
      | done => exact counted
      | noSource | suspend | reverse => exact marked _
      | _ => rfl
    · rfl

/-- A change of the charger's state leaves every entry but its own. -/
theorem setChg_get (h : j ∉ chargerKeys) : (setChg x s).get j = s.get j := by
  rw [setChg_eq, cycleFollows_get _ x h, chgTaken_get s x h]

/-- The charger's counts as it takes a state. -/
theorem chgTaken_chg : (chgTaken x s).chg = { s.chg with
    fresh := true, stateTicks := 0, preTicks := 0, cvTicks := 0, rechgTicks := 0, eocTicks := 0, revLowTicks := 0, revShortTicks := 0,
    probing := s.chg.probing && x.charging, collapse := if x.charging then s.chg.collapse else 0,
    shortBeats := if x.charging then s.chg.shortBeats else 0, regainTicks := if x = .suspend then 0 else s.chg.regainTicks } := by
  cases x <;> rfl

/-- Of the charger's counts the charge cycle writes its own alone. -/
theorem cycleFollows_chg : ∃ c a b d e g, (cycleFollows x s).chg =
    { s.chg with inCycle := c, accPre := a, absPre := b, accFast := d, absFast := e, chargeAcc := g } := by
  unfold cycleFollows
  split
  · split
    · exact ⟨_, _, _, _, _, _, rfl⟩
    · exact ⟨true, 0, 0, 0, 0, 0, rfl⟩
  · split
    · cases x with
      | done | missing | fault | off => exact ⟨false, _, _, _, _, _, rfl⟩
      | _ => exact ⟨_, _, _, _, _, _, rfl⟩
    · exact ⟨_, _, _, _, _, _, rfl⟩

/-- The counts of a state begin anew with it, and its tick under way is none of its own. -/
theorem setChg_restarts : (setChg x s).chg.stateTicks = 0 ∧ (setChg x s).chg.fresh = true := by
  obtain ⟨c, a, b, d, e, g, own⟩ := cycleFollows_chg (chgTaken x s) x
  rw [setChg_eq, own, chgTaken_chg]
  exact ⟨rfl, rfl⟩

/-- A state that does not charge ends a probe and the count of a collapse (R262). -/
theorem setChg_endsCollapse (h : x.charging = false) : (setChg x s).chg.probing = false ∧ (setChg x s).chg.collapse = 0 := by
  obtain ⟨c, a, b, d, e, g, own⟩ := cycleFollows_chg (chgTaken x s) x
  rw [setChg_eq, own, chgTaken_chg, h]
  exact ⟨Bool.and_false _, rfl⟩

theorem cycleFollows_est : (cycleFollows x s).est = s.est := by
  unfold cycleFollows
  split
  · split <;> rfl
  · split
    · cases x <;> rfl
    · rfl

/-- The estimator notices a state of the charger only where it wakes it (R284). -/
theorem setChg_est (h : x.wakes = false) : (setChg x s).est = s.est := by
  rw [setChg_eq, cycleFollows_est, chgTaken, h]
  dsimp only
  split <;> rfl

theorem setChg_rail {n : Nat} (hn : n < 16) : (setChg x s).rail n = s.rail n := by
  refine congrArg RailState.ofCode (setChg_get s x ?_)
  simp [chargerKeys]
  omega

theorem setChg_phase {p : Nat} (hp : p < 8) : (setChg x s).phase p = s.phase p := by
  refine congrArg PhaseState.ofCode (setChg_get s x ?_)
  simp [chargerKeys]
  omega

end

/-! ## The states of the cycle -/

section
variable {s : State}

/-- An event of the path or the charger gives what it does, with the sources it raised taken in their order (R223). -/
theorem pathEvent_gives {c : Instr} {f : State → State} {t : State} (row : exec c s = pathEvent f s) (h : f s = t) :
    Gives c s (collectDue t) :=
  event_gives (f := fun u => collectDue (f u)) row (congrArg collectDue h)

theorem chgStep_due {x y : ChgState} {ok : Bool} (up : s.coreUp = true) (here : s.chgState = x) (due : ok = true) :
    chgStep x y ok s = setChg y s := by
  subst here due
  rw [chgStep, up, beq_self_eq_true]
  rfl

theorem doEndOfCharge_due (up : s.coreUp = true) (here : s.chgState = .cv) (due : s.get K.chgEocTicks ≤ s.chg.eocTicks) :
    doEndOfCharge s = { setChg .done s with est := { s.est with fullDue := true } } := by
  rw [doEndOfCharge, if_pos ⟨up, here, due⟩]
  dsimp only
  rw [setChg_est s _ rfl]

theorem doChgTempRegain_due (up : s.coreUp = true) (here : s.chgState = .suspend) (due : 100 ≤ s.chg.regainTicks) :
    doChgTempRegain s = setChg .detect (regainTemp s) := if_pos ⟨up, here, due⟩

theorem doChgDetRetry_due (up : s.coreUp = true) (here : s.chgState = .missing) (free : s.chgHeld = false)
    (due : s.get K.chgDetRetry * 1000 ≤ s.chg.stateTicks) : doChgDetRetry s = showGates (setChg .detect s) :=
  if_pos ⟨up, here, free, due⟩

/-! ## DETECT (R256) -/

section
variable {v : Nat}

theorem doDetectDone_full (up : s.coreUp = true) (here : s.chgState = .detect) (due : 10 ≤ s.chg.stateTicks)
    (full : s.rechargeLevel ≤ s.chg.vOpen) : doDetectDone v s = readPackid v (packFound (setChg .done s)) := by
  rw [doDetectDone, if_pos ⟨up, here⟩, if_pos ⟨due, full⟩]

/-- After its probe DETECT decides by how far VBAT rose. -/
theorem doDetectDone_probed (up : s.coreUp = true) (here : s.chgState = .detect) (due : 30 ≤ s.chg.stateTicks)
    (low : s.chg.vOpen < s.rechargeLevel) : doDetectDone v s =
      if s.chg.vOpen + 2000 ≤ s.get K.chgVbat ∨ (s.cvTarget ≤ s.get K.chgVbat + 100 ∧ s.getI K.chgIbat < 50) then
        raiseLater .chgBatMissing 0 (packLost (s.flag K.chgStatus 8))
      else if s.get K.chgVbat < s.shortLevel ∧ 90 ≤ s.getI K.chgIbat then chargeStop .chgBatShort 8 s
      else readPackid v (packFound (setChg (if s.get K.chgVbat < s.preLevel then .precharge else .cc) s)) := by
  rw [doDetectDone, if_pos ⟨up, here⟩, if_neg fun full => Nat.not_le.2 low full.2, if_pos due]

theorem doDetectDone_found (up : s.coreUp = true) (here : s.chgState = .detect) (due : 30 ≤ s.chg.stateTicks)
    (low : s.chg.vOpen < s.rechargeLevel) (flat : s.get K.chgVbat < s.chg.vOpen + 2000) (below : s.get K.chgVbat + 100 < s.cvTarget)
    (sound : s.shortLevel ≤ s.get K.chgVbat) : doDetectDone v s =
      readPackid v (packFound (setChg (if s.get K.chgVbat < s.preLevel then .precharge else .cc) s)) := by
  rw [doDetectDone_probed up here due low, if_neg (by omega), if_neg fun short => Nat.not_lt.2 sound short.1]

theorem doDetectDone_missing (up : s.coreUp = true) (here : s.chgState = .detect) (due : 30 ≤ s.chg.stateTicks)
    (low : s.chg.vOpen < s.rechargeLevel) (rose : s.chg.vOpen + 2000 ≤ s.get K.chgVbat) :
    doDetectDone v s = raiseLater .chgBatMissing 0 (packLost (s.flag K.chgStatus 8)) := by
  rw [doDetectDone_probed up here due low, if_pos (.inl rose)]

end

end

/-- Settles O44: each change of state by its condition, DETECT by what its probe found; of the change itself what it restarts and what it
leaves. -/
theorem chargeCycle : Obligations.ChargeCycle := by
  refine ⟨fun s up => ⟨fun here due => ?_, fun here free => ?_, fun here due => ?_, fun here due => ?_, fun here due => ?_,
    fun here due => ?_, fun here free due => ?_, fun v here due full => ?_, fun v here due low flat below sound => ?_,
    fun v here due low rose => ?_⟩, fun x s => ⟨setChg_chgState s x, (setChg_restarts s x).1, (setChg_restarts s x).2,
    setChg_endsCollapse s x, fun n hn => setChg_rail s x hn, fun p hp => setChg_phase s x hp⟩⟩
  · exact event_gives rfl (chgStep_due up here (decide_eq_true due))
  · exact event_gives rfl (chgStep_due up here (congrArg (!·) free))
  · exact event_gives rfl (chgStep_due up here (decide_eq_true due))
  · exact event_gives rfl (doEndOfCharge_due up here due)
  · exact event_gives rfl (chgStep_due up here (decide_eq_true due))
  · exact event_gives rfl (doChgTempRegain_due up here due)
  · exact event_gives rfl (doChgDetRetry_due up here free due)
  · exact pathEvent_gives rfl (doDetectDone_full up here due full)
  · exact pathEvent_gives rfl (doDetectDone_found up here due low flat below sound)
  · exact pathEvent_gives rfl (doDetectDone_missing up here due low rose)

end Sys2Proof.Machine
end

section
/-! Harvest and reverse mode (R254, R265 to R267), and a read of CHG.FAULT (R269). -/

namespace Sys2Proof.Machine

/-! ## The tracker (R265) -/

section
variable {s : State}

theorem State.beside_get (s t : State) (k : Nat) : (s.beside t).get k = t.get k := (rfl)
theorem State.beside_chg (s t : State) : (s.beside t).chg = t.chg := (rfl)

/-- V_oc and its fraction as V_mpp, as the end of a sweep shows them. -/
def sweepShown (s : State) : State :=
  (s.putFit K.mpptVoc (s.get K.pathAuxin)).putFit K.mpptVset (max (s.get K.pathAuxin * s.get K.mpptFrac / 100) s.vMin : Nat)

/-- A sweep ends, and the tracker begins anew. -/
def sweepEnded (s : State) : State :=
  { sweepShown s with chg := { (sweepShown s).chg with
    sweeping := false, periodTicks := 0, pSum := 0, dir := 1, pPrev := 0, bound := false } }

theorem doMpptSweep_due (up : s.coreUp = true) (sweeps : s.chg.sweeping = true) (due : 50 ≤ s.chg.sweepTicks) :
    doMpptSweep s = sweepEnded s := if_pos ⟨up, sweeps, due⟩

theorem sweepEnded_get (k : Nat) : (sweepEnded s).get k = (sweepShown s).get k := State.get_withChg _ _ _

theorem sweepEnded_voc : (sweepEnded s).get K.mpptVoc = fit K.mpptVoc (s.get K.pathAuxin) := by
  rw [sweepEnded_get, sweepShown, State.get_putFit_ne _ _ _ _ (by decide), State.get_putFit_self]

theorem sweepEnded_sweeping : (sweepEnded s).chg.sweeping = false := rfl

theorem sweepEnded_vset : (sweepEnded s).get K.mpptVset =
    fit K.mpptVset (max (s.get K.pathAuxin * s.get K.mpptFrac / 100) s.vMin) := by
  rw [sweepEnded_get, sweepShown, State.get_putFit_self]
  push_cast
  rfl

theorem sweepEnded_sameBut : SameBut [K.mpptVoc, K.mpptVset] s (sweepEnded s) := by
  intro k hk
  obtain ⟨voc, vset⟩ : k ≠ K.mpptVoc ∧ k ≠ K.mpptVset := by simpa only [List.mem_cons, List.not_mem_nil, or_false, not_or] using hk
  rw [sweepEnded_get, sweepShown, State.get_putFit_ne _ _ _ _ vset, State.get_putFit_ne _ _ _ _ voc]

/-- The mean power of a period is shown, and the next period begins. -/
def periodShown (p : Int) (s : State) : State :=
  { s.putFit K.mpptP p with chg := { s.chg with periodTicks := 0, pSum := 0, bound := false } }

/-- The tracker's direction after a period: it turns where the mean power fell. -/
def State.nextDir (s : State) (p : Int) : Int := if p < s.chg.pPrev then -s.chg.dir else s.chg.dir

/-- The reference of the tracker's next period, within V_mpp's bounds. -/
def State.nextVset (s : State) (p : Int) : Int :=
  clampInt s.vMin (s.get K.mpptVoc) ((s.get K.mpptVset : Int) + s.nextDir p * s.get K.mpptStep)

/-- The tracker steps, unless a limit bound its period. -/
def tracked (p : Int) (s : State) : State :=
  if s.chg.bound then periodShown p s
  else { (periodShown p s).putFit K.mpptVset (s.nextVset p) with
    chg := { s.chg with periodTicks := 0, pSum := 0, bound := false, dir := s.nextDir p, pPrev := p } }

theorem periodShown_get {p : Int} {k : Nat} (h : k ≠ K.mpptP) : (periodShown p s).get k = s.get k := State.get_put_ne _ _ _ _ h

theorem periodShown_vMin {p : Int} : (periodShown p s).vMin = s.vMin := by
  simp only [State.vMin, periodShown_get (k := K.pathSource) (by decide), periodShown_get (k := K.mpptVmin) (by decide)]

theorem doMpptStep_due {p : Int} (hp : p = truncDiv s.chg.pSum (1000 * s.chg.periodTicks : Nat)) (up : s.coreUp = true)
    (harvests : s.chg.harvesting = true) (idle : s.chg.sweeping = false) (due : s.get K.mpptPeriod ≤ s.chg.periodTicks) :
    doMpptStep s = tracked p s := by
  subst hp
  rw [doMpptStep, if_pos ⟨up, harvests, idle, due⟩, tracked, State.nextVset]
  rw [← periodShown_vMin (s := s), ← periodShown_get (s := s) (k := K.mpptVoc) (by decide),
    ← periodShown_get (s := s) (k := K.mpptVset) (by decide), ← periodShown_get (s := s) (k := K.mpptStep) (by decide)]
  rfl

theorem tracked_p {p : Int} : (tracked p s).get K.mpptP = fit K.mpptP p := by
  have shown : (periodShown p s).get K.mpptP = fit K.mpptP p := State.get_put_self _ _ _
  unfold tracked
  split
  · exact shown
  · rw [State.get_withChg, State.get_putFit_ne _ _ _ _ (by decide), shown]

theorem tracked_period {p : Int} : (tracked p s).chg.periodTicks = 0 ∧ (tracked p s).chg.bound = false := by
  unfold tracked
  split <;> exact ⟨rfl, rfl⟩

/-- A period that no limit bound is followed by a step (R265). -/
theorem tracked_steps {p : Int} (free : s.chg.bound = false) :
    (tracked p s).chg.dir = (if p < s.chg.pPrev then -s.chg.dir else s.chg.dir) ∧ (tracked p s).chg.pPrev = p := by
  rw [tracked, free]
  exact ⟨rfl, rfl⟩

theorem tracked_sameBut {p : Int} : SameBut [K.mpptP, K.mpptVset] s (tracked p s) := by
  intro k hk
  obtain ⟨power, vset⟩ : k ≠ K.mpptP ∧ k ≠ K.mpptVset := by simpa only [List.mem_cons, List.not_mem_nil, or_false, not_or] using hk
  unfold tracked
  split
  · exact periodShown_get power
  · rw [State.get_withChg, State.get_putFit_ne _ _ _ _ vset, periodShown_get power]

/-! ## The harvest (R254) -/

variable {mv n : Nat}

/-- A harvest that is lost while the charger does not run from it ends, and that is all. -/
theorem doHarvestLost_unused (up : s.fastUp = true) (valid : s.path.harvestValid = true) (other : s.get K.chgInput ≠ 2)
    (low : mv < 9500) (long : 4 ≤ n) :
    doHarvestLost mv n s = { s with path := { s.path with harvestValid := false, harvestQual := 0 } } := by
  rw [doHarvestLost, if_pos ⟨up, valid, low, long⟩]
  exact if_neg fun used => other used.1

theorem doHarvestLost_kept (h : 9500 ≤ mv ∨ n < 4) : doHarvestLost mv n s = s := by
  refine if_neg fun ⟨_, _, low, long⟩ => ?_
  omega

/-! ## Reverse mode (R266, R267) -/

theorem setChg_path (x : ChgState) : (setChg x s).path = s.path := by
  have taken : (chgTaken x s).path = s.path := by cases x <;> rfl
  rw [setChg_eq]
  unfold cycleFollows
  split
  · split <;> exact taken
  · split
    · cases x <;> exact taken
    · exact taken

theorem writeCheck_revCmd (s : State) : writeCheck K.revCmd s = none := writeCheck_of_wo s (by decide +kernel)

theorem wrRevStart_accepts (may : s.canReverse = true) : wrRevStart s =
    accept (showGates { setChg .reverse (s.flag K.chgStatus 0x100) with path := { s.path with auxValid := false, auxQual := 0 } }) := by
  rw [wrRevStart, if_pos may]
  dsimp only
  rw [setChg_path, State.flag_path]

theorem wrRevStart_refuses (closed : s.canReverse = false) : wrRevStart s = refuse Abort.state s := by
  rw [wrRevStart, closed, if_neg Bool.false_ne_true]

theorem doRevOtherSource_found (up : s.fastUp = true) (high : s.get K.revV + 2000 < mv) (long : 4 ≤ n) :
    doRevOtherSource mv n s = showGates (revEnd 6 s) := if_pos ⟨up, high, long⟩

theorem doRevOtherSource_kept (h : mv ≤ s.get K.revV + 2000 ∨ n < 4) : doRevOtherSource mv n s = s := by
  refine if_neg fun ⟨_, high, long⟩ => ?_
  omega

theorem doRevVbatLow_due (up : s.coreUp = true) (due : 10 ≤ s.chg.revLowTicks) : doRevVbatLow s = showGates (revEnd 4 s) :=
  if_pos ⟨up, due⟩

/-! ## A read of CHG.FAULT (R269) -/

theorem chgFaultRead_accepts {port : Port} (h : s.openTick.answers port = true) :
    Accepts (.chgFaultRead port) port s (readFault s.openTick) := by
  have row : exec (.chgFaultRead port) s = execChgFaultRead port s := rfl
  rw [Accepts, GivesAtTick, row, execChgFaultRead]
  dsimp only
  rw [if_pos (State.coreUp_of_answers h), if_pos h]
  rfl

end

/-- Settles O46: the tracker by what its sweep and its step show, harvest and reverse mode by their conditions, the rows of the host at the
boundary. -/
theorem harvestAndReverse : Obligations.HarvestAndReverse := by
  rintro s _ rfl up
  have fast := State.fastUp_of_coreUp up
  refine ⟨?_, fun p hp harvests idle due => ?_, fun valid other mv n low long => ?_, fun mv n h => ?_,
    fun port answers => ⟨fun may => ?_, fun closed => ?_, ?_, chgFaultRead_accepts answers⟩,
    fun mv n => ⟨fun high long => ?_, fun h => ?_⟩, fun due => ?_⟩
  · rintro sweeps due _ rfl
    refine ⟨_, event_gives rfl (doMpptSweep_due up sweeps due), ?_⟩
    simp only [SameBut, State.beside_get, State.beside_chg]
    exact ⟨sweepEnded_voc, sweepEnded_sweeping, sweepEnded_vset, sweepEnded_sameBut⟩
  · refine ⟨_, event_gives rfl (doMpptStep_due hp up harvests idle due), ?_⟩
    simp only [SameBut, State.beside_get, State.beside_chg]
    exact ⟨tracked_p, tracked_period.1, tracked_period.2, tracked_steps, tracked_sameBut⟩
  · exact event_gives rfl (doHarvestLost_unused fast valid other low long)
  · exact event_gives rfl (doHarvestLost_kept h)
  · exact hostRow_accepts answers (writeCheck_revCmd _) (wrRevStart_accepts may)
  · exact hostRow_refuses answers (writeCheck_revCmd _) (wrRevStart_refuses closed)
  · exact hostRow_accepts answers (writeCheck_revCmd _) rfl
  · exact event_gives rfl (doRevOtherSource_found fast high long)
  · exact event_gives rfl (doRevOtherSource_kept h)
  · exact event_gives rfl (doRevVbatLow_due up due)

end Sys2Proof.Machine
end

section
/-! The power path (R247 to R251): sources that qualify and fall, the pack's takeover, the cutoff, and a start from the pack. -/

namespace Sys2Proof.Machine

/-! ## Sources of VSYS (R247, R248) -/

section
variable {s : State} {mv n : Nat}

theorem doPathSourceValid_vin (up : s.fastUp = true) (long : s.get K.pathQual ≤ s.path.vinQual) :
    doPathSourceValid .vin s = pathUp { s with path := { s.path with vinValid := true } } :=
  (if_pos up).trans (if_pos long)

theorem doPathSourceValid_auxin (up : s.fastUp = true) (long : s.get K.pathQual ≤ s.path.auxQual) :
    doPathSourceValid .auxin s = pathUp { s with path := { s.path with auxValid := true } } :=
  (if_pos up).trans (if_pos long)

theorem doPathSourceValid_bat (up : s.fastUp = true) : doPathSourceValid .bat s = pathUp s := if_pos up

theorem pinLow_falls (x : Nat) (low : mv < 15500) (long : 4 ≤ n) : pinLow x mv n s = pathDown (dropSource x s) :=
  if_pos (decide_eq_true ⟨low, long⟩)

theorem pinLow_stands (x : Nat) (h : 15500 ≤ mv ∨ n < 4) : pinLow x mv n s = s :=
  if_neg (by simp only [decide_eq_true_eq]; omega)

theorem vinOver_below (h : s.get K.pathVinOvp = 0 ∨ mv < s.get K.pathVinOvp) : vinOver mv s = s :=
  if_neg (by simp only [Bool.and_eq_true, bne_iff_ne, decide_eq_true_eq]; omega)

theorem vinOver_trips (on : s.get K.pathVinOvp ≠ 0) (high : s.get K.pathVinOvp ≤ mv) :
    vinOver mv s = cutPath 1 (s.flag K.pathStatus 0x20) :=
  if_pos (by simp only [Bool.and_eq_true, bne_iff_ne, decide_eq_true_eq]; exact ⟨on, high⟩)

theorem doPathSwitch_vin (up : s.fastUp = true) : doPathSwitch .vin mv n s = pinLow 1 mv n (vinOver mv s) := if_pos up

theorem doPathSwitch_auxin (up : s.fastUp = true) : doPathSwitch .auxin mv n s = pinLow 2 mv n s := if_pos up

theorem doPathSwitch_bat (up : s.fastUp = true) : doPathSwitch .bat mv n s = pathDown s := if_pos up

theorem doPathAuxOv_trips (up : s.fastUp = true) (high : 64000 < mv) :
    doPathAuxOv mv s = raiseLater .pathAuxOv 0 (cutPath 2 (s.flag K.pathStatus 0x10)) :=
  (if_pos up).trans (if_pos (decide_eq_true high))

theorem pathBeat_leaves (h : s.path.leaving ≠ 0) : pathBeat s = showGates { s with path := { s.path with leaving := 0 } } := if_neg h

/-- A source raised while none waits is the one taken (R223). -/
theorem collectDue_raiseLater (empty : s.fc.due = []) (k : SrcKind) (i : Nat) : collectDue (raiseLater k i s) = takeSource k i s := by
  have only : (raiseLater k i s).fc.due = [(k, i)] := by rw [raiseLater, empty]; rfl
  have rest : { raiseLater k i s with fc := { (raiseLater k i s).fc with due := [] } } = s := by
    show { s with fc := { s.fc with due := [] } } = s
    rw [← empty]
  rw [collectDue, only, rest]
  rfl

/-! ## The pack (R249 to R251) -/

theorem doBatTakeover_low (up : s.fastUp = true) (wall : s.get K.pathSource = 1 ∨ s.get K.pathSource = 2) (valid : s.batValid = true)
    (armed : s.path.batOn = false) (low : mv < s.get K.pathVTake) :
    doBatTakeover mv s = showGates { s.flag K.pathStatus 4 with path := { s.path with batOn := true } } :=
  if_pos ⟨up, wall, valid, armed, low⟩

theorem doBatTakeover_above (h : s.get K.pathVTake ≤ mv) : doBatTakeover mv s = s :=
  if_neg fun ⟨_, _, _, _, low⟩ => Nat.not_lt.2 h low

theorem doBatDisarm_due (up : s.fastUp = true) (wall : s.get K.pathSource = 1 ∨ s.get K.pathSource = 2)
    (high : s.get K.pathVTake + 1000 ≤ mv) (long : 100 ≤ n) :
    doBatDisarm mv n s = showGates { s with path := { s.path with batOn := false } } :=
  if_pos ⟨up, wall, high, long⟩

theorem doPathBatCutoff_due (up : s.fastUp = true) (on : s.batPathOn = true) (long : s.get K.pathCutoffTicks ≤ s.path.cutoffTicks) :
    doPathBatCutoff s = showGates (pathDown (raiseLater .pathBatCutoff 0 { s.flag K.pathStatus 8 with
      bk := { s.bk with cutoff := true }, path := { s.path with batOn := false, cutoffTicks := 0 } })) :=
  if_pos ⟨up, on, long⟩

theorem doBatteryStart_allowed {alarm : Bool} (down : s.dev.main = false) (asked : (if alarm then s.bk.alarmDue else s.pins.wake) = true)
    (allowed : s.bk.batStart = true) (clear : s.bk.cutoff = false) (level : s.bk.restartLevel ≤ mv) :
    doBatteryStart alarm mv s = { s with path := { s.path with batOn := true, batStarted := true } } :=
  if_pos ⟨down, asked, allowed, clear, level⟩

theorem doBatteryStart_barred {alarm : Bool} (h : s.bk.cutoff = true ∨ mv < s.bk.restartLevel) : doBatteryStart alarm mv s = s := by
  refine if_neg fun ⟨_, _, _, clear, level⟩ => ?_
  rcases h with latched | low
  · exact Bool.false_ne_true (clear.symm.trans latched)
  · exact Nat.not_le.2 low level

end

/-- Settles O43: each event of the path by its ground, where those of one event exclude each other or act in their order. -/
theorem powerPath : Obligations.PowerPath := by
  refine fun s => ⟨fun up => ⟨fun long => ?_, fun long => ?_, ?_, fun mv n below => ⟨fun low long => ?_, fun stands => ?_⟩,
    fun mv n on high short => ?_, fun mv n low long => ?_, fun mv n => ?_, fun mv high => ?_,
    fun wall => ⟨fun mv valid armed low => ?_, fun mv n high long => ?_⟩, fun mv above => ?_, fun on long => ?_⟩,
    fun k n empty => collectDue_raiseLater empty k n, pathBeat_leaves,
    fun alarm v => ⟨fun down asked allowed clear level => ?_, fun barred => ?_⟩⟩
  · exact pathEvent_gives rfl (doPathSourceValid_vin up long)
  · exact pathEvent_gives rfl (doPathSourceValid_auxin up long)
  · exact pathEvent_gives rfl (doPathSourceValid_bat up)
  · exact pathEvent_gives rfl (by rw [doPathSwitch_vin up, vinOver_below below, pinLow_falls 1 low long])
  · exact pathEvent_gives rfl (by rw [doPathSwitch_vin up, vinOver_below below, pinLow_stands 1 stands])
  · exact pathEvent_gives rfl (by rw [doPathSwitch_vin up, vinOver_trips on high, pinLow_stands 1 (.inr short)])
  · exact pathEvent_gives rfl ((doPathSwitch_auxin up).trans (pinLow_falls 2 low long))
  · exact pathEvent_gives rfl (doPathSwitch_bat up)
  · exact pathEvent_gives rfl (doPathAuxOv_trips up high)
  · exact event_gives rfl (doBatTakeover_low up wall valid armed low)
  · exact event_gives rfl (doBatDisarm_due up wall high long)
  · exact event_gives rfl (doBatTakeover_above above)
  · exact pathEvent_gives rfl (doPathBatCutoff_due up on long)
  · exact event_gives rfl (doBatteryStart_allowed down asked allowed clear level)
  · exact event_gives rfl (doBatteryStart_barred barred)

end Sys2Proof.Machine
end

section
/-! Charge stops and removal of the pack (R260 to R263, R268). -/

namespace Sys2Proof.Machine

/-! ## A charge stop (R268) -/

section
variable {s : State} {k : SrcKind} {bit : Nat}

theorem State.flag_chgFault_chgState (s : State) (m : Nat) : (s.flag K.chgFault m).chgState = s.chgState :=
  congrArg ChgState.ofCode (State.get_flag_ne _ _ _ _ (by decide))

/-- Outside reverse mode a charge stop latches, enters FAULT where the state leads there, and raises. -/
theorem chargeStop_eq (forward : s.chgState ≠ .reverse) :
    chargeStop k bit s = raiseLater k 0 (when s.chgState.stoppable (setChg .fault) (s.flag K.chgFault bit)) := by
  rw [chargeStop, State.flag_chgFault_chgState]
  rw [if_neg forward, State.flag_chgFault_chgState]

theorem chargeStop_stoppable (stops : s.chgState.stoppable = true) (forward : s.chgState ≠ .reverse) :
    chargeStop k bit s = raiseLater k 0 (setChg .fault (s.flag K.chgFault bit)) := by
  rw [chargeStop_eq forward, stops]
  rfl

theorem chargeStop_latches (stays : s.chgState.stoppable = false) : chargeStop k bit s = raiseLater k 0 (s.flag K.chgFault bit) := by
  have forward : s.chgState ≠ .reverse := fun reverse => by rw [reverse] at stays; exact Bool.false_ne_true stays.symm
  rw [chargeStop_eq forward, stays]
  rfl

/-! ## Timers (R260, R261) and the converter (R268) -/

theorem doChgTimer_nominal (up : s.coreUp = true) (charges : s.chgState = .cc ∨ s.chgState = .cv)
    (expired : s.get K.chgTimer * 60000 * 2 ^ 32 ≤ s.chg.accFast) : doChgTimer s = chargeStop .chgTimer 1 s :=
  (if_pos ⟨up, charges⟩).trans (if_pos (decide_eq_true expired))

theorem doChgTimer_absolute (up : s.coreUp = true) (charges : s.chgState = .cc ∨ s.chgState = .cv)
    (within : s.chg.accFast < s.get K.chgTimer * 60000 * 2 ^ 32) (expired : 2 * (s.get K.chgTimer * 60000) ≤ s.chg.absFast) :
    doChgTimer s = chargeStop .chgTimer 2 s :=
  (if_pos ⟨up, charges⟩).trans ((if_neg fun h => Nat.not_le.2 within (of_decide_eq_true h)).trans (if_pos expired))

theorem doChgPreTmo_nominal (up : s.coreUp = true) (charges : s.chgState = .precharge)
    (expired : s.get K.chgPreTimer * 60000 * 2 ^ 32 ≤ s.chg.accPre) : doChgPreTmo s = chargeStop .chgPreTmo 4 s :=
  if_pos ⟨up, charges, .inl (decide_eq_true expired)⟩

theorem doChgConv_stops {peak sw : Nat} {drv : Bool} (up : s.fastUp = true) (h : 64 ≤ peak ∨ drv = true ∨ 2 ≤ sw) :
    doChgConv peak drv sw s = chargeStop .chgConv 0x20 s := if_pos ⟨up, h⟩

theorem doChgRevShort_due (up : s.coreUp = true) (here : s.chgState = .reverse) (due : 10 ≤ s.chg.revShortTicks) :
    doChgRevShort s = showGates (chargeStop .chgRevShort 0x40 (s.put K.revStopCause 7)) := if_pos ⟨up, here, due⟩

theorem packBeats_up (up : s.fastUp = true) (l : List (Int × Nat × Nat)) : packBeats l s = each l packRun s := if_pos up

/-! ## A short and an overvoltage (R263) -/

variable {i : Int} {v n : Nat}

theorem reaches4_iff {count : Nat} : reaches4 count n = true ↔ count < 4 ∧ 4 ≤ count + n := decide_eq_true_iff

theorem levelRun_short (charges : s.chgState.charging = true) (low : v < s.shortLevel) (within : v ≤ s.ovLevel)
    (full : 9 * (s.get K.chgILim : Int) ≤ 10 * i) (few : s.chg.shortBeats < 4) (enough : 4 ≤ s.chg.shortBeats + n) :
    levelRun i v n s =
      chargeStop .chgBatShort 8 { s with chg := { s.chg with shortBeats := s.chg.shortBeats + n, ovBeats := 0 } } := by
  have short : decide (v < s.shortLevel ∧ ((9 * s.get K.chgILim : Nat) : Int) ≤ 10 * i) = true :=
    decide_eq_true ⟨low, by push_cast; exact full⟩
  have high : decide (s.ovLevel < v) = false := decide_eq_false (Nat.not_lt.2 within)
  have reached : reaches4 s.chg.shortBeats n = true := reaches4_iff.2 ⟨few, enough⟩
  rw [levelRun, charges, short, high, reached]
  rfl

theorem levelRun_overvoltage (high : s.ovLevel < v) (sound : s.shortLevel ≤ v) (few : s.chg.ovBeats < 4)
    (enough : 4 ≤ s.chg.ovBeats + n) : levelRun i v n s =
      chargeStop .chgBatOv 0x10 { s with chg := { s.chg with shortBeats := 0, ovBeats := s.chg.ovBeats + n } } := by
  have short : decide (v < s.shortLevel ∧ ((9 * s.get K.chgILim : Nat) : Int) ≤ 10 * i) = false :=
    decide_eq_false fun h => Nat.not_lt.2 sound h.1
  have reached : reaches4 s.chg.ovBeats n = true := reaches4_iff.2 ⟨few, enough⟩
  rw [levelRun, short, Bool.and_false, decide_eq_true high, reached]
  rfl

/-! ## Removal (R262) -/

variable {f : Nat}

/-- A run with beats is judged by what the charger does in it: its probe, the count of a collapse, or neither. -/
theorem watchRun_succ (beats : n ≠ 0) : watchRun i v (f + 1) n s =
    if s.chg.probing then
      if v * 1000 < s.chg.collapseV * 985 then removal s
      else if s.chg.probeLeft ≤ n then watchRun i v f (n - s.chg.probeLeft) (probeEnd s)
      else { s with chg := { s.chg with probeLeft := s.chg.probeLeft - n } }
    else if s.collapses i then
      if s.chg.collapse + n < 1000 then collapseCount n s
      else if (collapseCount n s).chg.collapseV + s.get K.chgRemoveDv ≤ v then removal (collapseCount n s)
      else watchRun i v f (s.chg.collapse + n - 1000) (probeBegin (collapseCount n s))
    else { s with chg := { s.chg with collapse := 0 } } := if_neg beats

section
variable (beats : n ≠ 0) (probes : s.chg.probing = true)
include beats probes

theorem watchRun_probeFails (low : v * 1000 < s.chg.collapseV * 985) : watchRun i v (f + 1) n s = removal s := by
  rw [watchRun_succ beats, if_pos probes, if_pos low]

theorem watchRun_probeGoesOn (stands : s.chg.collapseV * 985 ≤ v * 1000) (left : n < s.chg.probeLeft) :
    watchRun i v (f + 1) n s = { s with chg := { s.chg with probeLeft := s.chg.probeLeft - n } } := by
  rw [watchRun_succ beats, if_pos probes, if_neg (Nat.not_lt.2 stands), if_neg (Nat.not_le.2 left)]

theorem watchRun_probeEnds (stands : s.chg.collapseV * 985 ≤ v * 1000) (expired : s.chg.probeLeft ≤ n) :
    watchRun i v (f + 1) n s = watchRun i v f (n - s.chg.probeLeft) (probeEnd s) := by
  rw [watchRun_succ beats, if_pos probes, if_neg (Nat.not_lt.2 stands), if_pos expired]

end

section
variable (beats : n ≠ 0) (free : s.chg.probing = false)
include beats free

theorem watchRun_sound (carries : s.collapses i = false) :
    watchRun i v (f + 1) n s = { s with chg := { s.chg with collapse := 0 } } := by
  rw [watchRun_succ beats, free, carries]
  rfl

theorem watchRun_counts (falls : s.collapses i = true) (few : s.chg.collapse + n < 1000) :
    watchRun i v (f + 1) n s = collapseCount n s := by
  rw [watchRun_succ beats, free, if_neg Bool.false_ne_true, if_pos falls, if_pos few]

theorem watchRun_removed (falls : s.collapses i = true) (enough : 1000 ≤ s.chg.collapse + n)
    (rose : (collapseCount n s).chg.collapseV + s.get K.chgRemoveDv ≤ v) :
    watchRun i v (f + 1) n s = removal (collapseCount n s) := by
  rw [watchRun_succ beats, free, if_neg Bool.false_ne_true, if_pos falls, if_neg (Nat.not_lt.2 enough), if_pos rose]

theorem watchRun_probes (falls : s.collapses i = true) (enough : 1000 ≤ s.chg.collapse + n)
    (flat : v < (collapseCount n s).chg.collapseV + s.get K.chgRemoveDv) :
    watchRun i v (f + 1) n s = watchRun i v f (s.chg.collapse + n - 1000) (probeBegin (collapseCount n s)) := by
  rw [watchRun_succ beats, free, if_neg Bool.false_ne_true, if_pos falls, if_neg (Nat.not_lt.2 enough), if_neg (Nat.not_le.2 flat)]

end

theorem probeEnd_status : (probeEnd s).get K.chgStatus = s.get K.chgStatus ||| 0x40 := by
  rw [probeEnd, State.get_withChg, State.get_flag_self]

end

/-- Settles O45: a charge stop by the state it meets, each source by its ground, a run of beats by what is under way in it. -/
theorem chargeStops : Obligations.ChargeStops := by
  intro s up
  have fast := State.fastUp_of_coreUp up
  refine ⟨fun k bit => ⟨chargeStop_stoppable, chargeStop_latches⟩, fun charges => ⟨fun expired => ?_, fun within expired => ?_⟩,
    fun here expired => ?_, fun l => ⟨?_, ?_, ?_, ?_⟩, fun i v n => ⟨levelRun_short, levelRun_overvoltage⟩,
    fun i v f n beats => ⟨fun probes => ⟨watchRun_probeFails beats probes, fun stands => ⟨watchRun_probeGoesOn beats probes stands,
      watchRun_probeEnds beats probes stands⟩⟩, fun free falls => ⟨watchRun_counts beats free falls, fun enough =>
      ⟨watchRun_removed beats free falls enough, watchRun_probes beats free falls enough⟩⟩, watchRun_sound beats⟩,
    ⟨rfl, probeEnd_status⟩, fun peak drv sw ground => ?_, fun here due => ?_⟩
  · exact pathEvent_gives rfl (doChgTimer_nominal up charges expired)
  · exact pathEvent_gives rfl (doChgTimer_absolute up charges within expired)
  · exact pathEvent_gives rfl (doChgPreTmo_nominal up here expired)
  · exact pathEvent_gives rfl (packBeats_up fast l)
  · exact pathEvent_gives rfl (packBeats_up fast l)
  · exact pathEvent_gives rfl (packBeats_up fast l)
  · exact pathEvent_gives rfl (packBeats_up fast l)
  · exact pathEvent_gives rfl (doChgConv_stops fast ground)
  · exact pathEvent_gives rfl (doChgRevShort_due up here due)

end Sys2Proof.Machine
end

section
/-! The estimator's events (R279, R284, R287 to R294, R305, R306): hibernation and wake, a measurement with its points, a reset, a converter
that delivers nothing, a checkpoint; and what an epoch does in each of its states (R280, R283). -/

namespace Sys2Proof.Machine

/-! ## Hibernation and wake (R284) -/

section
variable {s : State}

theorem doEstHibernate_due (up : s.fastUp = true) (runs : s.estState = estRun) (on : s.get K.estHibT ≠ 0)
    (long : s.get K.estHibT ≤ s.est.hibCount) (free : s.est.measure = none) (boundary : s.clock.beat % 1000000 = 0) :
    doEstHibernate s = { (s.put K.estState estHib).flag K.estStatus 0x200 with
      est := { s.est with wakeDue := false, sinceUpdate := 0, hibI := 0, hibV := 0 } } :=
  if_pos ⟨up, boundary, runs, on, long, free⟩

theorem doEstWake_due {i : Int} {n : Nat} (up : s.fastUp = true) (sleeps : s.estState = estHib) (high : s.get K.estWakeI ≤ i.natAbs)
    (long : 4 ≤ n) : doEstWake i n s = { s with est := { s.est with wakeDue := true } } :=
  if_pos ⟨up, sleeps, high, long⟩

theorem doEstWake_kept {i : Int} {n : Nat} (h : i.natAbs < s.get K.estWakeI ∨ n < 4) : doEstWake i n s = s := by
  refine if_neg fun ⟨_, _, high, long⟩ => ?_
  omega

end

/-! ## Converters and checkpoints (R279, R306) -/

section
variable {s : State} {n : Nat}

theorem doEstAdc_silent (up : s.fastUp = true) (on : s.estState ≠ estOffCode) (long : 100 ≤ n) :
    doEstAdc n s = takeSource .estAdc 0 { s with est := { s.est with adcDue := true } } := if_pos ⟨up, on, long⟩

theorem doEstAdc_kept (short : n < 100) : doEstAdc n s = s := if_neg fun ⟨_, _, long⟩ => Nat.not_le.2 short long

theorem doEstCheckpoint_due (up : s.coreUp = true) (due : s.get K.estCkpt ≤ s.est.ckptAge) : doEstCheckpoint s = commitCkpt s :=
  if_pos ⟨up, due⟩

/-- A command whose outcome is that of an event which writes the store leaves what the event does, also in the MRAM. -/
theorem eventNv_next {c : Instr} {f : State → State} {t : State} (row : exec c s = eventNv f s) (h : f s = t) :
    exec c s = .next { t with clock := s.clock, pending := s.pending } := by
  subst h
  exact row

end

/-! ## A measurement (R287) -/

section
variable {s : State}

theorem doEstZDue_due (up : s.fastUp = true) (on : s.estState ≠ estOffCode) (periodic : s.get K.estZInterval ≠ 0)
    (due : s.get K.estZInterval ≤ s.est.sinceZ) (free : s.est.measure = none) : doEstZDue s = beginMeasure none s :=
  if_pos ⟨up, on, periodic, due, free⟩

theorem beginMeasure_status (job : Option Nat) : (beginMeasure job s).get K.estZStatus = 2 := by
  rw [beginMeasure, setEst, State.get_withEst, State.get_put_self]

theorem writeCheck_estZRun (s : State) : writeCheck K.estZRun s = none := writeCheck_of_wo s (by decide +kernel)

theorem wrEstZRun_accepts {port : Port} {i : Nat} (free : s.est.measure = none) (runs : s.dev ≠ .stall) (slot : s.jobChoice = some i) :
    wrEstZRun port 1 s = accept (beginMeasure (some i) (s.jobAllot port K.estZRun i)) := by
  rw [wrEstZRun, if_neg (not_not.2 rfl), free, if_neg (by decide), startJob_accepts (.inl runs) slot]

theorem wrEstZRun_busy {port : Port} (busy : s.est.measure ≠ none) : wrEstZRun port 1 s = refuse Abort.state s :=
  (if_neg (not_not.2 rfl)).trans (if_pos (Option.isSome_iff_ne_none.2 busy))

end

/-! ## The points of a measurement (R289, R290, R293) -/

/-- The measurement after a point that gave its impedance. -/
def Measurement.passed (m : Measurement) : Measurement := { m with point := m.point + 1, granted := false, started := false }

/-- The measurement after a point that was abandoned. -/
def Measurement.failed (m : Measurement) : Measurement := { m with tries := m.tries + 1, granted := false, started := false }

/-- The grant goes back from a point, and the measurement stands as the point left it. -/
def pointEnded (m : Measurement) (s : State) : State := arbRelease 2 { s with est := { s.est with measure := some m } }

/-- The entries of a point take the impedance of its samples. -/
def pointShown (m : Measurement) (v i : List Int) (s : State) : State :=
  (s.putFit (K.estZRe m.point) (zOf m.point (m.amplitude v) (m.amplitude i)).1).putFit (K.estZIm m.point)
    (zOf m.point (m.amplitude v) (m.amplitude i)).2

section
variable {s : State} {m : Measurement} (runs : s.est.measure = some m)
include runs

theorem doEstZPointStart_ready (up : s.fastUp = true) (granted : m.granted = true) (waits : m.started = false)
    (kept : s.chgKept m = true) : doEstZPointStart s =
      if s.get K.estZPlace = 0 then startPoint m s
      else if s.unitDue (s.get K.estZPos) K.estZPos then (startPoint m s).unitTaken (s.get K.estZPos) K.estZPos else s := by
  simp only [doEstZPointStart, runs]
  exact if_pos ⟨up, granted, waits, kept⟩

/-- A point does not start on a charger that has changed since the grant. -/
theorem doEstZPointStart_changed (changed : s.chgKept m = false) : doEstZPointStart s = s := by
  simp only [doEstZPointStart, runs]
  exact if_neg fun ⟨_, _, _, kept⟩ => Bool.false_ne_true (changed.symm.trans kept)

theorem doEstZPointDone_ended (up : s.fastUp = true) (started : m.started = true)
    (ended : m.over s.clock.beat (m.settle + m.periods) = true) (v i : List Int) : doEstZPointDone v i s =
      if m.point + 1 < 8 then pointEnded m.passed (pointShown m v i s)
      else fitModel m.passed (pointEnded m.passed (pointShown m v i s)) := by
  simp only [doEstZPointDone, runs]
  exact if_pos ⟨up, started, ended⟩

theorem doEstZPointAbandon_fails {cv : Bool} (up : s.fastUp = true) (granted : m.granted = true) (fails : s.pointFails m cv = true) :
    doEstZPointAbandon cv s =
      if s.get K.estZTries ≤ m.tries + 1 then raiseLater .estZAbandon 0 (endMeasure 4 (pointEnded m.failed s))
      else pointEnded m.failed s := by
  simp only [doEstZPointAbandon, runs]
  exact if_pos ⟨up, granted, fails⟩

end

/-- A point that fails at the boundary leaves what its abandoning does, with the sources it raised taken in their order. -/
theorem estZPointAbandon_gives {s t : State} {cv : Bool} (core : s.openTick.coreUp = true)
    (work : doEstZPointAbandon cv s.openTick = t) : GivesAtTick (.estZPointAbandon cv) s (collectDue t) :=
  atTick_gives (f := fun u => collectDue (doEstZPointAbandon cv u)) rfl core (congrArg collectDue work)

/-! ## A reset (R305) -/

section
variable {s : State}

theorem staleEnd_est : (staleEnd s).est = s.est := by
  unfold staleEnd when
  split <;> rfl

theorem dropCandidates_last {c : Nat} : (dropCandidates c s).est.last = s.est.last := by
  unfold dropCandidates
  dsimp only [setEst]
  split <;> rfl

/-- What was learned is lost; the last epoch's current and voltage are not. -/
theorem resetLearned_last : (resetLearned s).est.last = s.est.last := by
  rw [resetLearned, staleEnd_est]
  exact dropCandidates_last

theorem writeCheck_estReset (s : State) : writeCheck K.estReset s = none := writeCheck_of_wo s (by decide +kernel)

theorem wrEstReset_unmet (unmet : s.est.last = none) : wrEstReset 0xA5C3 s =
    accept (setEst (fun e => { e with anchorDue := true }) (setEst (fun e => { e with wakeDue := true }) (resetLearned s))) := by
  have kept := resetLearned_last.trans unmet
  simp only [wrEstReset, setEst, kept, ne_eq, not_true_eq_false, ↓reduceIte]

theorem wrEstReset_met {h : Int × Nat} (last : s.est.last = some h) : wrEstReset 0xA5C3 s =
    accept (voltageStart h.1 h.2 (setEst (fun e => { e with wakeDue := true }) (resetLearned s))) := by
  have kept := resetLearned_last.trans last
  simp only [wrEstReset, setEst, kept, ne_eq, not_true_eq_false, ↓reduceIte]

end

/-! ## The epoch (R280, R283, R284) -/

/-- The state in which an epoch's work finds the estimator: sampled, the silence of a converter taken. -/
def epochSampled (x : EpochInputs) (s : State) : State := setEst (fun e => { e with adcDue := false }) (sampleEpoch x s)

section
variable {x : EpochInputs} {s : State}

theorem doEstimatorEpoch_due (due : s.epochDue = true) : doEstimatorEpoch x s = estEpoch x s := if_pos due

theorem doEstimatorEpoch_kept (early : s.epochDue = false) : doEstimatorEpoch x s = s :=
  if_neg fun due => Bool.false_ne_true (early.symm.trans due)

theorem estEpoch_off (off : s.estState = estOffCode) (works : s.dev.estimates = true) :
    estEpoch x s = { s.put K.estState estInit with est := { s.est with
      lastEpoch := s.clock.epochs, ntcSum := Vector.replicate 4 0, ntcNum := Vector.replicate 4 0 } } :=
  (if_pos off).trans (if_pos works)

theorem epochSampled_estState : (epochSampled x s).estState = (sampleEpoch x s).estState := State.get_withEst _ _ _

section
variable (on : s.estState ≠ estOffCode)
include on

theorem estEpoch_init (here : (sampleEpoch x s).estState = estInit) {v : State}
    (hv : v = initEpoch (s.epochI x) (epochV x) (epochSampled x s)) : estEpoch x s =
      doEstZDue (if v.est.packGone ∧ v.estState = estNoPack then packRemoved v
        else { v with est := { v.est with packGone := false } }) := by
  subst hv
  exact (if_neg on).trans (congrArg doEstZDue (if_pos (epochSampled_estState.trans here)))

theorem estEpoch_run (here : (sampleEpoch x s).estState = estRun) : estEpoch x s = doEstZDue
    (update (s.epochI x) (epochV x) 1 (decide (epochV x < 5000000)) (sampleEpoch x s).est.adcDue (epochSampled x s)) := by
  have run : (epochSampled x s).estState = estRun := epochSampled_estState.trans here
  have notInit : (epochSampled x s).estState ≠ estInit := run ▸ by decide
  exact (if_neg on).trans (congrArg doEstZDue ((if_neg notInit).trans (if_pos run)))

theorem estEpoch_hib (here : (sampleEpoch x s).estState = estHib) : estEpoch x s = doEstZDue
    (hibEpoch (s.epochI x) (epochV x) (sampleEpoch x s).est.adcDue (epochSampled x s)) := by
  have sleeps : (epochSampled x s).estState = estHib := epochSampled_estState.trans here
  have notInit : (epochSampled x s).estState ≠ estInit := sleeps ▸ by decide
  have notRun : (epochSampled x s).estState ≠ estRun := sleeps ▸ by decide
  exact (if_neg on).trans (congrArg doEstZDue ((if_neg notInit).trans ((if_neg notRun).trans (if_pos sleeps))))

theorem estEpoch_noPack (here : (sampleEpoch x s).estState = estNoPack) : estEpoch x s = doEstZDue
    (noPackEpoch (s.epochI x) (epochV x) (epochSampled x s)) := by
  have gone : (epochSampled x s).estState = estNoPack := epochSampled_estState.trans here
  have notInit : (epochSampled x s).estState ≠ estInit := gone ▸ by decide
  have notRun : (epochSampled x s).estState ≠ estRun := gone ▸ by decide
  have notHib : (epochSampled x s).estState ≠ estHib := gone ▸ by decide
  exact (if_neg on).trans (congrArg doEstZDue ((if_neg notInit).trans ((if_neg notRun).trans (if_neg notHib))))

end

/-- An epoch whose work is known gives it, with the sources it raised taken in their order. -/
theorem estimatorEpoch_gives (due : s.epochDue = true) {t : State} (work : estEpoch x s = t) :
    Gives (.estimatorEpoch x) s (collectDue t) :=
  pathEvent_gives rfl ((doEstimatorEpoch_due due).trans work)

variable {d i : Int} {n : Nat}

/-- Charge that flows in counts as such alone. -/
theorem integrate_in (into : 0 < d) :
    (integrate d i n s).est.qIn = s.est.qIn + d.toNat ∧ (integrate d i n s).est.qOut = s.est.qOut := by
  simp only [integrate, setEst, if_pos into, and_self]

/-- Charge that does not flow in counts as flowing out alone. -/
theorem integrate_out (out : d ≤ 0) :
    (integrate d i n s).est.qIn = s.est.qIn ∧ (integrate d i n s).est.qOut = s.est.qOut + (-d).toNat := by
  simp only [integrate, setEst, if_neg (Int.not_lt.2 out), and_self]

end

/-- Settles O48: each event by its ground, the host's rows at the boundary, an epoch by the state its samples find. -/
theorem estimatorEvents : Obligations.EstimatorEvents := by
  refine ⟨?_, fun x s u w => ⟨fun early => ?_, fun due => ⟨fun off works => ?_, ?_⟩, fun d i n => ⟨rfl, rfl, integrate_in, integrate_out⟩⟩⟩
  · rintro s _ rfl
    refine ⟨fun up => ⟨fun runs on long free boundary => ?_, fun i n sleeps => ⟨fun high long => ?_, fun h => ?_⟩,
      fun on periodic due free => ?_, fun n on => ⟨fun long => ?_, fun short => ?_⟩, fun core due => ?_,
      fun m runs => ⟨fun granted waits kept atGrant => ?_, fun _ _ changed => ?_, fun granted waits kept placed unit => ?_, ?_⟩⟩,
      ?_, fun port answers => ⟨fun i runs free slot => ?_, fun busy => ?_, fun v other => ?_, fun unmet => ?_, fun h last => ?_⟩,
      fun job => ⟨beginMeasure_status job, rfl⟩⟩
    · exact event_gives rfl (doEstHibernate_due up runs on long free boundary)
    · exact event_gives rfl (doEstWake_due up sleeps high long)
    · exact event_gives rfl (doEstWake_kept h)
    · exact event_gives rfl (doEstZDue_due up on periodic due free)
    · exact event_gives rfl (doEstAdc_silent up on long)
    · exact event_gives rfl (doEstAdc_kept short)
    · exact eventNv_next rfl (doEstCheckpoint_due core due)
    · exact event_gives rfl ((doEstZPointStart_ready runs up granted waits kept).trans (if_pos atGrant))
    · exact event_gives rfl (doEstZPointStart_changed runs changed)
    · exact event_gives rfl ((doEstZPointStart_ready runs up granted waits kept).trans ((if_neg placed).trans (if_pos unit)))
    · rintro v i _ _ _ started ended rfl rfl rfl
      have done := doEstZPointDone_ended runs up started ended v i
      exact ⟨fun more => event_gives rfl (done.trans (if_pos more)),
        fun last => event_gives rfl (done.trans (if_neg (Nat.not_lt.2 last)))⟩
    · rintro core m cv _ runs granted fails rfl
      have abandoned := doEstZPointAbandon_fails runs (State.fastUp_of_coreUp core) granted fails
      exact ⟨fun more => estZPointAbandon_gives core (abandoned.trans (if_neg (Nat.not_le.2 more))),
        fun last => estZPointAbandon_gives core (abandoned.trans (if_pos last))⟩
    · exact hostRow_accepts answers (writeCheck_estZRun _) (wrEstZRun_accepts free runs slot)
    · exact hostRow_refuses answers (writeCheck_estZRun _) (wrEstZRun_busy busy)
    · exact hostRow_refuses answers (writeCheck_estReset _) (if_pos (BitVec.toNat_ne.1 other))
    · exact hostRow_accepts answers (writeCheck_estReset _) (wrEstReset_unmet unmet)
    · exact hostRow_accepts answers (writeCheck_estReset _) (wrEstReset_met last)
  · exact pathEvent_gives rfl (doEstimatorEpoch_kept early)
  · exact estimatorEpoch_gives due (estEpoch_off off works)
  · rintro on rfl rfl
    refine ⟨fun here => estimatorEpoch_gives due (estEpoch_run on here), fun v here hv => ?_,
      fun here => estimatorEpoch_gives due (estEpoch_hib on here), fun here => estimatorEpoch_gives due (estEpoch_noPack on here)⟩
    have init := estEpoch_init on here hv
    refine ⟨fun gone noPack => ?_, fun stays => ?_⟩
    · exact estimatorEpoch_gives due (init.trans (congrArg doEstZDue (if_pos ⟨gone, noPack⟩)))
    · have present : ¬ (v.est.packGone = true ∧ v.estState = estNoPack) := fun ⟨gone, noPack⟩ =>
        stays.elim (fun kept => Bool.false_ne_true (kept.symm.trans gone)) (· noPack)
      exact estimatorEpoch_gives due (init.trans (congrArg doEstZDue (if_neg present)))

end Sys2Proof.Machine
end

section
/-! The MRAM's canonical form (R381, R382): what each command's outcome writes keeps it. -/

namespace Sys2Proof.Machine

/-! ## Operations within a beat that leave the MRAM alone -/

section
variable (s : State)

theorem mail_mram (a : MailAnswer) : (mail a s).mram = s.mram := by
  unfold mail
  split <;> rfl

theorem sdoReplaces_mram (k : Nat) : (sdoReplaces k s).mram = s.mram := by
  unfold sdoReplaces
  split
  · exact endUpload_mram _ s
  · rfl

theorem sdoStart_mram (k : Nat) (b : List Byte) : (sdoStart k b s).mram = s.mram :=
  (mail_mram _ _).trans (sdoReplaces_mram s k)

theorem sdoRead_mram (i j : Nat) (c : Bool) : (sdoRead i j c s).mram = s.mram := by
  unfold sdoRead
  split
  · exact sdoStart_mram s _ _
  · exact mail_mram s _

/-- A read that clears `CHG.FAULT` is an upload, which leaves the MRAM. -/
theorem doSdoInfo_mram {req : SdoInfoReq} (h : readsFault req = true) : (doSdoInfo req s).mram = s.mram := by
  unfold readsFault at h
  split at h
  · exact sdoRead_mram s _ _ _
  · exact absurd h Bool.false_ne_true

theorem startUpload_mram (port : Port) : (startUpload port s).2.mram = s.mram := by
  unfold startUpload
  split
  · rfl
  · exact startJob_mram port K.recLog _ s fun _ _ => rfl

theorem nextSegment_mram (c t k : Nat) (b : List Byte) (o n : Nat) : (nextSegment c t k b o n s).mram = s.mram := by
  unfold nextSegment
  simp only [spiReadAnswer, spiPend, ↓apply_ite State.mram, ↓State.mk_mram, ↓endUpload_mram, ite_self]

theorem firstSegment_mram (c t k o n : Nat) : (firstSegment c t k o n s).mram = s.mram := by
  have dropped := dropSegments_mram s
  have started := (startUpload_mram (dropSegments s) .spi).trans dropped
  unfold firstSegment
  dsimp only
  split
  · split
    · exact (nextSegment_mram _ _ _ _ _ _ _).trans started
    · exact started
  · split
    · exact (nextSegment_mram _ _ _ _ _ _ _).trans dropped
    · exact dropped

/-! ## Stamped writes -/

theorem classCheckin_mram (t w : Nat) : (classCheckin t w s).mram = s.mram := by
  unfold classCheckin
  simp only [↓apply_ite State.mram, ↓State.putBit_mram, ↓takeSource_mram, ↓State.flag_mram, ↓setWdg_mram, ite_self]

theorem wrWdgCheckin_mram (t tag : Nat) : (wrWdgCheckin t tag s).2.mram = s.mram := by
  unfold wrWdgCheckin
  dsimp only
  split
  · simp only [accept, stampNow, ↓classCheckin_mram, ↓setWdg_mram, ↓State.put_mram, ↓wdgBeat_mram]
  · simp only [accept, ↓State.bump_mram, ↓wdgBeat_mram]

theorem keyBad_mram : (keyBad s).mram = s.mram := by
  simp only [keyBad, ↓takeSource_mram, ↓State.flag_mram]

theorem wrWdgKey_mram (v : Nat) : (wrWdgKey v s).2.mram = s.mram := by
  unfold wrWdgKey
  dsimp only
  repeat' split
  all_goals simp only [accept, stampNow, ↓keyBad_mram, ↓setWdg_mram, ↓State.put_mram, ↓wdgBeat_mram, ↓State.flag_mram]

theorem wrEntry_stamped_mram {port : Port} {k v dc : Nat} (h : stamped k = true) : (wrEntry port k v dc s).2.mram = s.mram := by
  obtain rfl | hk := key_or_checkin_of_stamped h
  · rw [wrEntry_wdgKey]
    exact wrWdgKey_mram s v
  · rw [wrEntry_wdgCheckin port v dc s hk]
    exact wrWdgCheckin_mram s _ v

theorem writeMapped_stamped_mram {port : Port} {dc : Nat} {e : Nat × Nat} (h : stamped e.1 = true) :
    (writeMapped port dc e s).mram = s.mram := by
  have written := checked_mram e.1 (wrEntry port e.1 e.2 dc) s fun t => wrEntry_stamped_mram t h
  unfold writeMapped
  dsimp only
  split
  · exact written
  · simpa only [State.put_mram, State.bump_mram] using written

theorem completeNow_mram (port : Port) (dc : Nat) (data : List Byte) : (completeNow port dc data s).mram = s.mram :=
  each_keeps _ _ State.mram s fun _ he t => writeMapped_stamped_mram t (List.mem_filter.1 he).2

end

/-! ## The write of `REC.CLEAR` -/

section
variable {port : Port} {dc : Nat} {s : State} (h : s.MramInv)
include h

theorem wrRecClear_mramInv (v : Nat) : (wrRecClear port v s).2.MramInv := by
  unfold wrRecClear startJob
  repeat' split
  case _ => exact h
  case _ => exact h
  case _ => exact h
  case _ => exact h
  case _ i _ =>
    refine wf_of_mram (clearLog_wf ?_) (jobEnd_mram i _ _ _)
    exact wf_of_mram h (jobAllot_mram s port K.recClear i)

theorem wrBytes_recClear_mramInv (d : List Byte) : (wrBytes port K.recClear d dc s).2.MramInv := by
  have number : wrEntry port K.recClear (leNat d) dc s = wrRecClear port (leNat d) s := by
    simp [wrEntry, wrMapping, wrSystem]
  unfold wrBytes
  rw [if_neg (by decide), if_neg (by decide), number]
  repeat' split
  · exact h
  · exact h
  · exact wrRecClear_mramInv h _

theorem checked_mramInv {k : Nat} {wr : State → Written} (hw : (wr s).2.MramInv) : (checked k wr s).2.MramInv := by
  unfold checked
  split
  · exact h
  · exact hw

theorem hostDo_mramInv {k : Nat} {wr : State → Written} (hw : (wr s).2.MramInv) : (hostDo port k wr s).MramInv := by
  unfold hostDo
  split
  · exact checked_mramInv h hw
  · exact h

theorem spiWriteDone_recClear_mramInv (c t : Nat) (d : List Byte) (n : Nat) :
    (spiWriteDone c t K.recClear d dc n s).MramInv := by
  refine checked_mramInv h (k := K.recClear) (wr := wrNow .spi K.recClear d dc) ?_
  unfold wrNow
  split
  · exact h
  · exact wrBytes_recClear_mramInv h d

end

/-- The outcome is a next state whose MRAM is in its canonical form. -/
def AnswersInForm (o : Host.Outcome State Fault Refusal) : Prop := ∃ t, o = .next t ∧ t.MramInv

theorem AnswersInForm.ite {c : Prop} [Decidable c] {o p : Host.Outcome State Fault Refusal}
    (ho : AnswersInForm o) (hp : AnswersInForm p) : AnswersInForm (if c then o else p) := by
  split
  · exact ho
  · exact hp

/-! ## The outcomes of a family of commands -/

section
variable {s : State}

theorem next_inForm {t : State} (ht : Mram.wf t.mram = true) : AnswersInForm (.next t) := ⟨t, rfl, ht⟩

/-- What time and queue become does not reach the MRAM. -/
theorem nextAt_inForm (t : State) (c : Clock) (q : List Instr) (ht : t.MramInv) :
    AnswersInForm (.next { t with clock := c, pending := q }) := next_inForm ht

theorem retimed_inForm {c : Clock → Clock} {f : State → State} (hf : (f s).MramInv) : AnswersInForm (retimed c f s) :=
  next_inForm hf

theorem eventNv_inForm {f : State → State} (hf : (f s).MramInv) : AnswersInForm (eventNv f s) := next_inForm hf

variable (h : s.MramInv)
include h

theorem State.MramInv.of_mram {t : State} (e : t.mram = s.mram) : t.MramInv := wf_of_mram h e

theorem openTick_mramInv : s.openTick.MramInv := h.of_mram s.openTick_mram

theorem event_inForm (f : State → State) : AnswersInForm (event f s) := next_inForm h

theorem atTick_inForm (f : State → State) : AnswersInForm (atTick f s) := .ite (next_inForm h) (next_inForm h)

theorem atTickNv_inForm {f : State → State} (hf : (f s.openTick).MramInv) : AnswersInForm (atTickNv f s) :=
  .ite (next_inForm hf) (next_inForm h)

theorem hostRow_inForm (port : Port) (k : Nat) (wr : State → Written) : AnswersInForm (hostRow port k wr s) :=
  .ite (next_inForm h) (next_inForm h)

theorem hostRowNv_inForm {port : Port} {k : Nat} {wr : State → Written} (hw : (wr s.openTick).2.MramInv) :
    AnswersInForm (hostRowNv port k wr s) :=
  .ite (next_inForm (hostDo_mramInv (openTick_mramInv h) hw)) (next_inForm h)

theorem seqRow_inForm (i : SeqInstr) : AnswersInForm (seqRow i s) := .ite (next_inForm h) (next_inForm h)

theorem powerRow_inForm (f : State → State) : AnswersInForm (powerRow f s) := .ite (next_inForm h) (next_inForm h)

theorem wdgOutcome_inForm (x : BootInputs) {f : State → State} (hf : (f s).MramInv) : AnswersInForm (wdgOutcome x f s) :=
  .ite (retimed_inForm (wdgReset_wf hf)) (event_inForm h _)

theorem readOutcome_inForm (c : Bool) {f : State → State} (hf : c = true → (f s).mram = s.mram) :
    AnswersInForm (readOutcome c f s) := by
  unfold readOutcome
  split
  · next hc => exact atTick_inForm (h.of_mram (hf hc)) readFault
  · exact event_inForm h f

theorem complete_inForm (port : Port) (dc : Nat) (data : List Byte) (f : State → State) :
    AnswersInForm (complete port dc data f s) := by
  unfold complete
  exact atTick_inForm (h.of_mram (completeNow_mram s port dc data)) _

theorem spiRow_inForm (fields : Bool) (r : SpiFrame) {act : State → Host.Outcome State Fault Refusal}
    (ha : ∀ t : State, t.MramInv → AnswersInForm (act t)) : AnswersInForm (spiRow fields r act s) :=
  have shifted : (spiShift r s).MramInv := h
  .ite (next_inForm h) <| .ite (event_inForm h _) <| .ite (event_inForm shifted _) <| .ite (event_inForm shifted _) <|
    .ite (ha _ shifted) (event_inForm shifted _)

theorem spiQuiet_inForm (r : SpiFrame) (f : State → State) : AnswersInForm (spiQuiet r f s) :=
  .ite (event_inForm h _) (spiRow_inForm h _ r fun _ ht => event_inForm ht f)

theorem spiWrite_inForm (c t k : Nat) (data : List Byte) (dc : Nat) : AnswersInForm (spiWrite c t k data dc s) := by
  unfold spiWrite
  dsimp only
  split
  · exact event_inForm h _
  · split
    · next clear => exact clear ▸ atTickNv_inForm h (spiWriteDone_recClear_mramInv (openTick_mramInv h) c t data _)
    · exact atTick_inForm h _

/-! ## Commands with an outcome of their own -/

theorem execHostWrite_inForm (port : Port) (i : BitVec 16) (j : BitVec 8) (d : List Byte) (dc : BitVec 64) :
    AnswersInForm (execHostWrite port i j d dc s) := by
  unfold execHostWrite
  dsimp only
  split
  · exact event_inForm h _
  · split
    · next clear => exact clear ▸ hostRowNv_inForm h (wrBytes_recClear_mramInv (openTick_mramInv h) d)
    · exact hostRow_inForm h _ _ _

theorem execManagementTick_inForm (i : TickInputs) : AnswersInForm (execManagementTick i s) := by
  have ticked : (tickWork i s.openTick).MramInv := tickWork_wf (openTick_mramInv h)
  have backup : (backupTick i s.atBoundary).MramInv := h.of_mram (backupTick_mram i s.atBoundary)
  exact .ite (nextAt_inForm _ _ _ ticked) <| .ite (next_inForm h) <| .ite (retimed_inForm backup) (event_inForm h _)

theorem execEndOfBoot_inForm : AnswersInForm (execEndOfBoot s) := by
  unfold execEndOfBoot
  split
  · exact retimed_inForm (h.of_mram (doEndOfBoot_mram _ s.atBoundary))
  · exact next_inForm h

theorem execWdgClk_inForm (n : Nat) (x : BootInputs) : AnswersInForm (execWdgClk n x s) := by
  refine .ite (wdgOutcome_inForm h x ?_) (next_inForm h)
  split
  · exact h.of_mram (wdgClkTrip_mram s)
  · exact h

theorem execWdgCoreTrip_inForm (n : Nat) (x : BootInputs) : AnswersInForm (execWdgCoreTrip n x s) := by
  have lapsed (m : Nat) (t : State) (e : t.mram = s.mram) : (doWdgCoreTrip x (lapse m t)).MramInv :=
    wf_of_mram h ((doWdgCoreTrip_mram x _).trans ((lapse_mram m t).trans e))
  exact .ite (.ite (nextAt_inForm _ _ _ (lapsed _ _ rfl)) (next_inForm h)) <|
    .ite (retimed_inForm (h.of_mram (doWdgCoreTrip_mram x s))) (next_inForm h)

theorem execRecClear_inForm (port : Port) (v : BitVec 16) : AnswersInForm (execRecClear port v s) :=
  hostRowNv_inForm h (wrRecClear_mramInv (openTick_mramInv h) v.toNat)

theorem execSdoInfo_inForm (req : SdoInfoReq) : AnswersInForm (execSdoInfo req s) :=
  .ite (.ite (atTick_inForm h _) (next_inForm h))
    (readOutcome_inForm h _ fun hc => doSdoInfo_mram s (Bool.and_eq_true_iff.1 hc).1)

theorem execSpiReadSeg_inForm (r : SpiFrame) : AnswersInForm (execSpiReadSeg r s) := by
  unfold execSpiReadSeg
  refine spiRow_inForm h _ r fun t ht => ?_
  have first : ∀ k tag off count, AnswersInForm
      (if k = K.recLog then atTick (firstSegment 0x04 tag k off count) t
       else readOutcome (k == K.chgFault) (firstSegment 0x04 tag k off count) t) := fun k tag off count =>
    .ite (atTick_inForm ht _) (readOutcome_inForm ht _ fun _ => firstSegment_mram t _ _ _ _ _)
  split
  · exact .ite (event_inForm ht _) (first _ _ _ _)
  · exact first _ _ _ _

theorem execSpiWriteSeg_inForm (r : SpiFrame) : AnswersInForm (execSpiWriteSeg r s) := by
  unfold execSpiWriteSeg
  refine spiRow_inForm h _ r fun t ht => ?_
  have ended : ({ t with spi := { t.spi with wseg := none } } : State).MramInv := ht
  dsimp only
  split
  · exact .ite (event_inForm ht _) (.ite (spiWrite_inForm ended _ _ _ _ _) (event_inForm ht _))
  · exact event_inForm ht _

theorem execSpiPiWrite_inForm (r : SpiFrame) : AnswersInForm (execSpiPiWrite r s) := by
  unfold execSpiPiWrite
  refine spiRow_inForm h _ r fun t ht => ?_
  dsimp only
  split
  · exact event_inForm ht _
  · exact .ite (event_inForm ht _) (complete_inForm ht _ _ _ _)

end

/-! ## Every command -/

theorem exec_inForm (c : Instr) {s : State} (h : s.MramInv) : AnswersInForm (exec c s) := by
  cases c with
  | estimatorEpoch | backupStart | clkXtalLost | strideEdge | strideMissingEdge | strideHoldLong | strideStart | fdSurgeLong
  | fdSwapDone | fdBalanceDone | fdCflyImbal | fdSoftstartDone | fdStart | fdOffDelay | fdStopped | fdIbusOv | fdIbusUv | fdOc
  | fdGate | budgetPeak | budgetOver | railSoftstartDone | railSs | railSlewDone | railRampdownDone | railDisSlow | phaseShed
  | fastAdd | burstEntry | burstStart | burstSlot | burstEnd | burstExit | qwOpen | qwClose | phOc | phOvl | phNeg | phTsd | phSw
  | phDrv | phImbal | railPhLost | railReverse | remountShadowEnd | remountRampEnd | xbRegionChange | xbSkipEntry | xbCl | xbPk
  | xbTsd | xbSw | xbDrv | xbNeg | ldoInUv | ldoCl | ldoTsd | aoRestart | supOvWarn | supUvWarn | supOcWarn | supOv | supUv
  | supOc | supConditionEnd | goodRise | goodFall | rhDue | rhSettleStart | rhSettleDone | rhPointDone | rhPointAbandon
  | enableWaitDone | enableWaitTmo | disableWaitDone | disableWaitTmo | waitTimeDone | waitStrideDone | checkPass | checkChatter
  | checkTimeout | gaitAdvance | gaitTmo | gaitHoldEnd | slewWaitDone | gaitalrmDetect | gaitalrmRelease | pathSourceValid
  | pathSwitch | pathAuxOv | batTakeover | batDisarm | pathBatCutoff | batteryStart | detectDone | prechargeDone | cvEntry
  | cvToCc | endOfCharge | recharge | chgTempRegain | chgTimer | chgPreTmo | collapseConfirm | removalProbeDone | chgBatShort
  | chgBatOv | chgConv | chgDetRetry | mpptSweep | mpptStep | revOtherSource | revVbatLow | chgRevShort | estHibernate | estWake
  | estZDue | estZPointDone | estAdc | fastFrameSend | fastFrameRx | slowFrameRx | bulkFrameRx | linkAlign | pairLinkLost
  | takeoverArm | takeoverEvidence | announcedStop | wdgCheckin | wdgRstPulseEnd | wdgStartDelayEnd | wdgKey | rtcWrap
  | trimWindow | rtcCalDone | rtcOscFail | rtcAlarm | wakeNAssert | pwronHoldExpire | alStateRequest | smWdgExpire
  | portLinkChange | dcActivate | siiWrite | mailboxUnsupported | segReadTimeout | thermShed | thermSensor | angleTrigger
  | estZPointStart | backupSupplyChange | vddioLoss | ecatPreopReached | tetherFrameDiscarded | linkSymbolLoss | gaitalrmLineHigh
  | harvestLost | masterUploadAbort | ldoin0Good =>
    exact ⟨_, rfl, h⟩
  | fdSurge | vsysPfw | pfwClear | fdRisingChange | fdFallingChange | fdForcedChange | fdVsysOv =>
    exact eventNv_inForm (vsysEvent_wf h)
  | estCheckpoint => exact eventNv_inForm (doEstCheckpoint_wf h)
  | recFlushDone => exact eventNv_inForm (doRecFlushDone_wf h)
  | cfgSaveDone => exact eventNv_inForm (doCfgSaveDone_wf h)
  | stateReqActive | stateReqDoze | stateReqStandby | timeCapture | cfgCommit | cfgDiscard | fdRatioMode | railEnable
  | railDisable | phaseTakeOut | phaseReturn | rhRun | rhCommission | seqImage | seqRun | seqStop | gaitAlrmCmd | ffrRearm
  | faultAck | faultRearm | lockoutClear | revStart | revStop | estZRun | estReset | pairHandback | pairCmd | wdgCmd | rtcCapture
  | rtcSet | rtcCalRun | pwronSet | pwronClear | recTrigCmd | recFlush | comSave | comRestore | cfgImage | cfgLock | cfgUnlock
  | stRetry | jobRelease | errHistoryClear =>
    exact hostRow_inForm h _ _ _
  | autostart | rhResults | autoAck | release | autoRestartEnable | retryWinExpire | joinWaitExpire | foeWrite =>
    exact atTick_inForm h _
  | railDischarged n v => exact (atTick_inForm h _ : AnswersInForm (execRailDischarged n v s))
  | arbGrant => exact (atTick_inForm h _ : AnswersInForm (execArbGrant s))
  | estZPointAbandon v => exact (atTick_inForm h _ : AnswersInForm (execEstZPointAbandon v s))
  | nop | enable | disable | waitTime | waitStride | check | jump | gait | setout | mark | slew | seqEnd =>
    exact seqRow_inForm h _
  | enterStandby | enLow => exact powerRow_inForm h _
  | spiNop | spiRepeat => exact spiQuiet_inForm h _ _
  | hostWrite => exact execHostWrite_inForm h _ _ _ _ _
  | managementTick => exact execManagementTick_inForm h _
  | vsysUv => exact .ite (next_inForm h) (next_inForm h)
  | fallToOff => exact .ite (retimed_inForm (h.of_mram (doFallToOff_mram s))) (next_inForm h)
  | bootBegin => exact .ite (retimed_inForm (h.of_mram (doBootBegin_mram _ s))) (next_inForm h)
  | endOfBoot => exact execEndOfBoot_inForm h
  | sysrstNAssert => exact .ite (retimed_inForm (h.of_mram (doSysrstNAssert_mram s))) (next_inForm h)
  | sysrstNRelease => exact .ite (retimed_inForm (h.of_mram (beginBoot_mram _ _ s))) (next_inForm h)
  | chgFaultRead => exact .ite (next_inForm h) (next_inForm h)
  | wdgPeriodEnd => exact .ite (wdgOutcome_inForm h _ (h.of_mram (wdgPeriodEnd_mram s))) (next_inForm h)
  | wdgClk => exact execWdgClk_inForm h _ _
  | wdgLock => exact .ite (event_inForm h _) (hostRow_inForm h _ _ _)
  | wdgCoreTrip => exact execWdgCoreTrip_inForm h _ _
  | recClear => exact execRecClear_inForm h _ _
  | recLogUpload => exact .ite (atTick_inForm h _) (next_inForm h)
  | retryBoot => exact .ite (next_inForm h) (next_inForm h)
  | sdoInfo => exact execSdoInfo_inForm h _
  | foeRead => exact .ite (atTick_inForm h _) (event_inForm h _)
  | pdOutputComplete => exact .ite (complete_inForm h _ _ _ _) (next_inForm h)
  | spiRead | spiReadAll => exact spiRow_inForm h _ _ fun _ ht => readOutcome_inForm ht _ fun _ => rfl
  | spiWrite => exact spiRow_inForm h _ _ fun _ ht => spiWrite_inForm ht _ _ _ _ _
  | spiReadSeg => exact execSpiReadSeg_inForm h _
  | spiWriteSeg => exact execSpiWriteSeg_inForm h _
  | spiPiRead | spiEmcyRead => exact spiRow_inForm h _ _ fun _ ht => event_inForm ht _
  | spiPiWrite => exact execSpiPiWrite_inForm h _

/-- Settles O6: a beat of idling writes no MRAM, and each command's outcome is one of its family's, which leaves the MRAM alone or
writes it by an operation that keeps the form. -/
theorem stepKeepsMramForm : Obligations.StepKeepsMramForm := by
  intro s t h stepped
  unfold step at stepped
  split at stepped
  · cases stepped
    exact h.of_mram s.idle_mram
  · next c rest _ =>
    obtain ⟨u, answered, kept⟩ := exec_inForm c (s := { s with pending := rest }) h
    cases answered.symm.trans stepped
    exact kept

end Sys2Proof.Machine
end

section
/-! The pair (R317, R329): the wait for a partner beside a stopped core (R354), and the link's alignment. -/

namespace Sys2Proof.Machine

/-! ## The wait for a partner -/

/-- Where the core does not run at the boundary, an effect that waits for it does not come. -/
theorem atTick_down {s : State} (down : s.openTick.coreUp = false) (f : State → State) : atTick f s = .next s := by
  simp only [atTick, down, Bool.false_eq_true, ↓reduceIte]

/-- A device in ACTIVE whose wait for a partner is over, its role fixed, its core stopped. -/
def waitsWithStoppedCore : State :=
  { (activeAtBoundary.put K.pairState pairWait).put K.pairJoinWait 0 with
    pair := { Pair.reset with roleFixed := true }, power := { Power.reset with stopped := true } }

/-- Refutes O50: the end of the wait is a decision of a tick, and with a stopped core no tick decides (R354), so the command leaves
the state as it is, although the device still takes pair decisions (`State.decides` asks for the fast plane alone). The pair's state
stays 1, WAIT, where the statement has 2, SOLO. -/
theorem not_pairCarriage : ¬ Obligations.PairCarriage := by
  intro holds
  obtain ⟨-, -, -, -, -, expires⟩ := holds waitsWithStoppedCore _ rfl
  have claimed := expires (by decide +kernel) (by decide +kernel) (by decide +kernel) (by decide +kernel) (by decide +kernel)
  have down : waitsWithStoppedCore.openTick.coreUp = false := by decide +kernel
  have stands : execJoinWaitExpire waitsWithStoppedCore = .next waitsWithStoppedCore := atTick_down down doJoinWaitExpire
  have same := Host.Outcome.next.inj (stands.symm.trans claimed)
  exact absurd (congrArg (State.get · K.pairState) same) (by decide +kernel)

/-! ## Alignment -/

/-- A device in ACTIVE in SOLO, its pair link DOWN. -/
def soloLinkDown : State := activeAtBoundary.put K.pairState pairSolo

/-- Refutes O49: alignment takes the link from DOWN to ALIGN with no good frame behind it, so the model leaves the beat of the last one
empty, and a loss counts from the first good frame on; the statement has the beat of the alignment, 1,000 here, in its place. -/
theorem not_pairFrames : ¬ Obligations.PairFrames := by
  intro holds
  obtain ⟨-, aligns, -⟩ := holds soloLinkDown (by decide +kernel)
  have claimed := Host.Outcome.next.inj (aligns (by decide +kernel))
  exact absurd (congrArg (fun t => t.pair.lastGood) claimed) (by decide +kernel)

end Sys2Proof.Machine
end

section
/-! The backup domain (R363 to R373): what an edge of the backup clock does to the domain's own record, the calendar's wrap, the commands
that wait for an edge. -/

namespace Sys2Proof.Machine

/-! ## What a host asked for, at its edge -/

theorem jobEnd_bk (i : Nat) (x : JobStatus) (r : Nat) (s : State) : (jobEnd i x r s).bk = s.bk := by
  unfold jobEnd
  split
  · simp only [State.flag_bk, State.put_bk]
  · rfl

theorem calEnd_bk (x : Nat) (s : State) : (calEnd x s).bk = s.bk := by
  unfold calEnd
  split
  · rw [jobEnd_bk, State.put_bk]
  · rfl

theorem pwronLatch_bk (s : State) : (pwronLatch s).bk = { s.bk with latch := true } := by
  unfold pwronLatch
  split
  · next set => rw [← set]
  · rfl

theorem pwronUnlatch_bk (s : State) : (pwronUnlatch s).bk = { s.bk with latch := false } := by
  unfold pwronUnlatch
  split
  · rfl
  · next clear => rw [← Bool.eq_false_iff.2 clear]

/-- What a request does to the domain's record. -/
def RtcOp.onBk (b : Backup) : RtcOp → Backup
  | .capture => b
  | .set secs => { b with secs := secs, sub := 0, window := 0, valid := true, internalOsc := b.internalOsc && !b.crystalGood }
  | .calStart => b
  | .pwron on => { b with latch := on }

theorem rtcOp_bk (o : RtcOp) (s : State) : (rtcOp o s).bk = o.onBk s.bk := by
  cases o with
  | capture => rfl
  | set secs => exact calEnd_bk _ _
  | calStart => rfl
  | pwron on =>
    cases on with
    | false => exact pwronUnlatch_bk s
    | true => exact pwronLatch_bk s

theorem each_rtcOp_bk (l : List RtcOp) (s : State) : (each l rtcOp s).bk = l.foldl RtcOp.onBk s.bk := by
  unfold each
  induction l generalizing s with
  | nil => rfl
  | cons o l ih => rw [List.foldl_cons, List.foldl_cons, ih, rtcOp_bk]

/-- A part of the record that no request touches stays. -/
theorem foldl_onBk_keeps {β : Type} (read : Backup → β) (keeps : ∀ b o, read (RtcOp.onBk b o) = read b) (l : List RtcOp) (b : Backup) :
    read (l.foldl RtcOp.onBk b) = read b := by
  induction l generalizing b with
  | nil => rfl
  | cons o l ih => rw [List.foldl_cons, ih, keeps]

theorem foldl_onBk_ops (l : List RtcOp) (b : Backup) : (l.foldl RtcOp.onBk b).ops = b.ops :=
  foldl_onBk_keeps Backup.ops (fun _ o => by cases o <;> rfl) l b

theorem foldl_onBk_alarmDue (l : List RtcOp) (b : Backup) : (l.foldl RtcOp.onBk b).alarmDue = b.alarmDue :=
  foldl_onBk_keeps Backup.alarmDue (fun _ o => by cases o <;> rfl) l b

/-- A window at its start stays there: a set starts it anew. -/
theorem foldl_onBk_window (l : List RtcOp) {b : Backup} (h : b.window = 0) : (l.foldl RtcOp.onBk b).window = 0 := by
  induction l generalizing b with
  | nil => exact h
  | cons o l ih =>
    refine ih ?_
    cases o with
    | set => rfl
    | capture | calStart | pwron => exact h

/-- A latch that is set, or that a request sets, stays set where none clears it. -/
theorem foldl_onBk_latch {l : List RtcOp} {b : Backup} (none : RtcOp.pwron false ∉ l) (h : b.latch = true ∨ RtcOp.pwron true ∈ l) :
    (l.foldl RtcOp.onBk b).latch = true := by
  induction l generalizing b with
  | nil => exact h.resolve_right List.not_mem_nil
  | cons o l ih =>
    obtain ⟨other, rest⟩ := not_or.1 (List.mem_cons.not.1 none)
    refine ih rest ?_
    cases o with
    | capture | set | calStart => exact h.imp_right fun m => (List.mem_cons.1 m).resolve_left (by nofun)
    | pwron on =>
      cases on with
      | false => exact absurd rfl other
      | true => exact .inl rfl

/-- At an edge with a set of PWRON no clear acts (R373). -/
theorem edgeOps_of_set {l : List RtcOp} (h : RtcOp.pwron true ∈ l) : RtcOp.pwron true ∈ edgeOps l ∧ RtcOp.pwron false ∉ edgeOps l := by
  have holds : l.contains (RtcOp.pwron true) = true := List.contains_iff_mem.2 h
  unfold edgeOps
  rw [if_pos holds]
  simp [List.mem_filter, h]

/-! ## An edge of the backup clock -/

theorem windowStart_bk (s : State) : ∃ x, (windowStart s).bk = { s.bk with trim := x } := by
  unfold windowStart
  split
  · exact ⟨_, rfl⟩
  · exact ⟨s.bk.trim, rfl⟩

theorem alarmFires_bk (s : State) : ∃ x, (alarmFires s).bk = { s.bk with alarmDue := true, latch := x } := by
  unfold alarmFires pwronEvent
  split
  · exact ⟨true, pwronLatch_bk _⟩
  · exact ⟨s.bk.latch, rfl⟩

/-- The count at an edge, and the hold of PWRON that it may end. -/
def countEdge (s : State) : State :=
  setBk (fun b => { b.count with ops := [], backupCycles := if s.inBackup then b.backupCycles + 1 else 0 })
    (if s.holdNext then pwronUnlatch s else s)

theorem countEdge_bk (s : State) : ∃ x, (countEdge s).bk =
    { s.bk.count with ops := [], backupCycles := if s.inBackup then s.bk.backupCycles + 1 else 0, latch := x } := by
  have held : ∃ x, (if s.holdNext then pwronUnlatch s else s).bk = { s.bk with latch := x } := by
    split
    · exact ⟨false, pwronUnlatch_bk s⟩
    · exact ⟨s.bk.latch, rfl⟩
  obtain ⟨x, held⟩ := held
  refine ⟨x, ?_⟩
  simp only [countEdge, setBk, held]
  rfl

/-- A passed end of the calendar leaves its flag. -/
def noteWrap (wraps : Bool) (s : State) : State := if wraps then s.flag K.rtcStatus 8 else s

theorem noteWrap_bk (w : Bool) (s : State) : (noteWrap w s).bk = s.bk := by
  cases w <;> rfl

/-- The edge up to what a host asked for. -/
def edgeStart (s : State) : State :=
  if s.alarmNext then alarmFires (noteWrap s.bk.wraps (windowStart (countEdge s)))
  else noteWrap s.bk.wraps (windowStart (countEdge s))

theorem bkEdge_eq (s : State) : bkEdge s = calWatch (each (edgeOps s.bk.ops) rtcOp (edgeStart s)) := rfl

theorem bkEdge_bk (s : State) : (bkEdge s).bk = (edgeOps s.bk.ops).foldl RtcOp.onBk (edgeStart s).bk :=
  each_rtcOp_bk _ _

/-- Beside the count an edge moves the trim, the latch and the alarm alone. -/
theorem edgeStart_bk (s : State) : ∃ trim latch alarm, (s.alarmNext = true → alarm = true) ∧
    (edgeStart s).bk = { (countEdge s).bk with trim := trim, latch := latch, alarmDue := alarm } := by
  obtain ⟨trim, started⟩ := windowStart_bk (countEdge s)
  have noted := (noteWrap_bk s.bk.wraps _).trans started
  unfold edgeStart
  split
  · obtain ⟨x, fired⟩ := alarmFires_bk (noteWrap s.bk.wraps (windowStart (countEdge s)))
    exact ⟨trim, x, true, fun _ => rfl, by rw [fired, noted]⟩
  · next quiet => exact ⟨trim, (countEdge s).bk.latch, (countEdge s).bk.alarmDue, fun fires => absurd fires quiet, noted⟩

theorem edgeStart_ops (s : State) : (edgeStart s).bk.ops = [] := by
  obtain ⟨x, counted⟩ := countEdge_bk s
  obtain ⟨_, _, _, -, start⟩ := edgeStart_bk s
  rw [start, counted]

theorem edgeStart_window (s : State) : (edgeStart s).bk.window = (s.bk.window + 1) % 1048576 := by
  obtain ⟨x, counted⟩ := countEdge_bk s
  obtain ⟨_, _, _, -, start⟩ := edgeStart_bk s
  rw [start, counted]
  rfl

theorem edgeStart_secs (s : State) : (edgeStart s).bk.secs = s.bk.nextSecs := by
  obtain ⟨x, counted⟩ := countEdge_bk s
  obtain ⟨_, _, _, -, start⟩ := edgeStart_bk s
  rw [start, counted]
  rfl

theorem edgeStart_valid (s : State) : (edgeStart s).bk.valid = (s.bk.valid && !s.bk.wraps) := by
  obtain ⟨x, counted⟩ := countEdge_bk s
  obtain ⟨_, _, _, -, start⟩ := edgeStart_bk s
  rw [start, counted]
  rfl

theorem edgeStart_alarmDue {s : State} (fires : s.alarmNext = true) : (edgeStart s).bk.alarmDue = true := by
  obtain ⟨_, _, _, due, start⟩ := edgeStart_bk s
  rw [start]
  exact due fires

/-- An edge that no request waits for. -/
theorem bkEdge_of_noOps {s : State} (none : s.bk.ops = []) : bkEdge s = calWatch (edgeStart s) := by
  have ops : edgeOps [] = [] := by decide
  rw [bkEdge_eq, none, ops, each, List.foldl_nil]

/-! ## The calendar's wrap (R363) -/

theorem Backup.wraps_of_turns {b : Backup} (turns : b.turns = true) (last : b.secs + 1 = calendarSpan) : b.wraps = true := by
  simp only [Backup.wraps, turns, last, beq_self_eq_true, Bool.and_self]

theorem Backup.nextSecs_of_wraps {b : Backup} (turns : b.turns = true) (last : b.secs + 1 = calendarSpan) : b.nextSecs = 0 := by
  simp only [Backup.nextSecs, turns, last, ↓reduceIte]

theorem alarmFires_status {s : State} {i : Nat} (h : (s.get K.rtcStatus).testBit i = true) :
    ((alarmFires s).get K.rtcStatus).testBit i = true := by
  have flagged : (((setBk (fun b => { b with alarmDue := true }) s).flag K.rtcStatus 1).get K.rtcStatus).testBit i = true := by
    rw [State.get_flag_self, Nat.testBit_or]
    exact Bool.or_eq_true_iff.2 (.inl h)
  unfold alarmFires pwronEvent pwronLatch
  split
  · split
    · exact flagged
    · rwa [State.get_flag_ne _ _ _ _ (by decide)]
  · exact flagged

theorem edgeStart_status {s : State} (wraps : s.bk.wraps = true) : ((edgeStart s).get K.rtcStatus).testBit 3 = true := by
  have noted : ((noteWrap s.bk.wraps (windowStart (countEdge s))).get K.rtcStatus).testBit 3 = true := by
    rw [wraps]
    show (((windowStart (countEdge s)).flag K.rtcStatus 8).get K.rtcStatus).testBit 3 = true
    rw [State.get_flag_self, Nat.testBit_or]
    exact Bool.or_eq_true_iff.2 (.inr (by decide))
  unfold edgeStart
  split
  · exact alarmFires_status noted
  · exact noted

/-- Days of `m` years from `y` on. -/
def yearsSpan (y : Nat) : Nat → Nat
  | 0 => 0
  | m + 1 => yearsSpan y m + yearDays (y + m)

theorem splitYear_skip (y m n d : Nat) : splitYear (n + m) y (yearsSpan y m + d) = splitYear n (y + m) d := by
  induction m generalizing n d with
  | zero => rw [yearsSpan, Nat.zero_add]; rfl
  | succ m ih =>
    rw [show n + (m + 1) = n + 1 + m from by omega, yearsSpan, Nat.add_assoc (yearsSpan y m), ih, splitYear, if_neg (by omega), Nat.add_sub_cancel_left]
    rfl

theorem fieldsOf_start : fieldsOf 0 = ⟨0, 0, 0, 6, 1, 1, 0, 20⟩ := by decide

theorem yearsSpan_last : yearsSpan 2000 399 = 145732 := by decide +kernel

theorem fieldsOf_end : fieldsOf (calendarSpan - 1) = ⟨59, 59, 23, 5, 31, 12, 99, 23⟩ := by
  have year : splitYear 399 2000 146096 = (2399, 364) := by
    have skipped := splitYear_skip 2000 399 0 364
    rwa [yearsSpan_last] at skipped
  have days : (calendarSpan - 1) / 86400 = 146096 := by decide
  simp only [fieldsOf, days, year]
  decide +kernel

theorem State.beside_bk (s t : State) : (s.beside t).bk = t.bk := rfl

theorem calWatch_bk (s : State) : (calWatch s).bk = s.bk := rfl

theorem calWatch_get (s : State) (k : Nat) : (calWatch s).get k = s.get k := rfl

/-- Settles O53: the edge that passes the calendar's end counts seconds from 0 on, and with no request waiting nothing sets them anew. -/
theorem calendarWraps : Obligations.CalendarWraps := by
  intro s up last turns noOps
  have wraps := Backup.wraps_of_turns turns last
  have edge := bkEdge_of_noOps noOps
  have row : Gives .rtcWrap s (bkEdge s) := event_gives rfl (if_pos ⟨up, wraps⟩)
  have bk : (s.beside (bkEdge s)).bk = (edgeStart s).bk := by rw [State.beside_bk, edge, calWatch_bk]
  refine ⟨s.beside (bkEdge s), row, ?_, ?_, ?_, ?_, ?_⟩
  · rw [bk, edgeStart_secs, Backup.nextSecs_of_wraps turns last]
  · rw [bk, edgeStart_valid, wraps, Bool.not_true, Bool.and_false]
  · rw [State.beside_get, edge, calWatch_get]
    exact edgeStart_status wraps
  · rw [bk, edgeStart_secs, Backup.nextSecs_of_wraps turns last]
    exact fieldsOf_start
  · rw [Nat.eq_sub_of_add_eq last]
    exact fieldsOf_end

/-! ## Events of the domain (R367, R370 to R373) -/

theorem bkEdge_alarmDue {s : State} (fires : s.alarmNext = true) : (bkEdge s).bk.alarmDue = true := by
  rw [bkEdge_bk, foldl_onBk_alarmDue]
  exact edgeStart_alarmDue fires

theorem bkEdge_window {s : State} (last : s.bk.window = 1048575) : (bkEdge s).bk.window = 0 := by
  have start : (edgeStart s).bk.window = 0 := by rw [edgeStart_window, last]
  rw [bkEdge_bk]
  exact foldl_onBk_window _ start

theorem bkEdge_ops (s : State) : (bkEdge s).bk.ops = [] := by
  rw [bkEdge_bk, foldl_onBk_ops]
  exact edgeStart_ops s

/-- Of a set and a clear of PWRON at one edge the set wins (R373). -/
theorem bkEdge_latch_set {s : State} (set : RtcOp.pwron true ∈ s.bk.ops) : (bkEdge s).bk.latch = true := by
  obtain ⟨stays, none⟩ := edgeOps_of_set set
  rw [bkEdge_bk]
  exact foldl_onBk_latch none (.inr stays)

theorem bkEdge_latch_clear {s : State} (clear : s.bk.ops = [.pwron false]) : (bkEdge s).bk.latch = false := by
  have ops : edgeOps [.pwron false] = [.pwron false] := by decide
  rw [bkEdge_bk, clear, ops]
  rfl

theorem State.inBackup_iff {s : State} : s.inBackup = true ↔ s.dev = .backup ∧ s.power.boot = none ∧ s.power.held = false := by
  simp only [State.inBackup, Bool.and_eq_true, beq_iff_eq, Option.isNone_iff_eq_none, Bool.not_eq_true', and_assoc]

section
variable {s : State} {n : Nat}

theorem doWakeNAssert_short (h : n < 4) : doWakeNAssert n s = s := if_neg fun ⟨_, long⟩ => Nat.not_lt.2 long h

variable (up : s.bkUp = true) (long : 4 ≤ n)
include up long

theorem doWakeNAssert_main (main : s.dev.main = true) : doWakeNAssert n s = { s with pins := { s.pins with wake := true } } := by
  have running : s.inBackup ≠ true := fun down => by
    rw [(State.inBackup_iff.1 down).1] at main
    exact absurd main (by decide)
  exact (if_pos ⟨up, long⟩).trans (if_neg fun h => running h.1)

theorem doWakeNAssert_backup (down : s.inBackup = true) (unseen : s.pins.wakeSeen = false) :
    doWakeNAssert n s = pwronEvent 1 { s with
      pins := { s.pins with wake := true, wakeSeen := true }, est := { s.est with wakeDue := true } } :=
  (if_pos ⟨up, long⟩).trans (if_pos ⟨down, unseen⟩)

end

theorem pwronEvent_unnamed {i : Nat} {s : State} (h : s.bk.pwronSrc.testBit i = false) : pwronEvent i s = s :=
  if_neg (Bool.eq_false_iff.1 h)

theorem pwronEvent_latches {i : Nat} {s : State} (h : s.bk.pwronSrc.testBit i = true) (clear : s.bk.latch = false) :
    pwronEvent i s = { s with bk := { s.bk with latch := true } }.flag K.bkStatus 1 :=
  (if_pos h).trans (if_neg (Bool.eq_false_iff.1 clear))

theorem doRtcOscFail_unmet {us : Nat} {s : State} (h : s.bk.internalOsc = true ∨ us < 1000) : doRtcOscFail us s = s := by
  refine if_neg fun ⟨_, crystal, long⟩ => ?_
  exact h.elim (fun internal => Bool.false_ne_true (crystal.symm.trans internal)) (Nat.not_lt.2 long)

/-! ## Commands that wait for an edge -/

section
variable (s : State)

theorem writeCheck_rtcCapture : writeCheck K.rtcCapture s = none := writeCheck_of_wo s (by decide +kernel)
theorem writeCheck_rtcSet : writeCheck K.rtcSet s = none := writeCheck_of_wo s (by decide +kernel)
theorem writeCheck_rtcCalRun : writeCheck K.rtcCalRun s = none := writeCheck_of_wo s (by decide +kernel)
theorem writeCheck_bkPwronCmd : writeCheck K.bkPwronCmd s = none := writeCheck_of_wo s (by decide +kernel)

end

section
variable {port : Port} {s : State}

theorem State.jobAllot_bk (k i : Nat) : (s.jobAllot port k i).bk = s.bk := by simp only [State.jobAllot, State.flag_bk, State.put_bk]

theorem calStart_queued (c : Calibration) (u : State) :
    rtcQueue .calStart ({ u with cal := some c }.put K.rtcCalStatus 7) = { u.put K.rtcCalStatus 7 with
      cal := some c, bk := { u.bk with ops := u.bk.ops ++ [.calStart] } } := rfl

theorem wrRtcCalRun_range {v : Nat} (h : v < 60 ∨ 86400 < v) (dc : Nat) : wrRtcCalRun port v dc s = refuse Abort.value s := if_pos h

theorem wrRtcCalRun_accepts {v i : Nat} (dc : Nat) (low : 60 ≤ v) (high : v ≤ 86400) (sync : s.get K.ecatDcActive ≠ 0)
    (free : s.cal = none) (runs : s.dev ≠ .stall) (slot : s.jobChoice = some i) :
    wrRtcCalRun port v dc s = accept { (s.jobAllot port K.rtcCalRun i).put K.rtcCalStatus 7 with
      cal := some ⟨i, v, dc, none, none⟩, bk := { s.bk with ops := s.bk.ops ++ [.calStart] } } := by
  have inRange : ¬ (v < 60 ∨ 86400 < v) := by omega
  have idle : ¬ (s.get K.ecatDcActive = 0 ∨ s.cal.isSome = true ∨ s.stalled = true) := by
    simp only [sync, free, State.stalled_eq_false runs, Option.isSome_none, Bool.false_eq_true, or_self, not_false_eq_true]
  unfold wrRtcCalRun
  rw [if_neg inRange, if_neg idle, startJob_accepts (.inl runs) slot, calStart_queued, State.jobAllot_bk]

end

/-! ## The end of a calibration (R368, R369) -/

/-- With a time measured the drift is shown; a trim that fits is written, one that does not ends the job without it. -/
theorem doRtcCalDone_measured {dc i n d0 c0 c1 : Nat} {s : State} (job : s.cal = some ⟨i, n, d0, some c0, some c1⟩) (later : d0 < dc) :
    doRtcCalDone dc s =
      (let t := s.putFit K.rtcCalPpb (driftPpb (c1 - c0) (dc - d0))
       let new := s.getI K.rtcTrim - roundDiv (driftPpb (c1 - c0) (dc - d0) * 1048576) 1000000000
       if new.natAbs ≤ 511 then calEnd 1 { t.putI K.rtcTrim new with staging := { t.staging with crcDue := true } } else calEnd 2 t) := by
  have spent : dc - d0 ≠ 0 := by omega
  simp only [doRtcCalDone, job, if_neg spent]

/-- Settles O54: each event of the backup clock by its ground, the requests by what they do to the domain's record at their edge. -/
theorem backupDomain : Obligations.BackupDomain := by
  refine ⟨fun s => ⟨fun up => ⟨fun fires => ⟨?_, bkEdge_alarmDue fires⟩, fun quiet => ?_, fun last => ⟨?_, bkEdge_window last⟩,
      fun us crystal long => ?_, fun us unmet => ?_, fun n short => ?_, fun n long main => ?_, fun n long dev boot held unseen =>
      ⟨fun unnamed => ?_, fun named clear => ?_⟩⟩, fun expires => ?_⟩,
    fun port s b hb answers => ?_,
    fun s => ⟨bkEdge_latch_set, fun clear _ => bkEdge_latch_clear clear, bkEdge_ops s⟩,
    fun dc i n d0 c0 c1 s t new job later ht hnew => ⟨fun fits => ?_, fun large => ?_⟩⟩
  · exact event_gives rfl (if_pos ⟨up, fires⟩)
  · exact event_gives rfl (if_neg fun h => Bool.false_ne_true (quiet.symm.trans h.2))
  · exact event_gives rfl (if_pos ⟨up, last⟩)
  · exact event_gives rfl (if_pos ⟨up, crystal, long⟩)
  · exact event_gives rfl (doRtcOscFail_unmet unmet)
  · exact event_gives rfl (doWakeNAssert_short short)
  · exact event_gives rfl (doWakeNAssert_main up long main)
  · exact event_gives rfl ((doWakeNAssert_backup up long (State.inBackup_iff.2 ⟨dev, boot, held⟩) unseen).trans
      (pwronEvent_unnamed unnamed))
  · exact event_gives rfl ((doWakeNAssert_backup up long (State.inBackup_iff.2 ⟨dev, boot, held⟩) unseen).trans
      (pwronEvent_latches named clear))
  · exact event_gives rfl (if_pos expires)
  · subst hb
    refine ⟨?_, fun v other => ?_, fun v valid => ?_, fun v invalid => ?_, fun v dc i low high sync free runs slot => ?_,
      fun v dc range => ?_, ?_, ?_⟩
    · exact hostRow_accepts answers (writeCheck_rtcCapture _) rfl
    · exact hostRow_refuses answers (writeCheck_rtcCapture _) (if_pos (BitVec.toNat_ne.1 other))
    · exact hostRow_accepts answers (writeCheck_rtcSet _) (if_neg fun no => Bool.false_ne_true (no.symm.trans valid))
    · exact hostRow_refuses answers (writeCheck_rtcSet _) (if_pos invalid)
    · exact hostRow_accepts answers (writeCheck_rtcCalRun _) (wrRtcCalRun_accepts dc low high sync free runs slot)
    · exact hostRow_refuses answers (writeCheck_rtcCalRun _) (wrRtcCalRun_range range dc)
    · exact hostRow_accepts answers (writeCheck_bkPwronCmd _) rfl
    · exact hostRow_accepts answers (writeCheck_bkPwronCmd _) rfl
  · subst ht hnew
    exact event_gives rfl ((doRtcCalDone_measured job later).trans (if_pos fits))
  · subst ht hnew
    exact event_gives rfl ((doRtcCalDone_measured job later).trans (if_neg (Nat.not_le.2 large)))

end Sys2Proof.Machine
end

section
/-! Records of the store (R382, R384): the parts of a record and their places, read back from the MRAM that it was written to; and the
step that takes a command. -/

namespace Sys2Proof.Machine

/-! ## The parts of a record -/

/-- The first word of a record: its sequence number, the length of its payload, the version, its kind. -/
def recordWord (kind seq n : Nat) : List Byte := leBytes 4 seq ++ leBytes 2 n ++ [1#8, BitVec.ofNat 8 kind]

/-- A record up to its CRC word. -/
def recordHead (kind seq stamp : Nat) (p : List Byte) : List Byte := recordWord kind seq p.length ++ leBytes 8 stamp ++ padWord p

section
variable (kind seq stamp : Nat) (p : List Byte)

theorem recordBody_eq : recordBody kind seq stamp p =
    recordHead kind seq stamp p ++ leBytes 4 (crc32 (recordHead kind seq stamp p)).toNat ++ leBytes 4 0 := by
  simp only [recordBody, recordHead, recordWord, List.append_assoc]

theorem recordWord_length (n : Nat) : (recordWord kind seq n).length = 8 := by
  simp only [recordWord, List.length_append, leBytes_length, List.length_cons, List.length_nil]

theorem padWord_length : (padWord p).length = (p.length + 7) / 8 * 8 := by
  simp only [padWord, List.length_append, List.length_replicate]
  omega

theorem recordHead_length : (recordHead kind seq stamp p).length = recordSize p.length - 16 := by
  simp only [recordHead, List.length_append, recordWord_length, leBytes_length, padWord_length, recordSize]
  omega

theorem commitWord_length : (commitWord seq).length = 8 := by
  simp only [commitWord, List.length_append, leBytes_length]

theorem recordBody_length : (recordBody kind seq stamp p).length = recordSize p.length - 8 := by
  simp only [recordBody_eq, List.length_append, recordHead_length, leBytes_length, recordSize]
  omega

theorem recordBytes_length : (recordBytes kind seq stamp p).length = recordSize p.length := by
  simp only [recordBytes, List.length_append, recordBody_length, commitWord_length, recordSize]
  omega

theorem recordHead_stamp : ((recordHead kind seq stamp p).drop 8).take 8 = leBytes 8 stamp := by
  have word := recordWord_length kind seq p.length
  rw [recordHead, List.append_assoc, List.drop_left' word, List.take_left' (leBytes_length 8 stamp)]

theorem recordHead_payload : ((recordHead kind seq stamp p).drop 16).take p.length = p := by
  have front : (recordWord kind seq p.length ++ leBytes 8 stamp).length = 16 := by
    rw [List.length_append, recordWord_length, leBytes_length]
  rw [recordHead, List.drop_left' front, padWord, List.take_left' rfl]

variable {kind seq} {n : Nat}

theorem recordWord_seq (h : seq < 2 ^ 32) : leNat ((recordWord kind seq n).take 4) = seq := by
  rw [recordWord, List.append_assoc, List.take_left' (leBytes_length 4 seq), leNat_leBytes 4 seq h]

theorem recordWord_size (h : n < 65536) : leNat (((recordWord kind seq n).drop 4).take 2) = n := by
  rw [recordWord, List.append_assoc, List.drop_left' (leBytes_length 4 seq), List.take_left' (leBytes_length 2 n),
    leNat_leBytes 2 n h]

theorem recordWord_version : (recordWord kind seq n).getD 6 0 = 1 := rfl

theorem recordWord_kind (h : kind < 256) : ((recordWord kind seq n).getD 7 0).toNat = kind := Nat.mod_eq_of_lt h

end

/-! ## Reading a part back -/

theorem Mram.readBytes_length (m : List Host.Cell) (a n : Nat) : (Mram.readBytes m a n).length = n := by
  induction n generalizing a with
  | zero => rfl
  | succ n ih => rw [Mram.readBytes, List.length_cons, ih]

theorem Mram.readBytes_add (m : List Host.Cell) (a i n : Nat) :
    Mram.readBytes m a (i + n) = Mram.readBytes m a i ++ Mram.readBytes m (a + i) n := by
  induction i generalizing a with
  | zero => rw [Nat.zero_add]; rfl
  | succ i ih =>
    rw [Nat.succ_add, Mram.readBytes, Mram.readBytes, ih, List.cons_append, Nat.add_assoc, Nat.add_comm 1 i]

/-- A part of what is read stands at its place. -/
theorem Mram.readBytes_part {m : List Host.Cell} {a : Nat} {x y z : List Byte}
    (h : Mram.readBytes m a (x ++ y ++ z).length = x ++ y ++ z) : Mram.readBytes m (a + x.length) y.length = y := by
  rw [List.length_append, List.length_append, Nat.add_assoc, Mram.readBytes_add, Mram.readBytes_add, List.append_assoc] at h
  obtain ⟨-, rest⟩ := List.append_inj h (Mram.readBytes_length _ _ _)
  exact (List.append_inj rest (Mram.readBytes_length _ _ _)).1

section
variable {m : List Host.Cell} {a kind seq stamp : Nat} {p : List Byte}

/-- A record that stands in the MRAM whole is found good, with what it was written with. -/
theorem readRecord_of_bytes (whole : Mram.readBytes m a (recordBytes kind seq stamp p).length = recordBytes kind seq stamp p)
    (hp : p.length < 65536) (hk : kind < 256) (hq : seq < 2 ^ 32) (hs : stamp < 2 ^ 64) :
    readRecord m a (recordSize p.length) = .good kind 1 seq stamp p := by
  have word : Mram.readBytes m a 8 = recordWord kind seq p.length := by
    have part := Mram.readBytes_part (x := []) (y := recordWord kind seq p.length)
      (z := leBytes 8 stamp ++ padWord p ++ leBytes 4 (crc32 (recordHead kind seq stamp p)).toNat ++ leBytes 4 0 ++ commitWord seq)
      (m := m) (a := a) (by simpa only [recordBytes, recordBody_eq, recordHead, List.nil_append, List.append_assoc] using whole)
    rwa [recordWord_length] at part
  have head : Mram.readBytes m a (recordSize p.length - 16) = recordHead kind seq stamp p := by
    have part := Mram.readBytes_part (x := []) (y := recordHead kind seq stamp p)
      (z := leBytes 4 (crc32 (recordHead kind seq stamp p)).toNat ++ leBytes 4 0 ++ commitWord seq)
      (m := m) (a := a) (by simpa only [recordBytes, recordBody_eq, List.nil_append, List.append_assoc] using whole)
    rwa [recordHead_length] at part
  have check : Mram.readBytes m (a + recordSize p.length - 16) 4 = leBytes 4 (crc32 (recordHead kind seq stamp p)).toNat := by
    have part := Mram.readBytes_part (x := recordHead kind seq stamp p) (y := leBytes 4 (crc32 (recordHead kind seq stamp p)).toNat)
      (z := leBytes 4 0 ++ commitWord seq)
      (m := m) (a := a) (by simpa only [recordBytes, recordBody_eq, List.append_assoc] using whole)
    rwa [recordHead_length, leBytes_length, ← Nat.add_sub_assoc (by unfold recordSize; omega)] at part
  have commit : Mram.readBytes m (a + recordSize p.length - 8) 8 = commitWord seq := by
    have part := Mram.readBytes_part (x := recordBody kind seq stamp p) (y := commitWord seq) (z := [])
      (m := m) (a := a) (by simpa only [recordBytes, List.append_nil] using whole)
    rwa [recordBody_length, commitWord_length, ← Nat.add_sub_assoc (by unfold recordSize; omega)] at part
  have sum : leNat (leBytes 4 (crc32 (recordHead kind seq stamp p)).toNat) = (crc32 (recordHead kind seq stamp p)).toNat :=
    leNat_leBytes 4 _ (BitVec.isLt _)
  simp only [readRecord, word, recordWord_seq hq, recordWord_size hp, Nat.lt_irrefl, ↓reduceIte, commit, head, check, sum,
    ne_eq, not_true_eq_false, recordWord_kind hk, recordWord_version, recordHead_stamp, recordHead_payload, leNat_leBytes 8 stamp hs]
  rfl

end

/-- Settles O56: what is written inside the MRAM reads back byte for byte, and so does each part of a record at its place. -/
theorem recordsReadBack : Obligations.RecordsReadBack := by
  intro m a kind seq stamp p wf inside hp hk hq hs
  have size := recordBytes_length kind seq stamp p
  refine ⟨readRecord_of_bytes (Mram.readBytes_writeBytes a _ wf (by rwa [size])) hp hk hq hs, fun j outside => ?_⟩
  exact Mram.read_writeBytes_ne a _ wf (by rwa [size])

/-- Settles O1: a queue that holds a command is taken apart into it and the rest. -/
theorem stepTakesFrontCommand : Obligations.StepTakesFrontCommand := fun _ _ _ => rfl

end Sys2Proof.Machine
end

section
/-! The power state through a reset (R26, R354): what the last boot leaves noted stands beside what the units do, and a trip of the
core's watchdog is noted through the boot that follows it. -/

namespace Sys2Proof.Machine

/-- The power state under a choice. -/
theorem ite_power (c : Prop) [Decidable c] (a b : State) :
    (if c then a else b).power = if c then a.power else b.power := apply_ite State.power c a b

section
variable (s : State)

/-! ## Repeated effects and jobs -/

theorem each_power {α : Type} (l : List α) (f : α → State → State) (h : ∀ a t, (f a t).power = t.power) :
    (each l f s).power = s.power := each_keeps l f State.power s fun a _ t => h a t

theorem recount_power (m : Nat) (f : State → State) (h : ∀ t, (f t).power = t.power) : (recount m f s).power = s.power := by
  simp [recount, apply_ite State.power, h]

theorem when_power (c : Bool) (f : State → State) (h : ∀ t, (f t).power = t.power) : (when c f s).power = s.power := by
  cases c with
  | false => rfl
  | true => exact h s

@[simp] theorem State.bumpBy_power (k n : Nat) : (s.bumpBy k n).power = s.power := by
  induction n generalizing s with
  | zero => rfl
  | succ n ih => exact ih (s.bump k)

@[simp] theorem jobEnd_power (i : Nat) (x : JobStatus) (r : Nat) : (jobEnd i x r s).power = s.power := by
  simp [jobEnd, ↓ite_power]

@[simp] theorem jobEnd?_power (i : Option Nat) (x : JobStatus) (r : Nat) : (jobEnd? i x r s).power = s.power := by
  cases i with
  | none => rfl
  | some i => exact jobEnd_power s i x r

/-! ## Rails that go off with the device -/

@[simp] theorem arbRelease_power (o : Nat) : (arbRelease o s).power = s.power := by
  unfold arbRelease
  split <;> rfl

@[simp] theorem commissionNext_power (c : RhCommission) (n : Nat) (w : Bool) : (commissionNext c n w s).power = s.power := by
  simp [commissionNext, ↓ite_power]

@[simp] theorem State.bump_power (k : Nat) : (s.bump k).power = s.power := rfl

@[simp] theorem failRun_power (r : RhRun) (x : Nat) : (failRun r x s).power = s.power := by
  have left : (leaveRun r x s).power = s.power := by simp [leaveRun]
  unfold failRun
  dsimp only
  split
  · rw [commissionNext_power, left]
  · exact left

@[simp] theorem rhStops_power (n : Nat) : (rhStops n s).power = s.power := by
  unfold rhStops
  split
  · split
    · exact failRun_power s _ _
    · rfl
  · rfl

@[simp] theorem offerToggle_power (m : Nat) (p : SeqInstr → Bool) : (offerToggle m p s).power = s.power := by
  unfold offerToggle
  split
  · simp [↓ite_power]
  · rfl

@[simp] theorem superviseState_power (n : Nat) (x : RailState) : (superviseState n x s).power = s.power := by
  have kept : (keepLevels n x.levels s).power = s.power := by
    rw [keepLevels]
    simp [each_power, endCondition]
  simp [superviseState, setGood, pgood, State.putBit, apply_ite State.power, kept]

@[simp] theorem setRail_power (n : Nat) (x : RailState) : (setRail n x s).power = s.power := by
  simp [setRail, orgate, State.putRail, when_power, recount_power]

@[simp] theorem idlePhases_power (n : Nat) : (idlePhases n s).power = s.power := by
  simp [idlePhases, reinterleave, burstStops, idleReleased, State.putPhase, when_power, each_power, ↓ite_power]

@[simp] theorem railsLost_power : (railsLost s).power = s.power :=
  each_power s _ _ fun n t => by simp [railToOff, noteRelease, ↓ite_power]

/-! ## The estimator and a calibration at a reset -/

@[simp] theorem endMeasure_power (x : Nat) : (endMeasure x s).power = s.power := by
  unfold endMeasure
  split
  · rfl
  · simp [setEst]

@[simp] theorem estOff_power : (estOff s).power = s.power := by
  simp [estOff, setEst, leaveHib, when_power, ↓ite_power]

@[simp] theorem calEnd_power (x : Nat) : (calEnd x s).power = s.power := by
  unfold calEnd
  split
  · simp
  · rfl

/-! ## The backup domain -/

@[simp] theorem pwronLatch_power : (pwronLatch s).power = s.power := by simp [pwronLatch, setBk, ↓ite_power]

@[simp] theorem pwronUnlatch_power : (pwronUnlatch s).power = s.power := by simp [pwronUnlatch, setBk, ↓ite_power]

@[simp] theorem pwronEvent_power (i : Nat) : (pwronEvent i s).power = s.power := by simp [pwronEvent, ↓ite_power]

@[simp] theorem rtcOp_power (o : RtcOp) : (rtcOp o s).power = s.power := by
  cases o with
  | capture => simp [rtcOp, capture]
  | set x => simp [rtcOp, setCalendar, setBk]
  | calStart => rfl
  | pwron on => cases on <;> simp [rtcOp]

@[simp] theorem bkEdge_power : (bkEdge s).power = s.power := by
  simp [bkEdge, calWatch, windowStart, alarmFires, setBk, each_power, ↓ite_power]

@[simp] theorem bkEdges_power (n : Nat) : (bkEdges n s).power = s.power := by
  induction n generalizing s with
  | zero => rfl
  | succ n ih => exact (ih (bkEdge s)).trans (bkEdge_power s)

/-! ## The stages of boot -/

@[simp] theorem stage1_power (x : BootInputs) : (stage1 x s).power = s.power := by simp [stage1, ↓ite_power]

@[simp] theorem stage2_power (x : BootInputs) : (stage2 x s).power = s.power := by
  cases first : firstTest (failedTests x.failed.toNat) with
  | none => simp [stage2, first, setBk, ↓ite_power]
  | some i => simp [stage2, first, setBk, ↓ite_power]

@[simp] theorem installSet_power (c : ConfigSet) : (installSet c s).power = s.power := by simp [installSet, setImage, each_power]

@[simp] theorem countDamaged_power (n : Nat) : (countDamaged n s).power = s.power := by
  simp [countDamaged, ↓ite_power]

@[simp] theorem restoreLog_power (m : List Host.Cell) : (restoreLog m s).power = s.power := by simp [restoreLog]

@[simp] theorem unpackFields_power (l : List (Nat × Nat)) (b : List Byte) : (unpackFields s l b).power = s.power := by
  induction l generalizing s b with
  | nil => rfl
  | cons e l ih => exact ih _ _

@[simp] theorem restoreRing_power (m : List Host.Cell) (r : Ring) (l : List (Nat × Nat)) :
    (restoreRing m r l s).power = s.power := by
  unfold restoreRing
  dsimp only
  split
  · rw [unpackFields_power, countDamaged_power]
  · exact countDamaged_power s _

@[simp] theorem takeEffect_power : (takeEffect s).power = s.power := by
  simp [takeEffect, startStride, State.putPhase, each_power]

@[simp] theorem stage3_power (x : BootInputs) : (stage3 x s).1.power = s.power := by
  unfold stage3
  dsimp only
  cases (selectConfig _).use with
  | none => simp [computeCrc, ↓ite_power]
  | some c => simp [computeCrc, ↓ite_power]

end

/-! ## A boot -/

/-- A trip of the core's watchdog stays noted through the reset and the boot that follow it. -/
theorem beginBoot_coreTripped (c : Nat) (x : BootInputs) (s : State) :
    (beginBoot c x s).power.coreTripped = s.power.coreTripped := by
  have reset (t : State) : (mainReset t).power = { Power.reset with held := t.power.held, coreTripped := t.power.coreTripped } := rfl
  simp [beginBoot, setBk, State.bumpSat, apply_ite State.power, reset]

theorem deviceReset_coreTripped (c : Nat) (x : BootInputs) (s : State) :
    (deviceReset c x s).power.coreTripped = s.power.coreTripped := by
  simp [deviceReset, beginBoot_coreTripped, ↓ite_power]

/-- Without a running fast plane the trip's boot is the reset's own; it is noted either way. -/
theorem doWdgCoreTrip_boots (x : BootInputs) (s : State) :
    ∃ p, (doWdgCoreTrip x s).power.boot = some p ∧ p.cause = 0x0E ∧ (doWdgCoreTrip x s).power.coreTripped = true := by
  rw [doWdgCoreTrip]
  dsimp only
  generalize flagged : ({ (s.flag K.wdgResetCause 4).bumpSat K.wdgCoreTripCnt with
    power := { ((s.flag K.wdgResetCause 4).bumpSat K.wdgCoreTripCnt).power with coreTripped := true } } : State) = t
  have tripped : t.power.coreTripped = true := by rw [← flagged]
  obtain ⟨p, boot, cause, -⟩ := beginBoot_boot (if t.fastUp then railsLost (calEnd 6 (estOff t)) else t) 0x0E x
  exact ⟨p, boot, cause, (deviceReset_coreTripped 0x0E x t).trans tripped⟩

end Sys2Proof.Machine
end

section
/-! Periods and verdicts of the watchdog (R342, R347 to R349, R351, R354). -/

namespace Sys2Proof.Machine

section
variable {s : State}

/-! ## The outcome of an expiry -/

theorem wdgOutcome_resets {x : BootInputs} {f : State → State} {t : State} (h : f s = t) (due : t.wdg.resetDue = true) :
    wdgOutcome x f s = .next { wdgReset x t with clock := Clock.reset, pending := s.pending } := by
  subst h
  simp only [wdgOutcome, due, ↓reduceIte, retimed, Clock.restart]

theorem wdgOutcome_goesOn {x : BootInputs} {f : State → State} {t : State} (h : f s = t) (due : t.wdg.resetDue = false) :
    wdgOutcome x f s = .next (s.beside t) := by
  subst h
  simp only [wdgOutcome, due, Bool.false_eq_true, ↓reduceIte]
  rfl

/-! ## The end of a period -/

theorem State.fastUp_of_periodOver (h : s.periodOver = true) : s.fastUp = true := by
  simp only [State.periodOver, Bool.and_eq_true] at h
  exact h.1.1

theorem execWdgPeriodEnd_up (up : s.fastUp = true) (x : BootInputs) : execWdgPeriodEnd x s = wdgOutcome x wdgPeriodEnd s :=
  if_pos up

theorem wdgPeriodEnd_over (ended : s.periodOver = true) {v : Bool × State}
    (hv : wdgVerdict false (s.get K.wdgPeriodStart + s.wdg.period) s = v) :
    wdgPeriodEnd s = noteReset v.1 (wdgPeriodFrom (s.get K.wdgPeriodStart + s.wdg.period) v.2) := by
  subst hv
  exact if_pos ended

/-- No task is enabled, or each was seen in order: the period has no cause to expire (R347). -/
theorem wdgVerdict_clean (w : Nat)
    (h : s.get K.wdgTasks = 0 ∨ (clearMask (s.get K.wdgTasks) (s.get K.wdgSeen) = 0 ∧ s.wdg.early = 0 ∧ s.wdg.double = 0)) :
    wdgVerdict false w s = (false, s) := by
  rw [wdgVerdict]
  apply if_pos
  obtain idle | ⟨seen, early, double⟩ := h
  · exact .inr ⟨idle, rfl⟩
  · exact .inl (by rw [seen, early, double]; rfl)

theorem noteReset_of_action (h : s.get K.wdgAction = 2) : noteReset true s = { s with wdg := { s.wdg with resetDue := true } } :=
  if_pos (by simp only [State.wdgResets, h, Bool.true_and, beq_self_eq_true])

theorem noteReset_of_mild (h : s.get K.wdgAction ≠ 2) : noteReset true s = s :=
  if_neg (by simp only [State.wdgResets, Bool.true_and, beq_iff_eq, h, not_false_eq_true])

/-! ## The clock monitor -/

theorem State.fastUp_of_clkWatched (h : s.clkWatched = true) : s.fastUp = true := by
  simp only [State.clkWatched, Bool.and_eq_true] at h
  exact h.1.1

theorem execWdgClk_trips (watched : s.clkWatched = true) {n : Nat} (long : 8 ≤ n) (x : BootInputs) :
    ∃ f : State → State, execWdgClk n x s = wdgOutcome x f s ∧ f s = wdgClkTrip s :=
  ⟨_, if_pos (State.fastUp_of_clkWatched watched), if_pos ⟨watched, long⟩⟩

theorem execWdgClk_waits (watched : s.clkWatched = true) {n : Nat} (short : n < 8) (x : BootInputs) :
    ∃ f : State → State, execWdgClk n x s = wdgOutcome x f s ∧ f s = s :=
  ⟨_, if_pos (State.fastUp_of_clkWatched watched), if_neg fun ⟨_, long⟩ => absurd short (Nat.not_lt.2 long)⟩

/-! ## The reset pulse -/

theorem doWdgRstPulseEnd_due {e : Nat} (pulse : s.wdg.pulseEnd = some e) (due : e ≤ s.clock.beat) :
    doWdgRstPulseEnd s = if s.wdgSt = wdgRun then wdgToStart { s with wdg := { s.wdg with pulseEnd := none } }
      else { s with wdg := { s.wdg with pulseEnd := none } } := by
  rw [doWdgRstPulseEnd, pulse]
  exact if_pos due

/-! ## A stopped core -/

/-- 10,000 cycles without a restart: the device resets and boots, from a running device and from a boot. -/
theorem execWdgCoreTrip_boots {n : Nat} (long : 10000 ≤ n) (live : s.dev.main = true ∨ s.power.boot.isSome = true)
    (free : s.power.held = false) (x : BootInputs) : ∃ t p, execWdgCoreTrip n x s = .next t ∧ t.power.boot = some p ∧
      p.cause = 0x0E ∧ t.power.coreTripped = true ∧ t.clock = Clock.reset := by
  cases up : s.fastUp with
  | true =>
    obtain ⟨p, boot, cause, tripped⟩ := doWdgCoreTrip_boots x
      (lapse (min n 10000 - s.wdg.coreIdle) { s with power := { s.power with stopped := true } })
    exact ⟨_, p, (if_pos up).trans (if_pos long), boot, cause, tripped, rfl⟩
  | false =>
    have booting : s.power.boot.isSome = true := by
      obtain main | boot := live
      · simpa [State.fastUp, main, free] using up
      · exact boot
    obtain ⟨p, boot, cause, tripped⟩ := doWdgCoreTrip_boots x s
    obtain ⟨t, row, clock, power, -⟩ := retimed_restart s (doWdgCoreTrip x)
    have down : ¬ s.fastUp = true := by rw [up]; decide
    exact ⟨t, p, ((if_neg down).trans (if_pos ⟨long, booting, free⟩)).trans row, (congrArg Power.boot power).trans boot, cause,
      (congrArg Power.coreTripped power).trans tripped, clock⟩

theorem execWdgCoreTrip_lapses {n : Nat} (short : n < 10000) (up : s.fastUp = true) (x : BootInputs) :
    execWdgCoreTrip n x s = .next
      { lapse (n - s.wdg.coreIdle) { s with power := { s.power with stopped := true } } with pending := s.pending, mram := s.mram } := by
  have cycles : min n 10000 = n := Nat.min_eq_left short.le
  rw [execWdgCoreTrip, if_pos up, cycles]
  exact if_neg (Nat.not_le.2 short)

end

/-- Settles O52: an expiry is an event, or the reset that it left due; a trip of the core's watchdog is a reset noted through its boot. -/
theorem watchdogVerdicts : Obligations.WatchdogVerdicts := by
  intro x s fresh
  refine ⟨fun ended clean => ?_, fun v hv ended hit p hp => ⟨fun resets => ?_, fun mild notDue => ?_⟩, fun n watched =>
    ⟨fun notDue long => ?_, fun short => ?_, fun due long => ?_⟩, fun up starts ended => ?_, fun e pulse due =>
    ⟨fun other => ?_, fun runs => ?_⟩, fun n long live free => execWdgCoreTrip_boots long live free x,
    fun n short up => execWdgCoreTrip_lapses short up x⟩
  · have next := wdgPeriodEnd_over ended (wdgVerdict_clean _ clean)
    exact (execWdgPeriodEnd_up (State.fastUp_of_periodOver ended) x).trans (wdgOutcome_goesOn next fresh)
  · have next := wdgPeriodEnd_over ended hv.symm
    rw [hit, ← hp, noteReset_of_action resets] at next
    exact (execWdgPeriodEnd_up (State.fastUp_of_periodOver ended) x).trans (wdgOutcome_resets next rfl)
  · have next := wdgPeriodEnd_over ended hv.symm
    rw [hit, ← hp, noteReset_of_mild mild] at next
    exact (execWdgPeriodEnd_up (State.fastUp_of_periodOver ended) x).trans (wdgOutcome_goesOn next notDue)
  · obtain ⟨f, row, trips⟩ := execWdgClk_trips watched long x
    exact row.trans (wdgOutcome_goesOn trips notDue)
  · obtain ⟨f, row, stands⟩ := execWdgClk_waits watched short x
    exact row.trans (wdgOutcome_goesOn stands fresh)
  · obtain ⟨f, row, trips⟩ := execWdgClk_trips watched long x
    exact row.trans (wdgOutcome_resets trips due)
  · exact event_gives rfl (if_pos ⟨up, starts, ended⟩)
  · exact event_gives rfl ((doWdgRstPulseEnd_due pulse due).trans (if_neg other))
  · exact event_gives rfl ((doWdgRstPulseEnd_due pulse due).trans (if_pos runs))

end Sys2Proof.Machine
end

section
/-! A PI_WRITE over SPI (R439): the count of the frame itself can lie among the mapped entries. -/

namespace Sys2Proof.Machine

/-- An assignment whose one object is 0x2000, where the frame counter stands, as its mapping would: 67 values, of which the last is the
counter. With 255 frames counted it gives 31 bytes of image, with 256 none. -/
def countsFramesInImage : State :=
  (((activeAtBoundary.put K.pdoRxAssignN 1).put (K.pdoRxAssign 0) 0x2000).put (K.pdoRxMapN 0xA00) 67).put K.hostSpiFrames 255

/-- A PI_WRITE of the byte at offset 62. -/
def writesByte62 : SpiFrame := SpiFrame.of 7 0 62 0 [1#8]

/-- STATUS of the answer that is pending after a command. -/
def statusAfter (o : Host.Outcome State Fault Refusal) : Option Nat :=
  match o with
  | .next t => t.spi.pending.map SpiAnswer.status
  | _ => none

/-- Refutes O59: the statement measures the output image before the frame is counted, the model after it. Where an assignment names
no mapping object, which the statement does not rule out, the counter can take part in the image's size: 63 bytes before the frame,
32 after it. The byte at offset 62 is then refused as too long (0x17), where the statement has it accepted (0). -/
theorem not_spiFrames : ¬ Obligations.SpiFrames := by
  intro holds
  obtain ⟨-, -, -, -, -, -, -, -, -, piWrite, -⟩ := holds writesByte62 countsFramesInImage _ _ (by decide +kernel) (by decide +kernel)
    (by decide +kernel) (by decide +kernel) (by decide +kernel) rfl rfl
  have claimed := piWrite _ _ (by decide +kernel) (by decide +kernel) (by decide +kernel) (by decide +kernel) rfl rfl (by decide +kernel)
  have refused : statusAfter (exec (.spiPiWrite writesByte62) countsFramesInImage) = some 0x17 := by decide +kernel
  have accepted := congrArg statusAfter claimed
  rw [refused] at accepted
  exact absurd (Option.some.inj accepted) (by decide)

end Sys2Proof.Machine
end

section
/-! The store's work under way, the records of the buffer and a save, stands beside what the collector does with a source
(R383, R393, R457). -/

namespace Sys2Proof.Machine

/-- The buffer and a save under way stand as they stood. -/
abbrev SameStoreWork (s t : State) : Prop := t.log.buf = s.log.buf ∧ t.log.save = s.log.save

/-- The two under a choice. -/
theorem ite_storeWork (c : Prop) [Decidable c] (a b : State) :
    (if c then a else b).log.buf = (if c then a.log.buf else b.log.buf) ∧
    (if c then a else b).log.save = if c then a.log.save else b.log.save :=
  ⟨apply_ite (fun t => t.log.buf) c a b, apply_ite (fun t => t.log.save) c a b⟩

section
variable (s : State)

/-! ## Repeated effects -/

@[simp] theorem each_storeWork {α : Type} (l : List α) (f : α → State → State) (h : ∀ a t, SameStoreWork t (f a t)) :
    SameStoreWork s (each l f s) :=
  ⟨each_keeps l f (fun t => t.log.buf) s fun a _ t => (h a t).1, each_keeps l f (fun t => t.log.save) s fun a _ t => (h a t).2⟩

@[simp] theorem when_storeWork (c : Bool) (f : State → State) (h : ∀ t, SameStoreWork t (f t)) : SameStoreWork s (when c f s) := by
  simp [SameStoreWork, when, ite_storeWork, h]

@[simp] theorem recount_storeWork (m : Nat) (f : State → State) (h : ∀ t, SameStoreWork t (f t)) :
    SameStoreWork s (recount m f s) := by
  simp [SameStoreWork, recount, ite_storeWork, h]

/-! ## Entries -/

@[simp] theorem State.bump_storeWork (k : Nat) : SameStoreWork s (s.bump k) := ⟨rfl, rfl⟩
@[simp] theorem State.bumpBy_storeWork (k n : Nat) : SameStoreWork s (s.bumpBy k n) := by
  induction n generalizing s with
  | zero => exact ⟨rfl, rfl⟩
  | succ n ih => exact ih (s.bump k)

/-! ## Jobs, triggers, records -/

@[simp] theorem jobEnd_storeWork (i : Nat) (x : JobStatus) (r : Nat) : SameStoreWork s (jobEnd i x r s) := by
  simp [SameStoreWork, jobEnd, ite_storeWork]
@[simp] theorem jobEnd?_storeWork (i : Option Nat) (x : JobStatus) (r : Nat) : SameStoreWork s (jobEnd? i x r s) := by
  cases i with
  | none => exact ⟨rfl, rfl⟩
  | some i => exact jobEnd_storeWork s i x r
@[simp] theorem noteSlot_storeWork (k d : Nat) : SameStoreWork s (noteSlot k d s) := by
  unfold noteSlot
  split <;> exact ⟨rfl, rfl⟩
@[simp] theorem fireTrigger_storeWork (t : Trigger) : SameStoreWork s (fireTrigger t s) := by
  simp [SameStoreWork, fireTrigger, ite_storeWork]
@[simp] theorem fillFfr_storeWork (a b c d e f : Nat) : SameStoreWork s (fillFfr a b c d e f s) := by
  simp [SameStoreWork, fillFfr, ite_storeWork]

/-! ## Rails -/

@[simp] theorem keepLevels_storeWork (m l : Nat) : SameStoreWork s (keepLevels m l s) := by
  simp [SameStoreWork, keepLevels, endCondition]
@[simp] theorem offerToggle_storeWork (m : Nat) (p : SeqInstr → Bool) : SameStoreWork s (offerToggle m p s) := by
  unfold offerToggle
  split
  · simp [SameStoreWork, ite_storeWork]
  · exact ⟨rfl, rfl⟩
@[simp] theorem setGood_storeWork (m : Nat) (b : Bool) : SameStoreWork s (setGood m b s) := by
  simp [SameStoreWork, setGood, pgood, State.putBit, ite_storeWork]
@[simp] theorem superviseState_storeWork (n : Nat) (x : RailState) : SameStoreWork s (superviseState n x s) := by
  simp [SameStoreWork, superviseState, ite_storeWork]
@[simp] theorem commissionNext_storeWork (c : RhCommission) (n : Nat) (w : Bool) : SameStoreWork s (commissionNext c n w s) := by
  simp [SameStoreWork, commissionNext, ite_storeWork]
@[simp] theorem arbRelease_storeWork (o : Nat) : SameStoreWork s (arbRelease o s) := by
  unfold arbRelease
  split <;> exact ⟨rfl, rfl⟩
@[simp] theorem leaveRun_storeWork (r : RhRun) (x : Nat) : SameStoreWork s (leaveRun r x s) := by
  simp [SameStoreWork, leaveRun]
@[simp] theorem failRun_storeWork (r : RhRun) (x : Nat) : SameStoreWork s (failRun r x s) := by
  unfold failRun
  dsimp only
  split <;> simp [SameStoreWork]
@[simp] theorem rhStops_storeWork (n : Nat) : SameStoreWork s (rhStops n s) := by
  unfold rhStops
  split
  · split
    · exact failRun_storeWork s _ _
    · exact ⟨rfl, rfl⟩
  · exact ⟨rfl, rfl⟩
@[simp] theorem setRail_storeWork (n : Nat) (x : RailState) : SameStoreWork s (setRail n x s) := by
  simp [SameStoreWork, setRail, orgate, State.putRail]
@[simp] theorem idlePhases_storeWork (n : Nat) : SameStoreWork s (idlePhases n s) := by
  simp [SameStoreWork, idlePhases, reinterleave, burstStops, idleReleased, State.putPhase, ite_storeWork]
@[simp] theorem noteRelease_storeWork (n c : Nat) : SameStoreWork s (noteRelease n c s) := by
  simp [SameStoreWork, noteRelease, ite_storeWork]
@[simp] theorem railsLost_storeWork : SameStoreWork s (railsLost s) := by
  simp [SameStoreWork, railsLost, railToOff, ite_storeWork]
@[simp] theorem phaseBreach_storeWork (p n : Nat) : SameStoreWork s (phaseBreach p n s) := by
  unfold phaseBreach
  split
  · simp [SameStoreWork, ite_storeWork]
  · exact ⟨rfl, rfl⟩
@[simp] theorem xbBreach_storeWork (c n : Nat) : SameStoreWork s (xbBreach c n s) := by
  unfold xbBreach
  split
  · simp [SameStoreWork, ite_storeWork]
  · exact ⟨rfl, rfl⟩
@[simp] theorem railFault_storeWork (n src chan : Nat) : SameStoreWork s (railFault n src chan s) := by
  simp [SameStoreWork, railFault, railBreach, ite_storeWork]
@[simp] theorem railsFault_storeWork (l : List Nat) (src chan : Nat) : SameStoreWork s (railsFault l src chan s) := by
  simp [SameStoreWork, railsFault]

/-! ## Sources -/

@[simp] theorem ecatTakes_storeWork : SameStoreWork s (ecatTakes s) := by
  simp [SameStoreWork, ecatTakes, dropTaken, ite_storeWork]
@[simp] theorem pushHistory_storeWork (c src : Nat) : SameStoreWork s (pushHistory c src s) := by simp [SameStoreWork, pushHistory]
@[simp] theorem queueEmcy_storeWork (e : Emcy) : SameStoreWork s (queueEmcy e s) := by
  simp [SameStoreWork, queueEmcy, ite_storeWork]
@[simp] theorem offRequest_storeWork (c : Nat) : SameStoreWork s (offRequest c s) := by
  unfold offRequest
  split
  · split <;> exact ⟨rfl, rfl⟩
  · exact ⟨rfl, rfl⟩
  · exact ⟨rfl, rfl⟩
@[simp] theorem reactF3_storeWork (k : SrcKind) (i : Nat) : SameStoreWork s (reactF3 k i s) := by
  simp [SameStoreWork, reactF3, reactF2, ite_storeWork]
@[simp] theorem reactF4_storeWork (k : SrcKind) (i : Nat) : SameStoreWork s (reactF4 k i s) := by
  simp [SameStoreWork, reactF4, assertAlarm, raiseAlarm, ite_storeWork]
@[simp] theorem react_storeWork (c : Nat) (k : SrcKind) (i : Nat) : SameStoreWork s (react c k i s) := by
  unfold react
  split <;> simp [SameStoreWork, reactF2, reactF5, ite_storeWork]
@[simp] theorem takeSource_storeWork (k : SrcKind) (i : Nat) : SameStoreWork s (takeSource k i s) := by
  simp [SameStoreWork, takeSource, endCondition, showHeld, latchSource, openBeat, State.setMask, ite_storeWork]
end

end Sys2Proof.Machine
end

section
/-! The recorder's commands (R388, R393, R394, R398) and the ends of the store's work (R383, R393, R457). -/

namespace Sys2Proof.Machine

/-! ## The buffer and the log -/

section
variable (s : State)

theorem showBuf_log : (showBuf s).log = s.log := rfl

theorem showBuf_get {k : Nat} (used : k ≠ K.recBufUsed) (count : k ≠ K.recBufRecords) : (showBuf s).get k = s.get k := by
  rw [showBuf, State.get_put_ne _ _ _ _ count, State.get_put_ne _ _ _ _ used]

theorem commitOldest_buf : (commitOldest s).log.buf = s.log.buf.tail := by
  unfold commitOldest
  split
  · next h => rw [h, List.tail_nil]
  · next h => rw [h]; rfl

theorem commitMany_buf (n : Nat) : (commitMany n s).log.buf = s.log.buf.drop n := by
  induction n generalizing s with
  | zero => rfl
  | succ n ih => rw [commitMany, ih, commitOldest_buf, List.drop_tail]

theorem writeFailed_storeWork : SameStoreWork s (writeFailed s) := by simp [SameStoreWork, writeFailed]

theorem abandonOldest_buf : (abandonOldest s).log.buf = s.log.buf.tail := by
  unfold abandonOldest
  split
  · next h => rw [h, List.tail_nil]
  · next h => rw [h]; exact (writeFailed_storeWork _).1

/-- The log after a clear whose record could be written: empty, its base at the next sequence number (R394). -/
theorem clearLog_commits (good : s.log.failing.testBit Ring.logCtl.kind = false) :
    (clearLog s).get K.recLogUsed = 0 ∧ (clearLog s).get K.recLogRecords = 0 ∧
    (clearLog s).get K.recBaseSeq = s.get K.recNextSeq ∧ (clearLog s).log.writeAt = 0 := by
  simp only [clearLog, good, Bool.false_eq_true, ↓reduceIte, showBuf_log]
  refine ⟨?_, ?_, ?_, rfl⟩
  all_goals
    rw [showBuf_get _ (by decide) (by decide)]
    simp

theorem clearLog_buf : (clearLog s).log.buf = [] := by
  unfold clearLog
  dsimp only
  rw [showBuf_log]
  split <;> rfl

end

/-! ## The recorder's commands -/

section
variable {port : Port} {s : State} {i : Nat}

theorem wrRecFlush_accepts (runs : s.dev ≠ .stall) (slot : s.jobChoice = some i) : wrRecFlush port 1 s = accept (startFlush
    { s.jobAllot port K.recFlush i with log := { s.log with flushJobs := s.log.flushJobs ++ [i] } }) := by
  rw [wrRecFlush, if_neg (not_not.2 rfl), State.stalled_eq_false runs, if_neg Bool.false_ne_true, startJob_accepts (.inl runs) slot,
    State.jobAllot_log]

theorem wrRecFlush_noFlush {v : Nat} (h : v ≠ 1) : wrRecFlush port v s = refuse Abort.value s := if_pos h

theorem wrRecClear_accepts (runs : s.dev ≠ .stall) (still : s.log.flushTo = none) (free : s.log.upload = none)
    (slot : s.jobChoice = some i) :
    wrRecClear port 0xC1EA s = accept (jobEnd i .done 0 (clearLog (s.jobAllot port K.recClear i))) := by
  rw [wrRecClear, if_neg (not_not.2 rfl), State.stalled_eq_false runs, still, free, if_neg (by decide),
    startJob_accepts (.inl runs) slot]

theorem wrRecClear_noKey {v : Nat} (h : v ≠ 0xC1EA) : wrRecClear port v s = refuse Abort.value s := if_pos h

theorem hostRowNv_accepts {k : Nat} {wr : State → Written} {u : State} (up : s.openTick.answers port = true)
    (hc : writeCheck k s.openTick = none) (hw : wr s.openTick = accept u) : hostRowNv port k wr s =
      .next { u with clock := s.openTick.clock, pending := s.pending, reply := some ⟨port, 0⟩ } := by
  rw [hostRowNv_up (State.coreUp_of_answers up), hostDo_accepts up hc hw]

theorem hostRowNv_refuses {k : Nat} {wr : State → Written} {a : Nat} (up : s.openTick.answers port = true)
    (hc : writeCheck k s.openTick = none) (hw : wr s.openTick = refuse a s.openTick) :
    hostRowNv port k wr s = .next (s.atTick { s.openTick with reply := some ⟨port, a⟩ }) := by
  have refused := hostDo_refuses up hc hw
  rw [hostRowNv_storeKept (State.coreUp_of_answers up) (by rw [refused]), refused]

/-! ## The upload of the log -/

theorem startUpload_accepts (free : s.log.upload = none) (slot : s.jobChoice = some i) :
    startUpload port s = accept { s.jobAllot port K.recLog i with
      log := { s.log with upload := some ⟨i, port, (s.jobAllot port K.recLog i).logImage, 0⟩ } } := by
  rw [startUpload, free, Option.isSome_none, if_neg Bool.false_ne_true, startJob_accepts (.inr (by decide)) slot, State.jobAllot_log]

theorem startUpload_busy {u : Upload} (busy : s.log.upload = some u) : startUpload port s = refuse Abort.state s := by
  rw [startUpload, busy]
  rfl

theorem doRecLogUpload_spi (up : s.answers .spi = true) : doRecLogUpload .spi s = answer .spi (startUpload .spi s) := by
  rw [doRecLogUpload, up]
  rfl

theorem doRecLogUpload_ecat_starts (up : s.answers .ecat = true) {a : State} {l : Recorder} {img : List Byte}
    (h : startUpload .ecat s = accept { a with log := l }) (hu : l.upload = some ⟨i, .ecat, img, 0⟩) : doRecLogUpload .ecat s =
      uploadSent K.recLog (min 496 img.length) (decide (img.length ≤ 496))
        (sdoStart K.recLog img { a with log := l, reply := some ⟨.ecat, 0⟩ }) := by
  simp only [doRecLogUpload, up, h, accept, answer, hu, ↓reduceIte, reduceCtorEq, Option.map_some, Option.getD_some, sdoFirst]

theorem mail_open {t : State} (up : t.answers .ecat = true) (a : MailAnswer) :
    mail a t = { t with ecat := { t.ecat with mailbox := some a } } := if_pos up

theorem doRecLogUpload_ecat_busy (up : s.answers .ecat = true) {u : Upload} (busy : s.log.upload = some u) :
    doRecLogUpload .ecat s = { s with
      reply := some ⟨.ecat, 0x08000022⟩, ecat := { s.ecat with mailbox := some (.abort 0x08000022) } } := by
  simp only [doRecLogUpload, up, startUpload_busy busy, refuse, answer, ↓reduceIte, reduceCtorEq, Abort.state]
  exact mail_open (t := { s with reply := some ⟨.ecat, 0x08000022⟩ }) up (.abort 0x08000022)

theorem execRecLogUpload_up (up : s.coreUp = true) : exec (.recLogUpload port) s = atTick (doRecLogUpload port) s := if_pos up

theorem endUpload_of_some {u : Upload} (h : s.log.upload = some u) (x : JobStatus) :
    endUpload x s = jobEnd u.job x u.sent { s with log := { s.log with upload := none } } := by
  rw [endUpload, h]

theorem doMasterUploadAbort_ecat {u : Upload} (h : s.log.upload = some u) (mail : u.port = .ecat) :
    doMasterUploadAbort s = jobEnd u.job .aborted u.sent { s with log := { s.log with upload := none } } := by
  rw [doMasterUploadAbort, h]
  exact (if_pos mail).trans (endUpload_of_some h .aborted)

end

/-! ## The ends of the store's work -/

section
variable {s : State}

/-- What the end of a flush leaves beside the store: counted, its jobs ended with the number of records committed. -/
def flushReported (committed : Nat) (s : State) : State :=
  let t := ((s.put K.recFlushing 0).bump K.recFlushCnt).flag K.recStatus 2
  each t.log.flushJobs (fun j u => jobEnd j .done (min committed 0xFFFF) u) t

theorem flushReported_mram (n : Nat) : (flushReported n s).mram = s.mram :=
  each_keeps _ _ State.mram _ fun j _ t => jobEnd_mram j .done (min n 0xFFFF) t

theorem flushReported_buf (n : Nat) : (flushReported n s).log.buf = s.log.buf :=
  each_keeps _ _ (fun t => t.log.buf) _ fun j _ t => (jobEnd_storeWork t j .done (min n 0xFFFF)).1

/-- The flush is over (R393). -/
def flushOver (s : State) : State :=
  { s with log := { s.log with flushTo := none, flushed := 0, flushJobs := [], dropRaised := false, powerFail := false } }

theorem doRecFlushDone_commits {n : Nat} (h : s.log.flushTo = some n) :
    doRecFlushDone false s = flushOver (flushReported (s.log.flushed + n) (commitMany n s)) := by
  rw [doRecFlushDone, h]
  rfl

theorem doRecFlushDone_abandons {n : Nat} (h : s.log.flushTo = some (n + 1)) :
    doRecFlushDone true s = flushOver (flushReported (s.log.flushed + n) (abandonOldest (commitMany n s))) := by
  rw [doRecFlushDone, h]
  rfl

theorem doCfgSaveDone_commits {j : SaveJob} (h : s.log.save = some j) : doCfgSaveDone false s = jobEnd j.job .done 0
    (((({ s with log := { s.log with save := none } } : State).nvCommit Ring.cfg j.payload).put K.nvCfgCopy
      ((Ring.cfg.next s.store).1 + 1)).put K.nvCfgSeq (Ring.cfg.next s.store).2) := by
  rw [doCfgSaveDone, h]
  rfl

theorem doCfgSaveDone_abandons {j : SaveJob} (h : s.log.save = some j) : doCfgSaveDone true s = jobEnd j.job .done 2
    (({ s with log := { s.log with save := none } } : State).nvAbandon Ring.cfg j.payload) := by
  rw [doCfgSaveDone, h]
  rfl

theorem State.nvWrite_mram (a : Nat) (b : List Byte) : (s.nvWrite a b).mram = Mram.writeBytes s.mram a b := rfl

theorem State.nvCommit_eq (r : Ring) (p : List Byte) : s.nvCommit r p =
    s.nvWrite (r.base + (r.next s.store).1 * r.size) (recordBytes r.kind (r.next s.store).2 s.stamp p) := rfl

theorem State.nvCommit_mram (r : Ring) (p : List Byte) : (s.nvCommit r p).mram = Mram.writeBytes s.mram
    (r.base + (r.next s.store).1 * r.size) (recordBytes r.kind (r.next s.store).2 s.stamp p) := by
  rw [State.nvCommit_eq, State.nvWrite_mram]

/-- The store's write reads nothing of the recorder's own work. -/
theorem State.nvCommit_mram_withLog (l : Recorder) (r : Ring) (p : List Byte) :
    (({ s with log := l } : State).nvCommit r p).mram = (s.nvCommit r p).mram := by
  rw [State.nvCommit_mram, State.nvCommit_mram]
  rfl

theorem State.nvAbandon_eq (r : Ring) (p : List Byte) : s.nvAbandon r p = writeFailed
    (s.nvWrite (r.base + (r.next s.store).1 * r.size) (recordBody r.kind (r.next s.store).2 s.stamp p)) := rfl

theorem State.nvAbandon_mram (r : Ring) (p : List Byte) : (s.nvAbandon r p).mram = Mram.writeBytes s.mram
    (r.base + (r.next s.store).1 * r.size) (recordBody r.kind (r.next s.store).2 s.stamp p) := by
  rw [State.nvAbandon_eq, writeFailed_mram, State.nvWrite_mram]

theorem State.nvAbandon_storeWork (r : Ring) (p : List Byte) : SameStoreWork s (s.nvAbandon r p) := writeFailed_storeWork _

/-- The entry is none of those that the end of a job shows. -/
theorem jobEnd_get_other {k : Nat} (h : K.jobReport 31 < k) (i : Nat) (x : JobStatus) (r : Nat) :
    (jobEnd i x r s).get k = s.get k := by
  simp only [K.jobReport] at h
  exact jobEnd_get i x r s k (by simp only [K.jobStatus]; omega) (by simp only [K.hostAlert]; omega)
    (by simp only [K.jobReport]; omega)

/-- The end of a flush leaves the store and the buffer as the writes before it do. -/
theorem recFlushDone_ends {fail : Bool} {n : Nat} {w : State} (h : doRecFlushDone fail s = flushOver (flushReported n w)) :
    ∃ t, exec (.recFlushDone fail) s = .next t ∧ t.mram = w.mram ∧ t.log.flushTo = none ∧ t.log.flushJobs = [] ∧
      t.log.buf = w.log.buf ∧ t.clock = s.clock :=
  ⟨_, eventNv_next rfl h, flushReported_mram n, rfl, rfl, flushReported_buf n, rfl⟩

/-- The end of a save's job leaves the store and the entries of the copies as the write before it does. -/
theorem cfgSaveDone_ends {fail : Bool} {i r : Nat} {w : State} (h : doCfgSaveDone fail s = jobEnd i .done r w) :
    ∃ t, exec (.cfgSaveDone fail) s = .next t ∧ t.mram = w.mram ∧ t.log.save = w.log.save ∧
      ∀ k, K.jobReport 31 < k → t.get k = w.get k :=
  ⟨_, eventNv_next rfl h, jobEnd_mram i .done r w, (jobEnd_storeWork w i .done r).2, fun _ hk => jobEnd_get_other hk i .done r⟩

end

/-- Settles O55: each command is its row at the boundary, and an end of the store's work leaves the writes before it as they are, for the
end of a job and a failed write's source reach neither the store nor the buffer. -/
theorem recorderAndStore : Obligations.RecorderAndStore := by
  refine ⟨fun port s b hb core up => ?_, fun s => ⟨fun n flush => ?_, fun n flush => ?_, fun j save => ⟨?_, ?_⟩, State.nvCommit_mram⟩⟩
  · subst hb
    refine ⟨fun v => hostRow_accepts up (writeCheck_of_wo _ (by decide +kernel)) rfl,
      fun i runs slot => hostRow_accepts up (writeCheck_of_wo _ (by decide +kernel)) (wrRecFlush_accepts runs slot),
      fun v other => hostRow_refuses up (writeCheck_of_wo _ (by decide +kernel)) (wrRecFlush_noFlush fun h => other (BitVec.eq_of_toNat_eq h)),
      fun i runs still free slot => hostRowNv_accepts up (writeCheck_of_wo _ (by decide +kernel))
        (wrRecClear_accepts runs still free slot),
      fun u => ⟨clearLog_buf u, clearLog_commits u⟩,
      fun v other => hostRowNv_refuses up (writeCheck_of_wo _ (by decide +kernel)) (wrRecClear_noKey fun h => other (BitVec.eq_of_toNat_eq h)),
      fun i spi free slot => ?_, fun i img w ecat free slot himg hw => ?_,
      fun u busy => ⟨fun spi => ?_, fun ecat => ?_⟩, fun k w hw armed kind stride due => ?_, fun k notDue => ?_, fun u runs mail => ?_⟩
    · subst spi
      exact atTick_gives (execRecLogUpload_up core) (State.coreUp_of_answers up)
        ((doRecLogUpload_spi up).trans (congrArg _ (startUpload_accepts free slot)))
    · subst ecat hw
      have starts := startUpload_accepts (port := .ecat) free slot
      rw [← himg] at starts
      have sent := doRecLogUpload_ecat_starts up starts rfl
      exact atTick_gives (execRecLogUpload_up core) (State.coreUp_of_answers up) sent
    · subst spi
      exact atTick_gives (execRecLogUpload_up core) (State.coreUp_of_answers up)
        ((doRecLogUpload_spi up).trans (congrArg _ (startUpload_busy busy)))
    · subst ecat
      exact atTick_gives (execRecLogUpload_up core) (State.coreUp_of_answers up) (doRecLogUpload_ecat_busy up busy)
    · subst hw
      exact event_gives rfl (if_pos ⟨core, armed, kind, stride, due⟩)
    · exact event_gives rfl (if_neg fun ⟨_, _, _, _, due⟩ => by rw [notDue] at due; exact Bool.false_ne_true due)
    · exact event_gives rfl (doMasterUploadAbort_ecat runs mail)
  · obtain ⟨t, row, store, ended, jobs, buf, time⟩ := recFlushDone_ends (doRecFlushDone_commits flush)
    exact ⟨t, row, store, ended, jobs, buf.trans (commitMany_buf s n), time⟩
  · obtain ⟨t, row, store, ended, -, buf, -⟩ := recFlushDone_ends (doRecFlushDone_abandons flush)
    refine ⟨t, row, store, ended, buf.trans ?_⟩
    rw [abandonOldest_buf, commitMany_buf, List.tail_drop]
  · obtain ⟨t, row, store, ended, entries⟩ := cfgSaveDone_ends (doCfgSaveDone_commits save)
    refine ⟨t, row, store.trans (State.nvCommit_mram_withLog _ _ _), ended, (entries _ (by decide)).trans (State.get_put_self _ _ _), (entries _ (by decide)).trans ?_⟩
    rw [State.get_put_ne _ _ _ _ (by decide), State.get_put_self]
  · obtain ⟨t, row, store, ended, -⟩ := cfgSaveDone_ends (doCfgSaveDone_abandons save)
    exact ⟨t, row, ended.trans (State.nvAbandon_storeWork _ _).2, store.trans (State.nvAbandon_mram _ _)⟩

end Sys2Proof.Machine
end

section
/-! The EtherCAT slave outside the mailbox (R420 to R422, R427, R431, R477). -/

namespace Sys2Proof.Machine

section
variable {s : State}

theorem State.fastUp_parts (h : s.fastUp = true) : s.dev.main = true ∧ s.power.boot.isNone = true ∧ s.power.held = false := by
  simp only [State.fastUp, Bool.and_eq_true, Bool.not_eq_true'] at h
  obtain ⟨⟨main, boot⟩, held⟩ := h
  exact ⟨main, boot, held⟩

/-- A running device forwards on its ports. -/
theorem State.forwards_of_coreUp (h : s.coreUp = true) : ((s.dev.main || s.power.boot.isSome) && !s.power.held) = true := by
  obtain ⟨main, -, held⟩ := State.fastUp_parts (State.fastUp_of_coreUp h)
  rw [main, held]
  rfl

/-! ## Requests of the application layer -/

theorem alStateRequest_gives (up : s.coreUp = true) (req : BitVec 8) (sm : SmConfig) : Gives (.alStateRequest req sm) s
    (answerIdent (req.getLsbD 5) (doAlStateRequest (req.toNat % 16) sm s)) := event_gives rfl (if_pos up)

theorem doAlStateRequest_refused (up : s.coreUp = true) {req : Nat} {sm : SmConfig} (other : req ≠ s.get K.ecatAlState)
    (refused : s.alRefusal req sm ≠ 0) : doAlStateRequest req sm s =
      { s.put K.ecatAlCode (s.alRefusal req sm) with ecat := { s.ecat with alError := true, sm := sm } } := by
  simp only [doAlStateRequest, up, other, refused, bne_iff_ne.2 refused, Bool.true_eq_false, ↓reduceIte, ne_eq, not_false_eq_true,
    true_or]

theorem doAlStateRequest_made (up : s.coreUp = true) {req : Nat} {sm : SmConfig} (other : req ≠ s.get K.ecatAlState)
    (made : s.alRefusal req sm = 0) : doAlStateRequest req sm s =
      enterAl req { s.put K.ecatAlCode 0 with ecat := { s.ecat with alError := false, sm := sm } } := by
  simp only [doAlStateRequest, up, other, made, bne_self_eq_false, Bool.true_eq_false, ↓reduceIte, ne_eq, not_true_eq_false, or_self]

/-- A request for the present state clears the indication (R422). -/
theorem doAlStateRequest_same (up : s.coreUp = true) (sm : SmConfig) : doAlStateRequest (s.get K.ecatAlState) sm s =
    { s.put K.ecatAlCode 0 with ecat := { s.ecat with alError := false, sm := sm } } := by
  simp only [doAlStateRequest, up, bne_self_eq_false, Bool.true_eq_false, ↓reduceIte, or_true]

theorem dropTaken_get {k : Nat} (h : k ≠ K.hostEmcyPending) (t : State) : (dropTaken t).get k = t.get k :=
  State.get_put_ne _ _ _ _ h

theorem ecatTakes_get_other {k : Nat} (h : k ≠ K.hostEmcyPending) (t : State) : (ecatTakes t).get k = t.get k := by
  unfold ecatTakes
  split
  · exact dropTaken_get h _
  · rfl

theorem doMasterUploadAbort_alState (t : State) : (doMasterUploadAbort t).get K.ecatAlState = t.get K.ecatAlState := by
  unfold doMasterUploadAbort
  split
  · next u h =>
    split
    · rw [endUpload_of_some h]
      exact jobEnd_get _ _ _ _ _ (by decide) (by decide) (by simp only [K.ecatAlState, K.jobReport]; omega)
    · rfl
  · rfl

theorem enterAl_alState (st : Nat) (t : State) : (enterAl st t).get K.ecatAlState = st := by
  have entered (u : State) (h : u.get K.ecatAlState = st) :
      (if st = alInit then doMasterUploadAbort { u with ecat := { u.ecat with sdo := none } } else u).get K.ecatAlState = st := by
    split
    · exact (doMasterUploadAbort_alState _).trans h
    · exact h
  rw [enterAl, ecatTakes_get_other (by decide), dropTaken_get (by decide)]
  refine entered _ ?_
  exact (State.get_flag_ne _ _ _ _ (by decide)).trans (State.get_put_self _ _ _)

end

end Sys2Proof.Machine
end

section
/-! The mailbox: SDO information and uploads (R424, R425, R443, R444) and FoE (R426). -/

namespace Sys2Proof.Machine

section
variable {s : State}

/-! ## Reads -/

/-- Entries of unlike types are not the same. -/
theorem ne_of_entryType {k j : Nat} {r : EntryRow} {y : ValType} (row : entryAt k = some r) (hy : r.ty ≠ y)
    (hj : (entryAt j).map EntryRow.ty = some y) : k ≠ j := by
  rintro rfl
  rw [row] at hj
  exact hy (Option.some.inj hj)

/-- Entries of unlike access are not the same. -/
theorem ne_of_access {k j : Nat} {r : EntryRow} {a : Access} (row : entryAt k = some r) (ha : r.acc = a)
    (hj : (entryAt j).map EntryRow.acc ≠ some a) : k ≠ j := by
  rintro rfl
  rw [row] at hj
  exact hj (congrArg some ha)

/-- A number reads as its last publication in its type's width (R443). -/
theorem readEntry_of_number {k : Nat} {r : EntryRow} (row : entryAt k = some r) (acc : r.acc ≠ .wo) (str : r.ty ≠ .str)
    (domain : r.ty ≠ .domain) : readEntry k s = .ok (leBytes (r.ty.bits / 8) (s.shown k)) := by
  have text {j : Nat} := ne_of_entryType (j := j) row str
  have image {j : Nat} := ne_of_entryType (j := j) row domain
  simp only [readEntry, widthOf, row, acc, if_neg (text (j := K.comDevName) (by decide +kernel)),
    if_neg (text (j := K.comHwVer) (by decide +kernel)), if_neg (text (j := K.comSwVer) (by decide +kernel)),
    if_neg (image (j := K.seqImage) (by decide +kernel)), if_neg (image (j := K.cfgImage) (by decide +kernel)),
    if_neg (image (j := K.recLog) (by decide +kernel)), if_neg (image (j := K.piIn) (by decide +kernel)),
    if_neg (image (j := K.piOut) (by decide +kernel)), ↓reduceIte]

/-! ## Requests that act at once -/

/-- A request answers at once unless it starts an upload of the log or clears `CHG.FAULT`. -/
theorem exec_sdoInfo_event {req : SdoInfoReq}
    (log : req ≠ .upload (BitVec.ofNat 16 (K.recLog / 256)) (BitVec.ofNat 8 (K.recLog % 256)) false)
    (reads : readsFault req = false) : exec (.sdoInfo req) s = event (doSdoInfo req) s := by
  have kept : (readsFault req && s.answers .ecat) = false := by rw [reads, Bool.false_and]
  refine (if_neg log).trans ?_
  rw [readOutcome, kept]
  rfl

theorem exec_sdoInfo_upload {i : BitVec 16} {j : BitVec 8} (log : i.toNat * 256 + j.toNat ≠ K.recLog)
    (fault : i.toNat * 256 + j.toNat ≠ K.chgFault) :
    exec (.sdoInfo (.upload i j false)) s = event (doSdoInfo (.upload i j false)) s := by
  refine exec_sdoInfo_event (fun h => ?_) ?_
  · injection h with hi hj
    exact log (by rw [hi, hj]; rfl)
  · simp only [K.chgFault] at fault
    simp only [readsFault, K.chgFault, Bool.false_or, Bool.and_eq_false_iff, beq_eq_false_iff_ne]
    omega

theorem exec_sdoInfo_object {i : BitVec 16} {j : BitVec 8} (fault : i.toNat ≠ K.chgFault / 256) :
    exec (.sdoInfo (.upload i j true)) s = event (doSdoInfo (.upload i j true)) s := by
  refine exec_sdoInfo_event (fun h => ?_) ?_
  · injection h with hi hj hc
    exact Bool.noConfusion hc
  · rw [readsFault, beq_eq_false_iff_ne.2 fault, Bool.false_and]

theorem mail_gives {c : Instr} {f : State → State} {a : MailAnswer} (up : s.answers .ecat = true)
    (row : exec c s = event f s) (h : f s = mail a s) :
    Gives c s { s with ecat := { s.ecat with mailbox := some a } } := event_gives row (h.trans (mail_open up a))

theorem doSdoInfo_entry {i : BitVec 16} {j : BitVec 8} {r : EntryRow} (row : entryAt (i.toNat * 256 + j.toNat) = some r) :
    doSdoInfo (.entry i j) s = mail (.entryInfo (i.toNat * 256 + j.toNat) r) s := by
  simp only [doSdoInfo, row]

theorem doSdoInfo_upload_ok {i : BitVec 16} {j : BitVec 8} {b : List Byte}
    (read : readEntry (i.toNat * 256 + j.toNat) s = .ok b) :
    doSdoInfo (.upload i j false) s = sdoStart (i.toNat * 256 + j.toNat) b s := by
  simp only [doSdoInfo, sdoRead, Bool.false_eq_true, ↓reduceIte, read]

theorem doSdoInfo_upload_refused {i : BitVec 16} {j : BitVec 8} {a : Nat}
    (read : readEntry (i.toNat * 256 + j.toNat) s = .error a) : doSdoInfo (.upload i j false) s = mail (.abort a) s := by
  simp only [doSdoInfo, sdoRead, Bool.false_eq_true, ↓reduceIte, read]

theorem doSdoInfo_object_ok {i : BitVec 16} {j : BitVec 8} {b : List Byte} (read : readObject i.toNat j.toNat s = .ok b)
    (hj : j.toNat ≤ 1) : doSdoInfo (.upload i j true) s = sdoStart (i.toNat * 256 + j.toNat) b s := by
  simp only [doSdoInfo, sdoRead, hj, ↓reduceIte, read]

/-! ## Uploads and their segments -/

theorem sdoReplaces_log {u : SdoUpload} (runs : s.ecat.sdo = some u) (log : u.key = K.recLog) {k : Nat} (other : k ≠ K.recLog) :
    sdoReplaces k s = endUpload .aborted s := by
  refine if_pos ⟨other, ?_⟩
  rw [runs, Option.any_some, log, beq_self_eq_true]

theorem sdoReplaces_none {k : Nat} (h : k = K.recLog ∨ ∀ u, s.ecat.sdo = some u → u.key ≠ K.recLog) : sdoReplaces k s = s := by
  refine if_neg fun ⟨other, runs⟩ => ?_
  obtain ⟨u, hu, key⟩ := (Option.any_eq_true _ _).1 runs
  obtain log | none := h
  · exact other log
  · exact none u hu (beq_iff_eq.1 key)

/-- An upload's first answer where it replaces no upload of the log. -/
theorem sdoStart_eq {k : Nat} {b : List Byte} (up : s.answers .ecat = true) (alone : sdoReplaces k s = s) : sdoStart k b s =
    { s with ecat := { s.ecat with
      sdo := if b.length ≤ 496 then none else some ⟨k, b.drop 496, false⟩
      mailbox := some (if b.length ≤ 4 then .expedited b else .normal b.length (b.take 496)) } } := by
  rw [sdoStart, alone]
  exact mail_open (t := { s with ecat := { s.ecat with
    sdo := if b.length ≤ 496 then none else some ⟨k, b.drop 496, false⟩ } }) up _

theorem sdoSegment_next {k : Nat} {rest : List Byte} {g : Bool} (up : s.answers .ecat = true)
    (runs : s.ecat.sdo = some ⟨k, rest, g⟩) (other : k ≠ K.recLog) : sdoSegment g s = { s with ecat := { s.ecat with
      sdo := if (rest.drop 503).isEmpty then none else some ⟨k, rest.drop 503, !g⟩
      mailbox := some (.segment g (rest.drop 503).isEmpty (rest.take 503)) } } := by
  simp only [sdoSegment, runs, ne_eq, not_true_eq_false, ↓reduceIte, uploadSent, other, sdoPart]
  exact mail_open (t := { s with ecat := { s.ecat with
    sdo := if (rest.drop 503).isEmpty then none else some ⟨k, rest.drop 503, !g⟩ } }) up _

theorem sdoSegment_wrongToggle {k : Nat} {rest : List Byte} {g : Bool} (runs : s.ecat.sdo = some ⟨k, rest, g⟩) :
    sdoSegment (!g) s = mail (.abort 0x08000000) s := by
  have wrong : (!g) ≠ g := by cases g <;> decide
  simp only [sdoSegment, runs, wrong, ne_eq, not_false_eq_true, ↓reduceIte, Abort.general]

/-! ## FoE -/

theorem foePackets_small (b : List Byte) : foePackets 0 b = [b] := rfl

theorem foePackets_full {n : Nat} {b : List Byte} (h : b.length / 500 = n + 1) :
    foePackets (n + 1) b = b.take 500 :: foePackets n (b.drop 500) := by
  rw [foePackets, foePart, if_neg (by omega)]

theorem foePackets_spec (n : Nat) (b : List Byte) (h : b.length / 500 = n) :
    (foePackets n b).flatten = b ∧ (foePackets n b).length = n + 1 ∧ ∀ p ∈ (foePackets n b).dropLast, p.length = 500 := by
  induction n generalizing b with
  | zero => simp [foePackets_small]
  | succ n ih =>
    obtain ⟨whole, count, full⟩ := ih (b.drop 500) (by rw [List.length_drop]; omega)
    have some_ : foePackets n (b.drop 500) ≠ [] := List.ne_nil_of_length_eq_add_one count
    rw [foePackets_full h]
    refine ⟨?_, ?_, ?_⟩
    · rw [List.flatten_cons, whole, List.take_append_drop]
    · rw [List.length_cons, count]
    · rw [List.dropLast_cons_of_ne_nil some_]
      rintro p (_ | ⟨_, hp⟩)
      · rw [List.length_take]; omega
      · exact full p hp

theorem foeSend_open (up : s.answers .ecat = true) (b : List Byte) : foeSend b s =
    { s with ecat := { s.ecat with mailbox := some (.foeData (foePackets (b.length / 500) b)) } } := mail_open up _

theorem doFoeWrite_noFile (pw : Nat) (d : List Byte) : doFoeWrite .other pw d s = mail (.foeError 0x8001 []) s := rfl

theorem doFoeWrite_locked {pw : Nat} {d : List Byte} (lock : s.get K.cfgLock = 1) :
    doFoeWrite .seqImg pw d s = mail (.foeError 0x8002 []) s := if_pos (.inr lock)

theorem doFoeWrite_seqImg {d : List Byte} (up : s.answers .ecat = true) (free : s.get K.cfgLock ≠ 1) (idle : s.programRuns = false)
    (ok : okImage d = true) : doFoeWrite .seqImg 0 d s = { s with
      staging := { s.staging with seqImage := some d }
      ecat := { s.ecat with mailbox := some (.foeAck (d.length / 500 + 1)) } } := by
  have passes : writeCheck K.seqImage s = none := by
    have row : (entryAt K.seqImage).map EntryRow.acc = some .rwl := by decide +kernel
    obtain ⟨r, row, acc⟩ := Option.map_eq_some_iff.1 row
    have unwatched : ¬ (s.get K.wdgLock = 1 ∧ K.wdgEn ≤ K.seqImage ∧ K.seqImage ≤ K.wdgStartDelay) := fun h => absurd h.2 (by decide)
    simp only [writeCheck, row, acc, free, ↓reduceIte]
    exact if_neg unwatched
  have written : checked K.seqImage (wrBytes .ecat K.seqImage d 0) s =
      accept { s with staging := { s.staging with seqImage := some d } } := by
    rw [checked, passes]
    exact (if_pos rfl).trans (wrSeqImage_accepts idle ok)
  have notLog : ¬ (K.seqImage = K.recLog ∨ s.get K.cfgLock = 1) := not_or.2 ⟨by decide, free⟩
  simp only [doFoeWrite, foeKey, notLog, ne_eq, not_true_eq_false, up, written, accept, ↓reduceIte, foePart]
  exact mail_open (t := { s with staging := { s.staging with seqImage := some d } }) up _

/-- A job's slot stands beside the entries below those of the jobs. -/
theorem State.jobAllot_get_below {k : Nat} (h : k < K.jobLastEcat) (port : Port) (j i : Nat) :
    (s.jobAllot port j i).get k = s.get k := by
  simp only [K.jobLastEcat] at h
  unfold State.jobAllot
  dsimp only
  rw [State.get_flag_ne _ _ _ _ (by simp only [K.jobStatus]; omega), State.get_put_ne, State.get_put_ne, State.get_put_ne]
  · simp only [K.jobReport]; omega
  · simp only [K.jobOrigin]; omega
  · cases port
    · simp only [K.jobLastEcat]; omega
    · simp only [K.jobLastSpi]; omega

theorem State.jobAllot_answers (port : Port) (j i : Nat) : (s.jobAllot port j i).answers .ecat = s.answers .ecat := by
  have power : (s.jobAllot port j i).power = s.power := by simp only [State.jobAllot, State.flag_power, State.put_power]
  simp only [State.answers, State.coreUp, State.fastUp, State.dev, power, State.jobAllot_get_below (k := K.devState) (by decide),
    State.jobAllot_get_below (k := K.ecatAlState) (by decide)]

theorem State.jobAllot_ecat (port : Port) (j i : Nat) : (s.jobAllot port j i).ecat = s.ecat := by
  simp only [State.jobAllot, State.flag_ecat, State.put_ecat]

/-- A file goes out of a state that answers, whatever its recorder does. -/
theorem foeSend_withLog {a : State} (up : a.answers .ecat = true) (l : Recorder) (b : List Byte) : foeSend b { a with log := l } =
    { a with log := l, ecat := { a.ecat with mailbox := some (.foeData (foePackets (b.length / 500) b)) } } :=
  mail_open (t := { a with log := l }) up _

theorem doFoeRead_logBin {i : Nat} (up : s.answers .ecat = true) (free : s.log.upload = none) (slot : s.jobChoice = some i) :
    doFoeRead .logBin 0 s = { s.jobAllot .ecat K.recLog i with
      log := { s.log with upload := some ⟨i, .ecat, (s.jobAllot .ecat K.recLog i).logImage, 0⟩ }
      ecat := { s.ecat with mailbox := some (.foeData (foePackets ((s.jobAllot .ecat K.recLog i).logImage.length / 500)
        (s.jobAllot .ecat K.recLog i).logImage)) } } := by
  have starts := startUpload_accepts (port := .ecat) free slot
  rw [← State.jobAllot_ecat .ecat K.recLog i]
  have open_ := (State.jobAllot_answers .ecat K.recLog i).trans up
  generalize s.jobAllot .ecat K.recLog i = a at starts open_ ⊢
  simp only [doFoeRead, ne_eq, not_true_eq_false, up, starts, accept, ↓reduceIte, Option.map_some, Option.getD_some]
  exact foeSend_withLog open_ _ _

end

end Sys2Proof.Machine
end

section
/-! A completed output image (R429), and SPI frames that no request comes of (R406, R433 to R438). -/

namespace Sys2Proof.Machine

section
variable {s : State}

/-! ## Outputs -/

theorem complete_up {port : Port} {dc : Nat} {d : List Byte} (f : State → State) (up : (completeNow port dc d s).openTick.coreUp = true) :
    complete port dc d f s = .next ((completeNow port dc d s).atTick
      (f (each ((s.completion d).filter (fun e => !stamped e.1)) (writeMapped port dc) (completeNow port dc d s).openTick))) :=
  if_pos up

theorem writeMapped_refused {port : Port} {dc a : Nat} {e : Nat × Nat} (h : checked e.1 (wrEntry port e.1 e.2 dc) s = refuse a s)
    (ha : a ≠ 0) : writeMapped port dc e s = (s.bump K.ecatPdRefusedCnt).put K.ecatPdRefusedLast (e.1 * 256) := by
  rw [writeMapped, h]
  exact if_neg ha

/-! ## Frames -/

theorem spiRow_dead (dead : s.spiAlive = false) (fields : Bool) (r : SpiFrame)
    (act : State → Host.Outcome State Fault Refusal) : spiRow fields r act s = .next s := if_pos dead

theorem spiQuiet_dead (dead : s.spiAlive = false) (r : SpiFrame) (f : State → State) : spiQuiet r f s = .next s := by
  have none_ : (r.crcOk && r.data.isEmpty && !r.badCmd && !s.spiAccepts r && s.spiAlive && s.power.boot.isNone) = false := by
    rw [dead, Bool.and_false, Bool.false_and]
  rw [spiQuiet, none_]
  exact spiRow_dead dead _ r _

section
variable {fields : Bool} {r : SpiFrame} {act : State → Host.Outcome State Fault Refusal}

theorem spiRow_boot (live : s.spiAlive = true) (boot : s.power.boot ≠ none) : spiRow fields r act s = event (spiNotReady r) s := by
  rw [spiRow, live, if_neg Bool.false_ne_true.symm, if_pos (Option.isSome_iff_ne_none.2 boot)]

theorem spiRow_served (live : s.spiAlive = true) (ready : s.power.boot = none) : spiRow fields r act s =
    if r.crcOk = false then event (spiBad r (s.spiAccepts r)) (spiShift r s)
    else if fields = false ∨ r.badCmd ∨ 261 < r.n then
      event (fun u => spiBad r (s.spiAccepts r) (spiError K.hostSpiFrameErr u)) (spiShift r s)
    else if s.spiAccepts r then act (spiShift r s) else event (fun u => u.bump K.hostSpiBusyCnt) (spiShift r s) := by
  rw [spiRow, live, ready, if_neg Bool.false_ne_true.symm]
  rfl

theorem spiRow_badCrc (live : s.spiAlive = true) (ready : s.power.boot = none) (bad : r.crcOk = false) (ok : s.spiAccepts r = true) :
    spiRow fields r act s = .next (s.beside (spiReadAnswer ⟨r.cmd.toNat, r.tag.toNat, 4, []⟩
      (spiError K.hostSpiCrcErr (spiShift r s)))) := by
  rw [spiRow_served live ready, if_pos bad, ok]
  simp only [event, spiBad, bad, Bool.false_eq_true, ↓reduceIte]
  rfl

theorem spiRow_badFields (live : s.spiAlive = true) (ready : s.power.boot = none) (good : r.crcOk = true)
    (bad : fields = false ∨ r.badCmd = true ∨ 261 < r.n) (ok : s.spiAccepts r = true) :
    spiRow fields r act s = .next (s.beside (spiReadAnswer ⟨r.cmd.toNat, r.tag.toNat, 5, []⟩
      (spiError K.hostSpiFrameErr (spiShift r s)))) := by
  rw [spiRow_served live ready, good, if_neg Bool.false_ne_true.symm, if_pos bad, ok]
  simp only [event, spiBad, good, ↓reduceIte]
  rfl

theorem spiRow_busy (live : s.spiAlive = true) (ready : s.power.boot = none) (good : r.crcOk = true)
    (fit : ¬ (fields = false ∨ r.badCmd = true ∨ 261 < r.n)) (busy : s.spiAccepts r = false) :
    spiRow fields r act s = .next (s.beside ((spiShift r s).bump K.hostSpiBusyCnt)) := by
  rw [spiRow_served live ready, good, if_neg Bool.false_ne_true.symm, if_neg fit, busy]
  rfl

end

/-! ## The bytes of a frame -/

theorem SpiAnswer.bytes_length (a : SpiAnswer) : a.bytes.length = 7 + a.data.length := by
  simp only [SpiAnswer.bytes, SpiAnswer.body, List.length_append, leBytes_length, List.length_cons, List.length_nil]
  omega

theorem SpiAnswer.shifted_getElem (a : SpiAnswer) {n i : Nat} (h : i < n) :
    (a.shifted n)[i]? = some (if i < 7 + a.data.length then a.bytes.getD i 0 else 0xFF) := by
  rw [SpiAnswer.shifted, List.getElem?_take_of_lt h, List.getElem?_append, SpiAnswer.bytes_length]
  split
  · next inside =>
    rw [List.getD_eq_getElem?_getD, List.getElem?_eq_getElem (by rw [SpiAnswer.bytes_length]; exact inside), Option.getD_some]
  · rw [List.getElem?_replicate, if_pos (by omega)]
    rfl

theorem spiFrame_crcOk_iff (r : SpiFrame) :
    r.crcOk = true ↔ 8 + r.n ≤ r.bytes.length ∧ r.bytes.getD (7 + r.n) 0 = crc8 (r.bytes.take (7 + r.n)) := by
  rw [SpiFrame.crcOk, Bool.and_eq_true, decide_eq_true_iff, beq_iff_eq]

/-- A frame with its CRC holds all its data bytes. -/
theorem spiFrame_data_length {r : SpiFrame} (good : r.crcOk = true) : r.data.length = r.n := by
  obtain ⟨whole, -⟩ := (spiFrame_crcOk_iff r).1 good
  rw [SpiFrame.data, List.length_take, List.length_drop]
  omega

/-! ## A segmented read that goes quiet -/

theorem doSegReadTimeout_over {k n : Nat} {b : List Byte} (runs : s.spi.rseg = some (k, b, n)) (alone : s.log.upload = none)
    (late : n + 10000 ≤ s.clock.beat / 1000) : doSegReadTimeout s = { s with spi := { s.spi with rseg := none } } := by
  rw [doSegReadTimeout, runs]
  refine (if_pos late).trans ?_
  simp only [dropSegments, alone]

theorem doSegReadTimeout_waits {k n : Nat} {b : List Byte} (runs : s.spi.rseg = some (k, b, n))
    (early : s.clock.beat / 1000 < n + 10000) : doSegReadTimeout s = s := by
  rw [doSegReadTimeout, runs]
  exact if_neg (Nat.not_le.2 early)

end

end Sys2Proof.Machine
end

section
/-! The EtherCAT slave, its mailbox, its outputs, and the frames that bring no request, assembled (O58). -/

namespace Sys2Proof.Machine

section
variable {s : State}

theorem alStateRequest_plain (up : s.coreUp = true) {req : BitVec 8} (small : req.toNat < 16) (sm : SmConfig) :
    Gives (.alStateRequest req sm) s (answerIdent false (doAlStateRequest req.toNat sm s)) := by
  have asks : req.getLsbD 5 = false := Nat.testBit_lt_two_pow (Nat.lt_of_lt_of_le small (by decide))
  have gives := alStateRequest_gives up req sm
  rwa [asks, Nat.mod_eq_of_lt small] at gives

theorem alStateRequest_refused (up : s.coreUp = true) {req : BitVec 8} (small : req.toNat < 16) {sm : SmConfig}
    (other : req.toNat ≠ s.get K.ecatAlState) (refused : s.alRefusal req.toNat sm ≠ 0) : Gives (.alStateRequest req sm) s
      { s.put K.ecatAlCode (s.alRefusal req.toNat sm) with ecat := { s.ecat with alError := true, ident := none, sm := sm } } := by
  have gives := alStateRequest_plain up small sm
  rwa [doAlStateRequest_refused up other refused] at gives

theorem alStateRequest_made (up : s.coreUp = true) {req : BitVec 8} (small : req.toNat < 16) {sm : SmConfig}
    (other : req.toNat ≠ s.get K.ecatAlState) (made : s.alRefusal req.toNat sm = 0) :
    Gives (.alStateRequest req sm) s (answerIdent false (enterAl req.toNat
      { s.put K.ecatAlCode 0 with ecat := { s.ecat with alError := false, sm := sm } })) := by
  have gives := alStateRequest_plain up small sm
  rwa [doAlStateRequest_made up other made] at gives

/-- A request for the present state that asks for the identification (R477). -/
theorem alStateRequest_ident (up : s.coreUp = true) {req : BitVec 8} (sm : SmConfig)
    (same : req.toNat % 16 = s.get K.ecatAlState) (asks : req.getLsbD 5 = true) :
    Gives (.alStateRequest req sm) s { s.put K.ecatAlCode 0 with
      ecat := { s.ecat with alError := false, sm := sm, ident := some (BitVec.ofNat 3 (s.get K.devStrap)) } } := by
  have gives := alStateRequest_gives up req sm
  have strap : (s.put K.ecatAlCode 0).get K.devStrap = s.get K.devStrap := State.get_put_ne _ _ _ _ (by decide)
  rw [asks, same, doAlStateRequest_same up] at gives
  rw [← strap]
  exact gives

theorem siiWrite_station (up : s.coreUp = true) {w v : BitVec 16} (station : w.toNat = 4) : Gives (.siiWrite w (some v)) s
    { s with bk := { s.bk with station := v }, ecat := { s.ecat with siiError := false } } := by
  have runs : ¬ s.coreUp = false := by rw [up]; decide
  exact event_gives rfl ((if_neg runs).trans (if_pos station))

theorem siiWrite_other (up : s.coreUp = true) {w v : BitVec 16} (other : w.toNat ≠ 4) : Gives (.siiWrite w (some v)) s
    { s with ecat := { s.ecat with siiError := true } } := by
  have runs : ¬ s.coreUp = false := by rw [up]; decide
  exact event_gives rfl ((if_neg runs).trans (if_neg other))

theorem dcActivate_on (up : s.fastUp = true) (c : DcConfig) : Gives (.dcActivate true c) s
    { s.put K.ecatDcActive 1 with ecat := { s.ecat with dc := c }, pins := { s.pins with sync := true } } :=
  event_gives rfl (if_pos up)

theorem dcActivate_off (up : s.fastUp = true) (c : DcConfig) : Gives (.dcActivate false c) s
    (calEnd 4 { s.put K.ecatDcActive 0 with ecat := { s.ecat with dc := c }, pins := { s.pins with sync := false } }) :=
  event_gives rfl (if_pos up)

/-! ## Requests of the mailbox -/

theorem sdoUpload_number {i : BitVec 16} {j : BitVec 8} {r : EntryRow}
    (row : entryAt (i.toNat * 256 + j.toNat) = some r) (acc : r.acc ≠ .wo) (str : r.ty ≠ .str) (domain : r.ty ≠ .domain)
    (fault : i.toNat * 256 + j.toNat ≠ K.chgFault) : Gives (.sdoInfo (.upload i j false)) s
      (sdoStart (i.toNat * 256 + j.toNat) (leBytes (r.ty.bits / 8) (s.shown (i.toNat * 256 + j.toNat))) s) :=
  event_gives (exec_sdoInfo_upload (ne_of_entryType row domain (by decide +kernel)) fault)
    (doSdoInfo_upload_ok (readEntry_of_number row acc str domain))

theorem sdoUpload_writeOnly (up : s.answers .ecat = true) {i : BitVec 16} {j : BitVec 8} {r : EntryRow}
    (row : entryAt (i.toNat * 256 + j.toNat) = some r) (acc : r.acc = .wo) : Gives (.sdoInfo (.upload i j false)) s
      { s with ecat := { s.ecat with mailbox := some (.abort 0x06010001) } } :=
  mail_gives up (exec_sdoInfo_upload (ne_of_access row acc (by decide +kernel)) (ne_of_access row acc (by decide +kernel)))
    (doSdoInfo_upload_refused (readEntry_of_wo row acc))

theorem sdoStart_sizes (up : s.answers .ecat = true) {k : Nat} (b : List Byte)
    (alone : k = K.recLog ∨ ∀ u, s.ecat.sdo = some u → u.key ≠ K.recLog) :
    (b.length ≤ 4 → sdoStart k b s = { s with ecat := { s.ecat with sdo := none, mailbox := some (.expedited b) } }) ∧
    (4 < b.length → b.length ≤ 496 →
      sdoStart k b s = { s with ecat := { s.ecat with sdo := none, mailbox := some (.normal b.length b) } }) ∧
    (496 < b.length → sdoStart k b s = { s with ecat := { s.ecat with
      sdo := some ⟨k, b.drop 496, false⟩, mailbox := some (.normal b.length (b.take 496)) } }) := by
  have start := sdoStart_eq (b := b) up (sdoReplaces_none alone)
  refine ⟨fun few => ?_, fun more fits => ?_, fun long => ?_⟩
  · rw [start, if_pos few, if_pos (Nat.le_trans few (by decide))]
  · rw [start, if_neg (Nat.not_le.2 more), if_pos fits, List.take_of_length_le fits]
  · rw [start, if_neg (by omega), if_neg (Nat.not_le.2 long)]

theorem toNat_ne_zero_of_ne {w : Nat} {v : BitVec w} (h : v ≠ 0) : v.toNat ≠ 0 := fun e => h (BitVec.eq_of_toNat_eq e)

/-! ## Frames -/

/-- Nobody answers a frame: each of the ten commands leaves the state as it is (R406). -/
theorem spi_dead (dead : s.spiAlive = false) (r : SpiFrame) :
    exec (.spiRead r) s = .next s ∧ exec (.spiWrite r) s = .next s ∧ exec (.spiReadAll r) s = .next s ∧
    exec (.spiReadSeg r) s = .next s ∧ exec (.spiWriteSeg r) s = .next s ∧ exec (.spiPiRead r) s = .next s ∧
    exec (.spiPiWrite r) s = .next s ∧ exec (.spiEmcyRead r) s = .next s ∧ exec (.spiNop r) s = .next s ∧
    exec (.spiRepeat r) s = .next s :=
  ⟨if_pos dead, if_pos dead, if_pos dead, if_pos dead, if_pos dead, if_pos dead, if_pos dead, if_pos dead, spiQuiet_dead dead _ _,
    spiQuiet_dead dead _ _⟩

theorem spiRead_badFrame {r : SpiFrame} (live : s.spiAlive = true) (ready : s.power.boot = none) (good : r.crcOk = true)
    (bad : r.badCmd = true ∨ r.data ≠ []) (ok : s.spiAccepts r = true) :
    Gives (.spiRead r) s (spiReadAnswer ⟨r.cmd.toNat, r.tag.toNat, 5, []⟩ (spiError K.hostSpiFrameErr (spiShift r s))) := by
  have fields : r.data.isEmpty = false ∨ r.badCmd = true ∨ 261 < r.n := by
    obtain cmd | data := bad
    · exact .inr (.inl cmd)
    · exact .inl (List.isEmpty_eq_false_iff.2 data)
  exact spiRow_badFields live ready good fields ok

theorem spiRead_busy {r : SpiFrame} (live : s.spiAlive = true) (ready : s.power.boot = none) (good : r.crcOk = true)
    (cmd : r.badCmd = false) (data : r.data = []) (busy : s.spiAccepts r = false) :
    Gives (.spiRead r) s ((spiShift r s).bump K.hostSpiBusyCnt) := by
  have bytes := spiFrame_data_length good
  have fit : ¬ (r.data.isEmpty = false ∨ r.badCmd = true ∨ 261 < r.n) := by
    rw [← bytes, data, cmd]
    decide
  exact spiRow_busy live ready good fit busy

end

/-- Settles O58: every request is one case of its function, and answers beside the state where the mailbox or the port is open. -/
theorem etherCatAndMailbox : Obligations.EtherCatAndMailbox := by
  refine ⟨fun s up => ?slave, ⟨fun s up => ?requests, fun s b hb up => ?atTheTick⟩, ⟨fun d dc s c hc up => ?outputs,
    fun port dc a e s => writeMapped_refused⟩, fun r s => ?frames⟩
  case slave =>
    have fast := State.fastUp_of_coreUp up
    exact ⟨fun p link => event_gives rfl (if_pos (State.forwards_of_coreUp up)),
      fun req sm small other => ⟨alStateRequest_refused up small other, alStateRequest_made up small other⟩,
      fun req sm => alStateRequest_ident up sm, fun op => event_gives rfl (if_pos ⟨up, op⟩),
      fun c => ⟨dcActivate_on fast c, dcActivate_off fast c⟩, fun w => event_gives rfl (if_pos up), rfl,
      fun w v => ⟨siiWrite_station up, siiWrite_other up⟩, fun init first => event_gives rfl (if_pos ⟨fast, init, first⟩),
      fun st => enterAl_alState st s⟩
  case requests =>
    refine ⟨fun y coe foe => mail_gives up rfl (if_neg (not_or.2 ⟨coe, foe⟩)), fun i no => ?_,
      mail_gives up (exec_sdoInfo_event (by decide) rfl) rfl,
      fun i j r row => mail_gives up (exec_sdoInfo_event (fun h => SdoInfoReq.noConfusion h) rfl) (doSdoInfo_entry row),
      fun i j r row => ⟨sdoUpload_number row, sdoUpload_writeOnly up row⟩,
      fun i j b read sub fault => event_gives (exec_sdoInfo_object fault) (doSdoInfo_object_ok read sub),
      fun u runs log k => sdoReplaces_log runs log, fun k b => sdoStart_sizes up b,
      fun k rest g runs => ⟨fun other => ?_, ?_⟩, event_gives rfl (foeSend_open up _), event_gives rfl (foeSend_open up _),
      fun b => foePackets_spec _ b rfl, fun pw => mail_gives up rfl rfl,
      fun pw wrong => mail_gives up rfl (if_pos (toNat_ne_zero_of_ne wrong))⟩
    · refine mail_gives up (exec_sdoInfo_event (fun h => SdoInfoReq.noConfusion h) rfl) (if_neg ?_)
      rw [no]
      decide
    · exact event_gives (exec_sdoInfo_event (fun h => SdoInfoReq.noConfusion h) rfl) (sdoSegment_next up runs other)
    · exact mail_gives up (exec_sdoInfo_event (fun h => SdoInfoReq.noConfusion h) rfl) (sdoSegment_wrongToggle runs)
  case atTheTick =>
    subst hb
    have core := State.coreUp_of_answers up
    exact ⟨fun pw d => ⟨atTick_gives rfl core ((doFoeWrite_noFile _ d).trans (mail_open up _)),
        fun lock => atTick_gives rfl core ((doFoeWrite_locked lock).trans (mail_open up _))⟩,
      fun d free idle ok => atTick_gives rfl core (doFoeWrite_seqImg up free idle ok),
      fun i free slot => atTick_gives rfl core (doFoeRead_logBin up free slot)⟩
  case outputs =>
    subst hc
    refine ⟨fun safeop whole run => (if_pos ⟨up, safeop, whole⟩).trans (complete_up id run), fun none_ => if_neg ?_⟩
    rintro ⟨-, safeop, whole⟩
    obtain low | short := none_
    · exact absurd low (Nat.not_lt.2 safeop)
    · exact short whole
  case frames =>
    exact ⟨fun dead => spi_dead dead r, fun live boot => event_gives (spiRow_boot live boot) rfl,
      fun live ready bad ok => spiRow_badCrc live ready bad ok, fun live ready good bad ok => spiRead_badFrame live ready good bad ok,
      fun live ready good cmd data busy => spiRead_busy live ready good cmd data busy, fun a n i => SpiAnswer.shifted_getElem a,
      spiFrame_crcOk_iff r, fun k n b runs alone => ⟨fun late => event_gives rfl (doSegReadTimeout_over runs alone late),
        fun early => event_gives rfl (doSegReadTimeout_waits runs early)⟩⟩

end Sys2Proof.Machine
end
